-- ==== Sys2Proof/Word.lean ====
section
/-!
DEFINITION. The word types of the block: bytes, 32-bit registers, 64-bit words, and the tables by number.
Little-endian assembly and bit fields, which a repair may have to mend, stand in Machine/Bits.lean.
-/
namespace Sys2Proof

/-- A byte of memory or of a packet (R6). -/
abbrev Byte := BitVec 8

/-- A register of configuration space (R574). -/
abbrev Reg := BitVec 32

/-- A scalar register, a 64-bit pair or an instruction word (R167, R168, R593). -/
abbrev Word := BitVec 64

/-- A table by number, in which an unlisted number has a stated default (see Machine/Tab.lean). -/
abbrev Tab (α : Type) := List (Nat × α)

end Sys2Proof
end

