-- ==== Sys2Proof/Syntax.lean ====
section
/-!
DEFINITION. The commands of the block: ONE constructor per row of spec/opcode_table.json, with the row's operands.
A core is named `u` = physical hall × 48 + physical core (R18, R579), a port `p` 0–5 (6 names the Foyer link, R460), a link `l` 0–3.
The operands of a core instruction stand in its 64-bit word, which the core fetches from its instruction store (R167, R168).
-/
namespace Sys2Proof

/-- The link a packet came over, the SEQ of the DATA block that carried its last unit, its 16-byte header and its payload (R348–R352). -/
structure Rx where
  port : Nat
  link : Nat
  seq : Nat
  hdr : BitVec 128
  payload : List Byte
  deriving DecidableEq, Repr, Inhabited

/-- The two transports of the Porter's message set (R542). -/
inductive Transport where
  | sideband
  | mailbox
  deriving DecidableEq, Repr, Inhabited

/-- A unit that can be fenced or tested (R36): `kind` 0 lane, 1 core, 2 hall, 3 stack, 4 port, 5 link.
`a` is the hall, stack or port, `b` the core or link, `q` the quarter, `lane` the physical lane; fields a kind does not use are 0. -/
structure UnitRef where
  kind : Nat
  a : Nat
  b : Nat
  q : Nat
  lane : Nat
  deriving DecidableEq, Repr, Inhabited

/-- What a self-test found (R564): a storage mismatch (or a failed march of the unit), the failing lanes as (quarter, lane),
and for a link whether the far-end test and the loopback that follows it failed. -/
structure TestResult where
  mismatch : Bool
  lanes : List (Nat × Nat)
  farFail : Bool
  loopFail : Bool
  deriving DecidableEq, Repr, Inhabited

/-- The commands of the block. -/
inductive Instr where
  /-- ALU (R185): core `u` (physical hall × 48 + physical core). -/
  | alu (u : Nat)
  /-- ALUI (R185): core `u` (physical hall × 48 + physical core). -/
  | alui (u : Nat)
  /-- LI (R184): core `u` (physical hall × 48 + physical core). -/
  | li (u : Nat)
  /-- LD (R186): core `u` (physical hall × 48 + physical core). -/
  | ld (u : Nat)
  /-- ST (R186): core `u` (physical hall × 48 + physical core). -/
  | st (u : Nat)
  /-- BR (R187): core `u` (physical hall × 48 + physical core). -/
  | br (u : Nat)
  /-- JAL (R187): core `u` (physical hall × 48 + physical core). -/
  | jal (u : Nat)
  /-- JALR (R187): core `u` (physical hall × 48 + physical core). -/
  | jalr (u : Nat)
  /-- CSRR (R188): core `u` (physical hall × 48 + physical core). -/
  | csrr (u : Nat)
  /-- FENCE (R189): core `u` (physical hall × 48 + physical core). -/
  | fence (u : Nat)
  /-- SAFEPT (R191): core `u` (physical hall × 48 + physical core). -/
  | safept (u : Nat)
  /-- END (R190): core `u` (physical hall × 48 + physical core). -/
  | endProg (u : Nat)
  /-- NOP (R180): core `u` (physical hall × 48 + physical core). -/
  | nop (u : Nat)
  /-- TCFG (R131): core `u` (physical hall × 48 + physical core). -/
  | tcfg (u : Nat)
  /-- TCFG_APPLY (R131): core `u` (physical hall × 48 + physical core). -/
  | tcfgApply (u : Nat)
  /-- TCLR (R141): core `u` (physical hall × 48 + physical core). -/
  | tclr (u : Nat)
  /-- TDEAD (R142): core `u` (physical hall × 48 + physical core). -/
  | tdead (u : Nat)
  /-- WLD (R91): core `u` (physical hall × 48 + physical core). -/
  | wld (u : Nat)
  /-- WLD_START (R92): the oldest waiting weight load of `mode` starts after `waited` cycles of waiting. -/
  | wldStart (u mode waited : Nat)
  /-- WLD_READY (R93): the running weight load of `mode` ends. -/
  | wldReady (u mode : Nat)
  /-- MMA (R81): core `u`. -/
  | mma (u : Nat)
  /-- BANK_SWAP (R95): the token of the oldest waiting pass of `mode` changes the front bank, after `waited` cycles of waiting. -/
  | bankSwap (u mode waited : Nat)
  /-- PASS_COMPLETE (R89): the oldest fired pass of `mode` writes its last row. -/
  | passComplete (u mode : Nat)
  /-- ACCDRAIN (R152): core `u`. -/
  | accdrain (u : Nat)
  /-- DRAIN_COMPLETE (R155): the oldest fired drain of core `u` completes. -/
  | drainComplete (u : Nat)
  /-- ACC_CLEAR_DONE (R150): the reset clear of the accumulators ends. -/
  | accClearDone (u : Nat)
  /-- VBIN (R198): core `u`. -/
  | vbin (u : Nat)
  /-- VFMA (R198): core `u`. -/
  | vfma (u : Nat)
  /-- VUN (R198): core `u`. -/
  | vun (u : Nat)
  /-- VSCAL (R198): core `u`. -/
  | vscal (u : Nat)
  /-- VFN (R206): core `u`. -/
  | vfn (u : Nat)
  /-- VDFN (R237): core `u`. -/
  | vdfn (u : Nat)
  /-- VRED (R200): core `u`. -/
  | vred (u : Nat)
  /-- VSTE (R201): core `u`. -/
  | vste (u : Nat)
  /-- VECTOR_COMPLETE (R202): core `u`. -/
  | vectorComplete (u : Nat)
  /-- FTLD (R205): core `u`. -/
  | ftld (u : Nat)
  /-- FTINV (R203): core `u`. -/
  | ftinv (u : Nat)
  /-- SXFER (R209): core `u`. -/
  | sxfer (u : Nat)
  /-- SARR (R316): core `u`. -/
  | sarr (u : Nat)
  /-- SSET (R316): core `u`. -/
  | sset (u : Nat)
  /-- SWAIT (R218): core `u`. -/
  | swait (u : Nat)
  /-- SGATE (R220): core `u`. -/
  | sgate (u : Nat)
  /-- SREAD (R218): core `u`. -/
  | sread (u : Nat)
  /-- INSTR_FIRE (R174): window entry `i` of core `u`, 0 the oldest. -/
  | instrFire (u i : Nat)
  /-- XFER_COMPLETE (R216): the `i`-th fired transfer or FTLD of core `u`, 0 the oldest. -/
  | xferComplete (u i : Nat)
  /-- LANDING_PLACE (R245): the lookup of the `i`-th fired transfer of core `u`, which waited `waited` cycles. -/
  | landingPlace (u i waited : Nat)
  /-- LAND_CTRL_RESET (R254): RESET is written to LAND_CTRL of job `j`. -/
  | landCtrlReset (j : Nat)
  /-- LANDING_RESET (R254): the landing reset of job `j` takes place. -/
  | landingReset (j : Nat)
  /-- CONTEXT_SAVE (R158): core `u` writes its context record. -/
  | contextSave (u : Nat)
  /-- CONTEXT_RESTORE (R162): the record at job address `addr`, in a region of `len` bytes, is applied to core `u`. -/
  | contextRestore (u addr len : Nat)
  /-- ARR_STEER_WRITE (R112). -/
  | arrSteerWrite (u : Nat) (v : Reg)
  /-- STEER_APPLY (R112). -/
  | steerApply (u : Nat)
  /-- STACK_READ (R272): `len` bytes at physical address `a`, on behalf of `job`. -/
  | stackRead (a len : Nat) (job : Option Nat)
  /-- STACK_WRITE_ACCEPT (R299): `data` at physical address `a`; `poisoned` lists the offsets of poisoned bytes. -/
  | stackWriteAccept (a : Nat) (data : List Byte) (poisoned : List Nat)
  /-- STACK_REFRESH (R276). -/
  | stackRefresh (stk : Nat)
  /-- STACK_TEMP_SAMPLE (R275): the sensor reads `temp`; `ms` milliseconds at the doubled rate have passed since the last sample. -/
  | stackTempSample (stk : Nat) (temp : BitVec 16) (ms : Nat)
  /-- RUNAHEAD_FETCH (R293): the stream engine of core `u` fetches the predicted next transfer of its `k`-th followed descriptor. -/
  | runaheadFetch (u k : Nat)
  /-- XINV_ALL_JOBS (R290). -/
  | xinvAllJobs
  /-- XINV_JOB (R290). -/
  | xinvJob (j : Nat)
  /-- XINV_RANGE (R290): the range of XINV_VA and XINV_COUNT. -/
  | xinvRange (j : Nat)
  /-- XINV_COMPLETE (R290). -/
  | xinvComplete
  /-- SIG_STORE_APPLY (R319): the store of physical hall `h` applies up to `n` waiting operations in one cycle. -/
  | sigStoreApply (h n : Nat)
  /-- SIG_POLL (R322): the polled waits of core `u` on gate `g`, or its SWAIT for `g` = 0, read their words. -/
  | sigPoll (u g : Nat)
  /-- SIG_WINDOW_SET (R342): source `src` sets word `i` of physical hall `h` to `v`. -/
  | sigWindowSet (src h i : Nat) (v : Word)
  /-- SIGNAL_RX (R332). -/
  | signalRx (rx : Rx)
  /-- REMOTE_SIGNAL_RELEASE (R332). -/
  | remoteSignalRelease (p cls : Nat)
  /-- WRITE_RX (R291). -/
  | writeRx (rx : Rx)
  /-- WRITE_ERR_RX (R375). -/
  | writeErrRx (rx : Rx)
  /-- LINK_PACKET_RX (R358). -/
  | linkPacketRx (p l : Nat) (hdr : BitVec 128)
  /-- BAD_BLOCK (R362): an uncorrectable codeword, or a packet whose CRC fails. -/
  | badBlock (p l : Nat) (uncorrectable : Bool)
  /-- PACKET_SEND (R365). -/
  | packetSend (p : Nat)
  /-- TRAIN_BLOCK_RX (R369). -/
  | trainBlockRx (p l : Nat) (block : List Byte)
  /-- TRAIN_STEP_TIMEOUT (R367). -/
  | trainStepTimeout (p l : Nat)
  /-- LINK_SILENCE_TIMEOUT (R363). -/
  | linkSilenceTimeout (p l : Nat)
  /-- LANE_LOCK_LOSS (R363). -/
  | laneLockLoss (p l lane : Nat)
  /-- LANE_LOCK_REGAINED (R636). -/
  | laneLockRegained (p l : Nat)
  /-- RETRAIN (R363, R377). -/
  | retrain (p l : Nat)
  /-- TEST_REQ (R372): LINK_CTRL is written with `v`, TEST_REQ 1 and FORCE 0. -/
  | testReq (p l : Nat) (v : Reg)
  /-- TEST_FORCE (R373): LINK_CTRL is written with `v`, TEST_REQ 1 and FORCE 1. -/
  | testForce (p l : Nat) (v : Reg)
  /-- TEST_END (R374). -/
  | testEnd (p l : Nat)
  /-- TEST_ANSWER_TIMEOUT (R372). -/
  | testAnswerTimeout (p l : Nat)
  /-- CTX_LOAD (R382): CTX_CMD with OP 1 on the ARC page of port `p`. -/
  | ctxLoad (p rjid job : Nat)
  /-- CTX_UNLOAD (R383). -/
  | ctxUnload (p rjid : Nat)
  /-- CTX_CMD_RESERVED (R382). -/
  | ctxCmdReserved (p : Nat)
  /-- BUCKET_READY (R403). -/
  | bucketReady (rjid n : Nat)
  /-- READY_RX (R404). -/
  | readyRx (rx : Rx)
  /-- CHAIN_START (R394): the chain of bucket `n` for the blocks from `b` on that one packet takes. -/
  | chainStart (rjid n b : Nat)
  /-- PARTIAL_RX (R397). -/
  | partialRx (rx : Rx)
  /-- DEADLINE_TAINT (R407): wait 0 READY, 1 PARTIAL, 2 credit, 3 GATHER of bucket `n`, 4 NORM. -/
  | deadlineTaint (rjid wait n : Nat)
  /-- PUSHED_SEND (R408). -/
  | pushedSend (rjid n : Nat)
  /-- UPSTREAM_RESTART (R410). -/
  | upstreamRestart (rjid n : Nat)
  /-- EMPTY_BLOCK_WRITE (R411). -/
  | emptyBlockWrite (rjid n : Nat)
  /-- NORM_SEND (R416). -/
  | normSend (rjid : Nat)
  /-- NORM_RX (R417). -/
  | normRx (rx : Rx)
  /-- GATHER_SEND (R420). -/
  | gatherSend (rjid n : Nat)
  /-- GATHER_RX (R421). -/
  | gatherRx (rx : Rx)
  /-- UCTX_LOAD (R440). -/
  | uctxLoad (j : Nat)
  /-- UCTX_UNLOAD (R440). -/
  | uctxUnload (j : Nat)
  /-- UCTX_CMD_RESERVED (R440). -/
  | uctxCmdReserved (j : Nat)
  /-- STATS_PASS (R442): bucket `n` of job `j`. -/
  | statsPass (j n : Nat)
  /-- APPLY_GRANT (R445). -/
  | applyGrant (j : Nat)
  /-- ETA_LATCH (R449): the engine of physical hall `h`, after `waited` cycles. -/
  | etaLatch (j h waited : Nat)
  /-- ETA_WORD_WRITE (R448): the HI half of ETA0 or ETA1 is written. -/
  | etaWordWrite (src j : Nat) (odd : Bool) (hi : Reg)
  /-- APPLY_BUCKET (R447). -/
  | applyBucket (j n : Nat)
  /-- FOYER_WR_RX (R462). -/
  | foyerWrRx (hdr : BitVec 128) (payload : List Byte)
  /-- FOYER_RD_RX (R462). -/
  | foyerRdRx (hdr : BitVec 128)
  /-- FOYER_CPL_RX (R461). -/
  | foyerCplRx (hdr : BitVec 128) (payload : List Byte)
  /-- DOORBELL (R467). -/
  | doorbell (r : Nat) (tail : Reg)
  /-- JOB_START (R470): the entry at the head of the device ring. -/
  | jobStart
  /-- JOB_END (R471): the entry at the head of the device ring. -/
  | jobEnd
  /-- PREEMPT_BOUNDARY (R482): the entry at the head of the device ring. -/
  | preemptBoundary
  /-- PREEMPT_SAFEPT (R482): the entry at the head of the device ring. -/
  | preemptSafept
  /-- PREEMPTED (R482). -/
  | preempted (j : Nat)
  /-- RESUME (R484): the entry at the head of the device ring. -/
  | resume
  /-- STEP (R473): the entry at the head of ring `j`. -/
  | stepCmd (j : Nat)
  /-- CHECKPOINT (R481): the entry at the head of ring `j`. -/
  | checkpoint (j : Nat)
  /-- CKPT_DONE (R481). -/
  | ckptDone (j : Nat)
  /-- REIMAGE (R472): the entry at the head of ring `j`. -/
  | reimage (j : Nat)
  /-- CMD_RESERVED (R468): the entry at the head of ring `r`. -/
  | cmdReserved (r : Nat)
  /-- BATCH_FETCH (R473). -/
  | batchFetch (j : Nat)
  /-- ATTEMPT_START (R474). -/
  | attemptStart (j : Nat)
  /-- MICRO_BATCH_START (R474). -/
  | microBatchStart (j : Nat)
  /-- MICRO_BATCH_DONE (R474). -/
  | microBatchDone (j : Nat)
  /-- STEP_READY (R474). -/
  | stepReady (j : Nat)
  /-- VERDICT_APPLY (R476): VERDICT_HI is written with this DECISION and `attempt`. -/
  | verdictApply (src j attempt : Nat)
  /-- VERDICT_REPEAT (R476): VERDICT_HI is written with this DECISION and `attempt`. -/
  | verdictRepeat (src j attempt : Nat)
  /-- VERDICT_SKIP (R476): VERDICT_HI is written with this DECISION and `attempt`. -/
  | verdictSkip (src j attempt : Nat)
  /-- VERDICT_NONE (R476): VERDICT_HI is written with this DECISION and `attempt`. -/
  | verdictNone (src j attempt : Nat)
  /-- STEP_COMMIT (R474). -/
  | stepCommit (j : Nat)
  /-- EVENT_RECORD_WRITE (R485). -/
  | eventRecordWrite
  /-- EVT_BASE_WRITE (R485). -/
  | evtBaseWrite (v : Word)
  /-- EVT_SIZE_WRITE (R485). -/
  | evtSizeWrite (v : Reg)
  /-- EVT_HEAD_WRITE (R485). -/
  | evtHeadWrite (v : Reg)
  /-- RING_SIZE_WRITE (R466). -/
  | ringSizeWrite (r : Nat) (v : Reg)
  /-- DVFS_REQUEST (R493): requester `who`: 0 job, 1 thermal, 2 pace, 3 power. -/
  | dvfsRequest (h who : Nat) (v : Reg)
  /-- DVFS_STEP_DONE (R494). -/
  | dvfsStepDone (h : Nat)
  /-- VOLT_OVR_WRITE (R496). -/
  | voltOvrWrite (h : Nat) (v : Reg)
  /-- THERM_TARGET_WRITE (R503). -/
  | thermTargetWrite (v : Reg)
  /-- THERMAL_LOOP (R499). -/
  | thermalLoop
  /-- POWER_LOOP (R501): the rail sensors give `watts`. -/
  | powerLoop (watts : Nat)
  /-- CURRENT_LIMITER_CHECK (R502): the input power is `watts`. -/
  | currentLimiterCheck (watts : Nat)
  /-- THERMAL_TRIP (R500): hall sensor 0–17, quadrant sensor 18–21, stack 22–37. -/
  | thermalTrip (sensor : Nat) (value : BitVec 16)
  /-- PM_ENTRY_START (R507). -/
  | pmEntryStart
  /-- PM_STAGE_DONE (R508). -/
  | pmStageDone
  /-- PM_WAKE (R509): cause as WAKE_CAUSE of R514. -/
  | pmWake (cause : Nat)
  /-- PM_EXIT_STEP (R510). -/
  | pmExitStep
  /-- PM_EXIT_TIMEOUT (R510). -/
  | pmExitTimeout
  /-- PACE_JOB_WRITE (R516). -/
  | paceJobWrite (h : Nat) (v : Reg)
  /-- WATCHDOG_RESTART (R517). -/
  | watchdogRestart
  /-- PORTER_READY_TIMEOUT (R518). -/
  | porterReadyTimeout
  /-- GET_STATUS (R542). -/
  | getStatus (t : Transport) (payload : List Byte)
  /-- ALERT_ACK (R542). -/
  | alertAck (t : Transport) (payload : List Byte)
  /-- READ_SENSOR (R534): `fresh` is a conversion that won the sensor hub, if one did. -/
  | readSensor (t : Transport) (payload : List Byte) (fresh : Option (BitVec 16))
  /-- SET_CHASSIS_TEMP (R542). -/
  | setChassisTemp (t : Transport) (payload : List Byte)
  /-- READ_LOG (R542). -/
  | readLog (t : Transport) (payload : List Byte)
  /-- WAKE (R542). -/
  | wakeMsg (t : Transport) (payload : List Byte)
  /-- RESET_MODULE (R542). -/
  | resetModule (t : Transport) (payload : List Byte)
  /-- SET_RTC (R542). -/
  | setRtc (t : Transport) (payload : List Byte)
  /-- SET_ALARM (R542). -/
  | setAlarm (t : Transport) (payload : List Byte)
  /-- FW_BEGIN (R542). -/
  | fwBegin (t : Transport) (payload : List Byte)
  /-- FW_DATA (R542). -/
  | fwData (t : Transport) (payload : List Byte)
  /-- FW_VERIFY (R542). -/
  | fwVerify (t : Transport) (payload : List Byte)
  /-- FW_ACTIVATE (R542). -/
  | fwActivate (t : Transport) (payload : List Byte)
  /-- FW_COMMIT (R542). -/
  | fwCommit (t : Transport) (payload : List Byte)
  /-- FW_SESSION_TIMEOUT (R528). -/
  | fwSessionTimeout
  /-- GET_IDENTITY (R545). -/
  | getIdentity (t : Transport) (payload : List Byte)
  /-- ATTEST_REQ (R546). -/
  | attestReq (t : Transport) (payload : List Byte)
  /-- ATTEST_READY (R546). -/
  | attestReady
  /-- ATTEST_READ (R542). -/
  | attestRead (t : Transport) (payload : List Byte)
  /-- FENCE_UNIT (R542). -/
  | fenceUnit (t : Transport) (payload : List Byte)
  /-- RELEASE_UNIT (R542). -/
  | releaseUnit (t : Transport) (payload : List Byte)
  /-- SELF_TEST (R542). -/
  | selfTest (t : Transport) (payload : List Byte)
  /-- UNKNOWN_CMD (R542). -/
  | unknownCmd (t : Transport) (cmd : Byte) (payload : List Byte)
  /-- SENSOR_CONVERSION (R533): sensor `i` of the Floor Plan reads `v`. -/
  | sensorConversion (i : Nat) (v : BitVec 16)
  /-- LOG_FLUSH (R538). -/
  | logFlush
  /-- RTC_ALARM (R544). -/
  | rtcAlarm
  /-- SELF_TEST_START (R563). -/
  | selfTestStart (unit : UnitRef)
  /-- SELF_TEST_END (R564): `res` is what the test found. -/
  | selfTestEnd (unit : UnitRef) (res : TestResult)
  /-- FLOOR_PLAN_CHANGE (R40). -/
  | floorPlanChange
  /-- RESTORE_COPY (R561): RST_CTRL is written with `v`, GO set. -/
  | restoreCopy (v : Reg)
  /-- RESTORE_COPY_DONE (R561). -/
  | restoreCopyDone
  /-- REPAIR_HOLD_CLEAR (R560). -/
  | repairHoldClear (v : Reg)
  /-- BLK_ENABLE (R586): page number `page` is (offset from CFG) / 0x1000. -/
  | blkEnable (src page : Nat) (on : Bool)
  /-- SOFT_RESET (R587). -/
  | softReset (src page : Nat)
  /-- SOFT_RESET_DONE (R587). -/
  | softResetDone (page : Nat)
  /-- BLK_FENCE (R588). -/
  | blkFence (src page : Nat) (on : Bool)
  /-- LOCK (R589). -/
  | lockPage (src page : Nat)
  /-- ERROR_CLEAR (R585). -/
  | errorClear (src page : Nat)
  /-- REG64_LO_WRITE (R593): the LO half at offset `off` from CFG. -/
  | reg64LoWrite (src off : Nat) (v : Reg)
  /-- REG64_HI_COMMIT (R593): `off` is the HI half's offset from CFG. -/
  | reg64HiCommit (src off : Nat) (v : Reg)
  /-- DBG_READ (R598). -/
  | dbgRead
  /-- DBG_WRITE (R598). -/
  | dbgWrite
  /-- REGISTER_WRITE (R576). -/
  | registerWrite (src off : Nat) (v : Reg)
  /-- POWER_APPLY (R622): the straps read `cool` and `slot`. -/
  | powerApply (cool : BitVec 2) (slot : BitVec 6)
  /-- POWER_LOSS (R614). -/
  | powerLoss
  /-- OVERVOLTAGE_SHUTDOWN (R610). -/
  | overvoltageShutdown
  /-- INPUT_PROTECTION_OPEN (R610). -/
  | inputProtectionOpen
  /-- PWR_EN_RISE (R613). -/
  | pwrEnRise
  /-- PWR_EN_FALL (R614). -/
  | pwrEnFall
  /-- MOD_RESET_N (R624). -/
  | modResetN
  /-- WAKE_N (R607). -/
  | wakeN
  /-- PORTER_BOOT (R525): `fusesOk` when every fuse word passes its check. -/
  | porterBoot (fusesOk : Bool)
  /-- MAIN_RAILS (R622). -/
  | mainRails
  /-- OSC_START (R622). -/
  | oscStart
  /-- STACK_TRAIN (R627): one training attempt of stack `stk`. -/
  | stackTrain (stk : Nat) (ok : Bool)
  /-- SEQ_IMAGE_LOAD (R525). -/
  | seqImageLoad
  /-- LOGIC_RELEASE (R622). -/
  | logicRelease
  /-- POWER_ON_SELF_TEST (R625): the units that fail; `fixedFail` when a unit of R568 fails. -/
  | powerOnSelfTest (fails : List UnitRef) (fixedFail : Bool)
  /-- FLOOR_PLAN_BUILD (R628). -/
  | floorPlanBuild
  /-- SEQ_INIT (R622). -/
  | seqInit
  /-- COMMANDS_ACCEPTED (R631). -/
  | commandsAccepted
  /-- SEQ_RUNNING_TIMEOUT (R629). -/
  | seqRunningTimeout
  /-- STAGE_FAILURE (R633): the ready indication of stage B`stage` is late, or a rail faults. -/
  | stageFailure (stage : Nat)
  /-- TRAIN_STEP_DONE (R367): the running training step ends; step 3 finds `polarity` and `laneMap`. -/
  | trainStepDone (p l : Nat) (polarity : BitVec 4) (laneMap : BitVec 8)
  /-- TEST_ENTRY_ACK_TIMEOUT (R363). -/
  | testEntryAckTimeout (p l : Nat)
  /-- RC_READ (R10, R118): a configuration read with behaviour of its own. -/
  | rcRead (src off : Nat)
  deriving DecidableEq, Repr

end Sys2Proof
end

