-- ==== Sys2Proof/Config.lean ====
section
/-!
DEFINITION. What one implementation fixes and what the spec leaves open: constants without a body, so that no proof can rest on a value
(DESIGN CHOICE, notes/assumptions/2.md, 3.md, 4.md). The free values are `Config.free` applied to the counter `Device.free` of the state.
-/
namespace Sys2Proof

/-- A sensor of the Floor Plan (R36, type 0x0B): the spec gives no list of sensors, so the list is the implementation's. -/
structure SensorDesc where
  kind : Nat
  locKind : Nat
  location : Nat
  warn : BitVec 16
  trip : BitVec 16
  deriving DecidableEq, Repr, Inhabited

/-- The value of a free value by its number (the model's own, DESIGN CHOICE, notes/assumptions/2.md). -/
opaque Config.free : Nat → Word

/-- Whether a walk uses a hall's cached translation when memory may have changed since (R289): bit 0 a leaf entry, bit 1 a level 2 pointer, by the
number of the free value and the page (DESIGN CHOICE, notes/assumptions/12.md). -/
opaque Config.stale : Nat → Nat → Nat

/-- Clock edges that island `n` delivers while the block idles once (R491 gives no length; DESIGN CHOICE, notes/assumptions/3.md). -/
opaque Config.elapsed : Nat → Nat → Nat

/-- Cycles that counter `r` of core `u` gains in idle step `n` for accesses of the tile file that wait for their port (R110, R163): the spec gives no
lengths of accesses in flight (DESIGN CHOICE, notes/assumptions/62.md). -/
opaque Config.portStall : Nat → Nat → Nat → Nat

/-- A failing parity bit, or an error of a unit without storage of its own in the state (R550, R551, R568): `kind` 0 a byte of stack memory, 1 of the
memory of hall `unit`; of core `unit`: 2 of the tile file, 3 of the accumulators, 4 of scalar memory, 5 of the instruction store, 6 scalar register
`addr`, 7 a weight, `addr` = ((2 × quarter + bank) × 32 + K row) × 32 + column; 8 a flit in quadrant `unit`, failing twice when `addr` is 1;
9 the storage of island `unit`; 10 of core `unit`, byte `addr` of the row-slices in the operand cache, oldest first;
of hall `unit`: 11 its signal store, monitor table or translation cache, 12 its update engine's buffers; of port `unit`: 13 its buffers, 14 its Arcade's
adders and contexts. For 11 to 14 `addr` is the location recorded, whose form the spec does not give. -/
structure Strike where
  kind : Nat
  unit : Nat
  addr : Nat
  deriving DecidableEq, Repr, Inhabited

/-- What strikes the module while it idles once, if anything (the spec gives no rate; DESIGN CHOICE, notes/assumptions/3.md). -/
opaque Config.strike : Nat → Option Strike

/-- Module serial (R36, "Per module" in R594). -/
opaque Config.serial : Word

/-- Logic die revision and module assembly revision (R36, R594). -/
opaque Config.siliconRev : BitVec 16
opaque Config.moduleRev : BitVec 16

/-- BLK_ID to BLK_CAPS are given by the spec; the sensors of the module are not (R36, R38, R154). -/
opaque Config.sensors : List SensorDesc

/-- A hall's fused voltage curve: the minimum voltage in mV at a frequency in MHz (R492). -/
opaque Config.minVolt : Nat → Nat → BitVec 12

/-- SHA-384 of a string of bytes (R32, R523), as 48 bytes in address order; used as an uninterpreted function. -/
opaque Config.sha384 : List Byte → List Byte

/-- Whether RSASSA-PSS with RSA_N and RSA_E verifies the signature of a message (R524): message, key, signature. -/
opaque Config.rsaVerify : List Byte → List Byte → List Byte → Bool

/-- Whether SLH-DSA-SHA2-192s verifies the signature of a message (R524): message, key, signature. -/
opaque Config.slhVerify : List Byte → List Byte → List Byte → Bool

/-- The identity signatures of a report (R546), formed inside the security island (R545). -/
opaque Config.rsaSign : List Byte → List Byte
opaque Config.slhSign : List Byte → List Byte

/-- The fused root key hashes (R522) and the hash of the boot ROM (R525). -/
opaque Config.rsaRootHash : List Byte
opaque Config.slhRootHash : List Byte
opaque Config.romHash : List Byte

/-- The firmware image that a slot holds as shipped, by kind (1 Porter, 2 sequencer) and slot. -/
opaque Config.fwImage : Nat → Nat → List Byte

/-- The byte that a self-test result has in the log and in a response (R536, R542 give it no code): passed or not. -/
opaque Config.resultByte : Bool → Byte

/-- The identity record of the flash (R545), 17,120 bytes created at manufacture. -/
opaque Config.identity : List Byte

end Sys2Proof
end

