-- ==== Sys2Proof/Machine/Bits.lean ====
section
/-!
DEFINITION. Bit fields, little-endian assembly (R5, R6), sign extension and CRC-32C (R351).
-/
namespace Sys2Proof.Machine

/-- The field [hi:lo] of a number (R5). -/
def fld (w hi lo : Nat) : Nat := (w >>> lo) % 2 ^ (hi - lo + 1)

/-- Bit n of a number. -/
def bit (w n : Nat) : Bool := (w >>> n) % 2 == 1

/-- A flag as a number. -/
def b2n (b : Bool) : Nat := if b then 1 else 0

/-- The low `n` bytes of a number in address order (R6). -/
def toLE : Nat → Nat → List Byte
  | 0, _ => []
  | n + 1, w => BitVec.ofNat 8 w :: toLE n (w / 256)

/-- The number whose bytes stand in address order (R6). -/
def ofLE : List Byte → Nat
  | [] => 0
  | b :: bs => b.toNat + 256 * ofLE bs

/-- `n` bytes of a record from offset `off`, as a number; bytes past the end count as zero. -/
def leAt (bs : List Byte) (off n : Nat) : Nat := ofLE ((bs.drop off).take n)

/-- A field of `n` bits read as two's complement. -/
def signed (n w : Nat) : Int := if w < 2 ^ (n - 1) then w else (w : Int) - 2 ^ n

/-- A two's complement number wrapped to 64 bits. -/
def wrap64 (i : Int) : Nat := (i % 2 ^ 64).toNat

/-- Sum modulo 2⁶⁴ of a number and a sign-extended 32-bit immediate (R183). -/
def addImm (a imm : Nat) : Nat := wrap64 (a + signed 32 imm)

/-- Round up to a multiple. -/
def alignUp (n k : Nat) : Nat := (n + k - 1) / k * k

/-- Quotient rounded up. -/
def ceilDiv (n k : Nat) : Nat := (n + k - 1) / k

/-- One step of the reflected Castagnoli division (R351). -/
def crcBits : Nat → Nat → Nat
  | 0, c => c
  | n + 1, c => crcBits n (if c % 2 == 1 then (c / 2) ^^^ 0x82F63B78 else c / 2)

/-- CRC-32C with initial value and final XOR 0xFFFF_FFFF (R351). -/
def crc32c (bs : List Byte) : Nat :=
  (bs.foldl (fun c b => crcBits 8 (c ^^^ b.toNat)) 0xFFFFFFFF) ^^^ 0xFFFFFFFF

/-- Every byte of a list of bytes is zero. -/
def allZero (bs : List Byte) : Bool := bs.all (· == 0)

end Sys2Proof.Machine
end

