-- ==== Sys2Proof/Machine/Num.lean ====
section
/-!
DEFINITION. Numbers and the device's one rounding rule (R45–R69): every finite value is a sign, a magnitude and a power of two, computed
exactly and narrowed once.
-/
namespace Sys2Proof.Machine

/-- An arithmetic value: NaN, a signed infinity, or (−1)^neg × m × 2^e, with a signed zero when `m` is 0. -/
inductive Num where
  | nan
  | inf (neg : Bool)
  | fin (neg : Bool) (m : Nat) (e : Int)
  deriving DecidableEq, Repr

namespace Num

def zero : Num := .fin false 0 0
def one : Num := .fin false 1 0

def isNan : Num → Bool
  | .nan => true
  | _ => false

def isInf : Num → Bool
  | .inf _ => true
  | _ => false

def isZero : Num → Bool
  | .fin _ m _ => m == 0
  | _ => false

def isFinite : Num → Bool
  | .fin _ _ _ => true
  | _ => false

def negative : Num → Bool
  | .inf n => n
  | .fin n _ _ => n
  | .nan => false

def neg : Num → Num
  | .nan => .nan
  | .inf n => .inf !n
  | .fin n m e => .fin (!n) m e

def abs : Num → Num
  | .nan => .nan
  | .inf _ => .inf false
  | .fin _ m e => .fin false m e

/-- ⌊log₂⌋ of a finite value that is not zero. -/
def exponent : Num → Int
  | .fin _ m e => (Nat.log2 m : Int) + e
  | _ => 0

/-- Signed integer of a magnitude. -/
def sint (n : Bool) (m : Nat) : Int := if n then -(m : Int) else (m : Int)

/-- Exact sum; an exact zero sum is +0 unless both terms are −0 (R60). -/
def add : Num → Num → Num
  | .nan, _ => .nan
  | _, .nan => .nan
  | .inf a, .inf b => if a == b then .inf a else .nan
  | .inf a, .fin _ _ _ => .inf a
  | .fin _ _ _, .inf b => .inf b
  | .fin n m e, .fin n' m' e' =>
    let q := min e e'
    let s := sint n (m <<< (e - q).toNat) + sint n' (m' <<< (e' - q).toNat)
    if s == 0 then .fin (n && n' && m == 0 && m' == 0) 0 0
    else .fin (decide (s < 0)) s.natAbs q

def sub (a b : Num) : Num := add a (neg b)

/-- Exact product; zero times infinity is NaN (R61). -/
def mul : Num → Num → Num
  | .nan, _ => .nan
  | _, .nan => .nan
  | .inf a, .inf b => .inf (a != b)
  | .inf a, .fin n m _ => if m == 0 then .nan else .inf (a != n)
  | .fin n m _, .inf b => if m == 0 then .nan else .inf (n != b)
  | .fin n m e, .fin n' m' e' => .fin (n != n') (m * m') (e + e')

/-- Strict order of two values that are not NaN, −0 below +0 (R199). -/
def lt : Num → Num → Bool
  | .nan, _ => false
  | _, .nan => false
  | .inf a, .inf b => a && !b
  | .inf a, .fin _ _ _ => a
  | .fin _ _ _, .inf b => !b
  | .fin n m e, .fin n' m' e' =>
    let q := min e e'
    let a := sint n (m <<< (e - q).toNat)
    let b := sint n' (m' <<< (e' - q).toNat)
    if a == 0 && b == 0 then n && !n' else decide (a < b)

def le (a b : Num) : Bool := !a.isNan && !b.isNan && !lt b a

/-- MAX and MIN: NaN when either is NaN, +0 above −0 (R199). -/
def maxN (a b : Num) : Num := if a.isNan || b.isNan then .nan else if lt a b then b else a
def minN (a b : Num) : Num := if a.isNan || b.isNan then .nan else if lt b a then b else a

end Num

/-- The integer nearest to m × 2^(e − q), ties away from zero (R62). -/
def roundMag (m : Nat) (e q : Int) : Nat :=
  if q ≤ e then m <<< (e - q).toNat
  else
    let sh := (q - e).toNat
    (m + 2 ^ (sh - 1)) >>> sh

/-- A floating-point element encoding of R45: field widths, bias, whether it has infinities. `top` is the largest finite magnitude code. -/
structure Flt where
  eb : Nat
  fb : Nat
  bias : Nat
  hasInf : Bool
  top : Nat
  deriving DecidableEq, Repr

def fltF32 : Flt := ⟨8, 23, 127, true, 0x7F7FFFFF⟩
def fltB16 : Flt := ⟨8, 7, 127, true, 0x7F7F⟩
def fltH16 : Flt := ⟨5, 10, 15, true, 0x7BFF⟩
def fltG16 : Flt := ⟨9, 6, 255, true, 0x7FBF⟩
def fltE4M3 : Flt := ⟨4, 3, 7, false, 0x7E⟩
def fltE5M2 : Flt := ⟨5, 2, 15, true, 0x7B⟩
def fltE3M2 : Flt := ⟨3, 2, 3, false, 0x1F⟩
def fltE2M3 : Flt := ⟨2, 3, 1, false, 0x1F⟩
def fltE2M1 : Flt := ⟨2, 1, 1, false, 0x7⟩

/-- The value of an encoding (R46). Only the E4M3 encoding of its largest exponent and fraction is NaN among those without infinities. -/
def Flt.decode (f : Flt) (w : Nat) : Num :=
  let neg := bit w (f.eb + f.fb)
  let e := fld w (f.eb + f.fb - 1) f.fb
  let fr := w % 2 ^ f.fb
  if f.hasInf && e == 2 ^ f.eb - 1 then (if fr == 0 then .inf neg else .nan)
  else if f.eb == 4 && w % 128 == 127 then .nan
  else if e == 0 then .fin neg fr (1 - (f.bias : Int) - f.fb)
  else .fin neg (2 ^ f.fb + fr) ((e : Int) - f.bias - f.fb)

/-- The magnitude code of m × 2^e before the range is checked (R62, R46): subnormals keep their codes and a carry moves to the next binade. -/
def Flt.magCode (f : Flt) (m : Nat) (e : Int) : Nat :=
  if m == 0 then 0
  else
    let emin : Int := 1 - (f.bias : Int)
    let ex := max ((Nat.log2 m : Int) + e) emin
    (ex - emin).toNat * 2 ^ f.fb + roundMag m e (ex - f.fb)

/-- The canonical NaN (R67). -/
def Flt.nanCode (f : Flt) : Nat :=
  if f.hasInf then (2 ^ f.eb - 1) * 2 ^ f.fb + 2 ^ (f.fb - 1) else 2 ^ (f.eb + f.fb) - 1

/-- Conversion of a value to an encoding, and whether it was a counted saturation (R62, R64–R67, R69). -/
def Flt.encode (f : Flt) (x : Num) : Nat × Bool :=
  let sg (n : Bool) : Nat := if n then 2 ^ (f.eb + f.fb) else 0
  match x with
  | .nan => (f.nanCode, false)
  | .inf n => if f.hasInf then (sg n + (2 ^ f.eb - 1) * 2 ^ f.fb, false) else (sg n + f.top, true)
  | .fin n m e =>
    let c := f.magCode m e
    if c ≤ f.top then (sg n + c, false)
    else if f.hasInf then (sg n + (2 ^ f.eb - 1) * 2 ^ f.fb, false)
    else (sg n + f.top, true)

/-- Rounding to F32 (R62, R64). -/
def rF32 (x : Num) : Num := fltF32.decode (fltF32.encode x).1
/-- The F32 value of 32 bits, and back. -/
def ofF32 (w : Nat) : Num := fltF32.decode (w % 2 ^ 32)
def toF32 (x : Num) : Nat := (fltF32.encode x).1
def ofB16 (w : Nat) : Num := fltB16.decode (w % 2 ^ 16)

def fAdd (a b : Num) : Num := rF32 (a.add b)
def fSub (a b : Num) : Num := rF32 (a.sub b)
def fMul (a b : Num) : Num := rF32 (a.mul b)

/-- A quotient or root is narrowed from a truncation with one sticky bit below it, which rounds as the exact result does (R199). -/
def fDiv (a b : Num) : Num :=
  match a, b with
  | .nan, _ => .nan
  | _, .nan => .nan
  | .inf _, .inf _ => .nan
  | .inf n, .fin n' _ _ => .inf (n != n')
  | .fin n _ _, .inf n' => .fin (n != n') 0 0
  | .fin n m e, .fin n' m' e' =>
    if m' == 0 then (if m == 0 then .nan else .inf (n != n'))
    else
      let k := 64 + Nat.log2 m'
      let x := m <<< k
      rF32 (.fin (n != n') (2 * (x / m') + (if x % m' == 0 then 0 else 1)) (e - e' - k - 1))

/-- Bits of an integer square root from bit `b` down. -/
def isqrtFrom : Nat → Nat → Nat → Nat
  | 0, n, r => if (r + 1) * (r + 1) ≤ n then r + 1 else r
  | b + 1, n, r => isqrtFrom b n (if (r + 2 ^ (b + 1)) * (r + 2 ^ (b + 1)) ≤ n then r + 2 ^ (b + 1) else r)

/-- ⌊√n⌋. -/
def isqrt (n : Nat) : Nat := isqrtFrom (Nat.log2 n / 2 + 1) n 0

/-- SQRT (R199), with the IEEE 754 results for zeros, negatives and infinity (R68). -/
def fSqrt : Num → Num
  | .nan => .nan
  | .inf n => if n then .nan else .inf false
  | .fin n m e =>
    if m == 0 then .fin n 0 0
    else if n then .nan
    else
      let k : Nat := 128 + (e % 2).toNat
      let x := m <<< k
      let r := isqrt x
      rF32 (.fin false (2 * r + (if r * r == x then 0 else 1)) ((e - k) / 2 - 1))

/-- RSQRT (R199): the exact reciprocal root, rounded once. -/
def fRsqrt : Num → Num
  | .nan => .nan
  | .inf n => if n then .nan else .fin false 0 0
  | .fin n m e =>
    if m == 0 then .inf n
    else if n then .nan
    else
      let p := (e % 2).toNat
      let k := 2 * (80 + Nat.log2 m)
      let d := m * 2 ^ p
      let x := 2 ^ k / d
      let r := isqrt x
      rF32 (.fin false (2 * r + (if r * r * d == 2 ^ k then 0 else 1)) (-((e - p) / 2) - k / 2 - 1))

def fRecip (a : Num) : Num := fDiv Num.one a

/-- Rounding of the significand to `n` significant bits, the exponent unbounded (R56, R57). -/
def rSig (n : Nat) : Num → Num
  | .fin s m e =>
    if Nat.log2 m < n then .fin s m e
    else
      let sh := Nat.log2 m + 1 - n
      .fin s ((m + 2 ^ (sh - 1)) >>> sh) (e + sh)
  | x => x

/-- The storage formats by code (R45). -/
def fltOf : Nat → Option Flt
  | 0 => some fltF32
  | 1 => some fltB16
  | 2 => some fltH16
  | 3 => some fltG16
  | 4 => some fltE4M3
  | 5 => some fltE5M2
  | 6 => some fltE4M3
  | 7 => some fltE5M2
  | 8 => some fltE3M2
  | 9 => some fltE2M3
  | 10 => some fltE2M1
  | _ => none

/-- A format code that R45 does not reserve. -/
def fmtLegal (f : Nat) : Bool := f < 12
/-- An MX format (R45, R48). -/
def isMx (f : Nat) : Bool := 6 ≤ f && f < 12

/-- Bits of an element (R45). -/
def elemBits (f : Nat) : Nat :=
  match f with
  | 0 => 32
  | 1 => 16
  | 2 => 16
  | 3 => 16
  | 8 => 6
  | 9 => 6
  | 10 => 4
  | _ => 8

/-- Bytes of a block's element data (R49). -/
def mxBytes (f : Nat) : Nat := elemBits f * 4

/-- The value of an element code, before any scale (R46, R48). -/
def elemVal (f w : Nat) : Num :=
  match fltOf f with
  | some t => t.decode w
  | none => let k := signed 8 w; .fin (decide (k < 0)) k.natAbs (-6)

/-- A value times a power of two. -/
def scaleBy (x : Num) (t : Int) : Num :=
  match x with
  | .fin s m e => .fin s m (e + t)
  | y => y

/-- The value of an element under an E8M0 scale byte (R48). -/
def mxVal (f w x : Nat) : Num := if x == 255 then .nan else scaleBy (elemVal f w) ((x : Int) - 127)

/-- Conversion of a value to an element code without a scale, and whether it saturated (R62–R65). -/
def elemEnc (f : Nat) (x : Num) : Nat × Bool :=
  match fltOf f with
  | some t =>
    let c := t.encode x
    -- R65: every MX element type saturates, MX-E5M2 included
    if f == 7 && c.1 % 128 == 0x7C then (c.1 - 1, true) else c
  | none =>
    match x with
    | .nan => (0, false)
    | .inf n => (if n then 129 else 127, true)
    | .fin n m e =>
      let k := roundMag m e (-6)
      let c := min k 127
      (if n && c != 0 then 256 - c else c, decide (127 < k))

/-- The exponent of an element type's largest binade (R50). -/
def mxTop (f : Nat) : Int :=
  match f with
  | 6 => 8
  | 7 => 15
  | 8 => 4
  | 9 => 2
  | 10 => 2
  | _ => 0

/-- The largest finite magnitude of a list, if any entry is finite and not zero (R50). -/
def maxFinite (xs : List Num) : Num :=
  xs.foldl (fun a x => if x.isFinite then Num.maxN a x.abs else a) Num.zero

/-- A quantised block: scale byte, element codes, counted saturations, and whether it is a NaN block. -/
structure MxBlock where
  scale : Nat
  codes : List Nat
  sats : Nat
  nanBlock : Bool
  deriving DecidableEq, Repr

/-- Quantisation of a block into an MX format (R50, R51, R65, R66). (DEDUCED, notes/assumptions/20.md.) -/
def quantise (f : Nat) (xs : List Num) : MxBlock :=
  if xs.any Num.isNan then ⟨255, xs.map (fun _ => 0), 0, true⟩
  else
    let a := maxFinite xs
    if a.isZero && !xs.any Num.isInf then ⟨0, xs.map (fun _ => 0), 0, false⟩
    else
      let x0 : Int := if a.isZero then 127 else a.exponent - mxTop f
      let x := max (-127) (min 127 x0)
      let cs := xs.map (fun v => elemEnc f (scaleBy v (-x)))
      ⟨(x + 127).toNat, cs.map Prod.fst, (cs.filter Prod.snd).length, false⟩

/-- The effective power of two of a learned scale (R76), or none when the entry is not usable (R77). -/
def lsExp (w : Nat) : Option Int :=
  match ofB16 w with
  | .fin false m e =>
    if m == 0 then none
    else
      let l := Nat.log2 m
      -- m / 2^l = 1 + f/128 with f = m * 2^(7 - l) - 128, and m has at most 8 bits
      let f := m * 2 ^ (7 - l) - 128
      some ((l : Int) + e + (if f < 54 then 0 else 1))
  | _ => none

/-- The parts of an operand in the array (R54, R56, R57): `part` 0 single pass, 1 high, 2 low; none is an empty low part. -/
def x18Part (f part : Nat) (x : Num) : Option Num :=
  if f == 0 || f == 2 then
    let h := rSig 8 x
    if part == 2 then (if x.isFinite then some (rSig 8 (x.sub h)) else none) else some h
  else some x

/-- One lane product with its product exponent (R59): sign, magnitude, power of two, sum of the operands' exponents. -/
structure Prod where
  neg : Bool
  m : Nat
  e : Int
  pe : Int
  deriving DecidableEq, Repr

/-- The exact product of two finite operands, as the lane aligns it (R59). -/
def mkProd (a b : Num) : Prod :=
  match a, b with
  | .fin n m e, .fin n' m' e' => ⟨n != n', m * m', e + e', a.exponent + b.exponent⟩
  | _, _ => ⟨false, 0, 0, 0⟩

/-- The sum of a lane's products, converted to F32 (R59–R61). Masked inputs stand in no pair (R103). -/
def laneSum (ps : List (Num × Num)) : Num :=
  let xs := ps.map (fun p => p.1.mul p.2)
  if xs.any Num.isNan then .nan
  else if xs.any Num.isInf then
    (if xs.any (fun x => x.isInf && x.negative) && xs.any (fun x => x.isInf && !x.negative) then .nan
     else .inf (xs.any (fun x => x.isInf && x.negative)))
  else
    let prods := ps.map (fun p => mkProd p.1 p.2)
    match (prods.filter (fun p => p.m != 0)).map Prod.pe with
    | [] => .fin (!prods.isEmpty && prods.all Prod.neg) 0 0
    | p :: rest =>
      let lsb := rest.foldl max p - 40
      let s := prods.foldl (fun acc p => acc + Num.sint p.neg (roundMag p.m p.e lsb)) (0 : Int)
      if s == 0 then .fin false 0 0 else rF32 (.fin (decide (s < 0)) s.natAbs lsb)

/-- Pairs of a list with itself: butterfly stage `k` of the rotation (R70), each sum and difference in F32. -/
def butterfly (k : Nat) (xs : List Num) : List Num :=
  (List.range xs.length).map (fun i =>
    let y (j : Nat) : Num := xs.getD j Num.zero
    if bit i k then fSub (y (i - 2 ^ k)) (y i) else fAdd (y i) (y (i + 2 ^ k)))

/-- The rotation of one aligned group (R70), n = 2^lg. -/
def rotate (lg : Nat) (xs : List Num) : List Num :=
  let c := ofF32 (if lg == 5 then 0x3E3504F3 else if lg == 6 then 0x3E000000 else 0x3DB504F3)
  ((List.range lg).foldl (fun ys k => butterfly k ys) xs).map (fMul c)

end Sys2Proof.Machine
end

