-- ==== Sys2Proof/Machine/Tab.lean ====
section
/-!
DEFINITION. Tables by number with a stated default: reading and writing one entry.
-/
namespace Sys2Proof.Machine

/-- The entry of number `k`, or the default `d` when the table lists none. -/
def tget {α : Type} (d : α) : Tab α → Nat → α
  | [], _ => d
  | (k', v) :: t, k => if k' = k then v else tget d t k

/-- The table with `v` at number `k`; the order of the numbers rises. -/
def tset {α : Type} : Tab α → Nat → α → Tab α
  | [], k, v => [(k, v)]
  | (k', v') :: t, k, v =>
    if k < k' then (k, v) :: (k', v') :: t
    else if k = k' then (k, v) :: t
    else (k', v') :: tset t k v

/-- The table without the numbers that `p` holds of: they read as the default again. -/
def tdrop {α : Type} (p : Nat → Bool) (t : Tab α) : Tab α := t.filter (fun e => !p e.1)

/-- The numbers a table lists. -/
def tkeys {α : Type} (t : Tab α) : List Nat := t.map Prod.fst

/-- A set of numbers in rising order, with one number added. -/
def nins : List Nat → Nat → List Nat
  | [], k => [k]
  | x :: t, k => if k < x then k :: x :: t else if k = x then x :: t else x :: nins t k

/-- A set of numbers without one. -/
def ndel (t : List Nat) (k : Nat) : List Nat := t.filter (· != k)

/-- Replace the element at a position of a list. -/
def lset {α : Type} : List α → Nat → α → List α
  | [], _, _ => []
  | _ :: t, 0, v => v :: t
  | x :: t, n + 1, v => x :: lset t n v

/-- Remove the element at a position of a list. -/
def ldel {α : Type} : List α → Nat → List α
  | [], _ => []
  | _ :: t, 0 => t
  | x :: t, n + 1 => x :: ldel t n

/-- The position of the first element that `p` holds of. -/
def lfind {α : Type} (p : α → Bool) : List α → Option Nat
  | [] => none
  | x :: t => if p x then some 0 else (lfind p t).map (· + 1)

end Sys2Proof.Machine
end

