-- ==== Sys2Proof/Machine/State.lean ====
section
/-!
DEFINITION. The state of the module as plain data, and the state after reset. Units are keyed by number: a core `u` = physical hall × 48 +
physical core, a quarter u × 4 + q, a link p × 4 + l, a signal word physical hall × 512 + i, a job and hall j × 18 + h.
-/
namespace Sys2Proof.Machine

/-- The reasons a step stops. -/
inductive Fault where
  /-- Raised by every meaning whose command is not well formed: it names a unit or register that the module does not have. Safe. -/
  | noSuchUnit
  deriving DecidableEq, Repr

/-- The reasons a command has no meaning. -/
inductive Refusal where
  /-- Raised by an arm of `exec` whose command is not modelled yet. Safe. -/
  | notModelled (mnemonic : String)
  deriving DecidableEq, Repr

/-- Bytes with parity (R271, R550): the bytes that differ from zero; the bytes that read as poisoned; and those of them that are held with failing
parity and not as poison, whose read is a PARITY error (R552). Stack memory holds poison as failing parity (R273) and has no third list. -/
structure Mem where
  cells : List Host.Cell := []
  bad : List Nat := []
  ups : List Nat := []
  deriving DecidableEq, Repr, Inhabited

/-- An element with its poison (R553); `none` is an empty low part (R57). -/
structure El where
  v : Option Num := some Num.zero
  bad : Bool := false
  deriving DecidableEq, Repr, Inhabited

/-- A half-written 64-bit pair of one source (R593): the offset of the pair's LO half and the LO value written. -/
structure Hold where
  off : Nat
  lo : Reg
  deriving DecidableEq, Repr, Inhabited

/-- The header of a register page (R582, R583) and the page's holding registers (R593, R118), keyed by source. -/
structure Hdr where
  enable : Bool := true
  lock : Bool := false
  resetting : Bool := false
  evt : Reg := 0
  evtEn : Reg := 0
  errCode : Nat := 0
  errCount : Reg := 0
  errAddr : Word := 0
  scratch : Reg := 0
  /-- Floor Plan changes after the first publication that the clearing of GEN has covered (R583). -/
  genAck : Nat := 0
  hold : Tab Hold := []
  hiCap : Tab Hold := []
  deriving DecidableEq, Repr, Inhabited

/-! ### A core -/

/-- A wait on a signal word: a gate's binding, a window entry's captured binding, or an SWAIT (R220, R218). `seen` once it has observed
its target (R327); `asked` is MON as the instruction gave it, kept through a fallback to polling (R222, R325); `late` a binding captured once its gate
had observed its target, which evaluates the word as it stands (R327). -/
structure Binding where
  word : Nat
  target : Nat
  mon : Bool
  seen : Bool
  asked : Bool := false
  late : Bool := false
  deriving DecidableEq, Repr, Inhabited

/-- A tile register (R121): shape, format code and base offset in bytes. -/
structure Tile where
  rows : Nat := 0
  cols : Nat := 0
  fmt : Nat := 0
  base : Nat := 0
  deriving DecidableEq, Repr, Inhabited

/-- A windowed instruction, waiting or fired: its place in program order, its store address and word, the scalar registers and descriptor
captured at issue (R172), its captured gate binding (R220); once fired, its progress, the pages it translated (R215) and where the landing
placed it (R245). -/
structure Ins where
  seq : Nat
  pc : Nat
  w : Nat
  a : Nat := 0
  b : Nat := 0
  desc : List Byte := []
  gate : Option Binding := none
  /-- 0 fired; WLD: 1 running; drain to a descriptor: 1 drained. -/
  stage : Nat := 0
  /-- Landing lookup: 0 none needed, 1 awaited, 2 placed, 3 dropped (R245, R249). -/
  land : Nat := 0
  landAddr : Nat := 0
  landStride : Nat := 0
  /-- The weights a running WLD has read, or the rows a drain has read. -/
  vals : List (List El) := []
  /-- 64 KiB pages translated before the first byte moves: virtual page to physical page (R215). -/
  pages : Tab Nat := []
  pages2 : Tab Nat := []
  /-- The pass has read its rows, or the load its weights, so that its claim on the tile has ended (R109, R131). -/
  read : Bool := false
  /-- Row-slices of a fired pass that missed the operand cache (R107, R110). -/
  missed : Nat := 0
  deriving DecidableEq, Repr, Inhabited

/-- Shape, mode and part of a weight load (R90, R91). -/
structure WShape where
  rows : Nat := 0
  cols : Nat := 0
  mode : Nat := 0
  part : Nat := 0
  deriving DecidableEq, Repr, Inhabited

/-- A weight bank of one quarter (R90): the load that fills it, and its 32 columns of expanded weights as rows of K. -/
structure Bank where
  shape : WShape := {}
  w : List (List El) := []
  /-- Weights with failing parity, by K row and column of the quarter (R114). -/
  ups : List (Nat × Nat) := []
  deriving DecidableEq, Repr, Inhabited

/-- A row-slice in the operand cache (R106): its tag, its size in 64-byte entries, and its bytes, an MX scale byte included. -/
structure CacheEnt where
  tile : Nat
  row : Nat
  koff : Nat
  size : Nat
  data : Mem := {}
  deriving DecidableEq, Repr, Inhabited

/-- The matrix array of a core. -/
structure Arr where
  /-- Banks keyed 2 × quarter + bank. -/
  banks : Tab Bank := []
  /-- The front bank of each quarter (R95), and the back bank's state: 0 FREE, 1 LOADING, 2 READY (R116). -/
  front : Tab Nat := []
  back : Tab Nat := []
  /-- In program order: the weights a pass without SWAP uses, and the loads fired and not yet taken by a pass with SWAP (R84). -/
  prog : Tab WShape := []
  nexts : Tab (List WShape) := []
  /-- ARR_STEER as written and in effect, and STEER_PENDING (R112). -/
  steer : Reg := 0x20202020
  inEffect : Reg := 0x20202020
  steerPending : Bool := false
  /-- SPLIT (R116), and on each quarter the mode, plus 1, of the pass broadcast last since core reset (R102). -/
  split : Bool := false
  last : Tab Nat := []
  /-- Oldest entry first (R107). -/
  cache : List CacheEnt := []
  deriving DecidableEq, Repr, Inhabited

/-- A TCFG between its check and its apply (R131): the resulting shapes, the affected tiles. -/
structure Tcfg where
  seq : Nat
  tiles : Tab Tile
  affected : List Nat
  deriving DecidableEq, Repr, Inhabited

/-- A loaded function slot (R203, R204, R222): the image address, when FTLD or a restore recorded one, and the image. -/
structure Slot where
  src : Option Nat
  image : List Byte
  deriving DecidableEq, Repr, Inhabited

/-- A leaf found by a walk (R285): its entry's address and value, the physical address of the 64 KiB unit, and the level 2 pointer entry that the walk
went through, none for a 2 MiB page. -/
structure Leaf where
  at_ : Nat
  ent : Nat
  pa : Nat
  up : Option Nat := none
  deriving DecidableEq, Repr, Inhabited

/-- A followed descriptor of the run-ahead (R293): its index, the last two addresses, the shape of the last transfer's memory side as
ranges from its address, and the page and leaf of its most recent demand read (R294). -/
structure RaDesc where
  index : Nat
  last : Nat
  prev : Option Nat
  ranges : List (Nat × Nat)
  page : Nat := 0
  leaf : Leaf := default
  deriving DecidableEq, Repr, Inhabited

/-- A run-ahead copy in the hall's memory (R280, R296): the physical address of its sector, and its 64 bytes. The spec gives the copies no place in the
RUNAHEAD partition, so they stand here (DESIGN CHOICE, notes/assumptions/79.md). -/
structure RaCopy where
  at_ : Nat
  data : List Byte
  deriving DecidableEq, Repr, Inhabited

/-- Sequencer states (R227). -/
inductive CoreSt where
  | idle
  | running
  | atEnd
  | atSafept
  | fault
  | swait
  | tcfg1
  deriving DecidableEq, Repr, Inhabited

/-- A core: sequencer, stores, gates, slots, window, array, tiles, accumulators and stream engine. -/
structure Core where
  st : CoreSt := .idle
  pc : Nat := 0
  codeLen : Nat := 0
  istore : Mem := {}
  smem : Mem := {}
  x : Tab Word := []
  /-- Scalar registers that hold poison, and those with failing parity (R552, R553). -/
  xbad : List Nat := []
  xups : List Nat := []
  gates : Tab Binding := []
  slots : Tab Slot := []
  win : List Ins := []
  fl : List Ins := []
  seqNo : Nat := 0
  tcfg : Option Tcfg := none
  swait : Option Binding := none
  arr : Arr := {}
  tiles : Tab Tile := []
  inUse : List Nat := []
  tile : Mem := {}
  acc : Mem := {}
  accUse : List Nat := []
  clearing : Bool := true
  /-- The job whose image is loaded, the image's job address and SMEM_SAVE_LEN (R224), and whether the core finished its micro-batch. -/
  job : Option Nat := none
  imgAddr : Nat := 0
  saveLen : Nat := 0
  /-- The step sequencer has requested preemption at a SAFEPT (R191). -/
  preempt : Bool := false
  /-- STOP of the scalar section (R222), and whether the core's context was saved since it stopped (R482). -/
  stop : Nat := 0
  saved : Bool := false
  ra : List RaDesc := []
  /-- Run-ahead copies held (R295, R296), oldest first. -/
  copies : List RaCopy := []
  deriving DecidableEq, Repr, Inhabited

/-! ### Signal stores -/

/-- A signal word (R311); MONITOR is derived from the monitor table. -/
structure SigWord where
  count : Nat := 0
  ovf : Bool := false
  owner : Nat := 0x3F
  deriving DecidableEq, Repr, Inhabited

/-- A monitor entry (R323): word of the hall, target, and the waiter, a core's gate or its SWAIT (gate 0). -/
structure Monitor where
  i : Nat
  target : Nat
  u : Nat
  g : Nat
  deriving DecidableEq, Repr, Inhabited

/-- An operation that waits at a store (R319): a set, or an arrival, for whom (a unit's arrival on a job's behalf, R315) and over which port. -/
inductive SigOp where
  | set (i v : Nat)
  | arrive (i n : Nat) (job : Option Nat) (port : Option Nat)
  deriving DecidableEq, Repr, Inhabited

/-- The signal store of a physical hall. -/
structure SigStore where
  words : Tab SigWord := []
  mons : List Monitor := []
  ops : List SigOp := []
  deriving DecidableEq, Repr, Inhabited

/-! ### Floor Plan -/

/-- A fence record (R36). -/
structure Fence where
  unit : UnitRef
  reason : Nat
  code : Nat
  gen : Nat
  time : Nat
  deriving DecidableEq, Repr, Inhabited

/-- The maps and fences of the Floor Plan, as its seed records them (R635). Unlisted entries are those of a module as shipped. -/
structure Maps where
  /-- Hall state by physical hall: 0 active, 1 standby, 2 fenced; logical hall, 0xFF none. -/
  hallSt : Tab Nat := []
  hallLog : Tab Nat := []
  coreSt : Tab Nat := []
  slot : Tab Nat := []
  outLane : Tab Nat := []
  outStacks : List Nat := []
  ports : List Nat := []
  links : List Nat := []
  fences : List Fence := []
  deriving DecidableEq, Repr, Inhabited

/-- The Floor Plan in service (R31, R32, R39, R40). -/
structure Plan where
  maps : Maps := {}
  gen : Nat := 0
  updating : Bool := false
  built : Bool := false
  body : List Byte := []
  entries : Nat := 0
  hash : List Byte := []
  /-- Changes since the first publication (R583 GEN). -/
  changes : Nat := 0
  /-- Fences, releases and link changes that the next change carries (R41). -/
  pendF : List Fence := []
  pendR : List UnitRef := []
  dirty : Bool := false
  /-- Standby units that passed their test for a pending remap (R570). -/
  sbOk : List UnitRef := []
  deriving DecidableEq, Repr, Inhabited

/-! ### Jobs -/

/-- An event record that waits to be written (R485). -/
structure Ev where
  type : Nat
  job : Nat := 0xFF
  attempt : Nat := 0
  step : Nat := 0
  tag : Nat := 0
  code : Nat := 0
  unitKind : Nat := 0xFF
  unit : Nat := 0xFFFFFFFF
  addr : Nat := 0
  detail : List Byte := []
  deriving DecidableEq, Repr, Inhabited

/-- A queued step (R473): number, micro-batches, batch list, the command's TAG, and how far its batch is: 0 not begun, 1 list requested,
2 batches requested, 3 in memory; the bytes still to come, and the list as it arrives. -/
structure StepReq where
  n : Nat
  nmicro : Nat
  list : Nat
  nbatch : Nat
  tag : Nat
  batch : Nat := 0
  left : Nat := 0
  buf : Mem := {}
  deriving DecidableEq, Repr, Inhabited

/-- A checkpoint (R481): 0 pending, 1 list requested, 2 streaming, 3 every region read and sent; list bytes still to come, the list as it
arrives, and the regions left as source, destination and length. -/
structure Ckpt where
  atStep : Nat
  list : Nat
  nreg : Nat
  tag : Nat
  notify : Bool
  phase : Nat := 0
  left : Nat := 0
  buf : Mem := {}
  regions : List (Nat × Nat × Nat) := []
  deriving DecidableEq, Repr, Inhabited

/-- A job of the step sequencer. -/
structure Job where
  /-- JOB_STAT: 0 free, 1 starting, 2 running, 3 held, 4 preempting, 5 preempted, 6 ending (R488). -/
  st : Nat := 0
  /-- The descriptor (R469), its command's TAG and NOTIFY, and the image of each global logical core it names. -/
  desc : List Byte := []
  images : Tab Nat := []
  step : Nat := 0
  attempt : Nat := 0
  micro : Nat := 0
  /-- Where the attempt stands in R474: 0 no attempt, 1 started, 2 a micro-batch runs, 3 all ended, 4 STEP_READY sent, 5 granted. -/
  phase : Nat := 0
  cur : Option StepReq := none
  queue : List StepReq := []
  /-- TAINT_CAUSE of the current attempt (R480, R486), and the fault code of an image fault, a vacant slot or a table error that holds the
  attempt, 0 none (R479); the code of a hold at the next step boundary, 0 none (R267, R568). -/
  taint : Nat := 0
  hold : Nat := 0
  bound : Nat := 0
  /-- The engines have latched the update tables for the current step (R435, R438). -/
  latched : Bool := false
  /-- An APPLY kept until step 4 (R476). -/
  kept : Bool := false
  /-- Steps committed since the job started, the last of them, and whether one was. -/
  lastDone : Option Nat := none
  sigImage : Tab SigWord := []
  ckpts : List Ckpt := []
  /-- REIMAGE waiting for its point (R472): the new descriptor, its images by global core, TAG and NOTIFY. -/
  reimage : Option (List Byte × Tab Nat × Nat × Bool) := none
  /-- PREEMPT waiting (R482): mode, TAG, NOTIFY. -/
  preempt : Option (Nat × Nat × Bool) := none
  /-- A signal record was written at the preemption (R340), and the state to which RESUME returns. -/
  sigSaved : Bool := false
  resumeSt : Nat := 0
  /-- Global logical cores whose contexts the preemption saved, and whether a save faulted, so that saved cores stay stopped (R482). -/
  saved : List Nat := []
  stuck : Bool := false
  /-- A verdict of REPEAT or SKIP is being carried out (R478): 2 or 3. -/
  verdict : Nat := 0
  /-- The barrier of the micro-batch in control island cycles (R511): its start, the first END, and the last END by physical hall. -/
  mStart : Nat := 0
  mFirst : Option Nat := none
  mLast : Tab Nat := []
  /-- Consecutive barriers over the threshold by physical hall, the MHz that LEVEL asks of a hall for this job, and the barriers below half
  the threshold since (R511–R513). -/
  paceLate : Tab Nat := []
  paceSet : Tab Nat := []
  paceCalm : Nat := 0
  /-- A weight was written poisoned or sent as NaN in the step (R560). -/
  repair : Bool := false
  /-- Landing window in effect (R256), and LAND_STAT (R262). -/
  landBase : Nat := 0
  landDir : Nat := 0
  landBusy : Bool := false
  landFull : Bool := false
  landSweep : Bool := false
  /-- The landing unit's record cache (R247): records by number with their 32 bytes, oldest first. -/
  landRecs : List (Nat × List Byte) := []
  deriving DecidableEq, Repr, Inhabited

/-- A read of control-node memory (R473, R481): 0 batch list, 1 batch, 2 checkpoint region list, for a job's step `n`; source, destination
(in job memory, or in the list) and length. -/
structure FoyRd where
  kind : Nat
  job : Nat
  n : Nat
  src : Nat
  dst : Nat
  len : Nat
  deriving DecidableEq, Repr, Inhabited

/-! ### Ports and links (the Foyer link is port 6, link 0) -/

/-- A packet to send: its header (R352, R461), payload, and the job it is sent for. PSN is in the header once it is assigned. -/
structure Pkt where
  hdr : Nat
  payload : List Byte := []
  job : Nat := 0xFF
  deriving DecidableEq, Repr, Inhabited

/-- A block of a link (R348, R349): its header fields and its 640 bytes. -/
structure Block where
  btype : Nat
  seq : Nat
  first : Nat
  bytes : List Byte
  deriving DecidableEq, Repr, Inhabited

/-- A DATA block that the peer has not acknowledged, and the packets whose last unit it carries (R357, R362). -/
structure Sent where
  block : Block
  pkts : List Pkt
  deriving DecidableEq, Repr, Inhabited

/-- A remote signal held or ready for release (R332). -/
structure Held where
  cls : Nat
  word : Nat
  job : Nat
  tally : Nat
  add : Nat
  deriving DecidableEq, Repr, Inhabited

/-- A link (R349, R358–R369, R377). -/
structure Link where
  /-- STATE: 0 active, 2 fenced, 4 in test, 5 training, 6 down. -/
  st : Nat := 6
  fecLock : Bool := false
  laneLock : Nat := 0
  prbsLock : Nat := 0
  polarity : Nat := 0
  laneMap : Nat := 0xE4
  fails : Nat := 0
  testRefused : Bool := false
  /-- Training step of R367, 0 none; a valid TRAIN block of the peer has been seen. -/
  step : Nat := 0
  peerSeen : Bool := false
  /-- A test entry waits for acknowledgements (R363); the test is the peer's; the test runs; it is a local loopback; its pattern (R372). -/
  draining : Bool := false
  peerTest : Bool := false
  testRun : Bool := false
  loop : Bool := false
  pattern : Nat := 0
  /-- The peer's link number (R368, R636). -/
  peerLink : Nat := 0
  /-- SEQ of the next DATA block, and the blocks not acknowledged, oldest first. -/
  txSeq : Nat := 0
  unacked : List Sent := []
  /-- Units assigned to the link that fill no block yet, the first header among them in 16-byte units, 63 none, and the packets whose last unit is
  among them (R350, R365). -/
  part : List Byte := []
  partFirst : Nat := 63
  partPk : List Pkt := []
  /-- The blocks that the link sent last, in order. -/
  tx : List Block := []
  /-- The last DATA block received good in order (8191, which stands for -1, before the first), whether blocks are ignored until its successor, and
  the NAK run (R362, R363). -/
  rxSeq : Nat := 8191
  ignoring : Bool := false
  nakSeq : Nat := 0
  nakRun : Nat := 0
  /-- DATA blocks received since the last LINK packet was sent (R361). -/
  rxCount : Nat := 0
  /-- Unused credit at the peer per class, the peer's last cumulative count, the units freed here, the count last told to the peer, and the units in
  the receive buffer (R358, R359, R361). -/
  credit : Tab Nat := []
  peerFreed : Tab Nat := []
  freed : Tab Nat := []
  told : Tab Nat := []
  rxHeld : Tab Nat := []
  deriving DecidableEq, Repr, Inhabited

/-- A port (R330–R335, R355, R356, R360, R365, R376). -/
structure Port where
  /-- Next PSN; the highest PSN received and the PSNs of the record. -/
  psn : Nat := 0
  rxHigh : Option Nat := none
  rxSeen : List Nat := []
  /-- Packets that wait, in the order produced, and packets to send again, in PSN order. -/
  q : List Pkt := []
  again : List Pkt := []
  /-- Signal credits per class: unused, the peer's last cumulative count, returned here, and the count last told to the peer (R360, R361). -/
  sigCredit : Tab Nat := []
  peerSig : Tab Nat := []
  sigRet : Tab Nat := []
  sigTold : Tab Nat := []
  /-- The class served last (R365), and the RJID of the context that the port's Arcade served last (R405). -/
  rr : Nat := 3
  turn : Nat := 63
  held : List Held := []
  ready : List Held := []
  /-- ALLOC_ERR, and the shares granted at the last training (R371). -/
  allocErr : Bool := false
  alloc : Nat := 0x20202020
  deriving DecidableEq, Repr, Inhabited

/-! ### Arcade contexts -/

/-- A bucket's progress in a context's step (R386, R403–R411, R420–R423). -/
structure Bkt where
  /-- Ready with its maps cleared; READY received from downstream, and sent upstream; pushed (R408). -/
  ready : Bool := false
  readyRx : Bool := false
  readyTx : Bool := false
  pushed : Bool := false
  /-- The own contribution is closed (R409); the bucket is closed to upstream (R410). -/
  closed : Bool := false
  upClosed : Bool := false
  /-- Blocks whose chain has taken this module's contribution, or, of the own shard, that are written (R423). -/
  marked : List Nat := []
  /-- The written gradients of own blocks, as F32 codes (R416). -/
  own : Tab (List Nat) := []
  /-- Packets that wait for READY, and partials held until the bucket is ready (R404, R409). -/
  outq : List Pkt := []
  held : List Rx := []
  /-- DONE_SIG arrived at; own blocks sent and blocks received in the all-gather; GATHER_SIG arrived at (R420–R423). -/
  done : Bool := false
  gTx : Nat := 0
  gRx : List Nat := []
  gathered : Bool := false
  deriving DecidableEq, Repr, Inhabited

/-- A context of the Arcade, loaded under its RJID (R381, R384, R428, R429). -/
structure Ctx where
  desc : List Byte := []
  table : List (List Byte) := []
  job : Nat := 0
  inPort : Nat := 0
  outPort : Nat := 0
  active : Bool := false
  degraded : Bool := false
  broken : Bool := false
  normDone : Bool := false
  late : Bool := false
  nf : Bool := false
  tainted : Bool := false
  /-- It has been ACTIVE since it was loaded (R637). -/
  was : Bool := false
  step : Nat := 0
  attempt : Nat := 0
  bkts : Tab Bkt := []
  /-- NORM payloads by position (R417); its own was sent; blocks counted wide this step; the record's NF flag (R418). -/
  norm : Tab (List Byte) := []
  normSent : Bool := false
  wide : Nat := 0
  nfRec : Bool := false
  /-- RC counters of the context window by offset (R428). -/
  ctr : Tab Nat := []
  deriving DecidableEq, Repr, Inhabited

/-! ### Update contexts -/

/-- Sums of squares of a factored slab by row and by column of its parameter (R442), and where they lie in a STATS partition, as hall and byte address of
its memory, when they fit there. -/
structure Sums where
  rows : Tab El := []
  cols : Tab El := []
  at_ : Option (Nat × Nat) := none
  deriving DecidableEq, Repr, Inhabited

/-- An update context of a job (R439), with the coefficient sets and the parameter table that the step runs on (R435, R438). -/
structure UCtx where
  desc : List Byte := []
  coefs : List (List Byte) := []
  table : List (List Byte) := []
  /-- Buckets whose statistics pass is done, and the sums by parameter number. -/
  stats : List Nat := []
  sums : Tab Sums := []
  /-- NORM at the grant (R446), and the step size that the engine of each physical hall latched (R449). -/
  norm : Nat := 0
  etas : Tab Reg := []
  /-- The next bucket to apply (R447), and by engine the leaf pages counted as co-located with their mirror (R452). -/
  next : Nat := 0
  coloc : Tab (List Nat) := []
  deriving DecidableEq, Repr, Inhabited

/-! ### Errors and the Porter's log -/

/-- A self-test pending or running (R563, R566): the unit, the errors counted against it (R567), the error's fault code and the attempts
that wait for it (R556). -/
structure Test where
  unit : UnitRef
  running : Bool := false
  errs : Nat := 1
  code : Nat := 0
  addr : Nat := 0
  /-- 0 a test that an error or a link failure starts; 1 RELEASE_UNIT (R543); 2 SELF_TEST (R542); 3 of a standby (R570). -/
  why : Nat := 0
  deriving DecidableEq, Repr, Inhabited

/-- Transients of a unit (R567): the module step counts at which they were counted. -/
structure Transient where
  unit : UnitRef
  steps : List Nat
  deriving DecidableEq, Repr, Inhabited

/-- A log record (R536). -/
structure LogRec where
  seq : Nat
  type : Nat
  severity : Nat
  rtc : Nat
  payload : List Byte
  deriving DecidableEq, Repr, Inhabited

/-! ### Clocks and power -/

/-- A hall's voltage and frequency (R492–R496, R515): MHz and mV; `phase` 0 at rest, 1 the clock is lowered, 2 the voltage falls, 3 the
voltage rises, 4 the clock is raised; where the clock or the voltage of the step in progress moves to; an override in force and one deferred. -/
structure Dvfs where
  cur : Nat := 0
  target : Nat := 0
  winner : Nat := 0
  volt : Nat := 0
  goal : Nat := 0
  vGoal : Nat := 0
  phase : Nat := 0
  ovr : Nat := 0
  ovrWait : Nat := 0
  deriving DecidableEq, Repr, Inhabited

/-- Input power, pins, bring-up (R605–R615, R622–R634) and power states (R504–R510). -/
structure Boot where
  /-- Input power is valid; the input protection is open; PWR_EN; the straps as sampled. -/
  vin : Bool := false
  protOpen : Bool := false
  pwrEn : Bool := false
  cool : Nat := 0
  slot : Nat := 0
  /-- Ready indications of B2 to B7, B8 done, RUNNING (B10) and commands accepted (B11). B9 is `Plan.built`. -/
  porterReady : Bool := false
  vrPgood : Bool := false
  oscReady : Bool := false
  memReady : Bool := false
  seqReady : Bool := false
  logicReady : Bool := false
  tested : Bool := false
  running : Bool := false
  accepting : Bool := false
  /-- Training attempts that failed, by stack (R627). -/
  tries : Tab Nat := []
  /-- The stages have been run again after a failure (R633); a sequencer slot has been rolled back in this bring-up (R532). -/
  retried : Bool := false
  seqRetried : Bool := false
  heldOff : Bool := false
  recovery : Bool := false
  fuseErr : Bool := false
  tripped : Bool := false
  moduleFault : Bool := false
  /-- CAUSE of the next BOOT record, and whether an entry to bring-up waits for its record (R634); a Porter restart waits for its event: 1 +
  cause of R547, 0 none. -/
  cause : Nat := 0
  entry : Bool := false
  restart : Nat := 0
  /-- The locks of R632 are set on every page. -/
  locked : Bool := false
  /-- Power state: 0 RUN, 1 IDLE, 2 DOZE, 3 SLEEP, 4 DEEP; target; the entry stage in progress, 0 none; the deepest stage completed by
  the entry; a wake that waits for the abort point. -/
  pm : Nat := 0
  target : Nat := 0
  stage : Nat := 0
  done : Nat := 0
  wake : Nat := 0
  lastDepth : Nat := 0
  lastAbort : Nat := 0
  wakeCause : Nat := 0
  /-- The exit step in progress, 0 none, and whether the exit has been retried (R510). -/
  exit : Nat := 0
  exitRetried : Bool := false
  /-- The current limiter (R502): checks in a row above 110 % of the ceiling and below the ceiling, half microseconds of stretching not yet
  counted, and whether it stretched in the power loop's period (R501). -/
  limHigh : Nat := 0
  limLow : Nat := 0
  limHalf : Nat := 0
  limSeen : Bool := false
  deriving DecidableEq, Repr, Inhabited

/-! ### The Porter -/

/-- A firmware slot of the flash (R519): the image as shipped, or the bytes written in a session; unlisted bytes are 0xFF (R529). -/
structure FwSlot where
  shipped : Bool := true
  len : Nat := 0
  bytes : Tab Byte := []
  deriving DecidableEq, Repr, Inhabited

/-- An update session (R527, R528). -/
structure Session where
  via : Transport
  kind : Nat
  len : Nat
  verified : Bool := false
  deriving DecidableEq, Repr, Inhabited

/-- The Porter, the security island and the flash. Kinds of firmware are 1 Porter, 2 sequencer; slots 0 A, 1 B. -/
structure Porter where
  /-- The boot-control record (R520, R529–R532): ACTIVE slot, kinds in TRIAL, TRIES. -/
  act : Tab Nat := []
  trial : List Nat := []
  tries : Tab Nat := []
  /-- Slots keyed 2 × kind + slot. -/
  slots : Tab FwSlot := []
  session : Option Session := none
  /-- Fused anti-rollback counters (R522); the running images' slot, SVN and VERSION; the measurements (R525). -/
  svn : Tab Nat := []
  runSlot : Tab Nat := []
  runSvn : Tab Nat := []
  runVer : Tab Nat := []
  mRom : List Byte := []
  mPorter : List Byte := []
  mSeq : List Byte := []
  /-- The Floor Plan seed (R635) and the highest recorded generation (R521); 1 as shipped (R39). -/
  seed : Maps := {}
  genRec : Nat := 1
  /-- ATTEST_STAT: 0 none, 1 forming, 2 ready; the nonce and the report (R546). -/
  attest : Nat := 0
  nonce : List Byte := []
  report : List Byte := []
  /-- Last samples by sensor with their Porter tick (R533, R534); sensors past WARN and past TRIP and not re-armed (R535). -/
  samples : Tab (Nat × Nat) := []
  overWarn : List Nat := []
  overTrip : List Nat := []
  /-- Rails past TRIP that have not fallen below WARN (R535), and stacks that were OVER_RATED and have not fallen below 100.0 °C (R499). -/
  rails : List Nat := []
  hot : List Nat := []
  /-- RTC alarm, 0 none (R542). -/
  alarm : Nat := 0
  /-- The response held for the sideband (R541): STATUS, CMD, payload; BUSY and DONE of the mailbox (R540, R548). -/
  side : Option (Nat × Nat × List Byte) := none
  mbxBusy : Bool := false
  mbxDone : Bool := false
  /-- SIG_VERIFY_COUNT (R549). -/
  sigFails : Nat := 0
  /-- A RELEASE_UNIT or SELF_TEST message that waits for its test: the transport, the CMD and the unit (R543). -/
  waits : List (Transport × Nat × UnitRef) := []
  deriving DecidableEq, Repr, Inhabited

/-- A restore copy under way (R561): port, class, the signal to send (word and peer job), and the fault it ends with. -/
structure Restore where
  port : Nat
  cls : Nat
  job : Nat
  peer : Nat
  sig : Option Nat
  fail : Nat
  deriving DecidableEq, Repr, Inhabited

/-! ### Address translation -/


/-- A cached translation of a hall (R289): a leaf by 64 KiB page, or with `big` by 2 MiB region. -/
structure XEnt where
  job : Nat
  big : Bool
  key : Nat
  leaf : Leaf
  deriving DecidableEq, Repr, Inhabited

/-- A cached level 2 pointer entry of a hall (R289), by 2 MiB region. -/
structure XPtr where
  job : Nat
  key : Nat
  ent : Nat
  deriving DecidableEq, Repr, Inhabited

/-- The invalidation under way (R290): every job, one job, or `count` regions of 2 MiB of one job. -/
structure Xinv where
  all : Bool
  range : Bool
  job : Nat
  first : Nat
  count : Nat
  deriving DecidableEq, Repr, Inhabited

/-! ### The module -/

/-- Everything of the module but the queue of waiting commands. -/
structure Device where
  /-- Configuration registers that hold plain storage, status bits and counters, by offset from CFG (R573). -/
  regs : Tab Reg := []
  /-- Page headers by page number, (offset from CFG) / 0x1000 (R582). -/
  hdrs : Tab Hdr := []
  /-- The value that the last configuration read of each source returned (R576). -/
  readOut : Tab Reg := []
  /-- Stack memory by physical address (R266), and the memory of each physical hall (R279). -/
  stack : Mem := {}
  hmem : Tab Mem := []
  cores : Tab Core := []
  sigs : Tab SigStore := []
  plan : Plan := {}
  jobs : Tab Job := []
  /-- Event records held (R465, R485), the records lost since the last LOST record, the SEQ of the last one written, and whether EVT_BASE and
  EVT_SIZE have been written (R631). -/
  evQ : List Ev := []
  evLost : Nat := 0
  evSeq : Nat := 0
  evBaseSet : Bool := false
  evSizeSet : Bool := false
  /-- Reads of control-node memory to request, those requested by tag, and the bytes charged to batches and checkpoints while both have work
  (R464). -/
  rdTodo : List FoyRd := []
  rdOut : Tab FoyRd := []
  vc1B : Nat := 0
  vc1C : Nat := 0
  links : Tab Link := []
  ports : Tab Port := []
  ctxs : Tab Ctx := []
  /-- Update contexts by job, and the step-size words, keyed 2 × job + parity, that held a value that is not finite and wait for a new
  write (R450). -/
  uctx : Tab UCtx := []
  etaBad : List Nat := []
  /-- REDUCE packets held for contexts that are loaded and not active (R637), oldest first. -/
  reduceHeld : List Rx := []
  /-- Translation caches of the physical halls, oldest entry first, and the invalidation under way (R289, R290). -/
  xcache : Tab (List XEnt) := []
  xptr : Tab (List XPtr) := []
  xinv : Option Xinv := none
  /-- Stacks that refresh at the doubled rate (R276). -/
  refresh2 : List Nat := []
  /-- Watch filters of stack s for hall h, keyed s × 18 + h: 4 KiB block numbers, oldest first (R297). -/
  watch : Tab (List Nat) := []
  /-- Self-tests pending and running in the order logged, and transient counts (R566, R567). -/
  tests : List Test := []
  transients : List Transient := []
  /-- The log's SRAM front and its flash ring, and the SEQ of the next record (R536, R538). -/
  logFront : List LogRec := []
  logRing : List LogRec := []
  logNext : Nat := 0
  /-- Clocks, power, pins and bring-up; the Porter; a restore copy. -/
  dvfs : Tab Dvfs := []
  boot : Boot := {}
  porter : Porter := {}
  restore : Option Restore := none
  /-- The model's own: idle steps taken (DESIGN CHOICE, notes/assumptions/3.md). -/
  now : Nat := 0
  /-- The model's own: the number of the next free value (DESIGN CHOICE, notes/assumptions/2.md). -/
  free : Nat := 0
  deriving DecidableEq, Repr, Inhabited

/-- The state: the commands that wait, first in, first out, and the module. -/
structure State where
  pending : List Instr
  dev : Device
  deriving DecidableEq, Repr

/-- The module right after reset (R8 tables; every table is empty, so that each register reads as its reset value). (DESIGN CHOICE, notes/assumptions/1.md.) (DESIGN CHOICE, notes/assumptions/15.md.) -/
def State.reset : State := { pending := [], dev := {} }

end Sys2Proof.Machine
end

