-- ==== Sys2Proof/WellFormed.lean ====
section
/-!
DEFINITION. Which commands name units and registers that exist (R18, R20, R266, R573). A command that is not well formed names none,
and the block stops on it by the fault noSuchUnit.
-/
namespace Sys2Proof

/-- A link of a Harlon port, or the Foyer link as port 6, link 0 (R460). -/
def linkWf (p l : Nat) : Bool := (p < 6 && l < 4) || (p == 6 && l == 0)

/-- The link of a received packet exists, and its block number is one (R349). -/
def Rx.wf (r : Rx) : Bool := r.port < 6 && r.link < 4 && r.seq < 4096

/-- A unit of R36 that the module has; fields that its kind does not use are zero. -/
def UnitRef.wf (r : UnitRef) : Bool :=
  match r.kind with
  | 0 => r.a < 18 && r.b < 48 && r.q < 4 && r.lane < 33
  | 1 => r.a < 18 && r.b < 48 && r.q == 0 && r.lane == 0
  | 2 => r.a < 18 && r.b == 0 && r.q == 0 && r.lane == 0
  | 3 => r.a < 16 && r.b == 0 && r.q == 0 && r.lane == 0
  | 4 => r.a < 6 && r.b == 0 && r.q == 0 && r.lane == 0
  | 5 => r.a < 6 && r.b < 4 && r.q == 0 && r.lane == 0
  | _ => false

/-- Every operand of the command names something that exists. -/
def Instr.wf : Instr → Bool
  | .alu u => u < 864
  | .alui u => u < 864
  | .li u => u < 864
  | .ld u => u < 864
  | .st u => u < 864
  | .br u => u < 864
  | .jal u => u < 864
  | .jalr u => u < 864
  | .csrr u => u < 864
  | .fence u => u < 864
  | .safept u => u < 864
  | .endProg u => u < 864
  | .nop u => u < 864
  | .tcfg u => u < 864
  | .tcfgApply u => u < 864
  | .tclr u => u < 864
  | .tdead u => u < 864
  | .wld u => u < 864
  | .wldStart u mode _ => u < 864 && mode < 3
  | .wldReady u mode => u < 864 && mode < 3
  | .mma u => u < 864
  | .bankSwap u mode _ => u < 864 && mode < 3
  | .passComplete u mode => u < 864 && mode < 3
  | .accdrain u => u < 864
  | .drainComplete u => u < 864
  | .accClearDone u => u < 864
  | .vbin u => u < 864
  | .vfma u => u < 864
  | .vun u => u < 864
  | .vscal u => u < 864
  | .vfn u => u < 864
  | .vdfn u => u < 864
  | .vred u => u < 864
  | .vste u => u < 864
  | .vectorComplete u => u < 864
  | .ftld u => u < 864
  | .ftinv u => u < 864
  | .sxfer u => u < 864
  | .sarr u => u < 864
  | .sset u => u < 864
  | .swait u => u < 864
  | .sgate u => u < 864
  | .sread u => u < 864
  | .instrFire u i => u < 864 && i < 16
  | .xferComplete u i => u < 864 && i < 8
  | .landingPlace u i _ => u < 864 && i < 8
  | .landCtrlReset j => j < 16
  | .landingReset j => j < 16
  | .contextSave u => u < 864
  | .contextRestore u _ _ => u < 864
  | .arrSteerWrite u _ => u < 864
  | .steerApply u => u < 864
  | .stackRead a len job => a + len ≤ 2 ^ 39 && job.all (· < 16)
  | .stackWriteAccept a data _ => a + data.length ≤ 2 ^ 39
  | .stackRefresh stk => stk < 16
  | .stackTempSample stk _ _ => stk < 16
  | .runaheadFetch u k => u < 864 && k < 4
  | .xinvAllJobs => true
  | .xinvJob j => j < 16
  | .xinvRange j => j < 16
  | .xinvComplete => true
  | .sigStoreApply h n => h < 18 && n ≤ 4
  | .sigPoll u g => u < 864 && g < 16
  | .sigWindowSet src h i _ => src < 3 && h < 18 && i < 512
  | .signalRx rx => rx.wf
  | .remoteSignalRelease p cls => p < 6 && cls < 4
  | .writeRx rx => rx.wf
  | .writeErrRx rx => rx.wf
  | .linkPacketRx p l _ => linkWf p l
  | .badBlock p l _ => linkWf p l
  | .packetSend p => p < 7
  | .trainBlockRx p l block => linkWf p l && block.length == 640
  | .trainStepTimeout p l => linkWf p l
  | .linkSilenceTimeout p l => linkWf p l
  | .laneLockLoss p l lane => linkWf p l && lane < 4
  | .laneLockRegained p l => linkWf p l
  | .retrain p l => p < 6 && l < 4
  | .testReq p l _ => p < 6 && l < 4
  | .testForce p l _ => p < 6 && l < 4
  | .testEnd p l => p < 6 && l < 4
  | .testAnswerTimeout p l => p < 6 && l < 4
  | .ctxLoad p rjid job => p < 6 && rjid < 64 && job < 16
  | .ctxUnload p rjid => p < 6 && rjid < 64
  | .ctxCmdReserved p => p < 6
  | .bucketReady rjid n => rjid < 64 && n < 256
  | .readyRx rx => rx.wf
  | .chainStart rjid n _ => rjid < 64 && n < 256
  | .partialRx rx => rx.wf
  | .deadlineTaint rjid wait n => rjid < 64 && wait < 5 && n < 256
  | .pushedSend rjid n => rjid < 64 && n < 256
  | .upstreamRestart rjid n => rjid < 64 && n < 256
  | .emptyBlockWrite rjid n => rjid < 64 && n < 256
  | .normSend rjid => rjid < 64
  | .normRx rx => rx.wf
  | .gatherSend rjid n => rjid < 64 && n < 256
  | .gatherRx rx => rx.wf
  | .uctxLoad j => j < 16
  | .uctxUnload j => j < 16
  | .uctxCmdReserved j => j < 16
  | .statsPass j n => j < 16 && n < 256
  | .applyGrant j => j < 16
  | .etaLatch j h _ => j < 16 && h < 18
  | .etaWordWrite src j _ _ => src < 3 && j < 16
  | .applyBucket j n => j < 16 && n < 256
  | .foyerWrRx _ _ => true
  | .foyerRdRx _ => true
  | .foyerCplRx _ _ => true
  | .doorbell r _ => r < 17
  | .jobStart => true
  | .jobEnd => true
  | .preemptBoundary => true
  | .preemptSafept => true
  | .preempted j => j < 16
  | .resume => true
  | .stepCmd j => j < 16
  | .checkpoint j => j < 16
  | .ckptDone j => j < 16
  | .reimage j => j < 16
  | .cmdReserved r => r < 17
  | .batchFetch j => j < 16
  | .attemptStart j => j < 16
  | .microBatchStart j => j < 16
  | .microBatchDone j => j < 16
  | .stepReady j => j < 16
  | .verdictApply src j attempt => src < 3 && j < 16 && attempt < 16
  | .verdictRepeat src j attempt => src < 3 && j < 16 && attempt < 16
  | .verdictSkip src j attempt => src < 3 && j < 16 && attempt < 16
  | .verdictNone src j attempt => src < 3 && j < 16 && attempt < 16
  | .stepCommit j => j < 16
  | .eventRecordWrite => true
  | .evtBaseWrite _ => true
  | .evtSizeWrite _ => true
  | .evtHeadWrite _ => true
  | .ringSizeWrite r _ => r < 17
  | .dvfsRequest h who _ => h < 18 && who < 4
  | .dvfsStepDone h => h < 18
  | .voltOvrWrite h _ => h < 18
  | .thermTargetWrite _ => true
  | .thermalLoop => true
  | .powerLoop watts => watts < 65536
  | .currentLimiterCheck watts => watts < 65536
  | .thermalTrip sensor _ => sensor < 38
  | .pmEntryStart => true
  | .pmStageDone => true
  | .pmWake cause => 1 ≤ cause && cause ≤ 6
  | .pmExitStep => true
  | .pmExitTimeout => true
  | .paceJobWrite h _ => h < 18
  | .watchdogRestart => true
  | .porterReadyTimeout => true
  | .getStatus _ _ => true
  | .alertAck _ _ => true
  | .readSensor _ _ _ => true
  | .setChassisTemp _ _ => true
  | .readLog _ _ => true
  | .wakeMsg _ _ => true
  | .resetModule _ _ => true
  | .setRtc _ _ => true
  | .setAlarm _ _ => true
  | .fwBegin _ _ => true
  | .fwData _ _ => true
  | .fwVerify _ _ => true
  | .fwActivate _ _ => true
  | .fwCommit _ _ => true
  | .fwSessionTimeout => true
  | .getIdentity _ _ => true
  | .attestReq _ _ => true
  | .attestReady => true
  | .attestRead _ _ => true
  | .fenceUnit _ _ => true
  | .releaseUnit _ _ => true
  | .selfTest _ _ => true
  | .unknownCmd _ _ _ => true
  | .sensorConversion i _ => i < 256
  | .logFlush => true
  | .rtcAlarm => true
  | .selfTestStart unit => unit.wf
  | .selfTestEnd unit _ => unit.wf
  | .floorPlanChange => true
  | .restoreCopy _ => true
  | .restoreCopyDone => true
  | .repairHoldClear _ => true
  | .blkEnable src page _ => src < 3 && page < 4096
  | .softReset src page => src < 3 && page < 4096
  | .softResetDone page => page < 4096
  | .blkFence src page _ => src < 3 && page < 4096
  | .lockPage src page => src < 3 && page < 4096
  | .errorClear src page => src < 3 && page < 4096
  | .reg64LoWrite src off _ => src < 3 && off < 2 ^ 24 && off % 4 == 0
  | .reg64HiCommit src off _ => src < 3 && off < 2 ^ 24 && off % 4 == 0
  | .dbgRead => true
  | .dbgWrite => true
  | .registerWrite src off _ => src < 3 && off < 2 ^ 24 && off % 4 == 0
  | .powerApply _ _ => true
  | .powerLoss => true
  | .overvoltageShutdown => true
  | .inputProtectionOpen => true
  | .pwrEnRise => true
  | .pwrEnFall => true
  | .modResetN => true
  | .wakeN => true
  | .porterBoot _ => true
  | .mainRails => true
  | .oscStart => true
  | .stackTrain stk _ => stk < 16
  | .seqImageLoad => true
  | .logicRelease => true
  | .powerOnSelfTest fails _ => fails.all UnitRef.wf
  | .floorPlanBuild => true
  | .seqInit => true
  | .commandsAccepted => true
  | .seqRunningTimeout => true
  | .stageFailure stage => 3 ≤ stage && stage ≤ 7
  | .trainStepDone p l _ _ => linkWf p l
  | .testEntryAckTimeout p l => p < 6 && l < 4
  | .rcRead src off => src < 3 && off < 2 ^ 24 && off % 4 == 0

end Sys2Proof
end

