-- ==== Sys2Proof/Machine/Ops.lean ====
section
/-!
DEFINITION. The named operations over memory, registers, page headers, events, taints and address translation.
A block has no exception entry: a fault of a core is an effect on its state (`coreFault`, R139, R178).
-/
namespace Sys2Proof.Machine

/-! ### Bytes with parity -/

/-- The byte at an address; a byte that nothing has written reads zero (DESIGN CHOICE, notes/assumptions/5.md). -/
def Mem.get (m : Mem) (a : Nat) : Byte := tget 0 m.cells a

/-- The byte at an address becomes `v`; the form stays canonical. -/
def cellPut : List Host.Cell → Nat → Byte → List Host.Cell
  | [], a, v => if v = 0 then [] else [(a, v)]
  | (b, w) :: t, a, v =>
    if a < b then (if v = 0 then (b, w) :: t else (a, v) :: (b, w) :: t)
    else if a = b then (if v = 0 then t else (a, v) :: t)
    else (b, w) :: cellPut t a v

/-- A byte written with good parity. -/
def Mem.put (m : Mem) (a : Nat) (v : Byte) : Mem := { cells := cellPut m.cells a v, bad := ndel m.bad a, ups := ndel m.ups a }

/-- A byte written with inverted parity. -/
def Mem.putBad (m : Mem) (a : Nat) (v : Byte) : Mem := { cells := cellPut m.cells a v, bad := nins m.bad a, ups := ndel m.ups a }

/-- The bytes of a range in address order. -/
def Mem.read (m : Mem) (a : Nat) : Nat → List Byte
  | 0 => []
  | n + 1 => m.get a :: m.read (a + 1) n

/-- Bytes written in address order with good parity. -/
def Mem.write (m : Mem) (a : Nat) : List Byte → Mem
  | [] => m
  | v :: t => (m.put a v).write (a + 1) t

/-- Bytes written in address order; an offset that `bad` holds of is written poisoned. -/
def Mem.writeP (m : Mem) (a : Nat) : List (Byte × Bool) → Mem
  | [] => m
  | (v, b) :: t => (if b then m.putBad a v else m.put a v).writeP (a + 1) t

/-- Whether a byte's parity is inverted. -/
def Mem.isBad (m : Mem) (a : Nat) : Bool := m.bad.contains a

/-- Whether a range holds a byte with inverted parity. -/
def Mem.anyBad (m : Mem) (a n : Nat) : Bool := m.bad.any (fun b => a ≤ b && b < a + n)

/-- The bytes of a range whose parity fails without being poison. -/
def Mem.failing (m : Mem) (a n : Nat) : List Nat := m.ups.filter (fun b => a ≤ b && b < a + n)

/-- A byte's parity fails from now on (R550). -/
def Mem.strike (m : Mem) (a : Nat) : Mem := { m with bad := nins m.bad a, ups := nins m.ups a }

/-- What a scalar read of a range meets: PARITY, POISON, or 0 (R552, R553). -/
def Mem.flaw (m : Mem) (a n : Nat) : Nat := if !(m.failing a n).isEmpty then 9 else if m.anyBad a n then 10 else 0

/-- The bytes of a range with their poison. -/
def Mem.readP (m : Mem) (a n : Nat) : List (Byte × Bool) :=
  (List.range n).map (fun i => (m.get (a + i), m.isBad (a + i)))

/-- A range filled with zero bytes of good parity. -/
def Mem.zero (m : Mem) (a n : Nat) : Mem :=
  { cells := m.cells.filter (fun c => !(a ≤ c.1 && c.1 < a + n)), bad := m.bad.filter (fun b => !(a ≤ b && b < a + n))
    ups := m.ups.filter (fun b => !(a ≤ b && b < a + n)) }

/-- The part of a memory in a range. -/
def Mem.cut (m : Mem) (a n : Nat) : Mem :=
  { cells := m.cells.filter (fun c => a ≤ c.1 && c.1 < a + n), bad := m.bad.filter (fun b => a ≤ b && b < a + n)
    ups := m.ups.filter (fun b => a ≤ b && b < a + n) }

/-- A list of bytes as a memory from address 0. -/
def Mem.ofBytes (bs : List Byte) : Mem := Mem.write {} 0 bs

/-- Strictly rising numbers. -/
def rising : List Nat → Bool
  | [] => true
  | x :: t => t.all (fun y => x < y) && rising t

/-- The canonical form: addresses strictly rise and no listed byte is zero. -/
def Mem.wf (m : Mem) : Bool := rising (tkeys m.cells) && m.cells.all (fun c => c.2 != 0) && rising m.bad && rising m.ups

/-- A little-endian number of `n` bytes (R6). -/
def Mem.num (m : Mem) (a n : Nat) : Nat := ofLE (m.read a n)

/-! ### Configuration addresses (R578–R580), as offsets from CFG -/

def hallPage (h : Nat) : Nat := 0x100000 + h * 0x40000
def corePage (u : Nat) : Nat := hallPage (u / 48) + 0x1000 + (u % 48) * 0x1000
def updPage (h : Nat) : Nat := hallPage h + 0x31000
def pacePage (h : Nat) : Nat := hallPage h + 0x32000
def hmemPage (h : Nat) : Nat := hallPage h + 0x33000
def scPage (s : Nat) : Nat := 0x800000 + s * 0x1000
def portPage (p : Nat) : Nat := 0x900000 + p * 0x10000
def linkPage (p l : Nat) : Nat := portPage p + 0x1000 + l * 0x1000
def arcPage (p : Nat) : Nat := portPage p + 0x8000
def devPage (n : Nat) : Nat := 0x10000 + n * 0x1000
def foyPage : Nat := 0xA00000
def seqPage (n : Nat) : Nat := 0xB00000 + n * 0x1000
def pwrPage (n : Nat) : Nat := 0xC00000 + n * 0x1000
def porterPage : Nat := 0xD00000
def secPage : Nat := 0xE00000
def dbgPage : Nat := 0xF00000
/-- The windows of a job: its job window, landing window, signal register and update window (R488, R261, R346, R458). -/
def jobWin (j : Nat) : Nat := seqPage 1 + 0x100 + j * 0x20
def landWin (j : Nat) : Nat := seqPage 2 + 0x100 + j * 0x40
def sigJob (j : Nat) : Nat := seqPage 3 + 0x100 + j * 4
def updWin (j : Nat) : Nat := seqPage 4 + 0x100 + j * 0x40

/-- The reset value of a stored register (the Reset columns of the register tables). Registers not listed reset to zero. -/
def regReset (off : Nat) : Nat :=
  let p := off / 0x1000
  let r := off % 0x1000
  if p == 0xB02 then (if 0x100 ≤ r && r < 0x500 && (r - 0x100) % 0x40 == 0x1C then 1 else 0)
  else if p == 0xA00 then
    (if r == 0x104 then 1 else if r == 0x108 then 0x0101 else if r == 0x118 then 0x40
     else if 0x200 ≤ r && r < 0x310 && r % 0x10 == 8 then 0x10 else 0)
  else if p == 0xB04 then
    (if 0x100 ≤ r && r < 0x500 then
       (let w := (r - 0x100) % 0x40
        if w == 0x14 || w == 0x20 then 0xFFFFFFFF else 0) else 0)
  else if p == 0xC00 then (if r == 0x108 then 2 else if r == 0x120 then 0x17C else 0)
  else if p == 0xC01 then (if 0x400 ≤ r && r < 0x440 then 0x00330300 else 0)
  else if p == 0xD00 then (if r == 0x10C then 0x1FF else 0)
  else if 0x900 ≤ p && p < 0x960 then
    (if p % 0x10 == 0 then (if r == 0x104 then 3 else if r == 0x108 then 0x20202020 else 0)
     else 0)
  else 0

/-- A stored register as a number. -/
def getR (d : Device) (off : Nat) : Nat :=
  match d.regs.find? (fun e => e.1 == off) with
  | some e => e.2.toNat
  | none => regReset off

def setR (d : Device) (off v : Nat) : Device := { d with regs := tset d.regs off (BitVec.ofNat 32 v) }

/-- A 64-bit pair by its LO half (R593). -/
def get64 (d : Device) (off : Nat) : Nat := getR d off + 2 ^ 32 * getR d (off + 4)
def set64 (d : Device) (off v : Nat) : Device := setR (setR d off (v % 2 ^ 32)) (off + 4) (v / 2 ^ 32)

/-- An RC counter counts up and stops at 0xFFFF_FFFF (R118). -/
def bump (d : Device) (off n : Nat) : Device :=
  if n = 0 then d else setR d off (min (getR d off + n) 0xFFFFFFFF)

/-- A 64-bit counter wraps at 2⁶⁴ (R118). -/
def bump64 (d : Device) (off n : Nat) : Device :=
  if n = 0 then d else set64 d off ((get64 d off + n) % 2 ^ 64)

/-! ### Page headers (R582–R585) -/

def hdr (d : Device) (page : Nat) : Hdr := tget {} d.hdrs page
def setHdr (d : Device) (page : Nat) (h : Hdr) : Device := { d with hdrs := tset d.hdrs page h }

/-- A bit of BLK_EVT is set (R590). `off` is the page's offset. -/
def setEvt (d : Device) (off n : Nat) : Device :=
  let h := hdr d (off / 0x1000)
  setHdr d (off / 0x1000) { h with evt := h.evt ||| BitVec.ofNat 32 (2 ^ n) }

/-- An error is recorded in a page's header (R584). -/
def recordErr (d : Device) (off code addr : Nat) : Device :=
  let h := hdr d (off / 0x1000)
  let cnt := BitVec.ofNat 32 (min (h.errCount.toNat + 1) 0xFFFFFFFF)
  if bit h.evt.toNat 0 then setHdr d (off / 0x1000) { h with errCount := cnt }
  else setHdr d (off / 0x1000)
    { h with errCount := cnt, errCode := code, errAddr := BitVec.ofNat 64 addr, evt := h.evt ||| 1 }

/-! ### Units -/

def core (d : Device) (u : Nat) : Core := tget {} d.cores u
def setCore (d : Device) (u : Nat) (c : Core) : Device := { d with cores := tset d.cores u c }
def sigStore (d : Device) (h : Nat) : SigStore := tget {} d.sigs h
def setSig (d : Device) (h : Nat) (s : SigStore) : Device := { d with sigs := tset d.sigs h s }
def job (d : Device) (j : Nat) : Job := tget {} d.jobs j
def setJob (d : Device) (j : Nat) (x : Job) : Device := { d with jobs := tset d.jobs j x }
def hmem (d : Device) (h : Nat) : Mem := tget {} d.hmem h
def setHmem (d : Device) (h : Nat) (m : Mem) : Device := { d with hmem := tset d.hmem h m }

/-- A value that the spec leaves open (DESIGN CHOICE, notes/assumptions/2.md). -/
def freeVal (d : Device) : Word × Device := (Config.free d.free, { d with free := d.free + 1 })

/-! ### The maps of the Floor Plan (R18–R27, R635) -/

/-- Hall state: 0 active, 1 standby, 2 fenced; a module as shipped has H16 and H17 standby (DESIGN CHOICE, notes/assumptions/6.md). -/
def Maps.hallState (m : Maps) (h : Nat) : Nat := tget (if h < 16 then 0 else 1) m.hallSt h
/-- Logical hall of a physical hall, 0xFF none. -/
def Maps.logical (m : Maps) (h : Nat) : Nat := tget (if h < 16 then h else 0xFF) m.hallLog h
/-- Physical hall of a logical hall, if one holds it. -/
def Maps.physical (m : Maps) (lh : Nat) : Option Nat := (List.range 18).find? (fun h => m.logical h == lh)
/-- Core state: 0 active, 1 standby, 2 fenced; a module as shipped has cores 44–47 of each hall standby. -/
def Maps.coreState (m : Maps) (u : Nat) : Nat := tget (if u % 48 < 44 then 0 else 1) m.coreSt u
/-- Logical slot of a core, 0xFF none. -/
def Maps.slotOf (m : Maps) (u : Nat) : Nat := tget (if u % 48 < 44 then u % 48 else 0xFF) m.slot u
/-- Physical core of a logical slot of a physical hall. -/
def Maps.coreAt (m : Maps) (h slot : Nat) : Option Nat :=
  ((List.range 48).find? (fun c => m.slotOf (h * 48 + c) == slot)).map (fun c => h * 48 + c)
/-- The physical core of a global logical core (R20). -/
def Maps.globalCore (m : Maps) (g : Nat) : Option Nat := (m.physical (g / 44)).bind (fun h => m.coreAt h (g % 44))
/-- The global logical core index of a core that holds a slot (R20). -/
def Maps.globalOf (m : Maps) (u : Nat) : Nat := m.logical (u / 48) * 44 + m.slotOf u
/-- The lane out of service of quarter `q` of core `u`, 32 when all are good (R36). -/
def Maps.lane (m : Maps) (u q : Nat) : Nat := tget 32 m.outLane (u * 4 + q)

/-! ### Events, taints, log and self-tests -/

/-- An event record is held for the event ring; at most 256 are held, further ones are counted (R465, R485). (DEDUCED, notes/assumptions/67.md.) -/
def pushEv (d : Device) (e : Ev) : Device :=
  if d.evQ.length < 256 then { d with evQ := d.evQ ++ [e] } else bump { d with evLost := d.evLost + 1 } (foyPage + 0x124) 1

/-- An event of a job, with its step and attempt. -/
def jobEv (d : Device) (j type code : Nat) (addr : Nat := 0) (detail : List Byte := []) : Device :=
  pushEv d { type := type, job := j, attempt := (job d j).attempt, step := (job d j).step, code := code, addr := addr, detail := detail }

/-- A taint of the job's current attempt by TAINT_CAUSE bit `n` (R480, R486, R555); without an attempt nothing is tainted. -/
def taint (d : Device) (j n code : Nat) : Device :=
  let x := job d j
  if x.phase == 0 || bit x.taint n then d
  else
    let t := x.taint + 2 ^ n
    let d := jobEv (setJob d j { x with taint := t }) j 0x12 code 0 (toLE 4 t)
    -- an APPLY that waits for its grant meets the taint (R476)
    if x.phase == 4 && x.kept then jobEv (setJob d j { job d j with kept := false }) j 0x14 0 0 (toLE 4 t) else d

def taintAll (d : Device) (js : List Nat) (n code : Nat) : Device := js.foldl (fun d j => taint d j n code) d

/-- The log's front is written to flash (R538): the ring holds 1,048,576 records and loses its oldest 1,024 when it is full. -/
def flushLog (d : Device) : Device :=
  let all := d.logRing ++ d.logFront
  if all.length ≤ 1048576 then { d with logRing := all, logFront := [] }
  else
    let d := bump d (porterPage + 0x124) 1024
    { d with logRing := all.drop 1024, logFront := [] }

/-- A record enters the log (R536); 256 held records are written to flash (R538). -/
def log (d : Device) (type severity : Nat) (payload : List Byte) : Device :=
  let r : LogRec := { seq := d.logNext, type := type, severity := severity, rtc := get64 d (porterPage + 0x118), payload := payload }
  let d := setR { d with logFront := d.logFront ++ [r], logNext := (d.logNext + 1) % 2 ^ 32 } (porterPage + 0x120) d.logNext
  if 256 ≤ d.logFront.length then flushLog d else d

/-- UNIT of R36: hall, stack or port, then core or link, quarter, lane; 0xFF in unused bytes. -/
def unitNum (r : UnitRef) : Nat :=
  match r.kind with
  | 0 => r.a + r.b * 256 + r.q * 65536 + r.lane * 16777216
  | 1 => r.a + r.b * 256 + 0xFFFF0000
  | 5 => r.a + r.b * 256 + 0xFFFF0000
  | _ => r.a + 0xFFFFFF00

def unitCore (u : Nat) : UnitRef := ⟨1, u / 48, u % 48, 0, 0⟩
def unitHall (h : Nat) : UnitRef := ⟨2, h, 0, 0, 0⟩
def unitStack (s : Nat) : UnitRef := ⟨3, s, 0, 0, 0⟩
def unitPort (p : Nat) : UnitRef := ⟨4, p, 0, 0, 0⟩
def unitLink (p l : Nat) : UnitRef := ⟨5, p, l, 0, 0⟩
def unitLane (u q lane : Nat) : UnitRef := ⟨0, u / 48, u % 48, q, lane⟩

/-- An error names a unit: its self-test is pending, or the error is counted against the pending or running one (R552, R563, R566). -/
def needTest (d : Device) (r : UnitRef) (code addr : Nat) : Device :=
  match lfind (fun t => t.unit == r) d.tests with
  | some i =>
    match d.tests[i]? with
    | some t => { d with tests := lset d.tests i { t with errs := t.errs + 1 } }
    | none => d
  | none => { d with tests := d.tests ++ [{ unit := r, code := code, addr := addr }] }

/-- The PARITY record of the Porter's log and the self-test of the unit (R552). -/
def parityLog (d : Device) (addr : Nat) (r : UnitRef) : Device :=
  needTest (log d 8 2 (toLE 1 r.kind ++ toLE 4 (unitNum r) ++ toLE 2 9 ++ toLE 8 addr)) r 9 addr

/-- The block numbers that a range touches, for a block size. -/
def blocks (a n sz : Nat) : List Nat :=
  if n == 0 then [] else (List.range ((a + n - 1) / sz - a / sz + 1)).map (· + a / sz)

/-- A failing parity check of a unit's storage (R552): the header, the log record and the self-test. -/
def parityErr (d : Device) (off addr : Nat) (r : UnitRef) : Device := parityLog (recordErr d off 9 addr) addr r

/-- Failing parity checks of a core's storage at locations of R157. -/
def coreParity (d : Device) (u : Nat) (locs : List Nat) : Device := locs.foldl (fun d a => parityErr d (corePage u) a (unitCore u)) d

/-- The parity of the sectors of a hall's memory that a read of a range touches (R272, R279): one that fails on some but not all bytes is recorded. -/
def hallParity (d : Device) (h a n : Nat) : Device :=
  (blocks a n 64).foldl (fun d s =>
    let k := ((hmem d h).failing (s * 64) 64).length
    if k == 0 || k == 64 then d else parityErr d (hmemPage h) (s * 64) (unitHall h)) d

/-- A unit reads poisoned bytes on a job's behalf (R554); the spec gives the location no form, so it is an open value
(DESIGN CHOICE, notes/assumptions/7.md). -/
def poisonSeen (d : Device) (off : Nat) (j : Option Nat) : Device :=
  let r := freeVal d
  let d := recordErr r.2 off 10 r.1.toNat
  match j with
  | some j => taint d j 0 10
  | none => d

/-- A core stops by fault (R139, R178, R480): state, fault event, error record, CORE_FAULT event and taint. -/
def coreFault (d : Device) (u pc code : Nat) : Device :=
  let c := core d u
  let d := setCore d u { c with st := .fault }
  let d := recordErr (setEvt d (corePage u) 1) (corePage u) code (pc % 65536)
  match c.job with
  | none => pushEv d { type := 0x20, code := code, unitKind := 1, unit := unitNum (unitCore u), addr := pc, detail := toLE 4 pc }
  | some j =>
    let x := job d j
    let d := pushEv d { type := 0x20, job := j, attempt := x.attempt, step := x.step, code := code, unitKind := 1,
                        unit := unitNum (unitCore u), addr := pc, detail := toLE 4 pc }
    let d := if code == 9 || code == 10 then taint d j 0 code else d
    taint d j 1 code

/-- A scalar read meets poison or failing parity (R552, R553): the core stops; a failing check is logged and starts the core's self-test. -/
def coreStop (d : Device) (u pc flaw : Nat) : Device :=
  if flaw == 9 then parityLog (coreFault d u pc 9) pc (unitCore u) else coreFault d u pc flaw

/-! ### Stack memory (R266–R274, R297–R299) -/

/-- The stack of a physical address (R266). -/
def stackOf (a : Nat) : Nat := a / 2 ^ 35
/-- Whether a physical address lies in a fenced stack (R267). -/
def fenced (d : Device) (a : Nat) : Bool := d.plan.maps.outStacks.contains (stackOf a)

/-- A hall discards the copies of a 4 KiB block (R298). -/
def dropCopies (d : Device) (h blk : Nat) : Device :=
  d.cores.foldl (fun d e =>
    if e.1 / 48 != h then d
    else
      let c := core d e.1
      let n := (c.copies.filter (fun x => x.at_ / 4096 == blk)).length
      if n == 0 then d
      else bump (setCore d e.1 { c with copies := c.copies.filter (fun x => x.at_ / 4096 != blk) }) (corePage e.1 + 0x7D0) n) d

/-- Blocks of which a hall holds no copy any more leave its filters (R297). -/
def settleWatch (d : Device) (h : Nat) : Device :=
  let held := (d.cores.filter (fun e => e.1 / 48 == h)).flatMap (fun e => e.2.copies.map (·.at_ / 4096))
  { d with watch := d.watch.map (fun e => if e.1 % 18 == h then (e.1, e.2.filter (fun b => held.contains b)) else e) }

/-- A write reaches a block: every hall that watches it discards its copies and leaves the filter (R297, R298). -/
def watchInvalidate (d : Device) (blk : Nat) : Device :=
  d.watch.foldl (fun d e =>
    if e.1 / 18 == stackOf (blk * 4096) && e.2.contains blk then
      let d := bump (dropCopies d (e.1 % 18) blk) (scPage (e.1 / 18) + 0x120) 1
      { d with watch := tset d.watch e.1 ((tget [] d.watch e.1).filter (· != blk)) }
    else d) d

/-- The parity of one sector that a stack controller reads (R271–R273). -/
def sectorParity (d : Device) (sec : Nat) : Device :=
  let n := (d.stack.bad.filter (fun b => b / 64 == sec)).length
  let s := stackOf (sec * 64)
  if n == 0 then d
  else if n == 64 then bump d (scPage s + 0x128) 1
  else parityErr d (scPage s) (sec * 64) (unitStack s)

/-- One sector of a write (R273, R274): a poisoned byte poisons the whole sector, after a read of the rest of it where the write does not cover it; a
clean write gives only its own bytes good parity. -/
def sectorWrite (d : Device) (sec a : Nat) (bs : List (Byte × Bool)) : Device :=
  let lo := sec * 64
  let part := (bs.drop (lo - a)).take (lo + 64 - max a lo)
  let a' := max a lo
  if part.any Prod.snd then
    let d := if part.length < 64 then bump (sectorParity d sec) (scPage (stackOf a) + 0x12C) 1 else d
    let m := d.stack.write a' (part.map Prod.fst)
    { d with stack := m.writeP lo ((m.read lo 64).map (fun b => (b, true))) }
  else { d with stack := d.stack.write a' (part.map Prod.fst) }

/-- A write reaches the stack controllers (R271, R273, R298, R299); what lies in a fenced stack is discarded (R267). -/
def stackWrite (d : Device) (a : Nat) (bs : List (Byte × Bool)) : Device :=
  if bs.isEmpty || fenced d a then d
  else
    let d := (blocks a bs.length 64).foldl (fun d s => sectorWrite d s a bs) d
    let d := bump64 d (scPage (stackOf a) + 0x118) bs.length
    (blocks a bs.length 4096).foldl watchInvalidate d

/-- One sector of a read request (R265, R271–R273): its bytes count as read, and its parity is checked. -/
def sectorRead (d : Device) (sec : Nat) : Device := sectorParity (bump64 d (scPage (stackOf (sec * 64)) + 0x110) 64) sec

/-- A read is outstanding at a stack controller (R270, R302): how many are with it is an open number up to 4,608. -/
def readPeak (d : Device) (s : Nat) : Device :=
  let r := freeVal d
  setR r.2 (scPage s + 0x10C) (max (getR d (scPage s + 0x10C)) (1 + r.1.toNat % 4608))

/-- The sectors of the 256-byte requests that a unit other than the stream engine issues for a range (R269). -/
def requestSectors (a n : Nat) : List Nat := (blocks a n 256).flatMap (fun b => (List.range 4).map (fun i => 4 * b + i))

/-- A unit's read of the stack controllers (R269–R273): the bytes with their poison. (DEDUCED, notes/assumptions/63.md.) -/
def stackRead (d : Device) (a n : Nat) : List (Byte × Bool) × Device :=
  if n == 0 then ([], d) else (d.stack.readP a n, readPeak ((requestSectors a n).foldl sectorRead d) (stackOf a))

/-! ### Address translation (R285–R288) -/

/-- A translation fault: cause and level (R287, R306), and the table entries that the access read before it, by address (R265, R272). -/
structure XFault where
  cause : Nat
  level : Nat
  reads : List Nat := []
  deriving DecidableEq, Repr, Inhabited

/-- One table entry (R286, R287), after the entries `rs`: its value, or the cause that stops the walk. -/
def tableEntry (d : Device) (rs : List Nat) (a level : Nat) : Except XFault Nat :=
  if fenced d a then .error { cause := 2, level := 0, reads := rs }
  else if d.stack.anyBad a 8 then .error { cause := 3, level := level, reads := rs ++ [a] }
  else
    let e := d.stack.num a 8
    if e % 2 == 0 then .error { cause := 0, level := level, reads := rs ++ [a] }
    else if fld e 7 6 != 0 || fld e 63 39 != 0 then .error { cause := 1, level := level, reads := rs ++ [a] }
    else .ok e

/-- What a walk finds: the leaf, and the table entries it read, by address. -/
structure Walked where
  leaf : Leaf
  reads : List Nat := []
  deriving DecidableEq, Repr, Inhabited

/-- The address of the level 3 entry for a virtual address, from a level 2 pointer entry. -/
def entry3 (e2 va : Nat) : Nat := fld e2 38 8 * 256 + fld va 20 16 * 8

/-- The third level of a walk, from a level 2 pointer entry. -/
def walk3 (d : Device) (rs : List Nat) (e2 va : Nat) : Except XFault Walked :=
  let a3 := entry3 e2 va
  match tableEntry d rs a3 3 with
  | .error f => .error f
  | .ok e3 =>
    if !bit e3 1 || fld e3 15 8 != 0 then .error { cause := 1, level := 3, reads := rs ++ [a3] }
    else .ok ⟨⟨a3, e3, fld e3 38 16 * 65536, some e2⟩, rs ++ [a3]⟩

/-- The physical address of a 64 KiB unit of a 2 MiB page. -/
def bigPa (ent va : Nat) : Nat := fld ent 38 21 * 2097152 + fld va 20 16 * 65536

/-- The job has an address space (R285). -/
def hasRoot (d : Device) (j : Nat) : Bool := get64 d (devPage 1 + 0x100 + j * 8) % 2 == 1

/-- A walk of job `j`'s tables for the page of a virtual address (R285–R287). -/
def walk (d : Device) (j va : Nat) : Except XFault Walked :=
  let a1 := fld (get64 d (devPage 1 + 0x100 + j * 8)) 38 16 * 65536 + fld va 47 35 * 8
  if !hasRoot d j then .error { cause := 0, level := 1 }
  else
    match tableEntry d [] a1 1 with
    | .error f => .error f
    | .ok e1 =>
      if bit e1 1 || fld e1 16 8 != 0 then .error { cause := 1, level := 1, reads := [a1] }
      else
        let a2 := fld e1 38 17 * 131072 + fld va 34 21 * 8
        match tableEntry d [a1] a2 2 with
        | .error f => .error f
        | .ok e2 =>
          if bit e2 1 then
            (if fld e2 20 8 != 0 then .error { cause := 1, level := 2, reads := [a1, a2] } else .ok ⟨⟨a2, e2, bigPa e2 va, none⟩, [a1, a2]⟩)
          else walk3 d [a1, a2] e2 va

/-- No hall: the unit keeps no translation cache. -/
def noHall : Nat := 18

/-- A hall's cached leaf for a page of a job. -/
def cachedLeaf (d : Device) (hall j page : Nat) : Option Leaf :=
  ((tget [] d.xcache hall).find? (fun e => e.job == j && (if e.big then e.key == page / 32 else e.key == page))).map (fun e =>
    if e.big then { e.leaf with pa := bigPa e.leaf.ent (page * 65536) } else e.leaf)

/-- A hall's cached level 2 pointer for a page of a job. -/
def cachedPtr (d : Device) (hall j page : Nat) : Option Nat :=
  ((tget [] d.xptr hall).find? (fun e => e.job == j && e.key == page / 32)).map XPtr.ent

/-- A walk that begins at a cached level 2 pointer: as the full one goes, where memory still gives that pointer, or at an open choice (R289). -/
def walkFrom (d : Device) (j page : Nat) (ptr : Option Nat) (stale : Bool) : Except XFault Walked :=
  let full := walk d j (page * 65536)
  match ptr with
  | none => full
  | some e =>
    let reads := match full with
      | .error f => f.reads
      | .ok w => w.reads
    if reads[2]? == some (entry3 e (page * 65536)) || stale then walk3 d [] e (page * 65536) else full

/-- The leaf of a page, by a walk or through what a hall has cached (R289); the flag tells a leaf taken from the cache. A cached entry that a walk
would find again is used; whether one that memory no longer gives is used is open (DESIGN CHOICE, notes/assumptions/12.md). A job without an address
space has no leaf, whatever is cached (R285). -/
def leafOf (d : Device) (hall j page : Nat) : Except XFault (Walked × Bool) :=
  let pick := Config.stale d.free page
  let byWalk : Except XFault (Walked × Bool) :=
    match walkFrom d j page (cachedPtr d hall j page) (bit pick 1) with
    | .error f => .error f
    | .ok w => .ok (w, false)
  if !hasRoot d j then .error { cause := 0, level := 1 }
  else
    match cachedLeaf d hall j page with
    | some l =>
      let same := match walk d j (page * 65536) with
        | .error _ => false
        | .ok w => w.leaf == l
      if same || bit pick 0 then .ok (⟨l, []⟩, true) else byWalk
    | none => byWalk

/-- The leaf of a page with the fenced stacks and its permissions checked (R287). -/
def demand (d : Device) (hall j page : Nat) (wr peer : Bool) : Except XFault (Walked × Bool) :=
  match leafOf d hall j page with
  | .error f => .error f
  | .ok l =>
    if fenced d l.1.leaf.pa then .error { cause := 2, level := 0, reads := l.1.reads }
    else if wr && !bit l.1.leaf.ent 2 then .error { cause := 4, level := 0, reads := l.1.reads }
    else if peer && !bit l.1.leaf.ent 3 then .error { cause := 5, level := 0, reads := l.1.reads }
    else .ok l

/-- The table entries that an access read pass through their stack controllers (R265, R272), each once. -/
def tableReads (d : Device) (rs : List Nat) : Device := (rs.foldl nins []).foldl (fun d a => (stackRead d a 8).2) d

/-- The fault code of a translation fault (R287). -/
def XFault.code (f : XFault) : Nat := if f.cause < 4 then 5 else 6

/-- A translation fault is recorded in XFAULT (R292, R306). `who` is a core, or 0xFFFF for none. -/
def recordXFault (d : Device) (j va : Nat) (f : XFault) (peer wr : Bool) (who : Nat) : Device :=
  let r := devPage 1
  let d := tableReads d f.reads
  let d := bump { d with free := d.free + 1 } (r + 0x22C) 1
  if bit (getR d (r + 0x220)) 31 then d
  else
    let slot := if who == 0xFFFF then 0xFF else d.plan.maps.slotOf who
    let hall := if who == 0xFFFF then 0 else d.plan.maps.logical (who / 48) % 16
    let d := setR d (r + 0x220) (j + f.level * 16 + f.cause * 64 + b2n peer * 512 + b2n wr * 1024 + slot * 65536 + hall * 16777216 + 2 ^ 31)
    set64 d (r + 0x224) (va % 2 ^ 48)

/-- The pages of a list of 64 KiB virtual pages, each translated without a fault, or the first fault and its page (R215). -/
def xlatePages (d : Device) (hall j : Nat) (wr peer : Bool) : List Nat → Except (XFault × Nat) (List (Nat × Walked × Bool))
  | [] => .ok []
  | p :: ps =>
    match demand d hall j p wr peer with
    | .error f => .error (f, p)
    | .ok l =>
      match xlatePages d hall j wr peer ps with
      | .error (f, q) => .error ({ f with reads := l.1.reads ++ f.reads }, q)
      | .ok t => .ok ((p, l) :: t)

/-- The table entries that the translation of pages read. -/
def walkReads (t : List (Nat × Walked × Bool)) : List Nat := t.flatMap (fun e => e.2.1.reads)

/-- A hall caches what a walk found, up to 2,048 leaves and 64 pointers, the oldest leaving (R289). -/
def cacheWalk (d : Device) (hall j page : Nat) (w : Walked) : Device :=
  if 18 ≤ hall then d
  else
    let big := w.leaf.up.isNone
    let key := if big then page / 32 else page
    let l := (tget [] d.xcache hall).filter (fun e => !(e.job == j && e.big == big && e.key == key)) ++ [⟨j, big, key, w.leaf⟩]
    let d := { d with xcache := tset d.xcache hall (l.drop (l.length - 2048)) }
    match w.leaf.up with
    | none => d
    | some e =>
      let p := (tget [] d.xptr hall).filter (fun x => !(x.job == j && x.key == page / 32)) ++ [⟨j, page / 32, e⟩]
      { d with xptr := tset d.xptr hall (p.drop (p.length - 64)) }

/-- The walker sets A, and D for a write, in a leaf (R288); the update is a write of the entry. -/
def markLeaf (d : Device) (hall j : Nat) (wr : Bool) (l : Nat × Walked × Bool) : Device :=
  let f := l.2.1.leaf
  let m := 16 ||| (if wr then 32 else 0)
  let w := { l.2.1 with leaf := { f with ent := f.ent ||| m } }
  let d := if l.2.2 then
      { d with xcache := tset d.xcache hall ((tget [] d.xcache hall).map (fun e =>
          if e.job == j && e.leaf.at_ == f.at_ then { e with leaf := { e.leaf with ent := e.leaf.ent ||| m } } else e)) }
    else cacheWalk d hall j l.1 w
  if f.ent ||| m == f.ent then d else stackWrite d f.at_ ((toLE 8 (d.stack.num f.at_ 8 ||| m)).map (fun b => (b, false)))

/-- The page table of translated pages. -/
def pageTab (t : List (Nat × Walked × Bool)) : Tab Nat := t.map (fun e => (e.1, e.2.1.leaf.pa / 65536))

/-- Translation of every page of an access before its first byte moves (R215, R288): the page table of the access, or the fault. -/
def translate (d : Device) (hall j : Nat) (wr peer : Bool) (pages : List Nat) : Except (XFault × Nat) (Tab Nat × Device) :=
  match xlatePages d hall j wr peer pages with
  | .error e => .error e
  | .ok t =>
    let d := t.foldl (fun d e => markLeaf d hall j wr e) (tableReads d (walkReads t))
    .ok (pageTab t, { d with free := d.free + 1 })

/-- The 64 KiB virtual pages that a range touches. -/
def pagesOf (a n : Nat) : List Nat := blocks a n 65536

/-- The physical address of a virtual one under the pages translated for an access. -/
def phys (pages : Tab Nat) (va : Nat) : Nat := tget 0 pages (va / 65536) * 65536 + va % 65536

/-- The pieces of a range that lie in one 64 KiB page each: virtual address and length. -/
def pieces (a n : Nat) : List (Nat × Nat) :=
  (pagesOf a n).map (fun p => let lo := max a (p * 65536); (lo, min (a + n) ((p + 1) * 65536) - lo))

/-- A read of job virtual memory under translated pages. -/
def readVirt (d : Device) (pages : Tab Nat) (a n : Nat) : List (Byte × Bool) × Device :=
  (pieces a n).foldl (fun (acc : List (Byte × Bool) × Device) p =>
    let r := stackRead acc.2 (phys pages p.1) p.2
    (acc.1 ++ r.1, r.2)) ([], d)

/-- A write of job virtual memory under translated pages. -/
def writeVirt (d : Device) (pages : Tab Nat) (a : Nat) (bs : List (Byte × Bool)) : Device :=
  (pieces a bs.length).foldl (fun d p => stackWrite d (phys pages p.1) ((bs.drop (p.1 - a)).take p.2)) d

/-- A read of job virtual memory by a unit of the device, translated on its own: the bytes, or the fault code with XFAULT recorded. -/
def unitRead (d : Device) (j a n who : Nat) : Except (Nat × Device) (List (Byte × Bool) × Device) :=
  match translate d (who / 48) j false false (pagesOf a n) with
  | .error (f, p) => .error (f.code, recordXFault d j (max a (p * 65536)) f false false who)
  | .ok (pg, d) => .ok (readVirt d pg a n)

/-- A write of job virtual memory by a unit of the device. -/
def unitWrite (d : Device) (j a : Nat) (bs : List (Byte × Bool)) (who : Nat) : Except (Nat × Device) Device :=
  match translate d (who / 48) j true false (pagesOf a bs.length) with
  | .error (f, p) => .error (f.code, recordXFault d j (max a (p * 65536)) f false true who)
  | .ok (pg, d) => .ok (writeVirt d pg a bs)

/-- Bytes with good parity. -/
def clean (bs : List Byte) : List (Byte × Bool) := bs.map (fun b => (b, false))

/-! ### Hall memory (R280–R283) -/

/-- The partition entry of job `j` on hall `h` (R304). -/
def partA (d : Device) (h j : Nat) : Nat := getR d (hmemPage h + 0x200 + j * 8)
def partB (d : Device) (h j : Nat) : Nat := getR d (hmemPage h + 0x204 + j * 8)
def stageUnits (d : Device) (h j : Nat) : Nat := fld (partA d h j) 8 0
def bucketUnits (d : Device) (h j : Nat) : Nat := fld (partA d h j) 17 9
def scratchUnits (d : Device) (h j : Nat) : Nat := fld (partA d h j) 26 18
def statsUnits (d : Device) (h j : Nat) : Nat := fld (partB d h j) 8 0
def raUnits (d : Device) (h j : Nat) : Nat := fld (partB d h j) 17 9
def baseUnit (d : Device) (h j : Nat) : Nat := fld (partB d h j) 25 18
/-- Byte addresses in the hall's memory of the BUCKET window and of STATS (R280, R281). -/
def bucketBase (d : Device) (h j : Nat) : Nat := (baseUnit d h j + stageUnits d h j) * 65536
def statsBase (d : Device) (h j : Nat) : Nat :=
  (baseUnit d h j + stageUnits d h j + bucketUnits d h j + scratchUnits d h j) * 65536
def windowLen (d : Device) (h j : Nat) : Nat := (bucketUnits d h j + scratchUnits d h j) * 65536

/-! ### What a meaning answers -/

/-- A command's meaning: an effect on the module, or the fault of a command that names no unit. -/
def run (c : Instr) (f : Device → Device) (s : State) : Host.Outcome State Fault Refusal :=
  if c.wf then .next { s with dev := f s.dev } else .fault .noSuchUnit

end Sys2Proof.Machine
end

