-- ==== Sys2Proof/Machine/Dvfs.lean ====
section
/-!
DEFINITION. Voltage and frequency of a hall (R492–R497, R515): requests, the order of a change, the override.
-/
namespace Sys2Proof.Machine

/-- Cooling class of the straps (R498): 0 A, 1 I, 2 L. -/
def coolClass (d : Device) : Nat := if d.boot.cool == 3 then 0 else d.boot.cool
/-- MAX_ARITH_MHZ and the power ceiling in watts (R498). -/
def maxArith (d : Device) : Nat := if coolClass d == 0 then 800 else if coolClass d == 1 then 1000 else 1100
def ceiling (d : Device) : Nat := if coolClass d == 0 then 1100 else if coolClass d == 1 then 1500 else 1800

/-- DVFS window of a hall (R515); a requester's register is at 4 × its number: 0 job, 1 thermal, 2 pace, 3 power. -/
def dvfsWin (h : Nat) : Nat := pwrPage 1 + 0x100 + h * 0x20
def dvfs (d : Device) (h : Nat) : Dvfs := tget {} d.dvfs h
def setDvfs (d : Device) (h : Nat) (x : Dvfs) : Device := { d with dvfs := tset d.dvfs h x }
def minV (h f : Nat) : Nat := (Config.minVolt h f).toNat

/-- A request as it counts (R493): rounded down to 25 MHz and clamped, 0 for none. -/
def effReq (d : Device) (h who : Nat) : Nat :=
  let r := getR d (dvfsWin h + 4 * who) % 4096
  if r == 0 then 0 else min (maxArith d) (max 400 (r / 25 * 25))

/-- The candidates for the target: the cap as requester 0, and the requests made (R493). -/
def dvfsCands (d : Device) (h : Nat) : List (Nat × Nat) :=
  (0, maxArith d) :: ((List.range 4).map (fun k => (k + 1, effReq d h k))).filter (fun e => e.2 != 0)

/-- The target voltage: the fused minimum for the target frequency, or the override where that is higher (R493, R496). -/
def targetVolt (h : Nat) (x : Dvfs) : Nat := max (minV h x.target) x.ovr

/-- The next step of a hall at rest or between two steps (R494): lower the clock, raise the voltage, or bring the voltage to its target. -/
def nextStep (h : Nat) (x : Dvfs) : Dvfs :=
  if x.target < x.cur then { x with phase := 1, goal := x.target }
  else if x.cur < x.target then
    (if minV h x.target ≤ x.volt && x.ovr ≤ x.volt then { x with phase := 4, goal := x.target }
     else { x with phase := 3, vGoal := targetVolt h x })
  else if x.volt == targetVolt h x then { x with phase := 0 }
  else { x with phase := if x.volt < targetVolt h x then 3 else 2, vGoal := targetVolt h x }

/-- A slew that stops on its way holds a level between its ends that the spec leaves open (R495, DESIGN CHOICE, notes/assumptions/2.md). -/
def stopSlew (d : Device) (h : Nat) (x : Dvfs) : Device :=
  let r := freeVal d
  let lo := min x.volt x.vGoal
  setDvfs r.2 h (nextStep h { x with volt := lo + r.1.toNat % (max x.volt x.vGoal - lo + 1), phase := 0 })

/-- The requests of a hall settle its target (R493), and a change starts or turns round (R494, R495). Clocks that have not locked start none.
Several requesters at the lowest frequency: the one that DVFS_STAT names is open. -/
def dvfsSettle (d : Device) (h : Nat) : Device :=
  if !d.boot.oscReady then d
  else
    let cs := dvfsCands d h
    let t := cs.foldl (fun m e => min m e.2) (maxArith d)
    let ws := (cs.filter (fun e => e.2 == t)).map Prod.fst
    let r := freeVal d
    let x := dvfs d h
    let w := if ws.length == 1 || x.target == t && ws.contains x.winner then (if ws.contains x.winner then x.winner else ws.headD 0)
      else ws.getD (r.1.toNat % ws.length) 0
    let x := { x with target := t, winner := w, ovr := if x.ovr == 0 then 0 else max x.ovr (minV h t) }
    let d := r.2
    if x.phase == 0 then setDvfs d h (nextStep h x)
    else if x.phase == 3 && x.target < x.cur then stopSlew d h x
    else if x.phase == 2 && x.cur < x.target then stopSlew d h x
    else if x.phase == 3 then setDvfs d h { x with vGoal := max x.vGoal (targetVolt h x) }
    else setDvfs d h x

def dvfsSettleAll (d : Device) : Device := (List.range 18).foldl dvfsSettle d

/-- A request of a hall is written. -/
def dvfsReq (d : Device) (h who v : Nat) : Device := dvfsSettle (setR d (dvfsWin h + 4 * who) (v % 4096)) h

/-- DVFS_REQUEST (R493): requester `who`: 0 job, 1 thermal, 2 pace, 3 power. -/
def dvfsRequest (h who : Nat) (v : Reg) (d : Device) : Device := dvfsReq d h who v.toNat

def execDvfsRequest (h who : Nat) (v : Reg) (s : State) : Host.Outcome State Fault Refusal :=
  run (.dvfsRequest h who v) (dvfsRequest h who v) s

/-- The clock of a hall reaches a frequency: a deferred override applies when that frequency allows it (R496). -/
def clockAt (h f : Nat) (x : Dvfs) : Dvfs :=
  let x := { x with cur := f }
  if x.ovrWait != 0 && minV h f ≤ x.ovrWait && minV h x.target ≤ x.ovrWait then { x with ovr := x.ovrWait, ovrWait := 0 } else x

/-- DVFS_STEP_DONE (R494, R495): the step in progress ends, and the next one toward the newest target starts. -/
def dvfsStepDone (h : Nat) (d : Device) : Device :=
  let x := dvfs d h
  if x.phase == 0 then d
  else
    let y := if x.phase == 1 || x.phase == 4 then nextStep h (clockAt h x.goal x) else nextStep h { x with volt := x.vGoal }
    let d := setDvfs d h y
    if y.phase == 0 then bump d (dvfsWin h + 0x1C) 1 else d

def execDvfsStepDone (h : Nat) (s : State) : Host.Outcome State Fault Refusal := run (.dvfsStepDone h) (dvfsStepDone h) s

/-- An override takes effect at once on the confirmed or the target voltage (R496). -/
def ovrApply (h : Nat) (x : Dvfs) : Dvfs :=
  let v := targetVolt h x
  if x.phase == 0 then { x with volt := v }
  else if x.phase == 2 || x.phase == 3 then { x with vGoal := max v (if x.phase == 3 then x.vGoal else 0) }
  else { x with volt := max x.volt v }

/-- VOLT_OVR_WRITE (R496). -/
def voltOvrWrite (h : Nat) (v : Reg) (d : Device) : Device :=
  let v := v.toNat % 4096
  let x := dvfs d h
  if v == 0 then setDvfs d h (ovrApply h { x with ovr := 0, ovrWait := 0 })
  else if minV h x.cur ≤ v && minV h x.target ≤ v then setDvfs d h (ovrApply h { x with ovr := v, ovrWait := 0 })
  else if v < minV h x.cur && x.target < x.cur && minV h x.target ≤ v then setDvfs d h { x with ovrWait := v }
  else recordErr d (pwrPage 1) 15 h

def execVoltOvrWrite (h : Nat) (v : Reg) (s : State) : Host.Outcome State Fault Refusal := run (.voltOvrWrite h v) (voltOvrWrite h v) s

/-- Clocks lock (R622 B4): every hall runs at its target from the start (DESIGN CHOICE, notes/assumptions/29.md). -/
def clocksLock (d : Device) : Device :=
  let d := { d with boot := { d.boot with oscReady := true } }
  (List.range 18).foldl (fun d h =>
    let t := (dvfsCands d h).foldl (fun m e => min m e.2) (maxArith d)
    let x := dvfs d h
    dvfsSettle (setDvfs d h { x with cur := t, target := t, volt := max (minV h t) x.ovr, phase := 0 }) h) d

end Sys2Proof.Machine
end

