-- ==== Sys2Proof/Machine/Sensors.lean ====
section
/-!
DEFINITION. Sensors of the Floor Plan (R36, R533–R535): samples, and what a sample past a limit does. Wake sources (R504, R509).
-/
namespace Sys2Proof.Machine

/-- An alert cause is set (R544, R548). -/
def alert (d : Device) (n : Nat) : Device := setR d (porterPage + 0x108) (getR d (porterPage + 0x108) ||| 2 ^ n)

/-- A bit of a stored register set or cleared. -/
def putBit (d : Device) (off n : Nat) (on : Bool) : Device :=
  let v := getR d off
  setR d off (if bit v n == on then v else if on then v + 2 ^ n else v - 2 ^ n)

def sensorDesc (i : Nat) : Option SensorDesc := Config.sensors[i]?
def porterTicks (d : Device) : Nat := get64 d (porterPage + 0x110)

/-- Past a limit (R535): downward for optical power, else upward; a sample at the limit has crossed it (DEDUCED, notes/assumptions/30.md). -/
def pastLimit (s : SensorDesc) (lim : BitVec 16) (v : Nat) : Bool :=
  let a := signed 16 v
  let l := signed 16 lim.toNat
  if s.kind == 3 then decide (a ≤ l) else decide (l ≤ a)

/-- Back on the other side of a limit by 2 % of its magnitude (R535). -/
def rearmed (s : SensorDesc) (lim : BitVec 16) (v : Nat) : Bool :=
  let a := 100 * signed 16 v
  let l := signed 16 lim.toNat
  let m : Int := 2 * (l.natAbs : Int)
  if s.kind == 3 then decide (100 * l + m ≤ a) else decide (a ≤ 100 * l - m)

/-- Physical halls in state active. -/
def activeHalls (d : Device) : List Nat := (List.range 18).filter (fun h => d.plan.maps.hallState h == 0)

/-- The WARN limit (R535): the log, event 0x0100 and SENSOR_WARN. -/
def warnCheck (d : Device) (i v : Nat) (s : SensorDesc) : Device :=
  if d.porter.overWarn.contains i then
    (if rearmed s s.warn v then { d with porter := { d.porter with overWarn := ndel d.porter.overWarn i } } else d)
  else if pastLimit s s.warn v then
    let d := { d with porter := { d.porter with overWarn := nins d.porter.overWarn i } }
    let d := log d 3 1 (toLE 2 i ++ toLE 2 v ++ toLE 2 s.warn.toNat)
    alert (pushEv d { type := 0x100, detail := toLE 2 i ++ toLE 2 v }) 0
  else d

/-- The TRIP limit (R535): event 0x0101, SENSOR_TRIP, and for a rail the power request of every active hall. -/
def tripCheck (d : Device) (i v : Nat) (s : SensorDesc) : Device :=
  if d.porter.overTrip.contains i then
    (if rearmed s s.trip v then { d with porter := { d.porter with overTrip := ndel d.porter.overTrip i } } else d)
  else if pastLimit s s.trip v then
    let d := { d with porter := { d.porter with overTrip := nins d.porter.overTrip i } }
    let d := alert (pushEv d { type := 0x101, detail := toLE 2 i ++ toLE 2 v }) 1
    if s.locKind == 3 then
      (activeHalls d).foldl (fun d h => dvfsReq d h 3 400) { d with porter := { d.porter with rails := nins d.porter.rails i } }
    else d
  else d

/-- The limits of one sensor (R535). -/
def limitCheck (d : Device) (i v : Nat) : Device :=
  match sensorDesc i with
  | none => d
  | some s =>
    let d := tripCheck (warnCheck d i v s) i v s
    if pastLimit s s.warn v then d else { d with porter := { d.porter with rails := ndel d.porter.rails i } }

/-- A sample of a sensor: kept with its Porter tick, and checked. -/
def sensorSample (d : Device) (i v : Nat) : Device :=
  limitCheck { d with porter := { d.porter with samples := tset d.porter.samples i (v, porterTicks d) } } i v

/-- A stack sample is kept for the stack's sensors, and checked while the Porter runs (R275, R534, R535). -/
def stackSensors (d : Device) (s : Nat) (v : BitVec 16) : Device :=
  (List.range Config.sensors.length).foldl (fun d i =>
    match sensorDesc i with
    | some x =>
      if x.locKind != 1 || x.location != s then d
      else if d.boot.porterReady then sensorSample d i v.toNat
      else { d with porter := { d.porter with samples := tset d.porter.samples i (v.toNat, porterTicks d) } }
    | none => d) d

/-- SENSOR_CONVERSION (R533): the sensor hub converts a hall, quadrant, rail or optical sensor while the Porter runs. -/
def sensorConversion (i : Nat) (v : BitVec 16) (d : Device) : Device :=
  match sensorDesc i with
  | none => d
  | some s => if s.locKind == 1 || 5 ≤ s.locKind || !d.boot.porterReady then d else sensorSample d i v.toNat

def execSensorConversion (i : Nat) (v : BitVec 16) (s : State) : Host.Outcome State Fault Refusal :=
  run (.sensorConversion i v) (sensorConversion i v) s

/-! ### Wake sources (R504, R509) -/

/-- Cause `c` of R514 wakes power state `st` (R504): 1 doorbell or Foyer packet, 2 Harlon packet, 3 sideband, 4 Porter, 5 RTC alarm, 6 WAKE_N. -/
def wakes (st c : Nat) : Bool :=
  match st with
  | 1 => c ≤ 4
  | 2 => c ≤ 4
  | 3 => c == 3 || c == 5 || c == 6
  | 4 => c == 5 || c == 6
  | _ => false

/-- The deepest stage that a power state stands for (R508). -/
def depthStages (st : Nat) : Nat := if st == 1 then 1 else if st == 2 then 3 else if st == 3 then 5 else if st == 4 then 6 else 0

/-- The module runs: no power state but RUN, no entry and no exit under way. -/
def awake (d : Device) : Bool := d.boot.pm == 0 && d.boot.stage == 0 && d.boot.exit == 0

/-- Exit begins (R510): from IDLE it ends at once; from DEEP bring-up is entered at B2. -/
def startExit (b : Boot) : Boot :=
  let b := { b with stage := 0, wake := 0, exitRetried := false, wakeCause := if b.wake == 0 then b.wakeCause else b.wake }
  if b.done < 2 then { b with pm := 0, done := 0, target := 0 }
  else if b.done == 6 then { b with pm := 0, done := 0, target := 0, cause := 3, entry := true }
  else { b with exit := 1 }

/-- A wake source occurs (R509): a state that it wakes is left; an entry that it ends is abandoned at the next abort point. (DEDUCED, notes/assumptions/53.md.) -/
def wake (d : Device) (c : Nat) : Device :=
  let b := d.boot
  if !b.pwrEn || b.heldOff || b.tripped || b.exit != 0 then d
  else if b.stage != 0 then
    (if b.wake != 0 || !(wakes b.target c || (2 < b.target && wakes 2 c) || (3 < b.target && wakes 3 c)) then d
     else { d with boot := { b with wake := c } })
  else if wakes b.pm c then { d with boot := startExit { b with wakeCause := c } }
  else d

end Sys2Proof.Machine
end

