-- ==== Sys2Proof/Machine/Signals.lean ====
section
/-!
DEFINITION. Signal words: the operations of R316, ownership, monitors and polls, and the commands of the signal stores.
-/
namespace Sys2Proof.Machine

/-- The physical hall and place of word `w`, when its logical hall is not vacant (R308). -/
def wordHome (d : Device) (w : Nat) : Option (Nat × Nat) :=
  (d.plan.maps.physical (w / 512)).map (fun h => (h, w % 512))

/-- The index of word `i` of a physical hall's store (R308). -/
def wordIndex (d : Device) (h i : Nat) : Nat := d.plan.maps.logical h * 512 + i

def sigWord (d : Device) (h i : Nat) : SigWord := tget {} (sigStore d h).words i
def setWord (d : Device) (h i : Nat) (w : SigWord) : Device :=
  setSig d h { sigStore d h with words := tset (sigStore d h).words i w }

/-- The whole 64-bit word (R311). -/
def wordBits (d : Device) (h i : Nat) : Nat :=
  let w := sigWord d h i
  w.count + b2n w.ovf * 2 ^ 56 + b2n ((sigStore d h).mons.any (fun m => m.i == i)) * 2 ^ 57 + w.owner * 2 ^ 58

/-- The fault of an instruction that names word `w` for job `j` (R314): DESC_BOUNDS for a vacant hall, PERM for another owner. -/
def wordFault (d : Device) (w j : Nat) : Option Nat :=
  match wordHome d w with
  | none => some 4
  | some (h, i) => if (sigWord d h i).owner == j then none else some 6

/-- An event whose DETAIL holds a cause register that the spec does not name: an open value (R485, DESIGN CHOICE, notes/assumptions/7.md). -/
def causeEv (d : Device) (j type code addr : Nat) : Device :=
  let r := freeVal d
  if j < 16 then jobEv r.2 j type code addr (toLE 4 r.1.toNat)
  else pushEv r.2 { type := type, code := code, addr := addr, detail := toLE 4 r.1.toNat }

/-- The captured bindings of a gate's window entries that a wake of the gate reaches. -/
def seeGate (g : Nat) (mon : Bool) (sat : Binding → Bool) (e : Ins) : Ins :=
  match e.gate with
  | some b => if e.w % 16 == g && b.mon == mon && sat b then { e with gate := some { b with seen := true } } else e
  | none => e

/-- A waiter is woken (R323, R324, R327): its SWAIT ends, or its gate's binding and the entries that captured it are satisfied. -/
def wakeWaiter (d : Device) (u g : Nat) : Device :=
  let c := core d u
  -- an Arcade context waits under number 864 + RJID (R386): its own rows look at the word
  if 864 ≤ u then d
  else if g == 0 then
    (if c.swait.isSome then setCore d u { c with swait := none, st := if c.st == .swait then .running else c.st } else d)
  else
    let gates := match c.gates.find? (fun e => e.1 == g) with
      | some e => tset c.gates g { e.2 with seen := true }
      | none => c.gates
    setCore d u { c with gates := gates, win := c.win.map (seeGate g true (fun _ => true)) }

/-- After a change of COUNT: waiters whose target it meets are woken and their entries removed (R323). -/
def monitorCheck (d : Device) (h i : Nat) : Device :=
  let s := sigStore d h
  let n := (sigWord d h i).count
  let hit := s.mons.filter (fun m => m.i == i && m.target ≤ n)
  let d := setSig d h { s with mons := s.mons.filter (fun m => !(m.i == i && m.target ≤ n)) }
  hit.foldl (fun d m => wakeWaiter d m.u m.g) d

/-- A unit's or remote arrival that its job's ownership, or a vacant hall, rejects (R315). -/
def rejectArrival (d : Device) (j w code : Nat) (counter : Nat) : Device :=
  taint (causeEv (bump d counter 1) j 0x70 code w) j 5 code

/-- An operation reaches a word of physical hall `h` (R316–R318). -/
def applyOp (d : Device) (h : Nat) (op : SigOp) : Device :=
  let d := bump64 d (hallPage h + 0x404) 1
  match op with
  | .set i v => monitorCheck (setWord d h i { sigWord d h i with count := v, ovf := false }) h i
  | .arrive i n j p =>
    let w := sigWord d h i
    match j with
    | some j =>
      if w.owner == j then
        arriveOwned d h i n w
      else
        match p with
        | none => rejectArrival (setEvt d (hallPage h) 17) j (wordIndex d h i) 6 (hallPage h + 0x414)
        | some p => rejectArrival d j (wordIndex d h i) 6 (portPage p + 0x448)
    | none => arriveOwned d h i n w
where
  /-- Arrive `n` (R316, R317): saturation is recorded, counted, reported and taints the owner (R318). -/
  arriveOwned (d : Device) (h i n : Nat) (w : SigWord) : Device :=
    if n == 0 then d
    else if w.count + n < 2 ^ 48 then monitorCheck (setWord d h i { w with count := w.count + n }) h i
    else
      let d := monitorCheck (setWord d h i { w with count := 2 ^ 48 - 1, ovf := true }) h i
      let d := bump (setEvt (recordErr d (hallPage h) 12 (wordIndex d h i % 8192)) (hallPage h) 16) (hallPage h + 0x40C) 1
      let d := causeEv d w.owner 0x70 12 (wordIndex d h i)
      if w.owner < 16 then taint d w.owner 5 12 else d

/-- Up to `n` waiting operations of a store are applied in one cycle, sets before arrivals (R319). (DESIGN CHOICE, notes/assumptions/16.md.) -/
def applyCycle (d : Device) (h n : Nat) : Device :=
  let s := sigStore d h
  let now := s.ops.take n
  let isSet (o : SigOp) : Bool := match o with
    | .set _ _ => true
    | .arrive _ _ _ _ => false
  let d := setSig d h { s with ops := s.ops.drop n }
  let d := (now.filter isSet).foldl (fun d o => applyOp d h o) d
  (now.filter (fun o => !isSet o)).foldl (fun d o => applyOp d h o) d

/-- Every waiting operation of a store, one per cycle in the order received, before a later operation reaches it (R319). -/
def flushStore (d : Device) (h : Nat) : Device :=
  (sigStore d h).ops.foldl (fun d o => applyOp d h o) (setSig d h { sigStore d h with ops := [] })

/-- A set by the step sequencer: COUNT, OVERFLOW and OWNER of a word are written after every operation the store received before it (R316, R319). -/
def seqSet (d : Device) (h i : Nat) (w : SigWord) : Device :=
  let d := flushStore d h
  setWord (bump64 d (hallPage h + 0x404) 1) h i w

/-- The store reads a word for a window or a poll, after every operation that it received before (R316, R319). -/
def readOp (d : Device) (h : Nat) : Device := bump64 (flushStore d h) (hallPage h + 0x404) 1

/-- An operation is sent to the store that holds word `w`. -/
def sendOp (d : Device) (h : Nat) (op : SigOp) : Device :=
  setSig d h { sigStore d h with ops := (sigStore d h).ops ++ [op] }

/-- An arrival of a core's own program, whose word was checked (R314, R216). -/
def arriveProgram (d : Device) (w n : Nat) : Device :=
  match wordHome d w with
  | some (h, i) => sendOp d h (.arrive i n none none)
  | none => d

/-- An arrival that a unit, or with `p` a remote signal, makes on a job's behalf (R315). -/
def arriveUnit (d : Device) (j w n : Nat) (p : Option Nat) : Device :=
  match wordHome d w with
  | some (h, i) => sendOp d h (.arrive i n (some j) p)
  | none => rejectArrival d j w 4 (match p with
    | none => devPage 0 + 0x11C
    | some p => portPage p + 0x448)

/-- A read of word `w` after every operation that the store received before it (R319). -/
def readWord (d : Device) (w : Nat) : Option (Nat × Device) :=
  (wordHome d w).map (fun hi =>
    let d := readOp d hi.1
    (wordBits d hi.1 hi.2, d))

/-- A wait starts (R322, R323, R325): a monitored wait reads first, then places an entry or is polled for want of one. -/
def startWait (d : Device) (u g w t : Nat) (mon : Bool) : Binding × Device :=
  let polled : Binding := { word := w, target := t, mon := false, seen := false, asked := mon }
  match wordHome d w with
  | none => (polled, d)
  | some (h, i) =>
    if !mon && g != 0 then (polled, d)
    else
      let d := readOp d h
      if t ≤ (sigWord d h i).count then ({ polled with mon := mon, seen := true }, d)
      else if !mon then (polled, d)
      else
        let s := sigStore d h
        if s.mons.length < 64 then ({ polled with mon := true }, setSig d h { s with mons := s.mons ++ [⟨i, t, u, g⟩] })
        else (polled, bump d (hallPage h + 0x410) 1)

/-- The monitor entries of a core's waiter are removed (R326). -/
def dropMonitor (d : Device) (u g : Nat) : Device :=
  { d with sigs := d.sigs.map (fun e => (e.1, { e.2 with mons := e.2.mons.filter (fun m => !(m.u == u && m.g == g)) })) }

/-- All monitor entries of a core are removed (R326). -/
def dropMonitors (d : Device) (u : Nat) : Device :=
  { d with sigs := d.sigs.map (fun e => (e.1, { e.2 with mons := e.2.mons.filter (fun m => m.u != u) })) }

/-- Whether word `w` stands at or above a target (R316). -/
def reached (d : Device) (w t : Nat) : Bool :=
  match wordHome d w with
  | some (h, i) => t ≤ (sigWord d h i).count
  | none => false

/-! ### Ownership by jobs (R312, R313) -/

/-- The words a job owns, as physical hall and place. -/
def ownedWords (d : Device) (j : Nat) : List (Nat × Nat) :=
  (d.sigs.map (fun e => (e.2.words.filter (fun w => w.2.owner == j)).map (fun w => (e.1, w.1)))).flatten

/-- Every word that the job owns is released (R313). -/
def releaseWords (d : Device) (j : Nat) : Device :=
  (ownedWords d j).foldl (fun d hi =>
    let d := flushStore d hi.1
    let s := sigStore d hi.1
    seqSet (setSig d hi.1 { s with mons := s.mons.filter (fun m => m.i != hi.2) }) hi.1 hi.2 {}) d

/-! ### Commands -/

/-- SIG_STORE_APPLY (R319). -/
def sigStoreApply (h n : Nat) (d : Device) : Device := applyCycle d h n

def execSigStoreApply (h n : Nat) (s : State) : Host.Outcome State Fault Refusal := run (.sigStoreApply h n) (sigStoreApply h n) s

/-- SIG_POLL (R322, R327): the polled waits of a gate, or the SWAIT, read their words. -/
def sigPoll (u g : Nat) (d : Device) : Device :=
  let c := core d u
  if g == 0 then
    match c.swait with
    | some b =>
      if b.mon then d
      else
        match readWord d b.word with
        | none => d
        | some (_, d) =>
          if reached d b.word b.target then
            let c := core d u
            setCore d u { c with swait := none, st := if c.st == .swait then .running else c.st }
          else d
    | none => d
  else
    let polled := ((c.gates.filter (fun e => e.1 == g)).map Prod.snd ++ (c.win.filter (fun e => e.w % 16 == g)).filterMap Ins.gate).filter
      (fun b => !b.mon && !b.seen)
    let d := polled.foldl (fun d b => ((readWord d b.word).map Prod.snd).getD d) d
    let c := core d u
    let sat (b : Binding) : Bool := !b.mon && reached d b.word b.target
    setCore d u { c with
      gates := c.gates.map (fun e => if e.1 == g && sat e.2 then (e.1, { e.2 with seen := true }) else e)
      win := c.win.map (seeGate g false (fun b => reached d b.word b.target)) }

def execSigPoll (u g : Nat) (s : State) : Host.Outcome State Fault Refusal := run (.sigPoll u g) (sigPoll u g) s

/-- The hall backs a logical index (R310). -/
def backed (d : Device) (h : Nat) : Bool := d.plan.maps.logical h != 0xFF

/-- SIG_WINDOW_SET (R342, R343, R310): a set from a source, logged and counted. -/
def sigWindowSet (src h i : Nat) (v : Word) (d : Device) : Device :=
  if !backed d h then d
  else
    let d := flushStore d h
    let old := wordBits d h i
    let d := bump64 d (hallPage h + 0x404) 1
    let d := monitorCheck (setWord d h i { sigWord d h i with count := v.toNat % 2 ^ 48, ovf := bit v.toNat 56 }) h i
    let d := bump d (hallPage h + 0x418) 1
    log d 7 0 (toLE 2 (wordIndex d h i) ++ toLE 1 h ++ toLE 1 src ++ toLE 8 old ++ toLE 8 (wordBits d h i))

def execSigWindowSet (src h i : Nat) (v : Word) (s : State) : Host.Outcome State Fault Refusal :=
  run (.sigWindowSet src h i v) (sigWindowSet src h i v) s

end Sys2Proof.Machine
end

