-- ==== Sys2Proof/Machine/Wire.lean ====
section
/-!
DEFINITION. What a Harlon or Foyer link carries: packets in units with their CRC (R351, R352), blocks (R349, R350), the symbols of a codeword and
their lanes (R347, R348, R460), and TRAIN blocks (R368).
-/
namespace Sys2Proof.Machine

/-! ### Packets (R351) -/

/-- Bytes followed by zeros up to a multiple of `n`. -/
def padTo (n : Nat) (bs : List Byte) : List Byte := bs ++ List.replicate (alignUp bs.length n - bs.length) 0#8

/-- A packet on the wire (R351): header, payload, CRC, zeros up to the next unit. -/
def packetBytes (hdr : Nat) (payload : List Byte) : List Byte :=
  let body := toLE 16 hdr ++ payload
  padTo 16 (body ++ toLE 4 (crc32c body))

/-! ### Blocks and codewords (R348–R350) -/

/-- A block of units, filled with NULL units (R350). -/
def mkBlock (btype seq first : Nat) (bs : List Byte) : Block := ⟨btype, seq, first, (padTo 640 bs).take 640⟩

/-- The block header's 20 bits (R349). -/
def Block.header (b : Block) : Nat := b.btype % 4 + b.seq % 4096 * 2 ^ 2 + b.first % 64 * 2 ^ 14

/-- The 5,140 message bits of a block's codeword (R348). -/
def Block.message (b : Block) : Nat := b.header + leAt b.bytes 0 640 * 2 ^ 20

/-- Message symbol `k` of a block's codeword (R348). -/
def Block.symbol (b : Block) (k : Nat) : Nat := b.message / 2 ^ (10 * k) % 1024

/-! The RS(544,514) code of R347 is that of IEEE 802.3: GF(2¹⁰) by x¹⁰ + x³ + 1, the generator with the roots α⁰ to α²⁹, the first symbol sent being the
highest coefficient (PRESUMED, notes/assumptions/84.md). -/

/-- The product of two symbols in the code's field. -/
def gfMul (a b : Nat) : Nat :=
  ((List.range 10).foldl (fun p i =>
    (if bit b i then p.1 ^^^ p.2 else p.1, if 512 ≤ p.2 then (2 * p.2) ^^^ 0x409 else 2 * p.2)) (0, a)).1

/-- The generator's coefficients from x³⁰ down. -/
def rsGenerator : List Nat :=
  ((List.range 30).foldl (fun g _ => (List.zipWith (· ^^^ ·) (g.1 ++ [0]) (0 :: g.1.map (gfMul g.2)), gfMul g.2 2)) ([1], 1)).1

/-- The 30 parity symbols of message symbols, in the order sent (R347). -/
def rsParity (ms : List Nat) : List Nat :=
  let g := rsGenerator.drop 1
  ms.foldl (fun r m => let f := m ^^^ r.headD 0; List.zipWith (· ^^^ ·) (r.drop 1 ++ [0]) (g.map (gfMul f))) (List.replicate 30 0)

/-- The 544 symbols of a block's codeword (R347, R348). -/
def Block.codeword (b : Block) : List Nat :=
  let ms := (List.range 514).map b.symbol
  ms ++ rsParity ms

/-- The lane that carries symbol `k`: of four on a Harlon link, of two on the Foyer link, port 6 (R348, R460). -/
def symLane (p k : Nat) : Nat := if p == 6 then k % 2 else k % 4

/-- The symbols of lane `l` in the order sent. -/
def Block.lane (b : Block) (p l : Nat) : List Nat :=
  let cw := b.codeword
  ((List.range 544).filter (fun k => symLane p k == l)).map (fun k => cw.getD k 0)

/-- A symbol of an inverted lane: the levels of its five PAM4 symbols are turned about, which in Gray coding flips the first bit of each (PRESUMED,
notes/assumptions/84.md). -/
def invertSymbol (s : Nat) : Nat := s ^^^ 0x155

/-- Symbol `k` of a codeword as a link's receiver puts it together from the symbols on its lanes, with the lane order and the polarity found at training
(R348, R367). -/
def Link.received (x : Link) (p : Nat) (lanes : Nat → List Nat) (k : Nat) : Nat :=
  let l := symLane p k
  let s := ((lanes (fld x.laneMap (2 * l + 1) (2 * l)))[k / (if p == 6 then 2 else 4)]?).getD 0
  if bit x.polarity l then invertSymbol s else s

/-- The block that message symbols spell (R348, R349). -/
def blockOf (sym : Nat → Nat) : Block :=
  let m := (List.range 514).foldl (fun m k => m + sym k % 1024 * 2 ^ (10 * k)) 0
  ⟨fld m 1 0, fld m 13 2, fld m 19 14, toLE 640 (m / 2 ^ 20)⟩

/-! ### TRAIN blocks (R368) -/

/-- The units that class `c` is granted on a link of a port (R359, R371): the port's share, or what the next training will take while it is down. -/
def grant (alloc c : Nat) : Nat := 64 * fld alloc (8 * c + 7) (8 * c)

/-- The 640 bytes of a TRAIN block of port `p` (7 on the Foyer link, R460) and link `l`. -/
def trainBytes (p l slot flags alloc : Nat) : List Byte :=
  toLE 4 0x4E524C48 ++ toLE 2 0x100 ++ toLE 1 (if p == 6 then 7 else p) ++ toLE 1 l ++ toLE 8 Config.serial.toNat ++ toLE 1 slot ++ toLE 1 flags
    ++ toLE 2 512 ++ ((List.range 4).map (fun c => toLE 2 (grant alloc c))).flatten ++ List.replicate 612 0#8

end Sys2Proof.Machine
end

