-- ==== Sys2Proof/Machine/Harlon.lean ====
section
/-!
DEFINITION. Harlon ports and links: blocks, credits, replay, training, pattern tests, and the packets WRITE, SIGNAL, WRITE_ERR and LINK
(R330–R335, R347–R377). The Foyer link is port 6, link 0 (R460).
-/
namespace Sys2Proof.Machine

def link (d : Device) (p l : Nat) : Link := tget {} d.links (p * 4 + l)
def setLink (d : Device) (p l : Nat) (x : Link) : Device := { d with links := tset d.links (p * 4 + l) x }
def port (d : Device) (p : Nat) : Port := tget {} d.ports p
def setPort (d : Device) (p : Nat) (x : Port) : Device := { d with ports := tset d.ports p x }
/-- The links of a port. -/
def linksOf (p : Nat) : List Nat := if p == 6 then [0] else [0, 1, 2, 3]

/-- Links in state active. -/
def activeLinks (d : Device) (p : Nat) : List Nat := (linksOf p).filter (fun l => (link d p l).st == 0)
def portUp (d : Device) (p : Nat) : Bool := !(activeLinks d p).isEmpty
def portFenced (d : Device) (p : Nat) : Bool := d.plan.maps.ports.contains p
def linkFenced (d : Device) (p l : Nat) : Bool := portFenced d p || d.plan.maps.links.contains (p * 4 + l)
/-- ENABLE of the link's and the port's page (R586). -/
def linkOn (d : Device) (p l : Nat) : Bool :=
  p == 6 || ((hdr d (linkPage p l / 0x1000)).enable && (hdr d (portPage p / 0x1000)).enable)

/-- The port's state code (R376). -/
def portState (d : Device) (p : Nat) : Nat :=
  if portFenced d p then 2
  else match (activeLinks d p).length with
    | 0 => 6
    | 4 => 0
    | _ => 3

/-- AUTO_RETRAIN (R376, R487). -/
def autoRetrain (d : Device) (p : Nat) : Bool :=
  bit (getR d (if p == 6 then foyPage + 0x104 else portPage p + 0x104)) 0

/-- A counter of a link's page; the Foyer link keeps only its replays (R487). -/
def linkCtr (d : Device) (p l off n : Nat) : Device :=
  if p < 6 then bump d (linkPage p l + off) n else if off == 0x120 then bump d (foyPage + 0x12C) n else d

/-- Fields of a packet header (R352). -/
def hType (h : Nat) : Nat := fld h 3 0
def hCls (h : Nat) : Nat := fld h 5 4
def hJob (h : Nat) : Nat := fld h 9 6
def hLen (h : Nat) : Nat := fld h 19 10
def hPsn (h : Nat) : Nat := fld h 39 20
def hTag (h : Nat) : Nat := fld h 55 40
def hAddr (h : Nat) : Nat := fld h 111 64
/-- Units a packet occupies (R351). -/
def units (len : Nat) : Nat := 1 + ceilDiv (len + 4) 16

/-- A header from its fields (R352). -/
def mkHdr (type cls job len tag spec : Nat) : Nat :=
  type + cls * 2 ^ 4 + job * 2 ^ 6 + len * 2 ^ 10 + tag * 2 ^ 40 + spec * 2 ^ 64

/-! ### LINK packets and CTRL blocks (R358, R361) -/

/-- Classes with credits of a link, or signal credits of its port, that the peer has not been told of (R361). -/
def creditsDue (d : Device) (p l : Nat) : List Nat :=
  let x := link d p l
  let y := port d p
  (List.range 4).filter (fun c => tget 0 x.freed c != tget 0 x.told c || (p < 6 && tget 0 y.sigRet c != tget 0 y.sigTold c))

/-- The header of a LINK packet of a class (R352, R358): the last DATA block received good in order, whether a replay is asked for, and what has been
freed since training. -/
def linkHdr (d : Device) (p l : Nat) (nak : Bool) (cls : Nat) : Nat :=
  let x := link d p l
  mkHdr 5 0 0 0 0 (x.rxSeq % 4096 + b2n nak * 2 ^ 12 + 2 ^ 13 + cls * 2 ^ 14 + tget 0 x.freed cls % 16384 * 2 ^ 16
    + (if p < 6 then tget 0 (port d p).sigRet cls % 256 * 2 ^ 30 else 0))

/-- A CTRL block with one LINK packet for each class with credits to return, or one without (R350, R361). (DESIGN CHOICE, notes/assumptions/11.md.) -/
def sendCtrl (d : Device) (p l : Nat) (nak : Bool) : Device :=
  let x := link d p l
  if x.st != 0 then d
  else
    let cs := match creditsDue d p l with
      | [] => [0]
      | cs => cs
    let b := mkBlock 1 0 0 (cs.flatMap (fun c => packetBytes (linkHdr d p l nak c) []))
    let d := setLink d p l { x with tx := [b], told := x.freed, rxCount := 0 }
    setPort d p { port d p with sigTold := (port d p).sigRet }

/-- CTX_STAT [7:0] (R429). -/
def Ctx.stat (c : Ctx) : Nat :=
  1 + b2n c.active * 2 + b2n c.degraded * 4 + b2n c.broken * 8 + b2n c.normDone * 16 + b2n c.late * 32 + b2n c.nf * 64 + b2n c.tainted * 128

/-- A module-wide error counter of the port, the taint and event of an Arcade context whose ring is broken (R392, R426). -/
def breakRing (d : Device) (rjid : Nat) : Device :=
  match d.ctxs.find? (fun e => e.1 == rjid) with
  | none => d
  | some (_, c) =>
    if c.broken && !c.active then d
    else
      let c := { c with broken := true, active := false }
      let d := setEvt { d with ctxs := tset d.ctxs rjid c } (arcPage c.inPort) 16
      let d := jobEv d c.job 0x60 13 0 [BitVec.ofNat 8 rjid, BitVec.ofNat 8 c.stat]
      taint d c.job 3 13

/-- The contexts of a port are degraded: it has lost a link and stays up (R426). One event goes out for each job concerned, with the lowest of its contexts
(DESIGN CHOICE, notes/assumptions/86.md). -/
def degradeRings (d : Device) (p : Nat) : Device :=
  let mine := d.ctxs.filter (fun e => e.2.inPort == p || e.2.outPort == p)
  let d := mine.foldl (fun d e => { d with ctxs := tset d.ctxs e.1 { e.2 with degraded := true } }) d
  ((mine.map (fun e => e.2.job)).foldl nins []).foldl (fun d j => match mine.find? (fun e => e.2.job == j) with
    | some e => jobEv d j 0x60 0 0 [BitVec.ofNat 8 e.1, BitVec.ofNat 8 { e.2 with degraded := true }.stat]
    | none => d) d

/-- The jobs of held signals and unsent packets, each once. -/
def jobsOf (js : List Nat) : List Nat := js.foldl nins []

/-- The whole port goes down (R335, R426): held signals are discarded, counted, reported and taint; signals due to be sent likewise; rings
break. The counters return to zero only when the port trains again. -/
def portDown (d : Device) (p : Nat) : Device :=
  let x := port d p
  if p == 6 then setPort d 6 { x with held := [], ready := [] }
  else
    let held := x.held ++ x.ready
    let out := (x.q ++ x.again).filter (fun k => hType k.hdr == 2)
    let d := setPort d p { x with held := [], ready := [], q := [], again := [] }
    let d := bump d (portPage p + 0x444) (held.length + out.length)
    let d := (jobsOf (held.map Held.job)).foldl (fun d j =>
      taint (jobEv d j 0x53 13 0 (toLE 4 (getR d (portPage p + 0x120)))) j 5 13) d
    let d := out.foldl (fun d k =>
      if k.job < 16 then taint (jobEv d k.job 0x53 13 (fld k.hdr 52 40) (toLE 4 (getR d (portPage p + 0x120)))) k.job 6 13 else d) d
    (d.ctxs.filter (fun e => e.2.inPort == p || e.2.outPort == p)).foldl (fun d e => breakRing d e.1) d

/-- After a link has left state `old`: events, degraded contexts, and what the loss of the last link brings (R363, R370, R426, R465, R510). With `whole`
every link of the port leaves at once, and no context is degraded by the first of them. -/
def afterLink (d : Device) (p l old : Nat) (portWas : Nat) (whole : Bool) : Device :=
  let new := (link d p l).st
  let was := old == 0
  let now := new == 0
  let d := if p < 6 && old != new then
      setEvt (pushEv d { type := 0x50, unitKind := 5, unit := unitNum (unitLink p l), detail := toLE 4 new }) (linkPage p l) 16
    else d
  let d := if p < 6 && portState d p != portWas then setEvt d (portPage p) 16 else d
  let d := { d with plan := { d.plan with dirty := d.plan.dirty || (p < 6 && old != new) } }
  if was && !now then
    (if portUp d p then
       if whole then d else degradeRings d p
     else
       let d := portDown d p
       if p == 6 then alert d 6 else d)
  -- FOYER_DOWN clears when the Foyer link is active (R630)
  else if p == 6 && now then putBit d (porterPage + 0x108) 6 false
  else d

/-- The distance of a PSN ahead of another modulo 2²⁰. -/
def psnAhead (a b : Nat) : Nat := (a + 2 ^ 20 - b) % 2 ^ 20

/-- A packet is put among packets in the order of their PSNs modulo 2²⁰ (R363): a port holds at most 32,768 (R356). -/
def psnIns (k : Pkt) : List Pkt → List Pkt
  | [] => [k]
  | z :: t => if psnAhead (hPsn z.hdr) (hPsn k.hdr) < 2 ^ 19 && hPsn z.hdr != hPsn k.hdr then k :: z :: t else z :: psnIns k t

/-- The packets that a link has taken and its peer has not acknowledged, oldest first (R356, R357). -/
def Link.owed (x : Link) : List Pkt := x.unacked.flatMap Sent.pkts ++ x.partPk

/-- A link takes a state, its unacknowledged packets going back to the port to be sent again in PSN order (R335, R363). (DEDUCED, notes/assumptions/72.md.) -/
def moveLink (d : Device) (p l : Nat) (f : Link → Link) (whole : Bool := false) : Device :=
  let x := link d p l
  let ps := portState d p
  let pk := x.owed
  let y := f { x with unacked := [], part := [], partFirst := 63, partPk := [], draining := false, ignoring := false, fecLock := false
                      peerSeen := false, testRun := false, loop := false, prbsLock := 0 }
  let d := setLink d p l y
  let q := port d p
  -- the Foyer link has no PSN: its packets keep the order in which they were sent (R460)
  let d := setPort d p { q with again := if p == 6 then pk ++ q.again else pk.foldl (fun a k => psnIns k a) q.again }
  afterLink d p l x.st ps whole

/-- Training starts at step 1 (R367). -/
def trainLink (d : Device) (p l : Nat) (whole : Bool := false) : Device :=
  moveLink d p l (fun x => { x with st := 5, step := 1, laneLock := 0, peerTest := false }) whole

/-- A link leaves service, not for test or fence: it retrains with AUTO_RETRAIN, else it is down (R363, R636). -/
def leaveFailed (d : Device) (p l : Nat) : Device :=
  let d := if p < 6 then needTest d (unitLink p l) 0 0 else d
  if autoRetrain d p && linkOn d p l then trainLink d p l
  else moveLink d p l (fun x => { x with st := 6, step := 0 })

/-- A link leaves service because it is fenced or held idle (R363, R586, R636). -/
def leaveIdle (d : Device) (p l : Nat) (fencedNow : Bool) (whole : Bool := false) : Device :=
  moveLink d p l (fun x => { x with st := if fencedNow then 2 else 6, step := 0 }) whole

/-- Every link of the port leaves service (R335); those not fenced and enabled train again when `train` (R354, R369). -/
def takeDown (d : Device) (p : Nat) (train : Bool) : Device :=
  (linksOf p).foldl (fun d l =>
    if linkFenced d p l then (if (link d p l).st == 2 then d else leaveIdle d p l true true)
    else if train && linkOn d p l then trainLink d p l true
    else moveLink d p l (fun x => { x with st := 6, step := 0 }) true) d

/-- A malformed packet is counted and takes the port down, which then retrains (R354). -/
def malformed (d : Device) (p : Nat) : Device :=
  takeDown (if p < 6 then bump d (portPage p + 0x134) 1 else d) p true

/-- Whether a header of a Harlon packet is malformed (R352, R354); REDUCE is checked by the Arcade's own fields (R388). A header of TYPE 0 that is not all
zero is no NULL unit (R350; DEDUCED, notes/assumptions/83.md). -/
def badHeader (h : Nat) : Bool :=
  fld h 63 56 != 0 ||
  match hType h with
  | 1 => hLen h == 0 || 512 < hLen h || fld h 55 54 != 0 || fld h 127 112 != 0 || (hAddr h % 4096 + hLen h > 4096)
  | 2 => hLen h != 0 || fld h 55 53 != 0
  | 3 => 512 < hLen h || fld h 55 52 != 0 || fld h 127 126 != 0
  | 4 => hLen h != 0 || fld h 127 115 != 0 || fld h 55 54 != 0
  | 5 => hLen h != 0 || fld h 55 40 != 0 || fld h 127 102 != 0
  | _ => true

/-- A packet's units stand in a link's receive buffer (R359). -/
def holdUnits (d : Device) (p l cls n : Nat) : Device :=
  let x := link d p l
  setLink d p l { x with rxHeld := tset x.rxHeld cls (tget 0 x.rxHeld cls + n) }

/-- Units of a class are freed on a link, and the peer is told (R359, R361). -/
def freeUnits (d : Device) (p l cls n : Nat) : Device :=
  let x := link d p l
  sendCtrl (setLink d p l { x with freed := tset x.freed cls ((tget 0 x.freed cls + n) % 16384)
                                   rxHeld := tset x.rxHeld cls (tget 0 x.rxHeld cls - n) }) p l false

/-- A signal credit of a class is returned, and the peer is told on the lowest active link (R360, R361). -/
def freeSignal (d : Device) (p cls : Nat) : Device :=
  let x := port d p
  let d := setPort d p { x with sigRet := tset x.sigRet cls ((tget 0 x.sigRet cls + 1) % 256) }
  match activeLinks d p with
  | l :: _ => sendCtrl d p l false
  | [] => d

/-- Whether a PSN has already been received (R355): it stands in the record, or below it. (DEDUCED, notes/assumptions/65.md.) -/
def isDup (x : Port) (psn : Nat) : Bool :=
  match x.rxHigh with
  | none => false
  | some h => psnAhead psn h ≥ 2 ^ 19 && (psnAhead h psn > 65536 || x.rxSeen.contains psn) || psn == h

/-- The record after a PSN is received (R355). -/
def notePsn (x : Port) (psn : Nat) : Port :=
  match x.rxHigh with
  | none => { x with rxHigh := some psn, rxSeen := [psn] }
  | some h =>
    if psn != h && psnAhead psn h < 2 ^ 19 then
      { x with rxHigh := some psn, rxSeen := (psn :: x.rxSeen).filter (fun y => psnAhead psn y ≤ 65536) }
    else { x with rxSeen := psn :: x.rxSeen }

/-- DATA blocks from the last good one of a link to the block that carries a packet's last unit. -/
def blocksOn (x : Link) (seq : Nat) : Nat := (seq + 4096 - x.rxSeq % 4096) % 4096

/-- The DATA block that carries a packet's last unit is good and in order (R350, R362): the last good one or its successor, or the one after it when
the successor ended no packet. After a bad block only the successor is. (DEDUCED, notes/assumptions/11.md.) -/
def blockNext (x : Link) (seq : Nat) : Bool :=
  x.st == 0 && seq < 4096
  && (blocksOn x seq == 1 || (!x.ignoring && (blocksOn x seq == 2 || (blocksOn x seq == 0 && x.rxSeq < 4096))))

/-- A packet's DATA block is taken (R361, R362): its SEQ becomes the last good one, and a LINK packet answers every 64 blocks. -/
def takeBlock (d : Device) (p l seq : Nat) : Device :=
  let x := link d p l
  let n := x.rxCount + blocksOn x seq
  let d := setLink d p l { x with rxSeq := seq, ignoring := false, rxCount := n }
  if 64 ≤ n then sendCtrl d p l false else d

def blockOk (d : Device) (rx : Rx) : Option Device :=
  if blockNext (link d rx.port rx.link) rx.seq then some (takeBlock d rx.port rx.link rx.seq) else none

/-- Reception of a packet of a type on an active link (R354, R355, R357): `f` delivers it; a duplicate is discarded with its credits; a NULL unit is
skipped (R350). It wakes the module (R504). -/
def receive (type : Nat) (rx : Rx) (extra : Nat → List Byte → Bool) (f : Device → Device) (d : Device) : Device :=
  let h := rx.hdr.toNat
  if h == 0 || (hType h != type && hType h < 6 && hType h != 0) then d
  else
    match blockOk d rx with
    | none => d
    | some d =>
      let d := holdUnits (wake d 2) rx.port rx.link (hCls h) (units (hLen h))
      if badHeader h || extra h rx.payload then malformed d rx.port
      else if isDup (port d rx.port) (hPsn h) then
        let d := bump d (portPage rx.port + 0x138) 1
        let d := freeUnits d rx.port rx.link (hCls h) (units (hLen h))
        if type == 2 then freeSignal d rx.port (hCls h) else d
      else f (setPort d rx.port (notePsn (port d rx.port) (hPsn h)))

/-! ### Tallies -/

def sentOff (p c : Nat) : Nat := portPage p + 0x400 + c * 0x10
def delivOff (p c : Nat) : Nat := portPage p + 0x408 + c * 0x10

/-- A held signal's tally is met (R332). -/
def tallyMet (d : Device) (p : Nat) (s : Held) : Bool := (get64 d (delivOff p s.cls) + 2 ^ 48 - s.tally) % 2 ^ 48 < 2 ^ 47

/-- Signals whose tallies are met become ready in the order they arrived (R332). -/
def promote (d : Device) (p : Nat) : Device :=
  let x := port d p
  let ok := x.held.filter (tallyMet d p)
  if ok.isEmpty then d else setPort d p { x with held := x.held.filter (fun s => !tallyMet d p s), ready := x.ready ++ ok }

/-- Payload bytes of a class are delivered (R330). (DEDUCED, notes/assumptions/64.md.) -/
def delivered (d : Device) (p cls n : Nat) : Device :=
  let d := set64 d (delivOff p cls) ((get64 d (delivOff p cls) + n) % 2 ^ 48)
  promote (bump64 d (portPage p + 0x148) n) p

/-! ### Sending -/

/-- A packet is accepted by a port (R216); it waits for credit and a link. -/
def queuePkt (d : Device) (p : Nat) (k : Pkt) : Device :=
  let x := port d p
  setPort d p { x with q := x.q ++ [k] }

/-- A remote signal due on a port (R331), or discarded because the port is down (R335). -/
def sendSignal (d : Device) (p cls word peerJob add job : Nat) : Device :=
  if portUp d p then queuePkt d p { hdr := mkHdr 2 cls peerJob 0 word (add * 2 ^ 48), job := job }
  else
    let d := bump d (portPage p + 0x444) 1
    if job < 16 then taint (jobEv d job 0x53 13 word (toLE 4 (getR d (portPage p + 0x120)))) job 6 13 else d

/-- The packets of a WRITE of bytes to a peer's virtual address (R353): none crosses a 4 KiB boundary or carries more than 512 bytes. -/
def writePackets (cls peerJob tag job : Nat) : Nat → Nat → List (Byte × Bool) → List Pkt
  | 0, _, _ => []
  | n + 1, a, bs =>
    if bs.isEmpty then []
    else
      let len := min (min 512 bs.length) (4096 - a % 4096)
      let rest := writePackets cls peerJob tag job n (a + len) (bs.drop len)
      if (bs.take len).any Prod.snd then rest
      else { hdr := mkHdr 1 cls peerJob len tag a, payload := (bs.take len).map Prod.fst, job := job } :: rest

/-- The unused credit of a class on a link. -/
def creditOf (x : Link) (cls : Nat) : Nat := tget 0 x.credit cls

/-- The link a packet goes to (R365): active, not entering a test, fewer than 512 blocks outstanding, the most unused credit, the lowest number. -/
def pickLink (d : Device) (p cls need : Nat) : Option Nat :=
  let ok := (activeLinks d p).filter (fun l =>
    let x := link d p l
    !x.draining && x.unacked.length < 512 && need ≤ creditOf x cls)
  ok.foldl (fun b l => match b with
    | none => some l
    | some m => if creditOf (link d p m) cls < creditOf (link d p l) cls then some l else b) none

/-- The units of a packet's payload on the wire: a read request has none (R461). -/
def pktUnits (p : Nat) (k : Pkt) : Nat := units (if p == 6 && hType k.hdr == 2 then 0 else hLen k.hdr)

/-- The units that wait on a link are sent as its next DATA block, with NULL units to its end (R349, R350, R362). -/
def Link.sendPart (x : Link) : Link :=
  let b := mkBlock 0 x.txSeq x.partFirst x.part
  { x with txSeq := (x.txSeq + 1) % 4096, unacked := x.unacked ++ [⟨b, x.partPk⟩], tx := [b], part := [], partFirst := 63, partPk := [] }

/-- A packet's units follow those that wait on a link; a block that they fill is sent, and what is left of the packet begins the next (R350). -/
def Link.pack (x : Link) (k : Pkt) : Link :=
  let all := x.part ++ packetBytes k.hdr k.payload
  let y := { x with part := all.take 640, partFirst := if x.partFirst == 63 then x.part.length / 16 else x.partFirst }
  if all.length ≤ 640 then
    let y := { y with partPk := x.partPk ++ [k] }
    if all.length == 640 then y.sendPart else y
  else { y.sendPart with part := all.drop 640, partPk := [k] }

/-- A packet is assigned to a link: it takes its credit and its place among the link's units (R350, R359, R365). -/
def emit (d : Device) (p l : Nat) (k : Pkt) : Device :=
  let x := link d p l
  let c := hCls k.hdr
  setLink d p l { x.pack k with credit := tset x.credit c (creditOf x c - pktUnits p k) }

/-- A link with nothing more to take sends the units that wait on it, or a CTRL block (R361, R362). -/
def flushLink (d : Device) (p l : Nat) : Device :=
  let x := link d p l
  if !x.part.isEmpty && x.unacked.length < 512 then setLink d p l x.sendPart else sendCtrl d p l false

/-- Packets that the peer has not acknowledged (R356). -/
def unackedCount (d : Device) (p : Nat) : Nat := (linksOf p).foldl (fun n l => n + (link d p l).owed.length) 0

/-- Whether the first waiting packet of a class can be sent now (R356, R359, R360, R365): after the packets of the class that are sent again. -/
def classReady (d : Device) (p cls : Nat) : Option (Pkt × Nat) :=
  match (port d p).q.find? (fun k => hCls k.hdr == cls) with
  | none => none
  | some k =>
    if (port d p).again.any (fun k => hCls k.hdr == cls) then none
    else if p < 6 && hType k.hdr == 2 && tget 64 (port d p).sigCredit cls == 0 then none
    else (pickLink d p cls (pktUnits p k)).map (fun l => (k, l))

/-- The first packet to be sent again whose class has credit: of each class the first, so that no class holds back another (R335, R364). -/
def againReady (d : Device) (p : Nat) : Option (Pkt × Nat) :=
  let firsts := (List.range 4).filterMap (fun c => (port d p).again.find? (fun k => hCls k.hdr == c))
  ((port d p).again.filter firsts.contains).findSome? (fun k => (pickLink d p (hCls k.hdr) (pktUnits p k)).map (fun l => (k, l)))

/-- Removal of the first packet of a class. -/
def dropFirst (cls : Nat) : List Pkt → List Pkt
  | [] => []
  | k :: t => if hCls k.hdr == cls then t else k :: dropFirst cls t

/-- A new packet of a class is sent on a link: PSN, tallies and signal credit (R330, R331, R355, R360). -/
def sendNew (d : Device) (p cls : Nat) (k : Pkt) (l : Nat) : Device :=
  let x := port d p
  let t := hType k.hdr
  let d := if p < 6 then bump64 d (portPage p + 0x140) (hLen k.hdr) else d
  let d := if p < 6 && t == 1 then set64 d (sentOff p cls) ((get64 d (sentOff p cls) + hLen k.hdr) % 2 ^ 48) else d
  let d := if p < 6 && t == 4 then bump d (portPage p + 0x130) 1 else d
  let hd := if p < 6 then k.hdr + x.psn * 2 ^ 20 + (if t == 2 then get64 d (sentOff p cls) * 2 ^ 64 else 0) else k.hdr
  let d := setPort d p { x with
    q := dropFirst cls x.q, psn := (x.psn + 1) % 2 ^ 20, rr := cls
    sigCredit := if p < 6 && t == 2 then tset x.sigCredit cls (tget 64 x.sigCredit cls - 1) else x.sigCredit }
  emit d p l { k with hdr := hd }

/-- A packet that is sent again goes to a link. -/
def sendAgain (d : Device) (p : Nat) (k : Pkt) (l : Nat) : Device :=
  emit (setPort d p { port d p with again := dropFirst (hCls k.hdr) (port d p).again }) p l k

/-- No packet can go to a link: every active link sends what it holds, or a CTRL block (R361). -/
def sendRest (d : Device) (p : Nat) : Device := (activeLinks d p).foldl (fun d l => flushLink d p l) d

/-- A Harlon port assigns one packet (R335, R356, R365): first those sent again, then one class in turn. -/
def harlonSend (d : Device) (p : Nat) : Device :=
  match againReady d p with
  | some (k, l) => sendAgain d p k l
  | none =>
    if 32768 ≤ unackedCount d p then sendRest d p
    else
      match ([1, 2, 3, 4].map (fun i => ((port d p).rr + i) % 4)).findSome? (fun c => (classReady d p c).map (fun r => (c, r))) with
      | some (c, k, l) => sendNew d p c k l
      | none => sendRest d p

/-! ### Commands: reception -/

/-- The payload has the length the header states; otherwise the event is no packet. -/
def lenOk (rx : Rx) : Bool := rx.payload.length == hLen rx.hdr.toNat

/-- WRITE_RX (R291, R299, R330, R375). -/
def writeRx (rx : Rx) (d : Device) : Device :=
  let h := rx.hdr.toNat
  if hType h == 1 && !lenOk rx then d
  else
    receive 1 rx (fun _ _ => false) (fun d =>
      let p := rx.port
      let n := hLen h
      let fin (d : Device) : Device := delivered (freeUnits d p rx.link (hCls h) (units n)) p (hCls h) n
      match translate d noHall (hJob h) true true (pagesOf (hAddr h) n) with
      | .ok (pg, d) => fin (writeVirt d pg (hAddr h) (clean rx.payload))
      | .error (f, pgno) =>
        let d := recordXFault d (hJob h) (max (hAddr h) (pgno * 65536)) f true true 0xFFFF
        let d := jobEv d (hJob h) 0x52 f.code (hAddr h) (toLE 4 (getR d (devPage 1 + 0x220)))
        let d := taint d (hJob h) 6 f.code
        let d := queuePkt d p { hdr := mkHdr 4 (hCls h) (fld h 43 40) 0 (hTag h) (hAddr h + f.cause * 2 ^ 48), job := hJob h }
        fin d) d

def execWriteRx (rx : Rx) (s : State) : Host.Outcome State Fault Refusal := run (.writeRx rx) (writeRx rx) s

/-- WRITE_ERR_RX (R375). -/
def writeErrRx (rx : Rx) (d : Device) : Device :=
  let h := rx.hdr.toNat
  receive 4 rx (fun _ _ => false) (fun d =>
    let p := rx.port
    let j := fld h 43 40
    let d := freeUnits d p rx.link (hCls h) (units 0)
    let d := setEvt (bump d (portPage p + 0x12C) 1) (portPage p) 17
    let info := fld h 114 112 + j * 8 + fld h 47 44 * 128 + fld h 53 48 * 2048 + 2 ^ 31
    let d := if bit (getR d (portPage p + 0x120)) 31 then d
      else set64 (setR d (portPage p + 0x120) info) (portPage p + 0x124) (hAddr h)
    let code := if fld h 114 112 < 4 then 5 else 6
    taint (jobEv d j 0x51 code (hAddr h) (toLE 4 info)) j 6 code) d

def execWriteErrRx (rx : Rx) (s : State) : Host.Outcome State Fault Refusal := run (.writeErrRx rx) (writeErrRx rx) s

/-- SIGNAL_RX (R332, R334): the signal is held until its tally is met. -/
def signalRx (rx : Rx) (d : Device) : Device :=
  let h := rx.hdr.toNat
  receive 2 rx (fun _ _ => false) (fun d =>
    let p := rx.port
    let d := freeUnits d p rx.link (hCls h) (units 0)
    let x := port d p
    promote (setPort d p { x with held := x.held ++ [⟨hCls h, fld h 52 40, hJob h, hAddr h, fld h 127 112⟩] }) p) d

def execSignalRx (rx : Rx) (s : State) : Host.Outcome State Fault Refusal := run (.signalRx rx) (signalRx rx) s

/-- REMOTE_SIGNAL_RELEASE (R332, R315, R360): the first signal of a class whose tally is met passes to its word's hall. -/
def remoteSignalRelease (p cls : Nat) (d : Device) : Device :=
  let x := port d p
  match lfind (fun s => s.cls == cls) x.ready with
  | none => d
  | some i =>
    match x.ready[i]? with
    | none => d
    | some s => arriveUnit (freeSignal (setPort d p { x with ready := ldel x.ready i }) p cls) s.job s.word s.add (some p)

def execRemoteSignalRelease (p cls : Nat) (s : State) : Host.Outcome State Fault Refusal :=
  run (.remoteSignalRelease p cls) (remoteSignalRelease p cls) s

/-! ### Commands: link control -/

/-- The fields of PORT_RX_ALLOC sum to 128 or less and none is 0 (R371). -/
def allocOk (w : Nat) : Bool :=
  let f (c : Nat) := fld w (8 * c + 7) (8 * c)
  f 0 != 0 && f 1 != 0 && f 2 != 0 && f 3 != 0 && f 0 + f 1 + f 2 + f 3 ≤ 128

/-- The shares that a port grants (R359, R371): those of its last training while it is up, else those of the next. The Foyer port has the default ones
(DESIGN CHOICE, notes/assumptions/72.md). -/
def portAlloc (d : Device) (p : Nat) : Nat :=
  if p == 6 then 0x20202020
  else if portUp d p then (port d p).alloc
  else
    let w := getR d (portPage p + 0x108)
    if allocOk w then w else 0x20202020

/-- A link sends a TRAIN block (R367, R368, R372), with FLAGS beside PORT_UP. -/
def sendTrain (d : Device) (p l flags : Nat) : Device :=
  let b := trainBytes p l d.boot.slot (b2n (portUp d p) + flags) (portAlloc d p)
  setLink d p l { link d p l with tx := [mkBlock 2 0 63 b] }

/-- A link is in test for the Porter's self-test (R563). -/
def porterTest (d : Device) (p l : Nat) : Bool := d.tests.any (fun t => t.running && t.unit == unitLink p l)

/-- The pattern is sent and checked (R372, R374); whether the checkers lock is not the spec's to say: open. -/
def runTest (d : Device) (p l : Nat) (loop : Bool) : Device :=
  let r := freeVal d
  setLink r.2 p l { link r.2 p l with testRun := true, loop := loop, prbsLock := r.1.toNat % 16 }

/-- The end of a test entry: the link is in test (R363, R372). A local loopback runs at once, the peer's test is answered, and a far-end test is asked for
with its pattern, PRBS31 for the Porter (R563). -/
def enterTest (d : Device) (p l : Nat) : Device :=
  let x := link d p l
  let c := getR d (linkPage p l + 0x104)
  let mine := porterTest d p l
  let pat := if x.peerTest then x.pattern else if mine then 2 else fld c 5 4
  let d := moveLink d p l (fun x => { x with st := 4, step := 0, pattern := pat })
  if x.peerTest then runTest (sendTrain d p l 8) p l false
  else if bit c 3 && !mine then runTest d p l true
  else sendTrain d p l (4 + 16 * pat)

/-- A test entry: what waits on the link is sent, and outstanding acknowledgements, if any, are waited for (R363). -/
def beginTest (d : Device) (p l : Nat) (peer : Bool) : Device :=
  let x := link d p l
  let d := setLink d p l { x with peerTest := peer, testRefused := false }
  if x.st == 0 && !x.owed.isEmpty then
    let d := flushLink d p l
    setLink d p l { link d p l with draining := true }
  else enterTest d p l

/-- LINK_PACKET_RX (R358, R362, R363): acknowledgements, NAK and credits. -/
def linkPacketRx (p l : Nat) (hd : BitVec 128) (d : Device) : Device :=
  let h := hd.toNat
  let x := link d p l
  if x.st != 0 || h == 0 then d
  else if hType h != 5 || badHeader h || (p == 6 && fld h 39 34 != 0) then
    (if hType h != 5 && !badHeader h then d else malformed d p)
  else
    let cls := fld h 79 78
    let dc := (fld h 93 80 + 16384 - tget 0 x.peerFreed cls) % 16384
    let x := if dc < 8192 then
        { x with credit := tset x.credit cls (creditOf x cls + dc), peerFreed := tset x.peerFreed cls (fld h 93 80) } else x
    let d := setLink d p l x
    let q := port d p
    let ds := (fld h 101 94 + 256 - tget 0 q.peerSig cls) % 256
    let d := if p < 6 && ds < 128 then
        setPort d p { q with sigCredit := tset q.sigCredit cls (tget 64 q.sigCredit cls + ds), peerSig := tset q.peerSig cls (fld h 101 94) }
      else d
    if !bit h 77 then d
    else
      let ack := fld h 75 64
      let acked := x.unacked.any (fun b => b.block.seq == ack)
      let rest := if acked then (x.unacked.dropWhile (fun b => b.block.seq != ack)).drop 1 else x.unacked
      let x := { x with unacked := rest }
      if bit h 76 then
        let nx := (ack + 1) % 4096
        let nakN : Nat := if x.nakRun != 0 && x.nakSeq == nx then x.nakRun + 1 else 1
        let d := linkCtr (setLink d p l { x with nakSeq := nx, nakRun := nakN, tx := rest.map Sent.block }) p l 0x120 1
        if 8 ≤ nakN then leaveFailed d p l else if x.draining && rest.isEmpty then enterTest d p l else d
      else
        let d := setLink d p l { x with nakRun := if acked then 0 else x.nakRun }
        if x.draining && rest.isEmpty then enterTest d p l else d

def execLinkPacketRx (p l : Nat) (hd : BitVec 128) (s : State) : Host.Outcome State Fault Refusal :=
  run (.linkPacketRx p l hd) (linkPacketRx p l hd) s

/-- BAD_BLOCK (R350, R361, R362): a LINK packet asks at once for what follows the last good block, and blocks are ignored until its successor. -/
def badBlock (p l : Nat) (unc : Bool) (d : Device) : Device :=
  let x := link d p l
  if x.st != 0 then d
  else
    let d := sendCtrl (setLink d p l { x with ignoring := true }) p l true
    linkCtr (linkCtr d p l (if unc then 0x118 else 0x11C) 1) p l 0x124 1

def execBadBlock (p l : Nat) (unc : Bool) (s : State) : Host.Outcome State Fault Refusal := run (.badBlock p l unc) (badBlock p l unc) s

/-- A training failure (R367): the third in a row leaves the link down, with an event and the Porter's pattern test; the Foyer link with
AUTO_RETRAIN retrains without limit (R460). -/
def trainFail (d : Device) (p l : Nat) : Device :=
  let x := link d p l
  let n := min 3 (x.fails + 1)
  let d := setLink d p l { x with fails := n }
  if n < 3 || (p == 6 && autoRetrain d 6) then trainLink d p l
  else
    let d := moveLink d p l (fun x => { x with st := 6, step := 0 })
    if p == 6 then d else needTest d (unitLink p l) 0 0

/-- TRAIN_STEP_TIMEOUT (R367). -/
def trainStepTimeout (p l : Nat) (d : Device) : Device := if (link d p l).st == 5 then trainFail d p l else d

def execTrainStepTimeout (p l : Nat) (s : State) : Host.Outcome State Fault Refusal := run (.trainStepTimeout p l) (trainStepTimeout p l) s

/-- TRAIN_STEP_DONE (R367): steps 1 to 3. At step 4 the link sends TRAIN blocks; it ends at a TRAIN block of the peer. -/
def trainStepDone (p l : Nat) (pol : BitVec 4) (map : BitVec 8) (d : Device) : Device :=
  let x := link d p l
  if x.st != 5 then d
  else
    match x.step with
    | 1 => setLink d p l { x with step := 2, laneLock := if p == 6 then 3 else 15 }
    | 2 => setLink d p l { x with step := 3 }
    | 3 => sendTrain (setLink d p l { x with step := 4, fecLock := true, polarity := pol.toNat, laneMap := map.toNat }) p l 0
    | _ => d

def execTrainStepDone (p l : Nat) (pol : BitVec 4) (map : BitVec 8) (s : State) : Host.Outcome State Fault Refusal :=
  run (.trainStepDone p l pol map) (trainStepDone p l pol map) s

/-- A TRAIN block is valid (R368, R369). -/
def trainValid (p : Nat) (b : List Byte) : Bool :=
  let ru (c : Nat) := leAt b (0x14 + 2 * c) 2
  leAt b 0 4 == 0x4E524C48 && leAt b 4 2 / 256 == 1 && leAt b 6 1 < 8 && leAt b 7 1 < 4 && leAt b 0x10 1 < 64 && leAt b 0x11 1 < 64
  && allZero (b.drop 0x1C) && ru 0 + ru 1 + ru 2 + ru 3 ≤ 8192 && (List.range 4).all (fun c => 34 ≤ ru c)
  && (p != 6 || (leAt b 6 1 == 7 && leAt b 7 1 == 0))

/-- The port trains (R369, R371): numbers, tallies, credits and the record start again. -/
def trainPort (d : Device) (p : Nat) : Device :=
  let x := port d p
  let w := getR d (portPage p + 0x108)
  let ok := p == 6 || allocOk w
  let d := setPort d p { x with psn := 0, rxHigh := none, rxSeen := [], sigCredit := [], peerSig := [], sigRet := [], sigTold := [], held := []
                                again := if p == 6 then x.again else []
                                ready := [], allocErr := !ok, alloc := if ok then w else 0x20202020 }
  if p == 6 then d else (List.range 4).foldl (fun d c => set64 (set64 d (sentOff p c) 0) (delivOff p c) 0) d

/-- Training step 5 (R367, R369, R370): SEQ is zero, credits are the peer's RX_UNITS, the link is active. -/
def linkActive (d : Device) (p l : Nat) (b : List Byte) : Device :=
  let up := portUp d p
  let peerUp := bit (leAt b 0x11 1) 0
  if p < 6 && up != peerUp then takeDown (bump d (portPage p + 0x13C) 1) p true
  else
    let ps := portState d p
    let d := if up then d else trainPort d p
    let x := link d p l
    let credit := (List.range 4).map (fun c => (c, leAt b (0x14 + 2 * c) 2))
    let d := setLink d p l { x with st := 0, step := 0, fails := 0, txSeq := 0, unacked := [], rxSeq := 8191, ignoring := false, nakRun := 0
                                    rxCount := 0, credit := credit, peerFreed := [], freed := [], told := [], rxHeld := []
                                    peerLink := leAt b 7 1 % 4, peerSeen := false, testRefused := false }
    let d := if p < 6 then
        setR (set64 d (portPage p + 0x110) (leAt b 8 8)) (portPage p + 0x118) (leAt b 6 1 % 8 + leAt b 0x10 1 % 64 * 256)
      else d
    afterLink d p l 5 ps false

/-- TRAIN_BLOCK_RX (R367–R372): the peer's TRAIN block ends step 4, or asks for or answers a far-end test. -/
def trainBlockRx (p l : Nat) (b : List Byte) (d : Device) : Device :=
  let x := link d p l
  let fl := leAt b 0x11 1
  if !trainValid p b then d
  else if x.st == 5 && x.step == 4 then
    let d := sendTrain (setLink d p l { x with peerSeen := true }) p l 2
    if bit fl 1 then linkActive d p l b else d
  else if p < 6 && x.st == 4 && bit fl 3 && !x.testRun then runTest d p l false
  else if p < 6 && x.st == 0 && bit fl 2 && bit (getR d (portPage p + 0x104)) 1 then
    beginTest (setLink d p l { x with pattern := fld fl 5 4 }) p l true
  else d

def execTrainBlockRx (p l : Nat) (b : List Byte) (s : State) : Host.Outcome State Fault Refusal := run (.trainBlockRx p l b) (trainBlockRx p l b) s

/-- LINK_SILENCE_TIMEOUT (R363). -/
def linkSilenceTimeout (p l : Nat) (d : Device) : Device :=
  if (link d p l).st == 0 && !(link d p l).unacked.isEmpty then leaveFailed d p l else d

def execLinkSilenceTimeout (p l : Nat) (s : State) : Host.Outcome State Fault Refusal := run (.linkSilenceTimeout p l) (linkSilenceTimeout p l) s

/-- LANE_LOCK_LOSS (R363): a lane has lost codeword lock for more than 1 µs. -/
def laneLockLoss (p l lane : Nat) (d : Device) : Device :=
  let x := link d p l
  let d := setLink d p l { x with laneLock := if bit x.laneLock lane then x.laneLock - 2 ^ lane else x.laneLock, fecLock := false }
  if x.st == 0 then leaveFailed d p l else d

def execLaneLockLoss (p l lane : Nat) (s : State) : Host.Outcome State Fault Refusal := run (.laneLockLoss p l lane) (laneLockLoss p l lane) s

/-- LANE_LOCK_REGAINED (R636): a link that is down, not fenced and enabled trains again. -/
def laneLockRegained (p l : Nat) (d : Device) : Device :=
  if (link d p l).st == 6 && !linkFenced d p l && linkOn d p l then trainLink d p l else d

def execLaneLockRegained (p l : Nat) (s : State) : Host.Outcome State Fault Refusal := run (.laneLockRegained p l) (laneLockRegained p l) s

/-- RETRAIN (R363, R377): LINK_CTRL RETRAIN takes the link out and retrains it. -/
def retrain (p l : Nat) (d : Device) : Device :=
  if linkFenced d p l || !linkOn d p l then d else trainLink d p l

def execRetrain (p l : Nat) (s : State) : Host.Outcome State Fault Refusal := run (.retrain p l) (retrain p l) s

/-- LINK_CTRL as written: TEST_REQ, TEST_MODE and PATTERN are kept, MODE and PATTERN not while TEST_REQ is 1 (R377). -/
def storeLinkCtrl (d : Device) (p l v : Nat) : Device :=
  let o := getR d (linkPage p l + 0x104)
  if bit o 1 then setR d (linkPage p l + 0x104) (b2n (bit v 1) * 2 + fld o 5 3 * 8)
  else setR d (linkPage p l + 0x104) (b2n (bit v 1) * 2 + fld v 5 3 * 8)

/-- A test request (R372, R373): refused on the last active link of a port unless forced. -/
def startTest (p l : Nat) (v : Reg) (force : Bool) (d : Device) : Device :=
  let x := link d p l
  if linkFenced d p l || !linkOn d p l || x.st == 4 || x.draining then d
  else if !force && activeLinks d p == [l] then setLink d p l { x with testRefused := true }
  else beginTest (storeLinkCtrl d p l (v.toNat ||| 2)) p l false

/-- TEST_REQ (R372, R373). -/
def testReq (p l : Nat) (v : Reg) (d : Device) : Device := startTest p l v false d
def execTestReq (p l : Nat) (v : Reg) (s : State) : Host.Outcome State Fault Refusal := run (.testReq p l v) (testReq p l v) s

/-- TEST_FORCE (R373). -/
def testForce (p l : Nat) (v : Reg) (d : Device) : Device := startTest p l v true d
def execTestForce (p l : Nat) (v : Reg) (s : State) : Host.Outcome State Fault Refusal := run (.testForce p l v) (testForce p l v) s

/-- TEST_ENTRY_ACK_TIMEOUT (R363): the wait for acknowledgements at a test entry ends. -/
def testEntryAckTimeout (p l : Nat) (d : Device) : Device := if (link d p l).draining then enterTest d p l else d
def execTestEntryAckTimeout (p l : Nat) (s : State) : Host.Outcome State Fault Refusal := run (.testEntryAckTimeout p l) (testEntryAckTimeout p l) s

/-- What the checkers count in a test, and which of them are locked, is not the spec's to say (R374): open values. -/
def countPrbs (d : Device) (p l : Nat) : Device :=
  let r := freeVal d
  let d := bump64 r.2 (linkPage p l + 0x138) r.1.toNat
  let d := (List.range 4).foldl (fun d k => let r := freeVal d; bump r.2 (linkPage p l + 0x128 + 4 * k) (r.1.toNat % 2 ^ 32)) d
  runTest d p l (link d p l).loop

/-- TEST_END (R374): the test ends, and the link retrains. The Porter's self-test is ended by the Porter alone. -/
def testEnd (p l : Nat) (d : Device) : Device :=
  let x := link d p l
  if porterTest d p l then d
  else if x.st != 4 then setR d (linkPage p l + 0x104) (getR d (linkPage p l + 0x104) - b2n (bit (getR d (linkPage p l + 0x104)) 1) * 2)
  else
    let d := if x.testRun then countPrbs d p l else d
    let d := setEvt d (linkPage p l) 17
    let d := setR d (linkPage p l + 0x104) (getR d (linkPage p l + 0x104) - b2n (bit (getR d (linkPage p l + 0x104)) 1) * 2)
    if linkOn d p l then trainLink d p l else moveLink d p l (fun x => { x with st := 6 })

def execTestEnd (p l : Nat) (s : State) : Host.Outcome State Fault Refusal := run (.testEnd p l) (testEnd p l) s

/-- TEST_ANSWER_TIMEOUT (R372): the peer refuses or does not answer; the link counts a training failure and retrains. In the Porter's self-test a local
loopback follows (R563, R636). -/
def testAnswerTimeout (p l : Nat) (d : Device) : Device :=
  let x := link d p l
  if x.st != 4 || x.testRun then d
  else if porterTest d p l then runTest d p l true
  else
    let d := setR d (linkPage p l + 0x104) (getR d (linkPage p l + 0x104) - b2n (bit (getR d (linkPage p l + 0x104)) 1) * 2)
    trainFail (setLink d p l { x with testRefused := true }) p l

def execTestAnswerTimeout (p l : Nat) (s : State) : Host.Outcome State Fault Refusal := run (.testAnswerTimeout p l) (testAnswerTimeout p l) s

end Sys2Proof.Machine
end

