-- ==== Sys2Proof/Machine/Operands.lean ====
section
/-!
DEFINITION. Operand forms: instruction fields, stream descriptors (R210), elements of tiles and memory rows (R122, R123, R49, R228), and the
transforms of a memory-side row (R70–R77).
-/
namespace Sys2Proof.Machine

/-! ### Rows of elements -/

/-- Bytes of a row of `c` columns (R49, R122), without the padding of a tile row that is not MX. -/
def rowSize (f c : Nat) : Nat := if isMx f then alignUp (c / 32 * (mxBytes f + 1)) 4 else c * (elemBits f / 8)
/-- Row stride of a tile (R122). -/
def tileStride (t : Tile) : Nat := alignUp (rowSize t.fmt t.cols) 4
/-- Bytes of a tile (R122). -/
def tileBytes (t : Tile) : Nat := t.rows * tileStride t
def tileRow (t : Tile) (r : Nat) : Nat := t.base + r * tileStride t

/-- SEG and BB of the tile-blocked layout (R228). -/
def segSize (f : Nat) : Nat := rowSize f 32
def blockSize (f : Nat) : Nat := 32 * segSize f

/-- The code of element `c` of a row of `cols` columns at `base`, and whether a byte that holds it, or its scale, is poisoned (R49, R123). -/
def elCode (m : Mem) (f cols base c : Nat) : Nat × Bool :=
  if isMx f then
    let n := elemBits f
    let blk := base + c / 32 * mxBytes f
    let lo := n * (c % 32) / 8
    let len := (n * (c % 32) + n - 1) / 8 - lo + 1
    let code := (m.num (blk + lo) len >>> (n * (c % 32) - 8 * lo)) % 2 ^ n
    (code, m.anyBad (blk + lo) len || m.isBad (base + cols / 32 * mxBytes f + c / 32))
  else
    let eb := elemBits f / 8
    (m.num (base + c * eb) eb, m.anyBad (base + c * eb) eb)

/-- The value of element `c` of a row, before any learned scale (R46, R48). -/
def elAt (m : Mem) (f cols base c : Nat) : El :=
  let x := elCode m f cols base c
  if isMx f then ⟨some (mxVal f x.1 (m.get (base + cols / 32 * mxBytes f + c / 32)).toNat), x.2⟩
  else ⟨some (elemVal f x.1), x.2⟩

/-- Elements `c0` to `c0 + n - 1` of a row. -/
def elsAt (m : Mem) (f cols base c0 n : Nat) : List El := (List.range n).map (fun i => elAt m f cols base (c0 + i))

/-- The failing bytes among those that hold elements `c0` to `c0 + n - 1` of a row, scales included. -/
def elsFailing (m : Mem) (f cols base c0 n : Nat) : List Nat :=
  if isMx f then
    m.failing (base + c0 / 32 * mxBytes f) (n / 32 * mxBytes f) ++ m.failing (base + cols / 32 * mxBytes f + c0 / 32) (ceilDiv n 32)
  else m.failing (base + c0 * (elemBits f / 8)) (n * (elemBits f / 8))

/-- A value, an empty element counting as zero. -/
def El.num (e : El) : Num := e.v.getD Num.zero
/-- An element of a value computed from others (R553). -/
def mkEl (v : Num) (bad : Bool) : El := ⟨some v, bad⟩
/-- Conversion of an element to F32 (R71, R72, R197). -/
def El.f32 (e : El) : El := ⟨e.v.map rF32, e.bad⟩

/-- Memory after a narrowing write, with its counted saturations and NaN blocks (R69). -/
structure Narrow where
  mem : Mem
  sats : Nat
  nans : Nat
  deriving DecidableEq, Repr, Inhabited

/-- Bytes of one poison state. -/
def allBad (b : Bool) (bs : List Byte) : List (Byte × Bool) := bs.map (fun v => (v, b))

/-- Element codes of an MX block packed little-endian (R49). -/
def packCodes (f : Nat) (cs : List Nat) : List Byte :=
  toLE (mxBytes f) ((cs.zipIdx).foldl (fun w c => w + c.1 * 2 ^ (elemBits f * c.2)) 0)

/-- Elements converted and written into a row from column `c0` (R62–R66, R50, R51); an MX block of poisoned inputs is poisoned whole (R553). -/
def putEls (m : Mem) (f cols base c0 : Nat) (xs : List El) : Narrow :=
  if isMx f then
    (List.range (xs.length / 32)).foldl (fun (a : Narrow) b =>
      let ys := (xs.drop (32 * b)).take 32
      let q := quantise f (ys.map El.num)
      let bad := ys.any El.bad
      let k := c0 / 32 + b
      let m := a.mem.writeP (base + k * mxBytes f) (allBad bad (packCodes f q.codes))
      let m := m.writeP (base + cols / 32 * mxBytes f + k) (allBad bad (toLE 1 q.scale))
      ⟨m, a.sats + q.sats, a.nans + b2n q.nanBlock⟩) ⟨m, 0, 0⟩
  else
    let eb := elemBits f / 8
    (xs.zipIdx).foldl (fun (a : Narrow) x =>
      let r := elemEnc f x.1.num
      ⟨a.mem.writeP (base + (c0 + x.2) * eb) (allBad x.1.bad (toLE eb r.1)), a.sats + b2n r.2, a.nans⟩) ⟨m, 0, 0⟩

/-- The bytes of elements `c0` to `c0 + n - 1` of a row, copied unchanged to column `c1` of another row of the same format (R146). -/
def copyEls (src dst : Mem) (f cols1 base1 c1 cols0 base0 c0 n : Nat) : Mem :=
  if isMx f then
    let d := dst.writeP (base1 + c1 / 32 * mxBytes f) (src.readP (base0 + c0 / 32 * mxBytes f) (n / 32 * mxBytes f))
    d.writeP (base1 + cols1 / 32 * mxBytes f + c1 / 32) (src.readP (base0 + cols0 / 32 * mxBytes f + c0 / 32) (n / 32))
  else
    let eb := elemBits f / 8
    dst.writeP (base1 + c1 * eb) (src.readP (base0 + c0 * eb) (n * eb))

/-! ### Stream descriptors (R210) -/

/-- A stream descriptor, its ADDR with XA added (R209). -/
structure Desc where
  src : Nat
  dst : Nat
  transpose : Bool
  rot : Nat
  smooth : Bool
  lscale : Bool
  lsGran : Nat
  blocked : Bool
  mfmt : Nat
  tile : Nat
  trow : Nat
  nrows : Nat
  tcol : Nat
  ncols : Nat
  rowStride : Nat
  addr : Nat
  len : Nat
  port : Nat
  peerJob : Nat
  cls : Nat
  sigWord : Nat
  sigEn : Bool
  sigRemote : Bool
  sigAdd : Nat
  smoothAddr : Nat
  lsAddr : Nat
  addr2 : Nat
  /-- A reserved field is not zero. -/
  resv : Bool
  deriving DecidableEq, Repr, Inhabited

def descOf (b : List Byte) (xa : Nat) : Desc :=
  let opts := leAt b 1 1
  let sig := leAt b 0x20 2
  let a := (leAt b 0x10 8 + xa) % 2 ^ 64
  { src := leAt b 0 1 % 16, dst := leAt b 0 1 / 16
    transpose := bit opts 0, rot := fld opts 2 1, smooth := bit opts 3, lscale := bit opts 4, lsGran := fld opts 6 5, blocked := bit opts 7
    mfmt := leAt b 2 1 % 16, tile := leAt b 3 1 % 128
    trow := leAt b 4 2, nrows := leAt b 6 2, tcol := leAt b 8 2, ncols := leAt b 0xA 2
    rowStride := leAt b 0xC 4, addr := a, len := leAt b 0x18 3
    port := leAt b 0x1C 1 % 8, peerJob := leAt b 0x1C 1 / 16, cls := leAt b 0x1D 1 % 4
    sigWord := sig % 8192, sigEn := bit sig 13, sigRemote := bit sig 14, sigAdd := leAt b 0x22 2
    smoothAddr := leAt b 0x28 8, lsAddr := leAt b 0x30 8, addr2 := leAt b 0x38 8
    resv := leAt b 2 1 ≥ 16 || leAt b 3 1 ≥ 128 || leAt b 0x10 8 ≥ 2 ^ 48 || leAt b 0x1B 1 != 0 || bit (leAt b 0x1C 1) 3
      || leAt b 0x1D 1 ≥ 4 || leAt b 0x1E 2 != 0 || bit sig 15 || leAt b 0x24 4 != 0 || leAt b 0x38 8 ≥ 2 ^ 48
      || fld opts 6 5 == 3 || leAt b 4 2 > 255 || leAt b 6 2 > 256 || leAt b 8 2 > 255 || leAt b 0xA 2 > 256 }

/-- The size of the rotation a descriptor selects, as its logarithm; 0 none. -/
def Desc.rotLg (d : Desc) : Nat := if d.rot == 0 then 0 else d.rot + 4
/-- Memory-side rows and columns (R213). -/
def Desc.mRows (d : Desc) : Nat := if d.transpose then d.ncols else d.nrows
def Desc.mCols (d : Desc) : Nat := if d.transpose then d.nrows else d.ncols
def Desc.memToMem (d : Desc) : Bool := d.src != 0 && d.dst != 0
def Desc.store (d : Desc) : Bool := d.src == 0
/-- The kind of the memory side of a tile transfer. -/
def Desc.mKind (d : Desc) : Nat := if d.src == 0 then d.dst else d.src
/-- Whether the transfer counts zero elements or bytes (R15). -/
def Desc.zero (d : Desc) : Bool := if d.memToMem then d.len == 0 else d.nrows == 0 || d.ncols == 0
/-- RECORD, BROW and BCOL of a kind 3 endpoint (R242). -/
def Desc.record (d : Desc) : Nat := fld d.addr 19 0
def Desc.brow (d : Desc) : Nat := fld d.addr 33 20
def Desc.bcol (d : Desc) : Nat := fld d.addr 47 34
/-- The transfer uses the gradient path (R233): the destination format of its conversion. -/
def Desc.gradient (d : Desc) (tileFmt : Nat) : Bool :=
  let f := if d.store then d.mfmt else tileFmt
  f == 3 || f == 5 || f == 7

/-- A segment of a memory-side row: its address, its first column and its columns. -/
structure Seg where
  at_ : Nat
  c0 : Nat
  n : Nat
  deriving DecidableEq, Repr, Inhabited

/-- The segments of memory-side row `k` (R213, R229): one, or one per 32 columns in the tile-blocked layout. -/
def rowSegs (f : Nat) (blocked : Bool) (addr stride cols k : Nat) : List Seg :=
  if blocked then
    (List.range (ceilDiv cols 32)).map (fun j =>
      ⟨addr + k / 32 * stride + j * blockSize f + k % 32 * segSize f, 32 * j, min 32 (cols - 32 * j)⟩)
  else [⟨addr + k * stride, 0, cols⟩]

/-- Bytes from the first to one past the last that the memory side touches, for the region check (R214, R230). -/
def regionLen (f : Nat) (blocked : Bool) (stride rows cols : Nat) : Nat :=
  if rows == 0 || cols == 0 then 0
  else if blocked then (ceilDiv rows 32 - 1) * stride + ceilDiv cols 32 * blockSize f
  else (rows - 1) * stride + rowSize f cols

/-! ### The transforms of a memory-side row (R70–R77) -/

/-- The rotation of a row in aligned groups of 2^lg columns (R70); a group with a poisoned element is poisoned (R553). -/
def rotateRow (lg : Nat) (xs : List El) : List El :=
  if lg == 0 then xs
  else
    ((List.range (xs.length / 2 ^ lg)).map (fun g =>
      let ys := (xs.drop (g * 2 ^ lg)).take (2 ^ lg)
      let bad := ys.any El.bad
      (rotate lg (ys.map El.num)).map (fun v => mkEl v bad))).flatten

/-- A smoothing entry that R73 accepts: positive, normal and finite. -/
def smoothOk (w : Nat) : Bool := !bit w 31 && fld w 30 23 != 0 && fld w 30 23 != 255

/-- Multiplication or division of a row by the smoothing vector, given as F32 codes with poison (R71, R72, R73). -/
def smoothRow (divide : Bool) (s : List (Nat × Bool)) (xs : List El) : List El :=
  (xs.zip s).map (fun p =>
    let w := ofF32 p.2.1
    let v := if !smoothOk p.2.1 then Num.nan else if divide then fDiv p.1.num w else fMul p.1.num w
    mkEl v (p.1.bad || p.2.2))

/-- An element divided (a store) or multiplied (a load) by its effective learned scale (R76, R77). -/
def lsApply (store : Bool) (s : Nat × Bool) (x : El) : El :=
  match lsExp s.1 with
  | none => mkEl .nan (x.bad || s.2)
  | some t => mkEl (scaleBy x.num (if store then -t else t)) (x.bad || s.2)

/-- A list of rows turned into columns, for rows of `n` elements. -/
def transposeEls (n : Nat) (xs : List (List El)) : List (List El) :=
  (List.range n).map (fun j => xs.map (fun r => r.getD j {}))

end Sys2Proof.Machine
end

