-- ==== Sys2Proof/Machine/Arcade.lean ====
section
/-!
DEFINITION. The Arcade: contexts and bucket tables (R378–R385), the reduction of buckets (R386–R415), the norm trailer (R416–R419), the
all-gather (R420–R423), and what stops a context (R407, R426, R427).
-/
namespace Sys2Proof.Machine

/-! ### Contexts and their descriptors (R381) -/

def ctxOf (d : Device) (r : Nat) : Option Ctx := (d.ctxs.find? (fun e => e.1 == r)).map Prod.snd
def setCtx (d : Device) (r : Nat) (c : Ctx) : Device := { d with ctxs := tset d.ctxs r c }
def Ctx.cls (c : Ctx) : Nat := leAt c.desc 9 1 % 4
def Ctx.deadlineMode (c : Ctx) : Bool := bit (leAt c.desc 9 1) 2
def Ctx.zeroNf (c : Ctx) : Bool := bit (leAt c.desc 9 1) 3
def Ctx.mean (c : Ctx) : Bool := bit (leAt c.desc 9 1) 4
def Ctx.s16 (c : Ctx) : Bool := bit (leAt c.desc 9 1) 5
def Ctx.ring (c : Ctx) : Nat := leAt c.desc 0xA 2
def Ctx.pos (c : Ctx) : Nat := leAt c.desc 0xC 2
def Ctx.headroom (c : Ctx) : Nat := leAt c.desc 0xE 1
def Ctx.gfmt (c : Ctx) : Nat := leAt c.desc 0xF 1 % 16
def Ctx.wfmt (c : Ctx) : Nat := leAt c.desc 0xF 1 / 16
def Ctx.post (c : Ctx) : Num := ofF32 (leAt c.desc 0x10 4)
def Ctx.deadline (c : Ctx) : Nat := leAt c.desc 0x14 4
def Ctx.nb (c : Ctx) : Nat := leAt c.desc 0x18 2
def Ctx.normSig (c : Ctx) : Nat := leAt c.desc 0x1A 2
def Ctx.tableAt (c : Ctx) : Nat := leAt c.desc 0x20 8
def Ctx.normAddr (c : Ctx) : Nat := leAt c.desc 0x28 8
/-- Bytes of a weight. -/
def Ctx.wBytes (c : Ctx) : Nat := if c.wfmt == 0 then 4 else 2
def bkt (c : Ctx) (n : Nat) : Bkt := tget {} c.bkts n
def setBkt (d : Device) (r : Nat) (c : Ctx) (n : Nat) (b : Bkt) : Device := setCtx d r { c with bkts := tset c.bkts n b }
/-- A counter of the context window (R428). -/
def ctxBump (d : Device) (r off n : Nat) : Device :=
  match ctxOf d r with
  | none => d
  | some c => setCtx d r { c with ctr := tset c.ctr off (min (tget 0 c.ctr off + n) 0xFFFFFFFF) }

/-! ### Bucket entries (R384, R385, R387) -/

/-- Entry `n` of the bucket table that the context holds. -/
def Ctx.entry (c : Ctx) (n : Nat) : List Byte := c.table.getD n []
def eBlocks (e : List Byte) : Nat := leAt e 0 4
def eHall (e : List Byte) : Nat := leAt e 4 1
def eParts (e : List Byte) : Nat := leAt e 5 1
def eOff (e : List Byte) : Nat := leAt e 8 4
def ePart (e : List Byte) : Nat := leAt e 0xC 4
def eReadySig (e : List Byte) : Nat := leAt e 0x10 2
def eDoneSig (e : List Byte) : Nat := leAt e 0x12 2
def eApplySig (e : List Byte) : Nat := leAt e 0x14 2
def eGatherSig (e : List Byte) : Nat := leAt e 0x16 2
def eTarget (e : List Byte) : Nat := leAt e 0x18 4
def eG (e : List Byte) : Nat := leAt e 0x20 8
def eW (e : List Byte) : Nat := leAt e 0x28 8
def eH (e : List Byte) : Nat := leAt e 0x30 8
/-- SB, and the blocks of shard `k` (R387). -/
def shardSize (c : Ctx) (e : List Byte) : Nat := ceilDiv (eBlocks e) c.ring
def shardLo (c : Ctx) (e : List Byte) (k : Nat) : Nat := min (k * shardSize c e) (eBlocks e)
def shardHi (c : Ctx) (e : List Byte) (k : Nat) : Nat := min ((k + 1) * shardSize c e) (eBlocks e)
def shardBlocks (c : Ctx) (e : List Byte) (k : Nat) : List Nat :=
  (List.range (shardHi c e k - shardLo c e k)).map (· + shardLo c e k)
/-- The shard that this module starts, and the blocks it owns. -/
def startShard (c : Ctx) : Nat := (c.pos + c.ring - 1) % c.ring
def ownBlocks (c : Ctx) (e : List Byte) : List Nat := shardBlocks c e c.pos
/-- The blocks of a part, and the bytes of its receipt map (R385). -/
def partBlocks (e : List Byte) (p : Nat) : Nat := if p + 1 < eParts e then ePart e else eBlocks e - (eParts e - 1) * ePart e
def mapBytes (n : Nat) : Nat := alignUp (ceilDiv n 8) 64

/-- The checks of a bucket entry (R385). -/
def entryCheck (d : Device) (j : Nat) (e : List Byte) : Option Nat :=
  let m := d.plan.maps
  let sigs := [eReadySig e, eDoneSig e, eApplySig e, eGatherSig e]
  let last := eBlocks e - (eParts e - 1) * ePart e
  let vacant (h : Nat) : Bool := (m.physical h).isNone
  let partBad (p : Nat) : Bool := match m.physical (eHall e + p) with
    | none => true
    | some h => bucketUnits d h j * 65536 < eOff e + 64 * partBlocks e p + mapBytes (partBlocks e p)
  let bad := leAt e 6 2 != 0 || leAt e 0x1C 4 != 0 || leAt e 0x38 8 != 0 || sigs.any (fun s => 8192 ≤ s || vacant (s / 512))
    || eG e % 64 != 0 || eW e % 64 != 0 || 1048576 < eBlocks e
  if bad then some 4
  else if eBlocks e == 0 then (if 16 ≤ eHall e || vacant (eHall e) then some 4 else none)
  else if eParts e == 0 || 16 < eParts e || ePart e == 0 || eBlocks e ≤ (eParts e - 1) * ePart e || ePart e < last
      || 16 < eHall e + eParts e || eOff e % 64 != 0 then some 4
  else if (List.range (eParts e)).any partBad then some 4
  else none

/-! ### Loading and unloading (R382, R383, R637) -/

/-- CTX_RESULT: a command of port `p` ended. -/
def ctxResult (d : Device) (p : Nat) (code : Option Nat) : Device :=
  setR d (arcPage p + 0x110) (match code with
    | none => 0
    | some c => 2 + c * 65536)

/-- The credit of a packet that has been processed or discarded (R392). -/
def freeRx (d : Device) (x : Rx) : Device := freeUnits d x.port x.link (hCls x.hdr.toNat) (units (hLen x.hdr.toNat))

/-- A held packet is discarded with its credit and counted at `off`: without a context (0x120), or stale (0x124) (R392, R637). -/
def discardRx (off : Nat) (d : Device) (x : Rx) : Device := bump (freeRx d x) (arcPage x.port + off) 1

/-- The PARTIALs that a context's buckets hold (R409). -/
def Ctx.heldRx (c : Ctx) : List Rx := c.bkts.flatMap (fun e => e.2.held)

/-- Held packets of a context that leaves or is replaced are discarded (R637), those of its buckets (R409) among them. -/
def dropHeld (d : Device) (r : Nat) : Device :=
  let mine (x : Rx) : Bool := fld x.hdr.toNat 45 40 == r
  let d' := (d.reduceHeld.filter mine ++ (ctxOf d r).elim [] Ctx.heldRx).foldl (discardRx 0x120) d
  { d' with reduceHeld := d.reduceHeld.filter (fun x => !mine x) }

/-- A port can carry a ring. -/
def ringPort (d : Device) (p : Nat) : Bool := p < 6 && portUp d p && !portFenced d p

/-- A job is running for its command ring and its contexts. -/
def jobRunning (d : Device) (j : Nat) : Bool := (job d j).st == 2 || (job d j).st == 3 || (job d j).st == 4

/-- The bucket table is read and checked (R382, R385), inside the job's 48-bit space (R16, R17). -/
def readTable (d : Device) (j a nb : Nat) : Except (Nat × Device) (List (List Byte) × Device) :=
  if nb == 0 then .ok ([], d)
  else if 2 ^ 48 < a + 64 * nb then .error (4, d)
  else
    match unitRead d j a (64 * nb) 0xFFFF with
    | .error e => .error e
    | .ok (b, d) =>
      if b.any Prod.snd then .error (10, d)
      else
        let es := (List.range nb).map (fun n => ((b.map Prod.fst).drop (64 * n)).take 64)
        match es.findSome? (entryCheck d j) with
        | some f => .error (f, d)
        | none => .ok (es, d)

/-- The checks of a descriptor in the order of R382's table; the address of an empty table is not checked (R15). -/
def ctxLoadCheck (d : Device) (p r j : Nat) (b : List Byte) : Option Nat :=
  let c : Ctx := { desc := b }
  let ports := leAt b 8 1
  let old := ctxOf d r
  let resv := leAt b 0 4 != 0x58435241 || leAt b 4 2 != 0x100 || 16 ≤ leAt b 6 1 || 64 ≤ leAt b 7 1 || bit ports 3 || bit ports 7
    || 64 ≤ leAt b 9 1 || 8 ≤ leAt b 0xE 1 || 8192 ≤ leAt b 0x1A 2 || leAt b 0x1C 4 != 0 || 2 ^ 48 ≤ c.tableAt || 2 ^ 48 ≤ c.normAddr
    || !allZero ((b.take 64).drop 0x30)
  if resv then some 4
  else if c.ring == 0 || 256 < c.ring || c.ring ≤ c.pos || 256 < c.nb then some 4
  else if c.deadlineMode && c.deadline == 0 then some 4
  else if !c.post.isFinite || c.post.isZero || c.post.negative then some 4
  else if !fmtLegal c.gfmt || 2 < c.wfmt then some 3
  else if leAt b 6 1 != j || leAt b 7 1 != r || ports % 8 != p || (old.any (fun o => o.inPort != p || o.active)) || !jobRunning d j
      || !ringPort d p || !ringPort d (fld ports 6 4) then some 14
  else if (c.nb != 0 && c.tableAt % 64 != 0) || c.normAddr % 32 != 0 || (d.plan.maps.physical (c.normSig / 512)).isNone then some 4
  else none

/-- CTX_LOAD (R382). -/
def ctxLoad (p r j : Nat) (d : Device) : Device :=
  match unitRead d j (get64 d (arcPage p + 0x104)) 64 0xFFFF with
  | .error (f, d) => ctxResult d p (some f)
  | .ok (x, d) =>
    let b := x.map Prod.fst
    if x.any Prod.snd then ctxResult (poisonSeen d (arcPage p) none) p (some 10)
    else
      match ctxLoadCheck d p r j b with
      | some f => ctxResult d p (some f)
      | none =>
        match readTable d j (leAt b 0x20 8) (leAt b 0x18 2) with
        | .error (f, d) => ctxResult (if f == 10 then poisonSeen d (arcPage p) none else d) p (some f)
        | .ok (es, d) =>
          let d := dropMonitors (dropHeld d r) (864 + r)
          ctxResult (setCtx d r { desc := b, table := es, job := j, inPort := p, outPort := fld (leAt b 8 1) 6 4 }) p none

def execCtxLoad (p r j : Nat) (s : State) : Host.Outcome State Fault Refusal := run (.ctxLoad p r j) (ctxLoad p r j) s

/-- A context leaves the module with its held packets. -/
def dropCtx (d : Device) (r : Nat) : Device :=
  let d := dropMonitors (dropHeld d r) (864 + r)
  { d with ctxs := d.ctxs.filter (fun e => e.1 != r) }

/-- CTX_UNLOAD (R383). -/
def ctxUnload (p r : Nat) (d : Device) : Device :=
  match ctxOf d r with
  | some c => if c.inPort != p || c.active then ctxResult d p (some 14) else ctxResult (dropCtx d r) p none
  | none => ctxResult d p (some 14)

def execCtxUnload (p r : Nat) (s : State) : Host.Outcome State Fault Refusal := run (.ctxUnload p r) (ctxUnload p r) s

/-- CTX_CMD_RESERVED (R382): OP 3. -/
def ctxCmdReserved (p : Nat) (d : Device) : Device := ctxResult d p (some 4)
def execCtxCmdReserved (p : Nat) (s : State) : Host.Outcome State Fault Refusal := run (.ctxCmdReserved p) (ctxCmdReserved p) s

/-! ### What stops a context -/

/-- An ARCADE event of a context (R485). -/
def arcadeEv (d : Device) (r : Nat) (c : Ctx) (code : Nat) : Device := jobEv d c.job 0x60 code 0 [BitVec.ofNat 8 r, BitVec.ofNat 8 c.stat]

/-- A context stops and sets TAINTED (R407, R427). -/
def ctxTaint (d : Device) (r code : Nat) : Device :=
  match ctxOf d r with
  | none => d
  | some c =>
    let c := { c with active := false, tainted := true }
    let d := setEvt (dropMonitors (setCtx d r c) (864 + r)) (arcPage c.inPort) 16
    taint (arcadeEv d r c code) c.job 3 code

/-- A packet that fits no place in the ring (R392). -/
def ringErr (d : Device) (r p : Nat) : Device := dropMonitors (breakRing (bump d (arcPage p + 0x128) 1) r) (864 + r)

/-- An access of the Arcade to job memory, which stops the context when it faults (R427). -/
def arcWrite (d : Device) (r a : Nat) (bs : List (Byte × Bool)) : Device :=
  match ctxOf d r with
  | none => d
  | some c =>
    if !c.active then d
    else
      match unitWrite d c.job a bs 0xFFFF with
      | .ok d => d
      | .error (f, d) => ctxTaint d r f

/-- An arrival of a context on its job's behalf (R315). -/
def ctxArrive (d : Device) (c : Ctx) (w : Nat) : Device := arriveUnit d c.job w 1 none

/-! ### Blocks in transit (R389, R390) -/

/-- A block of a PARTIAL: narrow integers, or B16 codes when wide. -/
structure Blk where
  i : Nat
  scale : Nat
  wide : Bool
  nf : Bool
  poison : Bool
  ks : List Int
  bs : List Nat
  contrib : Nat
  deriving DecidableEq, Repr, Inhabited

def fracBits (s16 : Bool) : Int := if s16 then 14 else 6
def kMax (s16 : Bool) : Nat := if s16 then 32767 else 127
def blkBytes (s16 wide : Bool) : Nat := if s16 || wide then 66 else 34

/-- The blocks of a PARTIAL payload, or none when LEN disagrees (R389). -/
def decodeBlks (s16 : Bool) (contrib : Nat) : Nat → Nat → List Byte → Option (List Blk)
  | 0, _, bs => if bs.isEmpty then some [] else none
  | n + 1, i, bs =>
    let fl := leAt bs 1 1
    let len := blkBytes s16 (bit fl 0)
    if bs.length < len then none
    else
      let at2 (k : Nat) : Nat := leAt bs (2 + 2 * k) 2
      let b : Blk :=
        { i := i, scale := leAt bs 0 1, wide := bit fl 0, nf := bit fl 1, poison := bit fl 2, contrib := contrib
          ks := if bit fl 0 then [] else (List.range 32).map (fun k => if s16 then signed 16 (at2 k) else signed 8 (leAt bs (2 + k) 1))
          bs := if bit fl 0 then (List.range 32).map at2 else [] }
      (decodeBlks s16 contrib n (i + 1) (bs.drop len)).map (b :: ·)

/-- The bytes of a block (R389). -/
def encodeBlk (s16 : Bool) (b : Blk) : List Byte :=
  toLE 1 b.scale ++ toLE 1 (b2n b.wide + b2n b.nf * 2 + b2n b.poison * 4)
  ++ (if b.wide then b.bs.flatMap (toLE 2) else b.ks.flatMap (fun k => toLE (if s16 then 2 else 1) (wrap64 k)))

/-- Leading runs of blocks that fill one packet each: at most 15 blocks and 512 bytes, in order, with one CONTRIB (R389, R399). -/
def groupBlks (s16 : Bool) : List Blk → List (List Blk)
  | [] => []
  | b :: t =>
    match groupBlks s16 t with
    | [] => [[b]]
    | g :: gs =>
      let len := (b :: g).foldl (fun n x => n + blkBytes s16 x.wide) 0
      if 512 < len || 15 ≤ g.length || (g.any (fun x => x.contrib != b.contrib)) || (g.headD b).i != b.i + 1 then [b] :: g :: gs
      else (b :: g) :: gs

/-- Leading runs as the sender forms them, from the front. -/
def packBlks (s16 : Bool) : Nat → List Blk → List (List Blk)
  | 0, _ => []
  | n + 1, bs =>
    match bs with
    | [] => []
    | b :: t =>
      let rec run_ (k : Nat) (len : Nat) (last : Blk) : List Blk → Nat
        | [] => k
        | x :: xs =>
          let len' := len + blkBytes s16 x.wide
          if 512 < len' || 15 ≤ k || x.i != last.i + 1 || x.contrib != b.contrib then k else run_ (k + 1) len' x xs
      let k := run_ 1 (blkBytes s16 b.wide) b t
      (b :: t).take k :: packBlks s16 n (t.drop (k - 1))

/-- A REDUCE packet of a context (R388, R393). -/
def reducePkt (c : Ctx) (r kind n first nblk contrib hops : Nat) (payload : List Byte) : Pkt :=
  { hdr := mkHdr 3 c.cls c.job payload.length (r + kind * 64 + nblk * 256)
      (first + n * 2 ^ 20 + contrib * 2 ^ 28 + hops * 2 ^ 37 + c.step % 4096 * 2 ^ 45 + c.attempt % 16 * 2 ^ 57)
    payload := payload, job := c.job }

/-- The PARTIAL packet of a run of blocks (R391). -/
def partialPkt (c : Ctx) (r n : Nat) (e : List Byte) (g : List Blk) : Pkt :=
  let b := g.headD default
  let k := b.i / shardSize c e
  reducePkt c r 0 n b.i g.length b.contrib ((c.pos + c.ring - k % c.ring + c.ring - 1) % c.ring) (g.flatMap (encodeBlk c.s16))

/-- PUSHED of a PARTIAL (R388). -/
def pushMark (k : Pkt) : Pkt := { k with hdr := k.hdr + 2 ^ 125 }

/-- Packets of bucket `n` go to OUT_PORT when READY has come or the bucket is pushed, or wait (R404, R408). -/
def sendPartials (d : Device) (r n : Nat) (ks : List Pkt) : Device :=
  match ctxOf d r with
  | none => d
  | some c =>
    let b := bkt c n
    if !c.active then d
    else if b.readyRx then ks.foldl (fun d k => queuePkt d c.outPort k) d
    else if b.pushed then ks.foldl (fun d k => queuePkt d c.outPort (pushMark k)) d
    else setBkt d r c n { b with outq := b.outq ++ ks }

/-! ### The module's contribution -/

/-- Where block `i` of a bucket lies: physical hall and byte address in its memory (R385). -/
def blockHome (d : Device) (j : Nat) (e : List Byte) (i : Nat) : Option (Nat × Nat) :=
  (d.plan.maps.physical (eHall e + i / ePart e)).map (fun h => (h, bucketBase d h j + eOff e + 64 * (i % ePart e)))

/-- The module's B16 elements of a block. -/
def contribution (d : Device) (j : Nat) (e : List Byte) (i : Nat) : List El :=
  match blockHome d j e i with
  | none => List.replicate 32 {}
  | some (h, a) => elsAt (hmem d h) 1 32 a 0 32

/-- The contribution as NF_MODE takes it: its elements, whether it is NF, how many were zeroed, whether it is poisoned (R413–R415). -/
structure Local where
  vs : List Num
  nf : Bool
  zeroed : Nat
  bad : Bool
  deriving DecidableEq, Repr, Inhabited

def localOf (c : Ctx) (xs : List El) : Local :=
  let vs := xs.map El.num
  let bads := (vs.filter (fun v => !v.isFinite)).length
  if c.zeroNf then ⟨vs.map (fun v => if v.isFinite then v else Num.zero), false, bads, xs.any El.bad⟩
  else ⟨vs, bads != 0, 0, xs.any El.bad⟩

/-- The receipt map bit of a block is set, or a part's map cleared (R385, R403). -/
def mapMark (d : Device) (j : Nat) (e : List Byte) (i : Nat) : Device :=
  let p := i / ePart e
  match d.plan.maps.physical (eHall e + p) with
  | none => d
  | some h =>
    let k := i % ePart e
    let a := bucketBase d h j + eOff e + 64 * partBlocks e p + k / 8
    let m := hmem d h
    setHmem d h (m.put a (m.get a ||| BitVec.ofNat 8 (2 ^ (k % 8))))

def mapClear (d : Device) (j : Nat) (e : List Byte) : Device :=
  if eBlocks e == 0 then d
  else
    (List.range (eParts e)).foldl (fun d p =>
      match d.plan.maps.physical (eHall e + p) with
      | none => d
      | some h => setHmem d h ((hmem d h).zero (bucketBase d h j + eOff e + 64 * partBlocks e p) (mapBytes (partBlocks e p)))) d

/-- DONE_SIG (R423). -/
def doneCheck (d : Device) (r n : Nat) : Device :=
  match ctxOf d r with
  | none => d
  | some c =>
    let e := c.entry n
    let b := bkt c n
    let own := (ownBlocks c e).all b.marked.contains
    let all := b.closed || (List.range (eBlocks e)).all b.marked.contains
    if !c.active || b.done || !(b.ready || b.closed) || !own || !all then d
    else ctxArrive (setBkt d r c n { b with done := true }) c (eDoneSig e)

/-- A block's contribution is taken. -/
def markBlk (d : Device) (r n i : Nat) : Device :=
  match ctxOf d r with
  | none => d
  | some c =>
    let b := bkt c n
    mapMark (setBkt d r c n { b with marked := nins b.marked i }) c.job (c.entry n) i

/-- Poison met in a contribution or carried by a block taints the step (R415, R554). -/
def arcPoison (d : Device) (c : Ctx) (bad : Bool) : Device := if bad then poisonSeen d (arcPage c.inPort) (some c.job) else d

/-- What a contribution of block `i` counts (R414), with the parity of hall memory (R279). -/
def countLocal (d : Device) (r : Nat) (c : Ctx) (e : List Byte) (i : Nat) (l : Local) : Device :=
  let d := match blockHome d c.job e i with
    | some (h, a) => hallParity d h a 64
    | none => d
  arcPoison (ctxBump d r 0x19C l.zeroed) c l.bad

/-- A value rounded to an integer in units of 2^(X − F) (R395, R62). -/
def toUnits (x f : Int) (v : Num) : Int :=
  match v with
  | .fin s m e => let k := roundMag m (e + f - x) 0; if s then -(k : Int) else k
  | _ => 0

/-- The value of an integer in those units. -/
def ofUnits (x f k : Int) : Num := .fin (decide (k < 0)) k.natAbs (x - f)

def blkExp (b : Blk) : Int := (b.scale : Int) - 127
/-- B16 codes of rounded sums, with NF when a finite sum of them rounds to infinity (R397, R398, R413). -/
def toB16 (x : Num) : Nat := (fltB16.encode x).1

/-- A block of the start position (R394–R396, R413–R415): `h` is its history byte. -/
def startBlk (c : Ctx) (i h : Nat) (l : Local) : Blk :=
  let f := fracBits c.s16
  let a := maxFinite l.vs
  let x0 : Int := if h != 0 then (h : Int) - 127 + c.headroom
    else if a.isZero then -127 else a.exponent + c.headroom + (if c.ring ≤ 1 then 0 else (Nat.log2 (c.ring - 1) + 1 : Nat))
  let x := max (-127) (min 127 x0)
  let ks := l.vs.map (toUnits x f)
  let fits := !l.nf && ks.all (fun k => k.natAbs ≤ kMax c.s16)
  { i := i, scale := (x + 127).toNat, wide := !fits, nf := l.nf, poison := l.bad, contrib := 1
    ks := if fits then ks else [], bs := if fits then [] else l.vs.map toB16 }

/-- A hop's sum (R397, R398, R413–R415). -/
def hopBlk (c : Ctx) (b : Blk) (l : Local) : Blk :=
  let f := fracBits c.s16
  let x := blkExp b
  let ks := (b.ks.zip l.vs).map (fun p => p.1 + toUnits x f p.2)
  if !b.wide && !l.nf && ks.all (fun k => k.natAbs ≤ kMax c.s16) then
    { b with ks := ks, poison := b.poison || l.bad, contrib := b.contrib + 1 }
  else
    let ins := if b.wide then b.bs.map ofB16 else b.ks.map (ofUnits x f)
    let out := (ins.zip l.vs).map (fun p => toB16 (p.1.add p.2))
    { b with wide := true, ks := [], bs := out, nf := b.nf || l.nf || out.any (fun w => (ofB16 w).isInf)
             poison := b.poison || l.bad, contrib := b.contrib + 1 }

/-! ### The owner's conversion (R400–R402, R413, R415) -/

/-- The sums of an owner's block: s, whether it was wide at the owner, NF, and the final CONTRIB. -/
structure Owned where
  s : List Num
  wide : Bool
  nf : Bool
  bad : Bool
  contrib : Nat
  deriving DecidableEq, Repr, Inhabited

/-- The last hop's block with the owner's own contribution, or without it when it is closed. -/
def ownSum (c : Ctx) (b : Blk) (l : Option Local) : Owned :=
  let f := fracBits c.s16
  let x := blkExp b
  let ins := if b.wide then b.bs.map ofB16 else b.ks.map (ofUnits x f)
  match l with
  | none => ⟨ins.map rF32, b.wide, b.nf, b.poison, b.contrib⟩
  | some l =>
    let ks := (b.ks.zip l.vs).map (fun p => p.1 + toUnits x f p.2)
    if !b.wide && !l.nf && ks.all (fun k => k.natAbs ≤ kMax c.s16) then
      ⟨ks.map (fun k => rF32 (ofUnits x f k)), false, b.nf, b.poison || l.bad, b.contrib + 1⟩
    else
      let s := (ins.zip l.vs).map (fun p => rF32 (p.1.add p.2))
      ⟨s, true, b.nf || l.nf || s.any Num.isInf, b.poison || l.bad, b.contrib + 1⟩

/-- The owner's own contribution alone (P = 1, R400, and R410). -/
def ownAlone (l : Local) : Owned := ⟨l.vs.map rF32, false, l.nf, l.bad, 1⟩

/-- History byte of a converted block (R402, R413, R415). -/
def historyByte (o : Owned) : Nat :=
  if o.nf || o.bad || o.s.any (fun v => !v.isFinite) || o.s.all Num.isZero then 0
  else (max 1 (min 254 ((maxFinite o.s).exponent + 127))).toNat

/-- The gradient codes of a block, its scale byte, saturations, NaN blocks and the values the codes stand for. -/
structure GBlk where
  bytes : List Byte
  scale : Option Nat
  sats : Nat
  nans : Nat
  vals : List Nat
  deriving DecidableEq, Repr, Inhabited

def convertBlk (c : Ctx) (o : Owned) : GBlk :=
  let q := o.s.map (fun s =>
    let q := fMul s c.post
    if c.mean && o.contrib != 0 then fDiv q (.fin false o.contrib 0) else q)
  if isMx c.gfmt then
    let m := quantise c.gfmt q
    ⟨packCodes c.gfmt m.codes, some m.scale, m.sats, b2n m.nanBlock, m.codes.map (fun w => toF32 (mxVal c.gfmt w m.scale))⟩
  else
    let cs := q.map (elemEnc c.gfmt)
    ⟨cs.flatMap (fun w => toLE (elemBits c.gfmt / 8) w.1), none, (cs.filter Prod.snd).length, 0, cs.map (fun w => toF32 (elemVal c.gfmt w.1))⟩

/-- Bytes of one block's element data of GFMT. -/
def gBytes (f : Nat) : Nat := elemBits f * 4

/-- A converted block is written at GADDR with its history byte, counted and marked (R400–R402), unless a write stops the context (R427). -/
def ownWrite (d : Device) (r n i : Nat) (o : Owned) : Device :=
  match ctxOf d r with
  | none => d
  | some c =>
    let e := c.entry n
    let g := convertBlk c o
    let d := arcWrite d r (eG e + i * gBytes c.gfmt) (allBad o.bad g.bytes)
    let d := match g.scale with
      | none => d
      | some x => arcWrite d r (eG e + eBlocks e * gBytes c.gfmt + i) (allBad o.bad (toLE 1 x))
    let d := arcWrite d r (eH e + i) (clean (toLE 1 (historyByte o)))
    if !(ctxOf d r).any Ctx.active then d
    else
    let d := ctxBump (ctxBump (ctxBump (ctxBump d r 0x1B0 g.sats) r 0x1B4 g.nans) r 0x194 (b2n o.wide)) r 0x198 (b2n o.nf)
    match ctxOf d r with
    | none => d
    | some c =>
      let b := bkt c n
      let c := { c with nf := c.nf || o.nf, wide := c.wide + b2n o.wide }
      markBlk (setBkt d r c n { b with own := tset b.own i g.vals }) r n i

/-! ### Sending what starts or goes on -/

/-- A chain starts with a run of blocks: converted when the module is alone in its ring, else sent with its own values (R394–R400). -/
def startBlocks (d : Device) (r n : Nat) (is : List Nat) : Device × List Blk :=
  is.foldl (fun (a : Device × List Blk) i =>
    match ctxOf a.1 r with
    | none => a
    | some c =>
      if !c.active then a
      else
      let e := c.entry n
      let l := localOf c (contribution a.1 c.job e i)
      let d := countLocal a.1 r c e i l
      if c.ring == 1 then (ownWrite d r n i (ownAlone l), a.2)
      else
        match unitRead d c.job (eH e + i) 1 0xFFFF with
        | .error (f, d) => (ctxTaint d r f, a.2)
        | .ok (h, d) =>
          let d := arcPoison d c (h.any Prod.snd)
          (markBlk d r n i, a.2 ++ [startBlk c i (h.headD (0, false)).1.toNat l])) (d, [])

/-- The blocks of bucket `n` whose chains a context still has to start. -/
def chainTodo (c : Ctx) (n : Nat) : List Nat :=
  if !c.active || !(bkt c n).ready || (bkt c n).closed || c.nb ≤ n then []
  else (shardBlocks c (c.entry n) (startShard c)).filter (fun i => !(bkt c n).marked.contains i)

/-- The norm trailer can be sent: every own block of every bucket is converted (R416). -/
def normTodo (c : Ctx) : Bool :=
  c.active && !c.normSent && (List.range c.nb).all (fun n =>
    ((bkt c n).ready || (bkt c n).closed) && (ownBlocks c (c.entry n)).all (bkt c n).marked.contains)

/-- The all-gather of bucket `n` can go on (R420). -/
def gatherTodo (d : Device) (c : Ctx) (n : Nat) : Bool :=
  c.active && n < c.nb && !c.nfRec && c.normDone && reached d (eApplySig (c.entry n)) 1

/-- A context has a packet to originate now (R405). -/
def originates (d : Device) (c : Ctx) : Bool :=
  c.ring != 1 && (normTodo c || (List.range c.nb).any (fun n =>
    !(chainTodo c n).isEmpty || (gatherTodo d c n && (bkt c n).gTx < (ownBlocks c (c.entry n)).length)))

/-- Contexts of one Arcade originate packets round-robin, one packet in each turn (R405): no context with a packet stands between the one served last and
this one. A context alone in its ring originates none. -/
def inTurn (d : Device) (r : Nat) (c : Ctx) : Bool :=
  let ahead (q : Nat) : Nat := (q + 63 - (port d c.inPort).turn) % 64
  c.ring == 1 || !d.ctxs.any (fun e => e.1 != r && e.2.inPort == c.inPort && decide (ahead e.1 < ahead r) && originates d e.2)

/-- The context has taken its turn. -/
def takeTurn (d : Device) (r : Nat) (c : Ctx) : Device :=
  if c.ring == 1 then d else setPort d c.inPort { port d c.inPort with turn := r }

/-- CHAIN_START (R394–R400, R404, R405): the shard that starts here is sent from block `b`, as many blocks as one packet takes. -/
def chainStart (r n b : Nat) (d : Device) : Device :=
  match ctxOf d r with
  | none => d
  | some c =>
    let e := c.entry n
    let todo := chainTodo c n
    if todo.head? != some b || !inTurn d r c then d
    else
      let s := startBlocks (takeTurn d r c) r n (todo.take 15)
      match packBlks c.s16 16 s.2 with
      | [] => doneCheck s.1 r n
      | gs => doneCheck (sendPartials s.1 r n (gs.map (partialPkt c r n e))) r n

def execChainStart (r n b : Nat) (s : State) : Host.Outcome State Fault Refusal := run (.chainStart r n b) (chainStart r n b) s

/-! ### Reception (R391, R392, R637) -/

def rKind (h : Nat) : Nat := fld h 47 46
def rRjid (h : Nat) : Nat := fld h 45 40
def rNblk (h : Nat) : Nat := fld h 51 48
def rFirst (h : Nat) : Nat := fld h 83 64
def rBucket (h : Nat) : Nat := fld h 91 84
def rContrib (h : Nat) : Nat := fld h 100 92
def rHops (h : Nat) : Nat := fld h 108 101
def rStep (h : Nat) : Nat := fld h 120 109
def rAttempt (h : Nat) : Nat := fld h 124 121

/-- The context a packet is for (R391, R392): READY reaches it by OUT_PORT, the others by IN_PORT, for its job. -/
def ctxFor (d : Device) (p h : Nat) : Option Ctx :=
  (ctxOf d (rRjid h)).filter (fun c => (if rKind h == 3 then c.outPort == p else c.inPort == p) && c.job == hJob h)

/-- LEN disagrees with KIND, NBLK and the block flags (R389, R417, R420); without a context, when it fits no element width. -/
def reduceBad (d : Device) (p h : Nat) (payload : List Byte) : Bool :=
  match rKind h with
  | 0 =>
    let bad (s16 : Bool) : Bool := rNblk h == 0 || (decodeBlks s16 0 (rNblk h) 0 payload).isNone
    (match ctxFor d p h with
     | some c => bad c.s16
     | none => bad false && bad true)
  | 1 =>
    let bad (w : Nat) : Bool := rNblk h == 0 || payload.length != rNblk h * (32 * w + 1)
    (match ctxFor d p h with
     | some c => bad c.wBytes
     | none => bad 2 && bad 4)
  | 2 => rNblk h != 0 || payload.length != 16
  | _ => rNblk h != 0 || payload.length != 0

/-- The place of a packet's blocks in the ring fits (R391, R392), with the number of its shard; `need` gives the HOPS it must carry. -/
def fitsRing (c : Ctx) (h : Nat) (need : Nat → Nat) (ended : Nat → Bool) : Bool :=
  let e := c.entry (rBucket h)
  let k := rFirst h / shardSize c e
  rBucket h < c.nb && shardSize c e != 0 && k < c.ring && rFirst h + rNblk h ≤ shardHi c e k && rHops h == need k && !ended k

/-- One arriving block at a hop or owner (R397–R400, R409). -/
def takeBlk (d : Device) (r n : Nat) (own : Bool) (b : Blk) : Device × List Blk :=
  match ctxOf d r with
  | none => (d, [])
  | some c =>
    if !c.active then (d, [])
    else if (bkt c n).closed then
      (if own then (ownWrite (arcPoison d c b.poison) r n b.i (ownSum c b none), [])
       else (markBlk (arcPoison d c b.poison) r n b.i, [b]))
    else
      let l := localOf c (contribution d c.job (c.entry n) b.i)
      let d := arcPoison (countLocal d r c (c.entry n) b.i l) c b.poison
      if own then (ownWrite d r n b.i (ownSum c b (some l)), []) else (markBlk d r n b.i, [hopBlk c b l])

/-- A PARTIAL is processed (R397–R400, R409, R410). -/
def partialTake (d : Device) (x : Rx) (c : Ctx) : Device :=
  let h := x.hdr.toNat
  let r := rRjid h
  let n := rBucket h
  let e := c.entry n
  let own := rFirst h / shardSize c e == c.pos
  let bs := ((decodeBlks c.s16 (rContrib h) (rNblk h) (rFirst h) x.payload).getD [])
  let s := bs.foldl (fun (a : Device × List Blk) b => let t := takeBlk a.1 r n own b; (t.1, a.2 ++ t.2)) (d, [])
  doneCheck (sendPartials s.1 r n ((packBlks c.s16 16 s.2).map (partialPkt c r n e))) r n

/-- A PARTIAL reaches its context (R391, R409, R410). -/
def partialArrive (d : Device) (x : Rx) (c : Ctx) : Device :=
  let h := x.hdr.toNat
  let r := rRjid h
  let n := rBucket h
  let b := bkt c n
  if !fitsRing c h (fun k => (c.pos + 2 * c.ring - k - 2) % c.ring) (fun k => k == startShard c) then ringErr (freeRx d x) r x.port
  else if b.upClosed then ctxBump (freeRx d x) r 0x1A8 (rNblk h)
  else if b.ready || b.closed then partialTake (freeRx d x) x c
  else if c.deadlineMode then
    let c := { c with late := true }
    let d := ctxBump (setBkt d r c n { b with closed := true }) r 0x1A0 1
    match ctxOf d r with
    | some c => partialTake (freeRx d x) x c
    | none => d
  else setBkt d r c n { b with held := b.held ++ [x] }

/-- READY from downstream (R404). -/
def readyArrive (d : Device) (x : Rx) (c : Ctx) : Device :=
  let n := rBucket x.hdr.toNat
  let r := rRjid x.hdr.toNat
  let d := freeRx d x
  if c.nb ≤ n then ringErr d r x.port
  else
    let b := bkt c n
    b.outq.foldl (fun d k => queuePkt d c.outPort k) (setBkt d r c n { b with readyRx := true, outq := [] })

/-! ### The norm trailer (R416–R419) -/

/-- The norm record, once all P values are held (R418, R419). -/
def normRecord (d : Device) (r : Nat) : Device :=
  match ctxOf d r with
  | none => d
  | some c =>
    if c.normDone || c.norm.length < c.ring then d
    else
      let p (i : Nat) : List Byte := tget [] c.norm i
      let val (i : Nat) : Num := ofF32 (leAt (p i) 0 4)
      let t := (List.range (c.ring - 1)).foldl (fun a i => fAdd a (val (i + 1))) (val 0)
      let nf := !t.isFinite || c.norm.any (fun e => bit (leAt e.2 6 1) 0)
      let late := c.norm.any (fun e => bit (leAt e.2 6 1) 1)
      let wide := c.norm.foldl (fun a e => a + leAt e.2 8 4) 0
      let rec_ := toLE 4 (toF32 t) ++ toLE 4 (toF32 (fSqrt t)) ++ toLE 4 c.step ++ toLE 1 (b2n nf + b2n late * 2) ++ toLE 1 (c.attempt % 16)
        ++ toLE 2 0 ++ toLE 4 wide ++ toLE 12 0
      match unitWrite d c.job c.normAddr (clean rec_) 0xFFFF with
      | .error (f, d) => ctxTaint d r f
      | .ok d =>
        let d := ctxArrive (setCtx d r { c with normDone := true, nfRec := nf }) c c.normSig
        if !nf then d
        else
          let d := taint d c.job 4 13
          let d := (List.range c.nb).foldl (fun d n => ctxArrive d c (eGatherSig (c.entry n))) d
          match ctxOf d r with
          | none => d
          | some c => setCtx d r { c with active := false, bkts := c.bkts.map (fun e => (e.1, { e.2 with gathered := true })) }

/-- The last GATHER_SIG arrival of the step ends the context's activity (R429), not before its norm record is written (DEDUCED,
notes/assumptions/87.md). -/
def restCheck (d : Device) (r : Nat) : Device :=
  match ctxOf d r with
  | none => d
  | some c => if (List.range c.nb).all (fun n => (bkt c n).gathered) && c.normDone then setCtx d r { c with active := false } else d

/-- A NORM is kept and forwarded (R417). -/
def normArrive (d : Device) (x : Rx) (c : Ctx) : Device :=
  let h := x.hdr.toNat
  let r := rRjid h
  let o := leAt x.payload 4 2
  let d := freeRx d x
  if c.ring ≤ o || o == c.pos || rHops h != (c.pos + 2 * c.ring - 1 - o) % c.ring then ringErr d r x.port
  else
    let d := setCtx d r { c with norm := tset c.norm o x.payload }
    let d := if (c.pos + 1) % c.ring == o then d
      else queuePkt d c.outPort (reducePkt c r 2 0 0 0 0 ((c.pos + c.ring - o) % c.ring) x.payload)
    restCheck (normRecord d r) r

/-! ### The all-gather (R420–R422) -/

/-- GATHER_SIG (R422). -/
def gatherCheck (d : Device) (r n : Nat) : Device :=
  match ctxOf d r with
  | none => d
  | some c =>
    let e := c.entry n
    let b := bkt c n
    let own := ownBlocks c e
    let others := (List.range (eBlocks e)).filter (fun i => !own.contains i)
    if b.gathered || b.gTx < own.length || !others.all b.gRx.contains then d
    else restCheck (ctxArrive (setBkt d r c n { b with gathered := true }) c (eGatherSig e)) r

/-- A GATHER is written and forwarded (R421). (DEDUCED, notes/assumptions/43.md.) -/
def gatherArrive (d : Device) (x : Rx) (c : Ctx) : Device :=
  let h := x.hdr.toNat
  let r := rRjid h
  let n := rBucket h
  let e := c.entry n
  let k := rFirst h / shardSize c e
  let d := freeRx d x
  if !fitsRing c h (fun k => (c.pos + 2 * c.ring - 1 - k) % c.ring) (fun k => k == c.pos) then ringErr d r x.port
  else
    let wl := rNblk h * 32 * c.wBytes
    let put (d : Device) (a : Nat) (bs : List Byte) : Bool × Device := match unitWrite d c.job a (clean bs) 0xFFFF with
      | .ok d => (true, d)
      | .error (f, d) => (false, taint d c.job 3 f)
    let w := put d (eW e + rFirst h * 32 * c.wBytes) (x.payload.take wl)
    let v := put w.2 (eH e + rFirst h) (x.payload.drop wl)
    let d := v.2
    let d := if (c.pos + 1) % c.ring == k then d
      else queuePkt d c.outPort (reducePkt c r 1 n (rFirst h) (rNblk h) 0 ((c.pos + c.ring - k) % c.ring) x.payload)
    match ctxOf d r with
    | none => d
    | some c =>
      let b := bkt c n
      if !w.1 || !v.1 then d
      else gatherCheck (setBkt d r c n { b with gRx := (List.range (rNblk h)).foldl (fun l i => nins l (rFirst h + i)) b.gRx }) r n

/-! ### Packets at a context -/

/-- A packet reaches its ACTIVE context. -/
def arcTake (d : Device) (x : Rx) (c : Ctx) : Device :=
  let d := bump64 d (portPage x.port + 0x148) (hLen x.hdr.toNat)
  match rKind x.hdr.toNat with
  | 0 => partialArrive d x c
  | 1 => gatherArrive d x c
  | 2 => normArrive d x c
  | _ => readyArrive d x c

/-- A REDUCE packet that is well formed and new (R391, R392, R637). -/
def arcRoute (x : Rx) (d : Device) : Device :=
  let h := x.hdr.toNat
  match ctxFor d x.port h with
  | none => pushEv (bump (freeRx d x) (arcPage x.port + 0x120) 1)
      { type := 0x60, job := hJob h, detail := [BitVec.ofNat 8 (rRjid h), 0] }
  | some c =>
    let same := rStep h == c.step % 4096 && rAttempt h == c.attempt % 16
    if c.active then (if same then arcTake d x c else bump (freeRx d x) (arcPage x.port + 0x124) 1)
    else if c.was && same then bump (freeRx d x) (arcPage x.port + 0x124) 1
    else { d with reduceHeld := d.reduceHeld ++ [x] }

/-- Reception of a REDUCE packet of a kind: another kind is not this event. -/
def reduceRx (kind : Nat) (x : Rx) (d : Device) : Device :=
  let h := x.hdr.toNat
  if hType h != 3 || rKind h != kind || !lenOk x then d
  else receive 3 x (reduceBad d x.port) (arcRoute x) d

/-- READY_RX (R404, R391, R392). -/
def readyRx (x : Rx) (d : Device) : Device := reduceRx 3 x d
def execReadyRx (x : Rx) (s : State) : Host.Outcome State Fault Refusal := run (.readyRx x) (readyRx x) s

/-- PARTIAL_RX (R397–R400, R391, R392). -/
def partialRx (x : Rx) (d : Device) : Device := reduceRx 0 x d
def execPartialRx (x : Rx) (s : State) : Host.Outcome State Fault Refusal := run (.partialRx x) (partialRx x) s

/-- NORM_RX (R417, R418). -/
def normRx (x : Rx) (d : Device) : Device := reduceRx 2 x d
def execNormRx (x : Rx) (s : State) : Host.Outcome State Fault Refusal := run (.normRx x) (normRx x) s

/-- GATHER_RX (R421, R422). -/
def gatherRx (x : Rx) (d : Device) : Device := reduceRx 1 x d
def execGatherRx (x : Rx) (s : State) : Host.Outcome State Fault Refusal := run (.gatherRx x) (gatherRx x) s

/-- A packet held for a bucket's readiness is taken (R403), or with the context stopped discarded as stale. -/
def heldTake (r : Nat) (d : Device) (x : Rx) : Device :=
  match ctxOf d r with
  | some c => if c.active then partialTake (freeRx d x) x c else discardRx 0x124 d x
  | none => discardRx 0x120 d x

/-- BUCKET_READY (R386, R403, R385): READY_SIG has reached its target; the entry is read again, the maps cleared and READY sent upstream. -/
def bucketReady (r n : Nat) (d : Device) : Device :=
  match ctxOf d r with
  | none => d
  | some c =>
    let b := bkt c n
    let e := c.entry n
    if !c.active || c.nb ≤ n || b.ready || !reached d (eReadySig e) (eTarget e) then d
    else
      match readTable d c.job (c.tableAt + 64 * n) 1 with
      | .error (f, d) => ctxTaint (if f == 10 then poisonSeen d (arcPage c.inPort) (some c.job) else d) r f
      | .ok (es, d) =>
        let e := es.headD e
        let c := { c with table := lset c.table n e }
        let up := c.ring != 1 && !b.closed
        let d := setBkt d r c n { b with ready := true, readyTx := up, held := [] }
        let d := mapClear d c.job e
        let d := if up then queuePkt d c.inPort (reducePkt c r 3 n 0 0 0 0 []) else d
        doneCheck (b.held.foldl (heldTake r) d) r n

def execBucketReady (r n : Nat) (s : State) : Host.Outcome State Fault Refusal := run (.bucketReady r n) (bucketReady r n) s

/-! ### Waits, deadlines and late contributions (R406–R412) -/

/-- Blocks that pass through the module from upstream and have not arrived. -/
def awaited (c : Ctx) (n : Nat) : List Nat :=
  let e := c.entry n
  (List.range (eBlocks e)).filter (fun i => i / shardSize c e != startShard c && !(bkt c n).marked.contains i)

/-- The condition of each wait of R406 and R407. -/
def waitsReady (c : Ctx) (n : Nat) : Bool := c.active && !(bkt c n).outq.isEmpty
def waitsPartial (c : Ctx) (n : Nat) : Bool := c.active && (bkt c n).ready && (bkt c n).readyTx && !(bkt c n).upClosed && !(awaited c n).isEmpty
/-- A context waits for credit: the first packet that it holds at OUT_PORT, of those that `f` picks, finds no link with credit for its units. -/
def waitsCredit (d : Device) (r : Nat) (c : Ctx) (f : Nat → Bool) : Bool :=
  c.active && match (port d c.outPort).q.find? (fun k => hType k.hdr == 3 && rRjid k.hdr == r && f k.hdr) with
    | none => false
    | some k => !(activeLinks d c.outPort).any (fun l => pktUnits c.outPort k ≤ creditOf (link d c.outPort l) c.cls)
def waitsGather (c : Ctx) (n : Nat) : Bool := c.active && c.normDone && !c.nfRec && c.ring != 1 && !(bkt c n).gathered
  && (let e := c.entry n; (List.range (eBlocks e)).any (fun i => !(ownBlocks c e).contains i && !(bkt c n).gRx.contains i))
def waitsNorm (c : Ctx) : Bool := c.active && c.normSent && !c.normDone

/-- DEADLINE_TAINT (R407): a wait of a context in SERVICE mode has exceeded DEADLINE. A wait for credit is one of a bucket, or with `n` past the buckets
of the norm trailer. -/
def deadlineTaint (r w n : Nat) (d : Device) : Device :=
  match ctxOf d r with
  | none => d
  | some c =>
    let waits := match w with
      | 0 => n < c.nb && waitsReady c n
      | 1 => n < c.nb && waitsPartial c n
      | 2 => waitsCredit d r c (fun h => if n < c.nb then rKind h != 2 && rBucket h == n else rKind h == 2)
      | 3 => n < c.nb && waitsGather c n
      | _ => waitsNorm c
    if c.deadlineMode || c.deadline == 0 || !waits then d else ctxTaint d r 13

def execDeadlineTaint (r w n : Nat) (s : State) : Host.Outcome State Fault Refusal := run (.deadlineTaint r w n) (deadlineTaint r w n) s

/-- PUSHED_SEND (R408): a packet has waited DEADLINE cycles for READY; it and every later packet of the bucket go without it. -/
def pushedSend (r n : Nat) (d : Device) : Device :=
  match ctxOf d r with
  | none => d
  | some c =>
    let b := bkt c n
    if !c.deadlineMode || c.nb ≤ n || !waitsReady c n then d
    else b.outq.foldl (fun d k => queuePkt d c.outPort (pushMark k)) (setBkt d r c n { b with pushed := true, outq := [] })

def execPushedSend (r n : Nat) (s : State) : Host.Outcome State Fault Refusal := run (.pushedSend r n) (pushedSend r n) s

/-- An own block whose chain never arrived is converted from the own contribution alone (R410). -/
def ownRestart (r n : Nat) (e : List Byte) (d : Device) (i : Nat) : Device :=
  match ctxOf d r with
  | some c => let l := localOf c (contribution d c.job e i); ownWrite (countLocal d r c e i l) r n i (ownAlone l)
  | none => d

/-- UPSTREAM_RESTART (R410): every unmarked block starts here, or is converted by its owner, with the own contribution alone. -/
def upstreamRestart (r n : Nat) (d : Device) : Device :=
  match ctxOf d r with
  | none => d
  | some c =>
    if !c.deadlineMode || c.nb ≤ n || !waitsPartial c n then d
    else
      let e := c.entry n
      let todo := awaited c n
      let own := todo.filter (ownBlocks c e).contains
      let rest := todo.filter (fun i => !(ownBlocks c e).contains i)
      let d := setBkt d r { c with late := true } n { bkt c n with upClosed := true }
      let d := ctxBump d r 0x1A4 todo.length
      let d := own.foldl (ownRestart r n e) d
      let s := startBlocks d r n rest
      let byShard := (List.range c.ring).flatMap (fun k =>
        packBlks c.s16 1048576 (s.2.filter (fun b => b.i / shardSize c e == k)))
      doneCheck (sendPartials s.1 r n (byShard.map (partialPkt c r n e))) r n

def execUpstreamRestart (r n : Nat) (s : State) : Host.Outcome State Fault Refusal := run (.upstreamRestart r n) (upstreamRestart r n) s

/-- EMPTY_BLOCK_WRITE (R411): an owner that closed its contribution writes the blocks of its shard that never arrived as zero. -/
def emptyBlockWrite (r n : Nat) (d : Device) : Device :=
  match ctxOf d r with
  | none => d
  | some c =>
    let todo := (ownBlocks c (c.entry n)).filter (fun i => !(bkt c n).marked.contains i)
    if !c.active || !c.deadlineMode || c.nb ≤ n || !(bkt c n).closed || todo.isEmpty then d
    else
      let d := ctxBump (setCtx d r { c with late := true }) r 0x1AC todo.length
      let zero : Owned := ⟨List.replicate 32 Num.zero, false, false, false, 0⟩
      doneCheck (todo.foldl (fun d i => ownWrite d r n i zero) d) r n

def execEmptyBlockWrite (r n : Nat) (s : State) : Host.Outcome State Fault Refusal := run (.emptyBlockWrite r n) (emptyBlockWrite r n) s

/-- NORM_SEND (R405, R416, R417): every own block of every bucket is converted; the sum of squares goes round. -/
def normSend (r : Nat) (d : Device) : Device :=
  match ctxOf d r with
  | none => d
  | some c =>
    if !normTodo c || !inTurn d r c then d
    else
      let d := takeTurn d r c
      let vals := (List.range c.nb).flatMap (fun n => (ownBlocks c (c.entry n)).flatMap (fun i => tget [] (bkt c n).own i))
      let s := vals.foldl (fun a w => fAdd a (fMul (ofF32 w) (ofF32 w))) Num.zero
      let pay := toLE 4 (toF32 s) ++ toLE 2 c.pos ++ toLE 1 (b2n c.nf + b2n c.late * 2) ++ toLE 1 0 ++ toLE 4 c.wide ++ toLE 4 0
      let d := setCtx d r { c with normSent := true, norm := tset c.norm c.pos pay }
      let d := if c.ring == 1 then d else queuePkt d c.outPort (reducePkt c r 2 0 0 0 0 0 pay)
      restCheck (normRecord d r) r

def execNormSend (r : Nat) (s : State) : Host.Outcome State Fault Refusal := run (.normSend r) (normSend r) s

/-- The canonical NaN of a weight format, in bytes (R67, R559). -/
def weightNan (f : Nat) : List Byte := toLE (elemBits f / 8) (match fltOf f with
  | some t => t.nanCode
  | none => 0)

/-- Weight bytes for a GATHER, a poisoned weight as NaN (R559), and how many were replaced. -/
def gatherBytes (f : Nat) : Nat → List (Byte × Bool) → List Byte × Nat
  | 0, _ => ([], 0)
  | n + 1, bs =>
    let w := elemBits f / 8
    let r := gatherBytes f n (bs.drop w)
    if (bs.take w).any Prod.snd then (weightNan f ++ r.1, r.2 + 1) else ((bs.take w).map Prod.fst ++ r.1, r.2)

/-- GATHER_SEND (R405, R420, R422, R559): APPLY_SIG is met; the next packet of the own shard goes out. -/
def gatherSend (r n : Nat) (d : Device) : Device :=
  match ctxOf d r with
  | none => d
  | some c =>
    let e := c.entry n
    let b := bkt c n
    if !gatherTodo d c n then d
    else
      let own := ownBlocks c e
      let is := (own.drop b.gTx).take (if c.wBytes == 4 then 3 else 7)
      if c.ring == 1 then gatherCheck (setBkt d r c n { b with gTx := own.length }) r n
      else
        match is with
        | [] => gatherCheck d r n
        | i :: _ =>
          if !inTurn d r c then d
          else
          let d := takeTurn d r c
          match unitRead d c.job (eW e + i * 32 * c.wBytes) (is.length * 32 * c.wBytes) 0xFFFF with
          | .error (f, d) => ctxTaint d r f
          | .ok (w, d) =>
            match unitRead d c.job (eH e + i) is.length 0xFFFF with
            | .error (f, d) => ctxTaint d r f
            | .ok (h, d) =>
              let g := gatherBytes c.wfmt (is.length * 32) w
              let d := bump d (devPage 2 + 0x110) g.2
              let d := if g.2 == 0 then d else setJob d c.job { job d c.job with repair := true }
              let d := arcPoison d c ((w ++ h).any Prod.snd)
              let d := queuePkt d c.outPort (reducePkt c r 1 n i is.length 0 0 (g.1 ++ h.map Prod.fst))
              match ctxOf d r with
              | none => d
              | some c => gatherCheck (setBkt d r c n { bkt c n with gTx := b.gTx + is.length }) r n

def execGatherSend (r n : Nat) (s : State) : Host.Outcome State Fault Refusal := run (.gatherSend r n) (gatherSend r n) s

/-! ### Steps (R424, R425, R637) -/

/-- The contexts of a job. -/
def ctxsOf (d : Device) (j : Nat) : List Nat := (d.ctxs.filter (fun e => e.2.job == j)).map Prod.fst

/-- A monitored wait of a context for READY_SIG (R386, R323). -/
def ctxWait (d : Device) (r w t : Nat) (n : Nat) : Device := (startWait d (864 + r) (n + 1) w t true).2

/-- A context becomes ACTIVE (R424): its progress is cleared, what its buckets hold of the attempt before is discarded as stale, its waits start, and held
packets are processed first (R637). -/
def ctxActivate (d : Device) (r step attempt : Nat) : Device :=
  match ctxOf d r with
  | none => d
  | some c =>
      let d := c.heldRx.foldl (discardRx 0x124) d
      let deg (p : Nat) : Bool := (activeLinks d p).length < 4
      let c := { c with active := true, was := true, step := step, attempt := attempt, late := false, nf := false, normDone := false
                        tainted := false, degraded := deg c.inPort || deg c.outPort, bkts := [], norm := [], normSent := false, wide := 0
                        nfRec := false }
      let d := setCtx d r c
      let d := (List.range c.nb).foldl (fun d n => ctxWait d r (eReadySig (c.entry n)) (eTarget (c.entry n)) n) d
      let mine (x : Rx) : Bool := rRjid x.hdr.toNat == r
      let now := d.reduceHeld.filter mine
      now.foldl (fun d x => arcRoute x d) { d with reduceHeld := d.reduceHeld.filter (fun x => !mine x) }

def arcadeStart (d : Device) (j step attempt : Nat) : Device := (ctxsOf d j).foldl (fun d r => ctxActivate d r step attempt) d

/-- The contexts of a job stop (R425). -/
def arcadeStop (d : Device) (j : Nat) : Device :=
  (ctxsOf d j).foldl (fun d r => match ctxOf d r with
    | some c => dropMonitors (setCtx d r { c with active := false }) (864 + r)
    | none => d) d

/-- Every context of the job leaves (R383, R471). -/
def arcadeUnload (d : Device) (j : Nat) : Device := (ctxsOf d j).foldl dropCtx d

/-- Whether the norm record of every context of a job is written (R474 step 4), and whether it was NF. A job without a context waits for none. -/
def normReady (d : Device) (j : Nat) : Bool := (ctxsOf d j).all (fun r => (ctxOf d r).any Ctx.normDone)

/-- Every GATHER_SIG of the job's buckets has been arrived at (R474 step 6). -/
def gatherDone (d : Device) (j : Nat) : Bool :=
  (ctxsOf d j).all (fun r => (ctxOf d r).any (fun c => (List.range c.nb).all (fun n => (bkt c n).gathered)))

end Sys2Proof.Machine
end

