-- ==== Sys2Proof/Machine/Scalar.lean ====
section
/-!
DEFINITION. The core sequencer's issue (R167–R172) and the scalar and signal-wait instructions (R183–R191, R218–R221).
A command names a core only: the instruction is fetched at the core's program counter, and the command is the issue of the instruction found
there. When the core does not run, or another instruction stands there, nothing issues (DESIGN CHOICE, notes/assumptions/8.md).
-/
namespace Sys2Proof.Machine

/-- The core and its hall are enabled (R586). -/
def coreOn (d : Device) (u : Nat) : Bool := (hdr d (corePage u / 0x1000)).enable && (hdr d (hallPage (u / 48) / 0x1000)).enable

/-- The opcodes that R180 assigns. -/
def opDefined (o : Nat) : Bool :=
  (1 ≤ o && o ≤ 0xD) || (0x10 ≤ o && o ≤ 0x12) || (0x14 ≤ o && o ≤ 0x16) || (0x18 ≤ o && o ≤ 0x21) || o == 0x24 || (0x28 ≤ o && o ≤ 0x2C)

/-- A scalar register; x0 reads as zero (R167). -/
def xr (c : Core) (i : Nat) : Nat := if i == 0 then 0 else (tget 0 c.x i).toNat

/-- A scalar register is written; x0 ignores writes (R167). -/
def xw (c : Core) (i v : Nat) : Core :=
  if i == 0 then c else { c with x := tset c.x i (BitVec.ofNat 64 v), xbad := ndel c.xbad i, xups := ndel c.xups i }

/-- Phase 1 of a TCFG is over by the time another command of the core is carried out or time passes (R131; DESIGN CHOICE, notes/assumptions/9.md). -/
def phase1End (d : Device) (u : Nat) : Device :=
  if (core d u).st == .tcfg1 then setCore d u { core d u with st := .running } else d

/-- The opcodes of the instructions that enter the firing window (R173). -/
def opWindowed (o : Nat) : Bool := o == 0x11 || o == 0x12 || (0x14 ≤ o && o ≤ 0x16) || (0x18 ≤ o && o ≤ 0x21) || o == 0x24 || o == 0x28 || o == 0x29

/-- Issue of the instruction at the program counter, when it has opcode `op` (R168, R169, R553). -/
def issue (u op : Nat) (f : Core → Nat → Device → Device) (d : Device) : Device :=
  let d := phase1End d u
  let c := core d u
  if c.st != .running || !coreOn d u then d
  else if c.codeLen ≤ c.pc then coreFault d u c.pc 7
  else if c.istore.flaw c.pc 8 != 0 then coreStop d u c.pc (c.istore.flaw c.pc 8)
  else
    let w := c.istore.num c.pc 8
    if !opDefined (fld w 63 58) then coreFault d u c.pc 7
    else if fld w 63 58 == op then f c w d
    else d

/-- The program counter advances past an instruction. -/
def adv (d : Device) (u : Nat) (c : Core) : Device := setCore d u { c with pc := c.pc + 8 }

/-- A scalar instruction that reads registers `rs`: one with failing parity or poison stops the core (R552, R553). -/
def reading (d : Device) (u : Nat) (c : Core) (rs : List Nat) (k : Device) : Device :=
  if rs.any (fun r => r != 0 && c.xups.contains r) then coreStop d u c.pc 9
  else if rs.any (fun r => r != 0 && c.xbad.contains r) then coreFault d u c.pc 10 else k

/-- Every windowed and fired instruction of the core has completed (R189). -/
def quiet (c : Core) : Bool := c.win.isEmpty && c.fl.isEmpty

/-- Quiet, and no TCFG is in any phase (R191, R137). -/
def quietCtx (c : Core) : Bool := quiet c && c.tcfg.isNone

/-- ALU and ALUI operations (R185), or none for a reserved code. -/
def aluOp (func a b : Nat) : Option Nat :=
  match func with
  | 0 => some ((a + b) % 2 ^ 64)
  | 1 => some ((a + 2 ^ 64 - b) % 2 ^ 64)
  | 2 => some (a &&& b)
  | 3 => some (a ||| b)
  | 4 => some (a ^^^ b)
  | 5 => some ((a <<< (b % 64)) % 2 ^ 64)
  | 6 => some (a >>> (b % 64))
  | 7 => some (wrap64 (signed 64 a / 2 ^ (b % 64)))
  | 8 => some (a * b % 2 ^ 64)
  | 9 => some (if signed 64 a ≤ signed 64 b then a else b)
  | 10 => some (if signed 64 a ≤ signed 64 b then b else a)
  | 11 => some (b2n (decide (signed 64 a < signed 64 b)))
  | 12 => some (b2n (decide (a < b)))
  | _ => none

/-- ALU (R185). -/
def aluInstr (u : Nat) (d : Device) : Device :=
  issue u 0x01 (fun c w d =>
    match aluOp (fld w 57 54) (xr c (fld w 48 44)) (xr c (fld w 43 39)) with
    | none => coreFault d u c.pc 4
    | some v =>
      if fld w 38 0 != 0 then coreFault d u c.pc 4
      else reading d u c [fld w 48 44, fld w 43 39] (adv d u (xw c (fld w 53 49) v))) d

def execAlu (u : Nat) (s : State) : Host.Outcome State Fault Refusal := run (.alu u) (aluInstr u) s

/-- ALUI (R185): the second operand is IMM32, sign-extended. -/
def aluiInstr (u : Nat) (d : Device) : Device :=
  issue u 0x02 (fun c w d =>
    match aluOp (fld w 57 54) (xr c (fld w 48 44)) (addImm 0 (fld w 31 0)) with
    | none => coreFault d u c.pc 4
    | some v =>
      if fld w 43 32 != 0 then coreFault d u c.pc 4
      else reading d u c [fld w 48 44] (adv d u (xw c (fld w 53 49) v))) d

def execAlui (u : Nat) (s : State) : Host.Outcome State Fault Refusal := run (.alui u) (aluiInstr u) s

/-- LI (R184). -/
def liInstr (u : Nat) (d : Device) : Device :=
  issue u 0x03 (fun c w d =>
    let xd := fld w 53 49
    if fld w 57 54 != 0 then coreFault d u c.pc 4
    else if bit w 48 then
      (if fld w 47 16 != 0 then coreFault d u c.pc 4
       else reading d u c [xd] (adv d u (xw c xd (xr c xd % 2 ^ 48 + fld w 15 0 * 2 ^ 48))))
    else adv d u (xw c xd (wrap64 (signed 48 (fld w 47 0))))) d

def execLi (u : Nat) (s : State) : Host.Outcome State Fault Refusal := run (.li u) (liInstr u) s

/-- An access of scalar memory is aligned and lies within it (R186). -/
def smemOk (a n : Nat) : Bool := a % n == 0 && a + n ≤ 32768

/-- LD (R186). -/
def ldInstr (u : Nat) (d : Device) : Device :=
  issue u 0x04 (fun c w d =>
    let n := 2 ^ fld w 57 56
    let a := addImm (xr c (fld w 48 44)) (fld w 31 0)
    if bit w 54 || fld w 43 32 != 0 then coreFault d u c.pc 4
    else reading d u c [fld w 48 44]
      (if !smemOk a n then coreFault d u c.pc 4
       else if c.smem.flaw a n != 0 then coreStop d u c.pc (c.smem.flaw a n)
       else
         let v := c.smem.num a n
         adv d u (xw c (fld w 53 49) (if bit w 55 then wrap64 (signed (8 * n) v) else v)))) d

def execLd (u : Nat) (s : State) : Host.Outcome State Fault Refusal := run (.ld u) (ldInstr u) s

/-- ST (R186). -/
def stInstr (u : Nat) (d : Device) : Device :=
  issue u 0x05 (fun c w d =>
    let n := 2 ^ fld w 57 56
    let a := addImm (xr c (fld w 48 44)) (fld w 31 0)
    if fld w 55 54 != 0 || fld w 43 32 != 0 then coreFault d u c.pc 4
    else reading d u c [fld w 48 44, fld w 53 49]
      (if !smemOk a n then coreFault d u c.pc 4
       else adv d u { c with smem := c.smem.write a (toLE n (xr c (fld w 53 49))) })) d

def execSt (u : Nat) (s : State) : Host.Outcome State Fault Refusal := run (.st u) (stInstr u) s

/-- The branch conditions (R187), or none for a reserved code. -/
def condOp (cond a b : Nat) : Option Bool :=
  match cond with
  | 0 => some (a == b)
  | 1 => some (a != b)
  | 2 => some (decide (signed 64 a < signed 64 b))
  | 3 => some (decide (signed 64 b ≤ signed 64 a))
  | 4 => some (decide (a < b))
  | 5 => some (decide (b ≤ a))
  | _ => none

/-- A jump to a target, which must be a multiple of 8 (R187); `c` is the core with its link register written. -/
def jumpTo (d : Device) (u pc : Nat) (c : Core) (t : Nat) : Device :=
  if t % 8 != 0 then coreFault d u pc 7 else setCore d u { c with pc := t }

/-- BR (R187). -/
def brInstr (u : Nat) (d : Device) : Device :=
  issue u 0x06 (fun c w d =>
    match condOp (fld w 57 55) (xr c (fld w 48 44)) (xr c (fld w 43 39)) with
    | none => coreFault d u c.pc 4
    | some t =>
      if bit w 54 || fld w 53 49 != 0 || fld w 38 32 != 0 then coreFault d u c.pc 4
      else reading d u c [fld w 48 44, fld w 43 39]
        (if t then jumpTo d u c.pc c (addImm c.pc (fld w 31 0)) else adv d u c)) d

def execBr (u : Nat) (s : State) : Host.Outcome State Fault Refusal := run (.br u) (brInstr u) s

/-- JAL (R187). -/
def jalInstr (u : Nat) (d : Device) : Device :=
  issue u 0x07 (fun c w d =>
    if fld w 57 54 != 0 || fld w 48 32 != 0 then coreFault d u c.pc 4
    else jumpTo d u c.pc (xw c (fld w 53 49) (c.pc + 8)) (addImm c.pc (fld w 31 0))) d

def execJal (u : Nat) (s : State) : Host.Outcome State Fault Refusal := run (.jal u) (jalInstr u) s

/-- JALR (R187). -/
def jalrInstr (u : Nat) (d : Device) : Device :=
  issue u 0x08 (fun c w d =>
    if fld w 57 54 != 0 || fld w 43 32 != 0 then coreFault d u c.pc 4
    else reading d u c [fld w 48 44]
      (jumpTo d u c.pc (xw c (fld w 53 49) (c.pc + 8)) (addImm (xr c (fld w 48 44)) (fld w 31 0)))) d

def execJalr (u : Nat) (s : State) : Host.Outcome State Fault Refusal := run (.jalr u) (jalrInstr u) s

/-- The values CSRR reads (R188), or none for a reserved number. -/
def csrValue (d : Device) (u : Nat) (c : Core) (n : Nat) : Option Nat :=
  let m := d.plan.maps
  match n with
  | 0 => some (get64 d (pwrPage 2 + 0x100 + u / 48 * 8))
  | 1 => some (m.globalOf u)
  | 2 => some (m.logical (u / 48))
  | 3 => some (m.slotOf u)
  | 4 => some (c.job.getD 0)
  | 5 => some ((c.job.map (fun j => (job d j).step)).getD 0)
  | 6 => some c.win.length
  | 7 => some d.plan.gen
  | _ => none

/-- CSRR (R188). -/
def csrrInstr (u : Nat) (d : Device) : Device :=
  issue u 0x09 (fun c w d =>
    match csrValue d u c (fld w 15 0) with
    | none => coreFault d u c.pc 4
    | some v =>
      if fld w 57 54 != 0 || fld w 48 16 != 0 then coreFault d u c.pc 4
      else adv d u (xw c (fld w 53 49) v)) d

def execCsrr (u : Nat) (s : State) : Host.Outcome State Fault Refusal := run (.csrr u) (csrrInstr u) s

/-- FENCE (R189): issue stops until the window is empty and every fired instruction has completed. (DEDUCED, notes/assumptions/68.md.) -/
def fenceInstr (u : Nat) (d : Device) : Device :=
  issue u 0x0A (fun c w d =>
    if fld w 57 0 != 0 then coreFault d u c.pc 4
    else if quiet c then adv d u c else d) d

def execFence (u : Nat) (s : State) : Host.Outcome State Fault Refusal := run (.fence u) (fenceInstr u) s

/-- SAFEPT (R191): with a preemption requested the core fences and stops, to be saved with the address after it; otherwise as NOP. -/
def safeptInstr (u : Nat) (d : Device) : Device :=
  issue u 0x0B (fun c w d =>
    if fld w 57 0 != 0 then coreFault d u c.pc 4
    else if !c.preempt then adv d u c
    else if quietCtx c then adv d u { c with st := .atSafept, stop := 0 }
    else d) d

def execSafept (u : Nat) (s : State) : Host.Outcome State Fault Refusal := run (.safept u) (safeptInstr u) s

/-- Cycles of the control island (R491, R511). -/
def controlCycles (d : Device) : Nat := get64 d (pwrPage 2 + 0x100 + 53 * 8)

/-- The END of a core of a job is marked for the barrier of its micro-batch (R511). -/
def noteEnd (d : Device) (u : Nat) : Device :=
  match (core d u).job with
  | none => d
  | some j =>
    let x := job d j
    let t := controlCycles d
    setJob d j { x with mFirst := some (x.mFirst.getD t), mLast := tset x.mLast (u / 48) t }

/-- END (R190): fences as FENCE does, then the step program is complete and the core stops. -/
def endInstr (u : Nat) (d : Device) : Device :=
  issue u 0x0C (fun c w d =>
    if fld w 57 0 != 0 then coreFault d u c.pc 4
    else if quiet c then noteEnd (adv d u { c with st := .atEnd, stop := 1 }) u else d) d

def execEndProg (u : Nat) (s : State) : Host.Outcome State Fault Refusal := run (.endProg u) (endInstr u) s

/-- NOP (R180). -/
def nopInstr (u : Nat) (d : Device) : Device :=
  issue u 0x0D (fun c w d => if fld w 57 0 != 0 then coreFault d u c.pc 4 else adv d u c) d

def execNop (u : Nat) (s : State) : Host.Outcome State Fault Refusal := run (.nop u) (nopInstr u) s

/-! ### SWAIT, SGATE and SREAD (R218, R220, R314, R317) -/

/-- The word index of SARR, SSET, SWAIT and SREAD (R218). -/
def sigIdx (xa w : Nat) : Nat := (xa % 8192 + fld w 56 44) % 8192

/-- SWAIT (R218): issue stops until the count reaches the target. -/
def swaitInstr (u : Nat) (d : Device) : Device :=
  issue u 0x2A (fun c w d =>
    let t := xr c (fld w 43 39)
    let i := sigIdx (xr c (fld w 36 32)) w
    if bit w 57 || bit w 37 || fld w 31 0 != 0 then coreFault d u c.pc 4
    else reading d u c [fld w 43 39, fld w 36 32]
      (match wordFault d i (c.job.getD 16) with
       | some f => coreFault d u c.pc f
       | none =>
         if t ≥ 2 ^ 48 then coreFault d u c.pc 4
         else
           let r := startWait d u 0 i t (bit w 38)
           let c := core r.2 u
           if r.1.seen then adv r.2 u c
           else adv r.2 u { c with st := .swait, swait := some r.1 })) d

def execSwait (u : Nat) (s : State) : Host.Outcome State Fault Refusal := run (.swait u) (swaitInstr u) s

/-- SGATE (R218, R220, R326): the earlier binding's monitor entry is removed and its window entries go on by polling. -/
def sgateInstr (u : Nat) (d : Device) : Device :=
  issue u 0x2B (fun c w d =>
    let g := fld w 57 54
    let t := xr c (fld w 43 39)
    let i := xr c (fld w 36 32) % 8192
    if g == 0 || fld w 53 44 != 0 || bit w 37 || fld w 31 0 != 0 then coreFault d u c.pc 4
    else reading d u c [fld w 43 39, fld w 36 32]
      (match wordFault d i (c.job.getD 16) with
       | some f => coreFault d u c.pc f
       | none =>
         if t ≥ 2 ^ 48 then coreFault d u c.pc 4
         else
           let poll (e : Ins) : Ins :=
             if e.w % 16 == g then { e with gate := e.gate.map (fun b => { b with mon := false }) } else e
           let d := dropMonitor (setCore d u { c with win := c.win.map poll }) u g
           let r := startWait d u g i t (bit w 38)
           let c := core r.2 u
           adv r.2 u { c with gates := tset c.gates g r.1 })) d

def execSgate (u : Nat) (s : State) : Host.Outcome State Fault Refusal := run (.sgate u) (sgateInstr u) s

/-- SREAD (R218): XD receives the whole word. -/
def sreadInstr (u : Nat) (d : Device) : Device :=
  issue u 0x2C (fun c w d =>
    let i := sigIdx (xr c (fld w 36 32)) w
    if bit w 57 || fld w 38 37 != 0 || fld w 31 0 != 0 then coreFault d u c.pc 4
    else reading d u c [fld w 36 32]
      (match wordFault d i (c.job.getD 16) with
       | some f => coreFault d u c.pc f
       | none =>
         match readWord d i with
         | none => coreFault d u c.pc 4
         | some (v, d) => adv d u (xw (core d u) (fld w 43 39) v))) d

def execSread (u : Nat) (s : State) : Host.Outcome State Fault Refusal := run (.sread u) (sreadInstr u) s

end Sys2Proof.Machine
end

