-- ==== Sys2Proof/Machine/Window.lean ====
section
/-!
DEFINITION. The firing window (R173–R177): entering it, what an entry reads, writes and names, and when it can fire.
-/
namespace Sys2Proof.Machine

/-- The opcode of a windowed instruction. -/
def Ins.op (e : Ins) : Nat := fld e.w 63 58
def Ins.f (e : Ins) (hi lo : Nat) : Nat := fld e.w hi lo
/-- The descriptor an entry captured, its ADDR with XA added (R209; a drain has no XA). -/
def Ins.d (e : Ins) : Desc := descOf e.desc (if e.op == 0x24 then e.a else 0)

def opTCLR : Nat := 0x11
def opTDEAD : Nat := 0x12
def opWLD : Nat := 0x14
def opMMA : Nat := 0x15
def opDRAIN : Nat := 0x16
def opFTLD : Nat := 0x20
def opFTINV : Nat := 0x21
def opSXFER : Nat := 0x24
def opSARR : Nat := 0x28
def opSSET : Nat := 0x29

/-- A vector instruction (R180). -/
def Ins.isVec (e : Ins) : Bool := 0x18 ≤ e.op && e.op ≤ 0x1F
def Ins.isDrain (e : Ins) : Bool := e.op == opDRAIN
/-- A drain to a descriptor (R195). -/
def Ins.drainDesc (e : Ins) : Bool := e.isDrain && bit e.w 21
/-- MODE of a WLD or MMA (R193, R194). -/
def Ins.mode (e : Ins) : Nat := if e.op == opWLD then e.f 49 48 else e.f 21 20

/-- The quarters of a mode (R91, R99). -/
def quarters (mode : Nat) : List Nat := if mode == 0 then [0, 1, 2, 3] else if mode == 1 then [0, 1] else [2, 3]
/-- Two modes share a quarter. -/
def modesMeet (a b : Nat) : Bool := a == 0 || b == 0 || a == b

/-- Source tiles of an entry (R174), until its reads of them have ended (R109, R131). -/
def Ins.reads (e : Ins) : List Nat :=
  if e.read then []
  else match e.op with
  | 0x14 => [e.f 57 51]
  | 0x15 => [e.f 57 51]
  | 0x18 => [e.f 50 44, e.f 43 37]
  | 0x19 => [e.f 50 44, e.f 43 37, e.f 36 30]
  | 0x1A => if e.f 26 23 == 6 then [] else [e.f 50 44]
  | 0x1B => [e.f 50 44]
  | 0x1C => [e.f 50 44]
  | 0x1D => [e.f 50 44, e.f 43 37]
  | 0x1E => [e.f 50 44]
  | 0x1F => [e.f 50 44, e.f 43 37]
  | 0x24 => if e.d.src == 0 then [e.d.tile] else []
  | _ => []

/-- Destination tiles of an entry (R174); TCLR and TDEAD wait as a write does (R141, R142). -/
def Ins.writes (e : Ins) : List Nat :=
  match e.op with
  | 0x11 => [e.f 57 51]
  | 0x12 => [e.f 57 51]
  | 0x16 => if bit e.w 21 then [] else [e.f 20 14]
  | 0x18 => [e.f 57 51]
  | 0x19 => [e.f 57 51]
  | 0x1A => [e.f 57 51]
  | 0x1B => [e.f 57 51]
  | 0x1C => [e.f 57 51]
  | 0x1D => [e.f 57 51]
  | 0x1E => [e.f 57 51]
  | 0x1F => [e.f 57 51, e.f 36 30]
  | 0x24 => if e.d.src != 0 && e.d.dst == 0 then [e.d.tile] else []
  | _ => []

/-- Every tile an entry names (R131, R132), while it has not completed for TCFG: a pass or a load only until its read has ended. -/
def Ins.names (e : Ins) : List Nat := e.reads ++ e.writes

/-- Source tiles that carry a dead-tile hint (R142, R182). -/
def Ins.deads (e : Ins) : List Nat :=
  match e.op with
  | 0x14 => if bit e.w 50 then [e.f 57 51] else []
  | 0x15 => if bit e.w 50 then [e.f 57 51] else []
  | 0x24 => if bit e.w 38 && e.d.src == 0 then [e.d.tile] else []
  | _ =>
    if e.isVec then
      (if bit e.w 29 then [e.f 50 44] else []) ++ (if bit e.w 28 then [e.f 43 37] else []) ++ (if bit e.w 27 then [e.f 36 30] else [])
    else []

/-- The function slot an entry names (R203, R206, R195). -/
def Ins.slot (e : Ins) : Option Nat :=
  match e.op with
  | 0x16 => if e.f 26 23 < 8 then some (e.f 26 23) else none
  | 0x1C => some (e.f 25 23)
  | 0x1D => some (e.f 25 23)
  | 0x20 => some (e.f 57 55)
  | 0x21 => some (e.f 57 55)
  | _ => none

/-- The entry changes its slot. -/
def Ins.slotWrite (e : Ins) : Bool := e.op == opFTLD || e.op == opFTINV

/-- The accumulator a pass or a drain names. -/
def Ins.accOf (e : Ins) : Option Nat :=
  if e.op == opMMA then some (e.f 30 30) else if e.isDrain then some (e.f 57 57) else none

/-- The entry takes a place of the stream engine: transfers, FTLD and drains to a descriptor (R176). -/
def Ins.isStream (e : Ins) : Bool := e.op == opSXFER || e.op == opFTLD || e.drainDesc
/-- The entry occupies the vector unit until its rows are read (R176). -/
def Ins.vecBusy (e : Ins) : Bool := e.isVec || (e.isDrain && e.stage == 0)
/-- The entry goes to the signal and tile-control queue (R176). -/
def Ins.isQueue (e : Ins) : Bool := e.op == opSARR || e.op == opSSET || e.op == opTCLR || e.op == opTDEAD
/-- A landing transfer (R254). -/
def Ins.isLanding (e : Ins) : Bool := (e.op == opSXFER || e.drainDesc) && (e.d.src == 3 || e.d.dst == 3)

/-- Units that R177 names: full array, halves, vector unit, stream engine, queue. -/
def Ins.units (e : Ins) : List Nat :=
  if e.op == opWLD || e.op == opMMA then [e.mode]
  else (if e.isVec || e.isDrain then [3] else []) ++ (if e.isStream then [4] else []) ++ (if e.isQueue then [5] else [])

def meet (a b : List Nat) : Bool := a.any (fun x => b.contains x)

/-- The conditions of R174 on what the entry reads, writes and names, against the earlier instructions not completed (window or fired). -/
def Ins.hazard (e o : Ins) : Bool :=
  meet e.reads o.writes || meet e.writes o.writes || meet e.writes o.reads
  || (match e.slot, o.slot with
      | some a, some b => a == b && (o.slotWrite || e.slotWrite)
      | _, _ => false)

/-- The unit-order rules of R176 against an earlier instruction still in the window. -/
def Ins.orderBlocked (e o : Ins) : Bool :=
  ((e.op == opWLD || e.op == opMMA) && (o.op == opWLD || o.op == opMMA) && modesMeet e.mode o.mode)
  || (match e.accOf, o.accOf with
      | some a, some b => a == b && (e.isDrain || o.isDrain)
      | _, _ => false)

/-- A captured gate binding is satisfied (R174, R220, R327). -/
def gateOpen (d : Device) (e : Ins) : Bool :=
  match e.gate with
  | some b => b.seen || (b.late && reached d b.word b.target)
  | none => true

/-- Whether an entry can fire (R174, R176, R219), given the earlier window entries. -/
def fireReady (d : Device) (c : Core) (older : List Ins) (e : Ins) : Bool :=
  let fl := c.fl.filter (fun o => o.seq < e.seq)
  gateOpen d e
  && (older ++ fl).all (fun o => !e.hazard o)
  && older.all (fun o => !e.orderBlocked o)
  && (match c.tcfg with
      | some t => e.seq < t.seq || !meet e.names t.affected
      | none => true)
  && (!(e.op == opWLD || e.op == opMMA) || !c.arr.steerPending)
  && (e.accOf.isNone || !c.clearing)
  && (!(e.isVec || e.isDrain) || !c.fl.any Ins.vecBusy)
  && (!e.isStream || (c.fl.filter Ins.isStream).length < 8)
  && (!e.isLanding || !(job d (c.job.getD 16)).landBusy)
  && (!((e.op == opSARR || e.op == opSSET) && !bit e.w 38) || (older.isEmpty && fl.isEmpty))

/-- Entry `i` of the window can fire and is the oldest of its units that can (R177). -/
def canFire (d : Device) (c : Core) (i : Nat) : Bool :=
  match c.win[i]? with
  | none => false
  | some e =>
    fireReady d c (c.win.take i) e
    && (List.range i).all (fun k =>
      match c.win[k]? with
      | none => true
      | some o => !(meet o.units e.units && fireReady d c (c.win.take k) o))

/-- The gate binding an instruction captures (R181, R220), or none when its gate is not bound. The gate may have observed its target; the entry has not
yet, and evaluates the word as it stands (R327). -/
def captureGate (c : Core) (g : Nat) : Option (Option Binding) :=
  if g == 0 then some none else (c.gates.find? (fun e => e.1 == g)).map (fun e => some { e.2 with seen := false, late := e.2.seen })

/-- A windowed instruction issues (R168, R172, R173, R181): `resv` holds of a reserved field or value, `regs` are the scalar registers it
reads, captured in `a` and `b`, `mem` the scalar memory bytes it captures. A full window stops issue. -/
def enter (u op : Nat) (resv : Nat → Bool) (ra rb : Nat → Option Nat) (mem : Core → Nat → Nat × Nat) (d : Device) : Device :=
  issue u op (fun c w d =>
    if 16 ≤ c.win.length then d
    else if resv w then coreFault d u c.pc 4
    else
      match captureGate c (w % 16) with
      | none => coreFault d u c.pc 4
      | some gb =>
        reading d u c ((ra w).toList ++ (rb w).toList)
          (let m := mem c w
           if c.smem.flaw m.1 m.2 != 0 then coreStop d u c.pc (c.smem.flaw m.1 m.2)
           else
             let val (r : Option Nat) : Nat := (r.map (xr c)).getD 0
             adv d u { c with
               win := c.win ++ [{ seq := c.seqNo, pc := c.pc, w := w, a := val (ra w), b := val (rb w),
                                  desc := c.smem.read m.1 m.2, gate := gb }]
               seqNo := c.seqNo + 1 })) d

/-- No register, and no scalar memory. -/
def noReg : Nat → Option Nat := fun _ => none
def noMem : Core → Nat → Nat × Nat := fun _ _ => (0, 0)

/-- The in-use flags of tiles are cleared (R142). -/
def clearInUse (c : Core) (ts : List Nat) : Core := { c with inUse := c.inUse.filter (fun t => !ts.contains t) }

/-- Cache entries of a tile leave before a write of it is accepted (R108). -/
def uncache (c : Core) (t : Nat) : Core := { c with arr := { c.arr with cache := c.arr.cache.filter (fun e => e.tile != t) } }

def tileOf (c : Core) (t : Nat) : Tile := tget {} c.tiles t

/-- A fired instruction leaves the fired list. -/
def unfly (c : Core) (e : Ins) : Core := { c with fl := c.fl.filter (fun o => o.seq != e.seq) }

/-- A fired instruction changes. -/
def refly (c : Core) (e : Ins) : Core := { c with fl := c.fl.map (fun o => if o.seq == e.seq then e else o) }

/-- The unit's reads of tiles on a core: poison found is recorded and taints (R554); `bad` says whether the elements read held any. -/
def tilePoison (d : Device) (u : Nat) (bad : Bool) : Device :=
  if bad then poisonSeen d (corePage u) (core d u).job else d

end Sys2Proof.Machine
end

