-- ==== Sys2Proof/Machine/Array.lean ====
section
/-!
DEFINITION. The matrix array: weight loads, banks and tokens, passes, the operand cache, lane steering (R80–R118), and drains (R150–R156).
A pass reads its rows when it fires, which ends its claim on the tile (R109), and writes its accumulator at PASS_COMPLETE; a load is read at WLD_START
and its banks are READY at WLD_READY (DESIGN CHOICE, notes/assumptions/9.md).
-/
namespace Sys2Proof.Machine

/-! ### Entering the window -/

/-- WLD (R193). -/
def wldInstr (u : Nat) (d : Device) : Device :=
  enter u opWLD (fun w => fld w 49 48 == 3 || fld w 47 46 == 3 || fld w 45 4 != 0) noReg noReg noMem d
def execWld (u : Nat) (s : State) : Host.Outcome State Fault Refusal := run (.wld u) (wldInstr u) s

/-- MMA (R194). -/
def mmaInstr (u : Nat) (d : Device) : Device :=
  enter u opMMA (fun w => fld w 21 20 == 3 || fld w 18 17 == 3 || fld w 16 4 != 0) noReg noReg noMem d
def execMma (u : Nat) (s : State) : Host.Outcome State Fault Refusal := run (.mma u) (mmaInstr u) s

/-- ACCDRAIN (R195): a drain to a descriptor captures it at issue. -/
def accdrainInstr (u : Nat) (d : Device) : Device :=
  enter u opDRAIN
    (fun w => (8 ≤ fld w 26 23 && fld w 26 23 < 15) || (if bit w 21 then fld w 11 4 != 0 else fld w 8 4 != 0))
    (fun w => if bit w 21 then none else some (fld w 13 9)) noReg
    (fun _ w => if bit w 21 then (fld w 20 12 * 64, 64) else (0, 0)) d
def execAccdrain (u : Nat) (s : State) : Host.Outcome State Fault Refusal := run (.accdrain u) (accdrainInstr u) s

/-! ### Weight loads -/

def bankOf (a : Arr) (q b : Nat) : Bank := tget {} a.banks (2 * q + b)
def frontOf (a : Arr) (q : Nat) : Nat := tget 0 a.front q
def backState (a : Arr) (q : Nat) : Nat := tget 0 a.back q
def progOf (a : Arr) (q : Nat) : WShape := tget {} a.prog q
def nextsOf (a : Arr) (q : Nat) : List WShape := tget [] a.nexts q

/-- A WLD fires (R91, R92): its shape is checked, and the load issues for its quarters. -/
def fireWld (c : Core) (e : Ins) : Except Nat Core :=
  let t := tileOf c (e.f 57 51)
  let mode := e.mode
  if t.rows == 0 || 32 < t.rows || (if mode == 0 then 128 else 64) < t.cols then .error 1
  else if e.f 47 46 != 0 && t.fmt != 0 && t.fmt != 2 then .error 3
  else
    let s : WShape := ⟨t.rows, t.cols, mode, e.f 47 46⟩
    .ok { c with
      fl := c.fl ++ [e]
      arr := { c.arr with nexts := (quarters mode).foldl (fun n q => tset n q (tget [] n q ++ [s])) c.arr.nexts } }

/-- An operand as the expansion stage gives it (R54–R57), with its poison. -/
def expand (fmt part : Nat) (x : El) : El := ⟨x18Part fmt part x.num, x.bad⟩

/-- The weights a load reads, as rows of K by columns (R91). -/
def readWeights (c : Core) (t : Tile) (part : Nat) : List (List El) :=
  (List.range t.rows).map (fun r => (elsAt c.tile t.fmt t.cols (tileRow t r) 0 t.cols).map (expand t.fmt part))

/-- WLD_START (R92): the oldest waiting load of the array starts when the back banks of its quarters are FREE and the weight path is idle. (DESIGN CHOICE, notes/assumptions/62.md.) -/
def wldStart (u mode waited : Nat) (d : Device) : Device :=
  let c := core d u
  match c.fl.find? (fun e => e.op == opWLD && e.stage == 0) with
  | none => d
  | some e =>
    if !coreOn d u || e.mode != mode || c.fl.any (fun o => o.op == opWLD && o.stage == 1)
        || (quarters mode).any (fun q => backState c.arr q != 0) then d
    else
      let t := tileOf c (e.f 57 51)
      let w := readWeights c t (e.f 47 46)
      let c := clearInUse (refly c { e with stage := 1, vals := w, read := true }) e.deads
      let d := setCore d u { c with arr := { c.arr with back := (quarters mode).foldl (fun b q => tset b q 1) c.arr.back } }
      let d := coreParity (bump d (corePage u + 0x61C) waited) u ((core d u).tile.failing t.base (tileBytes t))
      tilePoison d u (w.any (fun r => r.any El.bad))

def execWldStart (u mode waited : Nat) (s : State) : Host.Outcome State Fault Refusal :=
  run (.wldStart u mode waited) (wldStart u mode waited) s

/-- The bank of quarter `q` that a load of a mode fills (R91): tile column n serves accumulator column n, or 64h + n for half h. -/
def bankFor (mode part : Nat) (w : List (List El)) (q : Nat) : Bank :=
  let q' := if mode == 2 then q - 2 else q
  { shape := ⟨w.length, (w.headD []).length, mode, part⟩, w := w.map (fun r => (r.drop (32 * q')).take 32) }

/-- WLD_READY (R93, R90): the running load of `mode` ends and its back banks are READY. -/
def wldReady (u mode : Nat) (d : Device) : Device :=
  let c := core d u
  match c.fl.find? (fun e => e.op == opWLD && e.stage == 1 && e.mode == mode) with
  | none => d
  | some e =>
    if !coreOn d u then d
    else
      let banks := (quarters mode).foldl (fun b q => tset b (2 * q + (1 - frontOf c.arr q)) (bankFor mode (e.f 47 46) e.vals q)) c.arr.banks
      let c := unfly c e
      setCore d u { c with arr := { c.arr with banks := banks, back := (quarters mode).foldl (fun b q => tset b q 2) c.arr.back } }

def execWldReady (u mode : Nat) (s : State) : Host.Outcome State Fault Refusal := run (.wldReady u mode) (wldReady u mode) s

/-! ### Passes -/

def mmaA (e : Ins) : Nat := e.f 57 51
def mmaRS (e : Ins) : Nat := e.f 49 42
def mmaM (e : Ins) : Nat := e.f 41 34
def mmaKoff (e : Ins) : Nat := e.f 33 31 * 32
def mmaAcc (e : Ins) : Nat := e.f 30 30
def mmaARow (e : Ins) : Nat := e.f 29 23
def mmaInit (e : Ins) : Bool := bit e.w 22
def mmaSwap (e : Ins) : Bool := bit e.w 19
def mmaPart (e : Ins) : Nat := e.f 18 17

/-- The weights a pass uses in quarter `q`, in program order (R84): the oldest load not yet taken by a swap, or the weights already in front. -/
def usedShape (a : Arr) (swap : Bool) (q : Nat) : Option WShape := if swap then (nextsOf a q).head? else some (progOf a q)

/-- Entries that a cache holds. -/
def cacheSize (l : List CacheEnt) : Nat := l.foldl (fun n e => n + e.size) 0

/-- The oldest entries leave while the cache holds more than 256 (R106, R107). -/
def evict : Nat → List CacheEnt → List CacheEnt
  | 0, l => l
  | n + 1, l => if 256 < cacheSize l then evict n (l.drop 1) else l

/-- The K inputs that a pass takes from a row of its tile (R83). -/
def mmaK (t : Tile) (e : Ins) : Nat := min 32 (t.cols - mmaKoff e)

/-- What a pass has fetched of its rows (R107): the cache, the rows as the expansion stage gives them, the hits, the failing bytes of the tile file, and
the hits on a slice with failing parity (R157). -/
structure Fetch where
  cache : List CacheEnt
  rows : List (List El) := []
  hits : Nat := 0
  locs : List Nat := []
  flawed : Nat := 0
  deriving DecidableEq, Repr, Inhabited

/-- The elements of a cached row-slice, as the expansion stage gives them. -/
def sliceEls (t : Tile) (e : Ins) (m : Mem) : List El := (elsAt m t.fmt (mmaK t e) 0 0 (mmaK t e)).map (expand t.fmt (mmaPart e))

/-- One row of a pass (R107, R157): on a hit the cached slice is used; on a miss the tile file is read and the slice entered in place of the oldest. -/
def fetchRow (c : Core) (t : Tile) (e : Ins) (a : Fetch) (i : Nat) : Fetch :=
  let row := mmaRS e + i
  let n := mmaK t e
  match a.cache.find? (fun x => x.tile == mmaA e && x.row == row && x.koff == mmaKoff e) with
  | some x =>
    { a with rows := a.rows ++ [sliceEls t e x.data], hits := a.hits + 1
             flawed := a.flawed + (if (elsFailing x.data t.fmt n 0 0 n).isEmpty then 0 else 1) }
  | none =>
    let m := copyEls c.tile {} t.fmt n 0 0 t.cols (tileRow t row) (mmaKoff e) n
    { a with rows := a.rows ++ [sliceEls t e m], locs := a.locs ++ elsFailing c.tile t.fmt t.cols (tileRow t row) (mmaKoff e) n
             cache := evict 2 (a.cache ++ [⟨mmaA e, row, mmaKoff e, if t.fmt == 0 then 2 else 1, m⟩]) }

/-- Every row of a pass, in order; the rows of passes of the two halves do not interleave (DESIGN CHOICE, notes/assumptions/73.md). -/
def fetchRows (c : Core) (e : Ins) : Fetch := (List.range (mmaM e)).foldl (fetchRow c (tileOf c (mmaA e)) e) { cache := c.arr.cache }

/-- An MMA fires (R83–R86, R95, R107, R109): its rows are fetched, and the hint of its source clears the in-use flag; one with M = 0 reads nothing and its
hint clears the flag as it completes (DESIGN CHOICE, notes/assumptions/74.md). The checks run in the order reserved values, tile, rows, format, weights
(DESIGN CHOICE, notes/assumptions/10.md). -/
def fireMma (c : Core) (e : Ins) : Except Nat (Core × Fetch) :=
  let t := tileOf c (mmaA e)
  let qs := quarters e.mode
  if mmaM e == 0 then .ok (clearInUse c e.deads, { cache := c.arr.cache })
  else if t.rows == 0 then .error 1
  else if t.rows < mmaRS e + mmaM e || 128 < mmaARow e + mmaM e then .error 4
  else if mmaPart e != 0 && t.fmt != 0 && t.fmt != 2 then .error 3
  else if t.cols ≤ mmaKoff e then .error 1
  else
    let used := qs.map (usedShape c.arr (mmaSwap e))
    if used.any Option.isNone then .error 1
    else if used.any (fun s => match s with
        | some s => s.rows == 0 || s.mode != e.mode || s.rows != min 32 (t.cols - mmaKoff e)
        | none => true) then .error 1
    else if e.mode != 0 && mmaAcc e != e.mode - 1 then .error 1
    else
      let r := fetchRows c e
      let arr := { c.arr with cache := r.cache, last := qs.foldl (fun l q => tset l q (e.mode + 1)) c.arr.last }
      let arr := if mmaSwap e then
          { arr with prog := qs.foldl (fun p q => tset p q ((nextsOf c.arr q).headD {})) arr.prog
                     nexts := qs.foldl (fun p q => tset p q ((nextsOf c.arr q).drop 1)) arr.nexts }
        else arr
      .ok (clearInUse { c with arr := arr, fl := c.fl ++ [{ e with vals := r.rows, read := true, missed := mmaM e - r.hits }] } e.deads, r)

/-- The oldest fired pass of a mode, when no older fired pass shares its quarters. -/
def frontPass (c : Core) (mode : Nat) : Option Ins :=
  match c.fl.find? (fun e => e.op == opMMA && modesMeet e.mode mode) with
  | some e => if e.mode == mode then some e else none
  | none => none

/-- BANK_SWAP (R94, R95): the token of the oldest pass of `mode` makes the READY back banks front; the old fronts are FREE. -/
def bankSwap (u mode waited : Nat) (d : Device) : Device :=
  let c := core d u
  match frontPass c mode with
  | none => d
  | some e =>
    if !coreOn d u || !mmaSwap e || e.stage != 0 || (quarters mode).any (fun q => backState c.arr q != 2) then d
    else
      let a := c.arr
      let a := (quarters mode).foldl (fun a q =>
        { a with front := tset a.front q (1 - frontOf a q), back := tset a.back q 0 }) a
      bump (setCore d u { refly c { e with stage := 1 } with arr := a }) (corePage u + 0x618) waited

def execBankSwap (u mode waited : Nat) (s : State) : Host.Outcome State Fault Refusal :=
  run (.bankSwap u mode waited) (bankSwap u mode waited) s

/-- Address of an accumulator element (R157). -/
def accAddr (acc r n : Nat) : Nat := acc * 65536 + r * 512 + n * 4
def accEl (m : Mem) (acc r n : Nat) : El := ⟨some (ofF32 (m.num (accAddr acc r n) 4)), m.anyBad (accAddr acc r n) 4⟩
def accPut (m : Mem) (acc r n : Nat) (x : El) : Mem := m.writeP (accAddr acc r n) (allBad x.bad (toLE 4 (toF32 x.num)))

/-- The front weight of accumulator column `col` in K row `k`. -/
def frontWeight (a : Arr) (col k : Nat) : El :=
  ((bankOf a (col / 32) (frontOf a (col / 32))).w.getD k []).getD (col % 32) {}

/-- The pairs that one lane multiplies: empty low parts, and in a pass that uses a low part non-finite factors, form no product (R57, R103). A lane
without a pair sums to +0, which is added to the accumulator (DESIGN CHOICE, notes/assumptions/75.md). -/
def lanePairs (low : Bool) (xs ws : List El) : List (Num × Num) :=
  (xs.zip ws).filterMap (fun p =>
    match p.1.v, p.2.v with
    | some x, some w => if low && !(x.isFinite && w.isFinite) then none else some (x, w)
    | _, _ => none)

/-- One accumulator element of a pass (R81, R59–R61, R87). -/
def passEl (low init : Bool) (old : El) (xs ws : List El) : El :=
  let s := laneSum (lanePairs low xs ws)
  mkEl (if init then s else fAdd old.num s) (xs.any El.bad || ws.any El.bad || (!init && old.bad))

/-- The physical lane of column `n` of a quarter (R111, R112): lanes from the one out of service on are shifted by one. -/
def laneOf (steer q n : Nat) : Nat := if n < fld steer (8 * q + 5) (8 * q) then n else n + 1

/-- Locations of R157 of the weights with failing parity that one row of a pass reads (R114). -/
def bankFailing (a : Arr) (mode : Nat) : List Nat :=
  (quarters mode).flatMap (fun q => (bankOf a q (frontOf a q)).ups.map (fun k =>
    2 ^ 31 + q * 2 ^ 24 + laneOf a.inEffect.toNat q k.2 * 2 ^ 16 + frontOf a q * 2 ^ 12 + k.1))

/-- Locations of R157 of the accumulator elements with failing parity in columns `c0` to `c0 + n - 1` of a row (R114). -/
def accFailing (m : Mem) (acc r c0 n : Nat) : List Nat :=
  ((m.failing (accAddr acc r c0) (4 * n)).map (fun a => 2 ^ 30 + a / 4 * 4)).foldl nins []

/-- What the front banks of a pass's quarters hold: its columns begin at 64 in the right half (R81). -/
def passShape (c : Core) (e : Ins) : WShape := (bankOf c.arr (if e.mode == 2 then 2 else 0) (frontOf c.arr (if e.mode == 2 then 2 else 0))).shape
def passCol (e : Ins) : Nat := if e.mode == 2 then 64 else 0

/-- The weights of column `n` of a pass. -/
def passWeights (c : Core) (e : Ins) (n : Nat) : List El := (List.range (passShape c e).rows).map (frontWeight c.arr (passCol e + n))

/-- The rows and columns that a pass writes. -/
def passCells (c : Core) (e : Ins) : List (Nat × Nat) :=
  (List.range (mmaM e)).flatMap (fun r => (List.range (passShape c e).cols).map (fun n => (r, n)))

/-- The accumulators after a pass (R81, R87). -/
def passAcc (c : Core) (e : Ins) : Mem :=
  let low := mmaPart e == 2 || (passShape c e).part == 2
  (passCells c e).foldl (fun m rn =>
    let old := accEl m (mmaAcc e) (mmaARow e + rn.1) (passCol e + rn.2)
    accPut m (mmaAcc e) (mmaARow e + rn.1) (passCol e + rn.2) (passEl low (mmaInit e) old (e.vals.getD rn.1 []) (passWeights c e rn.2))) c.acc

/-- A pass waits (R88, R94): for its swap, or for an earlier drain of its accumulator. -/
def passWaits (c : Core) (e : Ins) : Bool :=
  (mmaSwap e && e.stage == 0) || c.fl.any (fun o => o.seq < e.seq && o.isDrain && o.stage == 0 && o.accOf == e.accOf)

/-- PASS_COMPLETE (R81, R87–R89, R99–R104): the oldest fired pass of `mode` has written its rows. -/
def passComplete (u mode : Nat) (d : Device) : Device :=
  let c := core d u
  match frontPass c mode with
  | none => d
  | some e =>
    if !coreOn d u || passWaits c e then d
    else
      let s := passShape c e
      let badIn := (List.range s.cols).any (fun n => (passWeights c e n).any El.bad)
        || (!mmaInit e && (passCells c e).any (fun rn => (accEl c.acc (mmaAcc e) (mmaARow e + rn.1) (passCol e + rn.2)).bad))
      let locs := (List.range (mmaM e)).flatMap (fun r =>
        bankFailing c.arr mode ++ (if mmaInit e then [] else accFailing c.acc (mmaAcc e) (mmaARow e + r) (passCol e) s.cols))
      let c := unfly { c with acc := passAcc c e, accUse := nins c.accUse (mmaAcc e) } e
      let d := setCore d u { c with arr := { c.arr with split := mode != 0 } }
      let d := bump64 (bump64 d (corePage u + 0x610) (mmaM e)) (corePage u + 0x608) (mmaM e * s.rows * s.cols)
      tilePoison (coreParity d u locs) u badIn

def execPassComplete (u mode : Nat) (s : State) : Host.Outcome State Fault Refusal := run (.passComplete u mode) (passComplete u mode) s

/-! ### Accumulator clear and steering -/

/-- ACC_CLEAR_DONE (R150): the clear of the reset ends; both accumulators hold +0. -/
def accClearDone (u : Nat) (d : Device) : Device :=
  let c := core d u
  if c.clearing then setCore d u { c with clearing := false, acc := {} } else d

def execAccClearDone (u : Nat) (s : State) : Host.Outcome State Fault Refusal := run (.accClearDone u) (accClearDone u) s

/-- A field of ARR_STEER above 32 leaves its quarter unchanged; reserved bits stay zero (R117, R12). -/
def steerMerge (old new : Nat) : Nat :=
  (List.range 4).foldl (fun w q =>
    let f := fld new (8 * q + 5) (8 * q)
    w + (if 32 < f then fld old (8 * q + 5) (8 * q) else f) * 2 ^ (8 * q)) 0

/-- ARR_STEER_WRITE (R112, R117). -/
def arrSteerWrite (u : Nat) (v : Reg) (d : Device) : Device :=
  let c := core d u
  setCore d u { c with arr := { c.arr with steer := BitVec.ofNat 32 (steerMerge c.arr.steer.toNat v.toNat), steerPending := true } }

def execArrSteerWrite (u : Nat) (v : Reg) (s : State) : Host.Outcome State Fault Refusal := run (.arrSteerWrite u v) (arrSteerWrite u v) s

/-- The banks as after reset (R98, R112): empty, bank 0 front, every back bank FREE. -/
def emptyBanks (a : Arr) : Arr := { a with banks := [], front := [], back := [], prog := [], nexts := [] }

/-- STEER_APPLY (R112): once every WLD and MMA that fired has completed, the written steering takes effect and every bank is empty. -/
def steerApply (u : Nat) (d : Device) : Device :=
  let c := core d u
  if !c.arr.steerPending || c.fl.any (fun e => e.op == opWLD || e.op == opMMA) then d
  else setCore d u { c with arr := { emptyBanks c.arr with steerPending := false, inEffect := c.arr.steer } }

def execSteerApply (u : Nat) (s : State) : Host.Outcome State Fault Refusal := run (.steerApply u) (steerApply u) s

end Sys2Proof.Machine
end

