-- ==== Sys2Proof/Machine/Vector.lean ====
section
/-!
DEFINITION. The vector unit (R196–R202), the function tables (R204–R207), the learned-scale backward pass (R78) and the reading side of a
drain (R151, R154).
-/
namespace Sys2Proof.Machine

/-! ### Entering the window -/

/-- A field is not zero. -/
def nz (w hi lo : Nat) : Bool := fld w hi lo != 0

/-- VBIN (R196, R198). -/
def vbinInstr (u : Nat) (d : Device) : Device :=
  enter u 0x18 (fun w => 5 < fld w 26 23 || fld w 22 21 == 3 || nz w 36 30 || bit w 27 || nz w 20 16 || nz w 15 4) noReg noReg noMem d
def execVbin (u : Nat) (s : State) : Host.Outcome State Fault Refusal := run (.vbin u) (vbinInstr u) s

/-- VFMA (R196, R198). -/
def vfmaInstr (u : Nat) (d : Device) : Device :=
  enter u 0x19 (fun w => nz w 26 23 || fld w 22 21 == 3 || nz w 20 16 || nz w 15 4) noReg noReg noMem d
def execVfma (u : Nat) (s : State) : Host.Outcome State Fault Refusal := run (.vfma u) (vfmaInstr u) s

/-- VUN (R196, R198): FILL uses XS and no source tile, the others a source tile and no register. -/
def vunInstr (u : Nat) (d : Device) : Device :=
  enter u 0x1A (fun w => 6 < fld w 26 23 || nz w 43 30 || bit w 28 || bit w 27 || nz w 22 21 || nz w 15 4
      || (if fld w 26 23 == 6 then nz w 50 44 || bit w 29 else nz w 20 16))
    (fun w => if fld w 26 23 == 6 then some (fld w 20 16) else none) noReg noMem d
def execVun (u : Nat) (s : State) : Host.Outcome State Fault Refusal := run (.vun u) (vunInstr u) s

/-- VSCAL (R196, R198). -/
def vscalInstr (u : Nat) (d : Device) : Device :=
  enter u 0x1B (fun w => 3 < fld w 26 23 || nz w 43 30 || bit w 28 || bit w 27 || nz w 22 21 || nz w 15 4)
    (fun w => some (fld w 20 16)) noReg noMem d
def execVscal (u : Nat) (s : State) : Host.Outcome State Fault Refusal := run (.vscal u) (vscalInstr u) s

/-- VFN (R196, R198, R206). -/
def vfnInstr (u : Nat) (d : Device) : Device :=
  enter u 0x1C (fun w => bit w 26 || nz w 43 30 || bit w 28 || bit w 27 || nz w 22 4) noReg noReg noMem d
def execVfn (u : Nat) (s : State) : Host.Outcome State Fault Refusal := run (.vfn u) (vfnInstr u) s

/-- VDFN (R196, R198, R237). -/
def vdfnInstr (u : Nat) (d : Device) : Device :=
  enter u 0x1D (fun w => bit w 26 || nz w 36 30 || bit w 27 || nz w 22 4) noReg noReg noMem d
def execVdfn (u : Nat) (s : State) : Host.Outcome State Fault Refusal := run (.vdfn u) (vdfnInstr u) s

/-- VRED (R196, R198, R200). -/
def vredInstr (u : Nat) (d : Device) : Device :=
  enter u 0x1E (fun w => nz w 43 30 || bit w 28 || bit w 27 || nz w 22 4) noReg noReg noMem d
def execVred (u : Nat) (s : State) : Host.Outcome State Fault Refusal := run (.vred u) (vredInstr u) s

/-- The shape of a tile for an instruction that issues now: that of a TCFG that has not completed yet (R132). -/
def shapeAtIssue (c : Core) (t : Nat) : Tile := tget {} ((c.tcfg.map Tcfg.tiles).getD c.tiles) t

/-- Bytes of the vector of scales of a VSTE (R201): one B16 scale for each row, or column, of its tiles. -/
def steBytes (c : Core) (w : Nat) : Nat :=
  let t := shapeAtIssue c (fld w 57 51)
  if fld w 24 23 == 1 then 2 * t.rows else if fld w 24 23 == 2 then 2 * t.cols else 0

/-- VSTE (R196, R198, R201): for a row or column granularity the vector of scales is captured at issue with the register (R172). -/
def vsteInstr (u : Nat) (d : Device) : Device :=
  enter u 0x1F (fun w => fld w 24 23 == 3 || bit w 27 || nz w 22 21 || nz w 15 4)
    (fun w => some (fld w 20 16)) noReg
    (fun c w => if fld w 24 23 == 0 then (0, 0) else (xr c (fld w 20 16), min (steBytes c w) (32768 - xr c (fld w 20 16)))) d
def execVste (u : Nat) (s : State) : Host.Outcome State Fault Refusal := run (.vste u) (vsteInstr u) s

/-! ### Function tables (R204, R206, R207) -/

/-- An F32 field of a slot image. -/
def imgF (img : List Byte) (off : Nat) : Num := ofF32 (leAt img off 4)

/-- The quadratic of segment `i` at `t` (R206). -/
def segEval (img : List Byte) (tab i : Nat) (t : Num) : Num :=
  let o := tab + 12 * i
  fAdd (fMul (fAdd (fMul (imgF img (o + 8)) t) (imgF img (o + 4))) t) (imgF img o)

/-- The linear end of a table (R206), with the rule of R207 for an infinite input. -/
def linEnd (img : List Byte) (o : Nat) (x : Num) : Num :=
  let a := imgF img o
  if x.isInf && a.isZero then imgF img (o + 4) else fAdd (fMul a x) (imgF img (o + 4))

/-- ⌊u⌋ of a value that is not negative. -/
def floorNum : Num → Nat
  | .fin _ m e => if 0 ≤ e then m <<< e.toNat else m >>> (-e).toNat
  | _ => 0

/-- A slot's function, or its derivative, at `x` (R206, R207). -/
def fnEval (img : List Byte) (deriv : Bool) (x : Num) : Num :=
  if x.isNan then .nan
  else
    let tab := if deriv then 0xC40 else 0x40
    let u := fMul (fSub x (imgF img 0)) (imgF img 4)
    if u.isNan then .nan
    else if u.negative && !u.isZero then
      (if leAt img 8 1 == 0 then segEval img tab 0 u else linEnd img (if deriv then 0x1C else 0xC) x)
    else if Num.lt u (.fin false 256 0) then
      let i := floorNum u
      segEval img tab i (fSub u (.fin false i 0))
    else if leAt img 9 1 == 0 then segEval img tab 255 (fSub u (.fin false 255 0))
    else linEnd img (if deriv then 0x24 else 0x14) x

/-- The image of a slot. -/
def slotImage (c : Core) (i : Nat) : List Byte := (tget (⟨none, []⟩ : Slot) c.slots i).image
def slotLoaded (c : Core) (i : Nat) : Bool := c.slots.any (fun e => e.1 == i)

/-! ### Firing (R198) -/

def sameShape (a b : Tile) : Bool := a.rows == b.rows && a.cols == b.cols

/-- The shape condition of a vector instruction (R198, R201). -/
def vecCheck (c : Core) (e : Ins) : Option Nat :=
  let D := tileOf c (e.f 57 51)
  let A := tileOf c (e.f 50 44)
  let B := tileOf c (e.f 43 37)
  let C := tileOf c (e.f 36 30)
  let bOk := match e.f 22 21 with
    | 0 => sameShape B D
    | 1 => B.rows == 1 && B.cols == D.cols
    | _ => B.rows == D.rows && B.cols == 1
  let shape (ok : Bool) : Option Nat := if ok then none else some 1
  let slot (ok : Bool) : Option Nat := if !ok then some 1 else if slotLoaded c (e.f 25 23) then none else some 8
  if (e.names).any (fun t => (tileOf c t).rows == 0) then some 1
  else
    match e.op with
    | 0x18 => shape (sameShape A D && bOk)
    | 0x19 => shape (sameShape A D && bOk && sameShape C D)
    | 0x1A => shape (e.f 26 23 == 6 || sameShape A D)
    | 0x1B => shape (sameShape A D)
    | 0x1C => slot (sameShape A D)
    | 0x1D => slot (sameShape A D && sameShape B D)
    | 0x1E => shape (if bit e.w 25 then D.rows == 1 && D.cols == A.cols else D.rows == A.rows && D.cols == 1)
    | _ =>
      let g := e.f 24 23
      let cr := if g == 1 then D.rows else 1
      let cc := if g == 2 then D.cols else 1
      if !(sameShape A D && sameShape B D && C.rows == cr && C.cols == cc && C.fmt == 0) then some 1
      else if g != 0 && (e.a % 2 != 0 || 32768 < e.a + 2 * (cr * cc)) then some 4
      else none

/-- A vector instruction fires. -/
def fireVec (c : Core) (e : Ins) : Except Nat Core :=
  match vecCheck c e with
  | some f => .error f
  | none => .ok { c with fl := c.fl ++ [e] }

/-! ### Results -/

/-- Element (r, c) of a tile as F32 (R197). -/
def vGet (c : Core) (t : Tile) (r k : Nat) : El := (elAt c.tile t.fmt t.cols (tileRow t r) k).f32

/-- A result row written to a tile (R197); the counts of the output conversion. -/
def vPut (a : Narrow) (t : Tile) (r : Nat) (xs : List El) : Narrow :=
  let n := putEls a.mem t.fmt t.cols (tileRow t r) 0 xs
  ⟨n.mem, a.sats + n.sats, a.nans + n.nans⟩

/-- Binary operations of VBIN (R198, R199). -/
def binOp (func : Nat) (a b : Num) : Num :=
  match func with
  | 0 => fAdd a b
  | 1 => fSub a b
  | 2 => fMul a b
  | 3 => fDiv a b
  | 4 => Num.maxN a b
  | _ => Num.minN a b

/-- Unary operations of VUN (R198, R199). -/
def unOp (func : Nat) (a : Num) : Num :=
  match func with
  | 0 => a
  | 1 => a.abs
  | 2 => a.neg
  | 3 => fSqrt a
  | 4 => fRsqrt a
  | _ => fRecip a

/-- Operations of VSCAL (R198). -/
def scalOp (func : Nat) (a b : Num) : Num :=
  match func with
  | 0 => fMul a b
  | 1 => fAdd a b
  | 2 => Num.maxN a b
  | _ => Num.minN a b

/-- The combining operation of a reduction and the value an absent column contributes (R200). -/
def redOp (func : Nat) (a b : Num) : Num := if func == 0 || func == 2 then fAdd a b else Num.maxN a b
def redIdentity (func : Nat) : Num := if func == 1 then .inf true else Num.zero
/-- What an element contributes to a reduction: itself, its square or its magnitude (R198). -/
def redIn (func : Nat) (a : Num) : Num := if func == 2 then fMul a a else if func == 3 then a.abs else a

/-- One level of the balanced tree: pairs (2i, 2i + 1) (R200). -/
def pairUp (f : Num → Num → Num) : List Num → List Num
  | a :: b :: t => f a b :: pairUp f t
  | l => l

/-- The balanced binary tree over 128 lane positions (R200). -/
def tree128 (func : Nat) (xs : List Num) : Num :=
  let full := xs ++ List.replicate (128 - xs.length) (redIdentity func)
  ((List.range 7).foldl (fun l _ => pairUp (redOp func) l) full).headD Num.zero

/-- A row reduction (R200): more than 128 columns reduce in two halves, first half first. -/
def redRow (func : Nat) (xs : List Num) : Num :=
  let ys := xs.map (redIn func)
  if ys.length ≤ 128 then tree128 func ys
  else redOp func (tree128 func (ys.take 128)) (tree128 func (ys.drop 128))

/-- A column reduction, in ascending row order (R200). -/
def redCol (func : Nat) (xs : List Num) : Num :=
  match xs.map (redIn func) with
  | [] => redIdentity func
  | y :: ys => ys.foldl (redOp func) y

/-- The result elements of a vector instruction that has one per element of D, by row and column. -/
def vecEl (c : Core) (e : Ins) (r k : Nat) : El :=
  let A := tileOf c (e.f 50 44)
  let B := tileOf c (e.f 43 37)
  let a := vGet c A r k
  let b := match e.f 22 21 with
    | 1 => vGet c B 0 k
    | 2 => vGet c B r 0
    | _ => vGet c B r k
  match e.op with
  | 0x18 => mkEl (binOp (e.f 26 23) a.num b.num) (a.bad || b.bad)
  | 0x19 =>
    let x := vGet c (tileOf c (e.f 36 30)) r k
    mkEl (rF32 ((a.num.mul b.num).add x.num)) (a.bad || b.bad || x.bad)
  | 0x1A => if e.f 26 23 == 6 then mkEl (ofF32 e.a) false else mkEl (unOp (e.f 26 23) a.num) a.bad
  | 0x1B => mkEl (scalOp (e.f 26 23) a.num (ofF32 e.a)) a.bad
  | 0x1C => mkEl (fnEval (slotImage c (e.f 25 23)) false a.num) a.bad
  | _ => mkEl (fMul b.num (fnEval (slotImage c (e.f 25 23)) true a.num)) (a.bad || b.bad)

/-- The result rows of VRED (R200). -/
def redRows (c : Core) (e : Ins) : List (List El) :=
  let D := tileOf c (e.f 57 51)
  let A := tileOf c (e.f 50 44)
  let func := e.f 24 23
  let acc (r k : Nat) (x : El) : El :=
    if bit e.w 26 then
      let o := vGet c D r k
      mkEl (redOp func o.num x.num) (o.bad || x.bad)
    else x
  if bit e.w 25 then
    [(List.range A.cols).map (fun k =>
      let xs := (List.range A.rows).map (fun r => vGet c A r k)
      acc 0 k (mkEl (redCol func (xs.map El.num)) (xs.any El.bad)))]
  else
    (List.range A.rows).map (fun r =>
      let xs := (List.range A.cols).map (fun k => vGet c A r k)
      [acc r 0 (mkEl (redRow func (xs.map El.num)) (xs.any El.bad))])

/-- The learned scale that element (r, k) of a VSTE uses, by its place in the vector of scales (R201). -/
def stePlace (e : Ins) (r k : Nat) : Nat := if e.f 24 23 == 1 then r else if e.f 24 23 == 2 then k else 0
def steScale (e : Ins) (i : Nat) : Nat := if e.f 24 23 == 0 then e.a % 65536 else leAt e.desc (2 * i) 2

/-- One element of VSTE (R78): the gradient with respect to x, the contribution to the scale's gradient, and whether the conversion saturated. With an
unusable scale both are NaN: R77 says so of the entry's gradient, and of the gradient with respect to x nothing (DESIGN CHOICE, notes/assumptions/77.md). -/
def steEl (fmt : Nat) (scale : Nat) (x g : Num) : Num × Num × Bool :=
  match lsExp scale with
  | none => (.nan, .nan, false)
  | some t =>
    let v := rF32 (scaleBy x (-t))
    let q := elemEnc fmt v
    let top : Num := if fmt == 4 then .fin false 448 0 else .fin false 57344 0
    if Num.le v.abs top then (g, fMul g (fSub (elemVal fmt q.1) v), q.2)
    else if v.isNan then (Num.zero, .nan, q.2)
    else (Num.zero, (let y := fMul g top; if v.negative then y.neg else y), q.2)

/-- VSTE (R78, R201): the rows of D, the sums of C in row-major element order, the saturations, and the unusable scales, each counted once, which
DRAIN_NAN counts (R77; DESIGN CHOICE, notes/assumptions/77.md). -/
def steAll (c : Core) (e : Ins) : List (List El) × List El × Nat × Nat :=
  let D := tileOf c (e.f 57 51)
  let A := tileOf c (e.f 50 44)
  let B := tileOf c (e.f 43 37)
  let C := tileOf c (e.f 36 30)
  let fmt := if bit e.w 25 then 5 else 4
  let n := C.rows * C.cols
  let cells := (List.range D.rows).flatMap (fun r => (List.range D.cols).map (fun k => (r, k)))
  let one (r k : Nat) : El × El × Bool :=
    let x := vGet c A r k
    let g := vGet c B r k
    let s := steEl fmt (steScale e (stePlace e r k)) x.num g.num
    (mkEl s.1 (x.bad || g.bad), mkEl s.2.1 (x.bad || g.bad), s.2.2)
  let rows := (List.range D.rows).map (fun r => (List.range D.cols).map (fun k => (one r k).1))
  let start : List (Option El) := (List.range n).map (fun i =>
    if bit e.w 26 then some (vGet c C (i / C.cols) (i % C.cols)) else none)
  let sums := cells.foldl (fun (s : List (Option El)) rk =>
    let i := stePlace e rk.1 rk.2
    let y := (one rk.1 rk.2).2.1
    lset s i (some (match s.getD i none with
      | none => y
      | some o => mkEl (fAdd o.num y.num) (o.bad || y.bad)))) start
  let sats := (cells.filter (fun rk => (one rk.1 rk.2).2.2)).length
  let badScales := ((List.range n).filter (fun i => (lsExp (steScale e i)).isNone)).length
  (rows, sums.map (fun o => o.getD {}), sats, badScales)

/-- The failing bytes of the tiles that a vector instruction reads. -/
def vecFailing (c : Core) (e : Ins) : List Nat :=
  let of_ (t : Nat) : List Nat := c.tile.failing (tileOf c t).base (tileBytes (tileOf c t))
  e.reads.flatMap of_ ++ (if (e.op == 0x1E || e.op == 0x1F) && bit e.w 26 then e.writes.flatMap of_ else [])

/-- The rows of elements that a vector instruction reads held poison. -/
def vecReadsBad (c : Core) (e : Ins) : Bool :=
  e.reads.any (fun t => let x := tileOf c t; c.tile.anyBad x.base (tileBytes x))
  || ((e.op == 0x1E || e.op == 0x1F) && bit e.w 26 && e.writes.any (fun t => let x := tileOf c t; c.tile.anyBad x.base (tileBytes x)))

/-- A vector instruction's rows written to its tiles (R197). -/
def vecResult (c : Core) (e : Ins) : Narrow :=
  let D := tileOf c (e.f 57 51)
  let put (a : Narrow) (t : Tile) (rows : List (List El)) : Narrow :=
    rows.zipIdx.foldl (fun a x => vPut a t x.2 x.1) a
  match e.op with
  | 0x1E => put ⟨c.tile, 0, 0⟩ D (redRows c e)
  | 0x1F =>
    let s := steAll c e
    let C := tileOf c (e.f 36 30)
    let a := put ⟨c.tile, 0, 0⟩ D s.1
    let a := put a C ((List.range C.rows).map (fun r => (s.2.1.drop (r * C.cols)).take C.cols))
    ⟨a.mem, a.sats + s.2.2.1, a.nans + s.2.2.2⟩
  | _ => put ⟨c.tile, 0, 0⟩ D ((List.range D.rows).map (fun r => (List.range D.cols).map (fun k => vecEl c e r k)))

/-- VECTOR_COMPLETE (R197–R202): the fired vector instruction has written its last row. -/
def vectorComplete (u : Nat) (d : Device) : Device :=
  let c := core d u
  match c.fl.find? Ins.isVec with
  | none => d
  | some e =>
    if !coreOn d u then d
    else
      let bad := vecReadsBad c e
      let locs := vecFailing c e
      let n := vecResult c e
      let c := clearInUse (unfly { c with tile := n.mem } e) e.deads
      let c := e.writes.foldl (fun c t => uncache { c with inUse := nins c.inUse t } t) c
      let d := bump (bump (setCore d u c) (corePage u + 0x69C) n.sats) (corePage u + 0x6A0) n.nans
      tilePoison (coreParity d u locs) u bad

def execVectorComplete (u : Nat) (s : State) : Host.Outcome State Fault Refusal := run (.vectorComplete u) (vectorComplete u) s

/-! ### Drains -/

def drRow (e : Ins) : Nat := e.f 56 50
def drNRow (e : Ins) : Nat := e.f 49 42
def drCol (e : Ins) : Nat := e.f 41 35
def drNCol (e : Ins) : Nat := e.f 34 27
def drFn (e : Ins) : Nat := e.f 26 23
def drRelease (e : Ins) : Bool := bit e.w 22
def drTRow (e : Ins) : Nat := e.a % 256
def drTCol (e : Ins) : Nat := e.a / 256 % 256
def drZero (e : Ins) : Bool := drNRow e == 0 || drNCol e == 0

/-- The checks of a drain at firing that concern the accumulator, the slot and a destination tile (R153, R203, R138). -/
def drainCheck (c : Core) (e : Ins) : Option Nat :=
  let t := tileOf c (e.f 20 14)
  if 128 < drRow e + drNRow e || 128 < drCol e + drNCol e then some 4
  else if drFn e < 8 && !slotLoaded c (drFn e) then some 8
  else if bit e.w 21 then none
  else if t.rows == 0 && !drZero e then some 1
  else if t.rows < drTRow e + drNRow e || t.cols < drTCol e + drNCol e then some 4
  else if isMx t.fmt && (drTCol e % 32 != 0 || drNCol e % 32 != 0) then some 1
  else none

/-- The rows a drain reads, with the slot's function applied (R154). -/
def drainRows (c : Core) (e : Ins) : List (List El) :=
  (List.range (drNRow e)).map (fun r => (List.range (drNCol e)).map (fun k =>
    let x := accEl c.acc (e.f 57 57) (drRow e + r) (drCol e + k)
    if drFn e < 8 then mkEl (fnEval (slotImage c (drFn e)) false x.num) x.bad else x))

/-- A drain waits for an earlier pass of its accumulator (R88). -/
def drainWaits (c : Core) (e : Ins) : Bool := c.fl.any (fun o => o.seq < e.seq && o.op == opMMA && o.accOf == e.accOf)

/-- The rows that a drain passes on: a zero count reads nothing (R15, R153). -/
def drainVals (c : Core) (e : Ins) : List (List El) := if drZero e then [] else drainRows c e

/-- The tile file after a drain into a tile, with what its conversion counts (R154). -/
def drainTile (c : Core) (e : Ins) : Narrow :=
  let t := tileOf c (e.f 20 14)
  (drainVals c e).zipIdx.foldl (fun (a : Narrow) x =>
    let n := putEls a.mem t.fmt t.cols (tileRow t (drTRow e + x.2)) (drTCol e) x.1
    ⟨n.mem, a.sats + n.sats, a.nans + n.nans⟩) ⟨c.tile, 0, 0⟩

/-- DRAIN_COMPLETE (R151, R154, R155): the oldest fired drain has read its rows; into a tile they are converted and written, towards a
descriptor they pass to the store path, whose end is XFER_COMPLETE. -/
def drainComplete (u : Nat) (d : Device) : Device :=
  let c := core d u
  match c.fl.find? (fun e => e.isDrain && e.stage == 0) with
  | none => d
  | some e =>
    if !coreOn d u || drainWaits c e then d
    else
      let rows := drainVals c e
      let bad := rows.any (fun r => r.any El.bad)
      let locs := if drZero e then [] else (List.range (drNRow e)).flatMap (fun r => accFailing c.acc (e.f 57 57) (drRow e + r) (drCol e) (drNCol e))
      let d := coreParity d u locs
      -- a drain of nothing releases when it completes, which towards a descriptor is XFER_COMPLETE (R151)
      let c := if drRelease e && !(bit e.w 21 && drZero e) then { c with accUse := ndel c.accUse (e.f 57 57) } else c
      if bit e.w 21 then tilePoison (setCore d u (refly c { e with stage := 1, vals := rows })) u bad
      else
        let n := drainTile c e
        let c := unfly { c with tile := n.mem } e
        let c := if drZero e then c else uncache { c with inUse := nins c.inUse (e.f 20 14) } (e.f 20 14)
        let d := bump (bump (setCore d u c) (corePage u + 0x69C) n.sats) (corePage u + 0x6A0) n.nans
        tilePoison d u bad

def execDrainComplete (u : Nat) (s : State) : Host.Outcome State Fault Refusal := run (.drainComplete u) (drainComplete u) s

end Sys2Proof.Machine
end

