-- ==== Sys2Proof/Machine/Stream.lean ====
section
/-!
DEFINITION. The stream engine: transfers by descriptor (R209–R217, R228–R236, R143–R149), FTLD and FTINV (R203–R205), SARR and SSET
(R218, R219). A transfer is checked and translated when it fires; its bytes move at XFER_COMPLETE (DESIGN CHOICE, notes/assumptions/9.md).
-/
namespace Sys2Proof.Machine

/-! ### Entering the window -/

/-- FTLD (R203): captures XA. -/
def ftldInstr (u : Nat) (d : Device) : Device :=
  enter u opFTLD (fun w => nz w 54 49 || nz w 43 4) (fun w => some (fld w 48 44)) noReg noMem d
def execFtld (u : Nat) (s : State) : Host.Outcome State Fault Refusal := run (.ftld u) (ftldInstr u) s

/-- FTINV (R203). -/
def ftinvInstr (u : Nat) (d : Device) : Device := enter u opFTINV (fun w => nz w 54 4) noReg noReg noMem d
def execFtinv (u : Nat) (s : State) : Host.Outcome State Fault Refusal := run (.ftinv u) (ftinvInstr u) s

/-- SXFER (R209): captures the descriptor and XA. -/
def sxferInstr (u : Nat) (d : Device) : Device :=
  enter u opSXFER (fun w => nz w 43 39 || nz w 37 4) (fun w => some (fld w 48 44)) noReg (fun _ w => (fld w 57 49 * 64, 64)) d
def execSxfer (u : Nat) (s : State) : Host.Outcome State Fault Refusal := run (.sxfer u) (sxferInstr u) s

/-- SARR (R218): captures XA and XN. -/
def sarrInstr (u : Nat) (d : Device) : Device :=
  enter u opSARR (fun w => bit w 57 || bit w 37 || nz w 15 4) (fun w => some (fld w 36 32)) (fun w => some (fld w 43 39)) noMem d
def execSarr (u : Nat) (s : State) : Host.Outcome State Fault Refusal := run (.sarr u) (sarrInstr u) s

/-- SSET (R218): captures XA and XN. -/
def ssetInstr (u : Nat) (d : Device) : Device :=
  enter u opSSET (fun w => bit w 57 || bit w 37 || nz w 31 4) (fun w => some (fld w 36 32)) (fun w => some (fld w 43 39)) noMem d
def execSset (u : Nat) (s : State) : Host.Outcome State Fault Refusal := run (.sset u) (ssetInstr u) s

/-! ### The checks of a descriptor (R210–R214, R230, R242, R145, R75) -/

/-- Fault codes that the checks name (R571). -/
def fShape : Nat := 1
def fFmt : Nat := 3
def fBounds : Nat := 4

/-- A failing check: the first of a list of conditions with their codes. -/
def firstFail : List (Bool × Nat) → Option Nat
  | [] => none
  | (b, f) :: t => if b then some f else firstFail t

/-- The kinds of a transfer are a legal combination (R211). -/
def kindsOk (s t : Nat) : Bool :=
  (t == 0 && (s == 1 || s == 2 || s == 3)) || (s == 0 && (t == 1 || t == 2 || t == 3 || t == 4))
  || ((s == 1 || s == 2) && (t == 1 || t == 2 || t == 4))

/-- A region of kind 1, 2 or 4 breaks its end (R214, R281). -/
def regionBad (d : Device) (u kind a n : Nat) : Bool :=
  if kind == 2 then windowLen d (u / 48) ((core d u).job.getD 16) < a + n else 2 ^ 48 < a + n

/-- Entries of the scale tensor of a transfer (R75, R213). -/
def lsCount (x : Desc) : Nat := if x.lsGran == 1 then x.mRows else if x.lsGran == 2 then x.mCols else 1

/-- The port check and the signal word check (R214). -/
def portSigCheck (d : Device) (u : Nat) (x : Desc) : Option Nat :=
  if (x.dst == 4 || (x.sigEn && x.sigRemote)) && !(x.port < 6 && portUp d x.port && !portFenced d x.port) then some fBounds
  else if x.sigEn && !x.sigRemote then wordFault d x.sigWord ((core d u).job.getD 16)
  else none

/-- The tile's part of the check (R145, R138). -/
def tileCheck (c : Core) (x : Desc) : Option Nat :=
  let t := tileOf c x.tile
  firstFail [
    (t.rows == 0 && !x.zero, fShape),
    (t.rows < x.trow + x.nrows || t.cols < x.tcol + x.ncols, fBounds),
    (isMx t.fmt && (x.tcol % 32 != 0 || x.ncols % 32 != 0), fShape)]

/-- The memory side's part of the check for a tile transfer (R214, R230, R242, R74, R75). -/
def memCheck (d : Device) (u : Nat) (x : Desc) : Option Nat :=
  let k := x.mKind
  let need := if x.blocked then ceilDiv x.mCols 32 * blockSize x.mfmt else rowSize x.mfmt x.mCols
  firstFail [
    (!fmtLegal x.mfmt, fFmt),
    (x.lscale && x.mfmt != 4 && x.mfmt != 5, fFmt),
    (isMx x.mfmt && x.mCols % 32 != 0, fBounds),
    (k == 3 && (!x.blocked || x.rowStride != 0), fBounds),
    (k != 3 && x.blocked && (x.addr % 64 != 0 && !x.zero || x.rowStride % 64 != 0), fBounds),
    (k != 3 && x.rowStride < need, fBounds),
    (x.rotLg != 0 && x.mCols % 2 ^ x.rotLg != 0, fBounds),
    (!x.zero && k != 3 && regionBad d u k x.addr (regionLen x.mfmt x.blocked x.rowStride x.mRows x.mCols), fBounds),
    (!x.zero && x.smooth && 2 ^ 48 < x.smoothAddr + 4 * x.mCols, fBounds),
    (!x.zero && x.lscale && 2 ^ 48 < x.lsAddr + 2 * lsCount x, fBounds)]

/-- The whole check of a descriptor when its transfer fires, for a drain (whose accumulator rectangle is `nrow` × `ncol`) or an SXFER. -/
def descCheck (d : Device) (u : Nat) (drain : Option (Nat × Nat)) (x : Desc) : Option Nat :=
  let kinds := match drain with
    | some (nr, nc) => x.src == 0 && x.dst != 0 && x.tile == 0 && x.nrows == nr && x.ncols == nc
    | none => true
  if x.resv || !kindsOk x.src x.dst || !kinds then some fBounds
  else if x.memToMem then
    (firstFail [
      (x.transpose || x.rot != 0 || x.smooth || x.lscale || x.lsGran != 0 || x.blocked || x.mfmt != 0 || x.tile != 0
        || x.trow != 0 || x.nrows != 0 || x.tcol != 0 || x.ncols != 0, fBounds),
      (x.len != 0 && (regionBad d u x.src x.addr x.len || regionBad d u x.dst x.addr2 x.len), fBounds)]).or (portSigCheck d u x)
  else if x.len != 0 || x.addr2 != 0 then some fBounds
  else ((if drain.isSome then none else tileCheck (core d u) x).or (memCheck d u x)).or (portSigCheck d u x)

/-! ### The memory side -/

/-- A resolved memory side: its kind, address and stride; for the landing, where the record was placed (R242). -/
structure Side where
  kind : Nat
  at_ : Nat
  stride : Nat
  deriving DecidableEq, Repr, Inhabited

def sideOf (x : Desc) (e : Ins) : Side := if x.mKind == 3 then ⟨1, e.landAddr, e.landStride⟩ else ⟨x.mKind, x.addr, x.rowStride⟩

/-- The segments of a tile transfer, row by row. -/
def transferSegs (x : Desc) (s : Side) : List (List Seg) :=
  (List.range x.mRows).map (rowSegs x.mfmt x.blocked s.at_ s.stride x.mCols)

/-- The ranges of the memory side that a load fetches (R232): the segments of its rows, and of a blocked tensor the whole blocks. -/
def fetchRanges (x : Desc) (s : Side) : List (Nat × Nat) :=
  if x.blocked then
    (List.range (ceilDiv x.mRows 32)).flatMap (fun i =>
      (List.range (ceilDiv x.mCols 32)).map (fun k => (s.at_ + i * s.stride + k * blockSize x.mfmt, blockSize x.mfmt)))
  else (transferSegs x s).flatten.map (fun g => (g.at_, rowSize x.mfmt g.n))

/-- The ranges of job memory that a transfer reads and those it writes (R215), as address and length; smoothing and scale vectors are reads. -/
def transferRanges (x : Desc) (s : Side) : List (Nat × Nat) × List (Nat × Nat) :=
  if x.zero then ([], [])
  else if x.memToMem then (if x.src == 1 then [(x.addr, x.len)] else [], if x.dst == 1 then [(x.addr2, x.len)] else [])
  else
    let vec := (if x.smooth then [(x.smoothAddr, 4 * x.mCols)] else []) ++ (if x.lscale then [(x.lsAddr, 2 * lsCount x)] else [])
    if s.kind != 1 then (vec, [])
    else if x.store then (vec, (transferSegs x s).flatten.map (fun g => (g.at_, rowSize x.mfmt g.n)))
    else (fetchRanges x s ++ vec, [])

/-- The 64 KiB pages of ranges, each once. -/
def rangePages (rs : List (Nat × Nat)) : List Nat := jobsOf (rs.flatMap (fun r => pagesOf r.1 r.2))

/-- The 64 KiB pages that a transfer reads and those it writes in stack memory (R215). -/
def transferPages (x : Desc) (s : Side) : List Nat × List Nat := (rangePages (transferRanges x s).1, rangePages (transferRanges x s).2)

/-- The lowest address in a page that ranges touch (R292). -/
def firstTouch (rs : List (Nat × Nat)) (page : Nat) : Nat :=
  ((rs.filter (fun r => (pagesOf r.1 r.2).contains page)).map (fun r => max r.1 (page * 65536))).foldl min (page * 65536 + 65535)

/-- Translation of the reads and writes of an access, marking leaves only when every page translates (R215, R288). -/
def translateBoth (d : Device) (hall j : Nat) (rd wr : List Nat) : Except (XFault × Nat × Bool) (Tab Nat × Tab Nat × Device) :=
  match xlatePages d hall j false false rd with
  | .error (f, p) => .error (f, p, false)
  | .ok r =>
    match xlatePages d hall j true false wr with
    | .error (f, p) => .error (f, p, true)
    | .ok w =>
      let d := tableReads d (walkReads (r ++ w))
      let d := r.foldl (fun d e => markLeaf d hall j false e) d
      let d := w.foldl (fun d e => markLeaf d hall j true e) d
      .ok (pageTab r, pageTab w, { d with free := d.free + 1 })

/-- A core's run-ahead copy of the sector of a physical address. -/
def copyOf (c : Core) (pa : Nat) : Option RaCopy := c.copies.find? (fun x => x.at_ == pa / 64 * 64)

/-- Physical bytes as a core's stream engine gets them (R296): from its run-ahead copies where it holds the sector, and from the stack elsewhere. -/
def peekPhys (d : Device) (u pa n : Nat) : List (Byte × Bool) :=
  let c := core d u
  if c.copies.isEmpty then d.stack.readP pa n
  else (List.range n).map (fun i => match copyOf c (pa + i) with
    | some x => (x.data.getD ((pa + i) % 64) 0, false)
    | none => (d.stack.get (pa + i), d.stack.isBad (pa + i)))

/-- The bytes of a range of job memory under translated pages, as a core's stream engine gets them. -/
def peekVirt (d : Device) (u : Nat) (pages : Tab Nat) (a n : Nat) : List (Byte × Bool) :=
  (pieces a n).flatMap (fun p => peekPhys d u (phys pages p.1) p.2)

/-- The demand requests of one transfer (R269): each sector of its ranges is read once. A sector held as a run-ahead copy is taken from hall memory,
and the copy discarded (R296). -/
def fetchSectors (d : Device) (u : Nat) (pages : Tab Nat) (rs : List (Nat × Nat)) : Device :=
  let secs := (rs.flatMap (fun r => (pieces r.1 r.2).flatMap (fun p => blocks (phys pages p.1) p.2 64))).foldl nins []
  let held := !(core d u).copies.isEmpty
  let d := secs.foldl (fun d s =>
    let c := core d u
    if (copyOf c (s * 64)).isSome then
      bump (setCore d u { c with copies := c.copies.filter (fun x => x.at_ != s * 64) }) (corePage u + 0x7C4) 1
    else readPeak (sectorRead d s) (stackOf (s * 64))) d
  if held then settleWatch d (u / 48) else d

/-- A read of job memory by a core's stream engine under translated pages (R296). -/
def streamRead (d : Device) (u : Nat) (pages : Tab Nat) (a n : Nat) : List (Byte × Bool) × Device :=
  (peekVirt d u pages a n, fetchSectors d u pages [(a, n)])

/-- The bytes of a range on the memory side. -/
def sideRead (d : Device) (u : Nat) (kind : Nat) (pages : Tab Nat) (a n : Nat) : List (Byte × Bool) × Device :=
  if kind == 2 then
    let at_ := bucketBase d (u / 48) ((core d u).job.getD 16) + a
    ((hmem d (u / 48)).readP at_ n, hallParity d (u / 48) at_ n)
  else streamRead d u pages a n

/-- Bytes written on the memory side of the module. -/
def sideWrite (d : Device) (u : Nat) (kind : Nat) (pages : Tab Nat) (a : Nat) (bs : List (Byte × Bool)) : Device :=
  if kind == 2 then
    let base := bucketBase d (u / 48) ((core d u).job.getD 16)
    setHmem d (u / 48) ((hmem d (u / 48)).writeP (base + a) bs)
  else writeVirt d pages a bs

/-- TAG of a WRITE from a core (R352). -/
def writeTag (d : Device) (u : Nat) : Nat :=
  ((core d u).job.getD 0) + d.plan.maps.logical (u / 48) % 16 * 16 + d.plan.maps.slotOf u % 64 * 256

/-- Bytes sent to the peer (R353, R216): every packet is accepted by the port. -/
def sidePeer (d : Device) (u : Nat) (x : Desc) (a : Nat) (bs : List (Byte × Bool)) : Device :=
  (writePackets x.cls x.peerJob (writeTag d u) ((core d u).job.getD 16) (bs.length + 1) a bs).foldl (fun d k => queuePkt d x.port k) d

/-- Bytes written to the destination of a transfer. -/
def sideOut (d : Device) (u : Nat) (x : Desc) (kind : Nat) (pages : Tab Nat) (a : Nat) (bs : List (Byte × Bool)) : Device :=
  if kind == 4 then sidePeer d u x a bs else sideWrite d u kind pages a bs

/-- The elements of a vector in job memory with `n` bytes each, as codes with poison. -/
def vecCodes (d : Device) (u : Nat) (pages : Tab Nat) (a n cnt : Nat) : List (Nat × Bool) × Device :=
  let r := streamRead d u pages a (n * cnt)
  ((List.range cnt).map (fun i =>
    let b := (r.1.drop (n * i)).take n
    (ofLE (b.map Prod.fst), b.any Prod.snd)), r.2)

/-- The smoothing vector and the scales of a transfer. -/
def transferVecs (d : Device) (u : Nat) (x : Desc) (pages : Tab Nat) : List (Nat × Bool) × List (Nat × Bool) × Device :=
  let s := if x.smooth then vecCodes d u pages x.smoothAddr 4 x.mCols else ([], d)
  let l := if x.lscale then vecCodes s.2 u pages x.lsAddr 2 (lsCount x) else ([], s.2)
  (s.1, l.1, l.2)

/-- The learned scale of memory-side element (k, c) (R213). -/
def scaleAt (x : Desc) (ls : List (Nat × Bool)) (k c : Nat) : Nat × Bool :=
  ls.getD (if x.lsGran == 1 then k else if x.lsGran == 2 then c else 0) (0, false)

/-- Entries of the vectors that count an event of R69, once each (R73, R77; DEDUCED, notes/assumptions/13.md). -/
def badEntries (s l : List (Nat × Bool)) : Nat :=
  (s.filter (fun e => !smoothOk e.1)).length + (l.filter (fun e => (lsExp e.1).isNone)).length

/-- Blocks that a transposition moves (R235). -/
def xposeBlocks (x : Desc) : Nat := if x.transpose then ceilDiv x.nrows 32 * ceilDiv x.ncols 32 else 0

/-- The counters of a converting transfer (R217, R233, R234). -/
def countConv (d : Device) (u : Nat) (grad : Bool) (sats nans : Nat) : Device :=
  let o := corePage u + (if grad then 0x780 else 0x718)
  bump (bump d o sats) (o + 4) nans

/-- The transfer copies codes unchanged (R146). -/
def rawCopy (x : Desc) (f : Nat) : Bool := x.mfmt == f && !x.transpose && x.rotLg == 0 && !x.smooth && !x.lscale

/-! ### Moving bytes -/

/-- A list of bytes with poison as a memory from address 0. -/
def memOfP (bs : List (Byte × Bool)) : Mem := Mem.writeP {} 0 bs

/-- The bytes of a range on the memory side, without the requests that fetch them. -/
def sidePeek (d : Device) (u kind : Nat) (pages : Tab Nat) (a n : Nat) : List (Byte × Bool) :=
  if kind == 2 then (hmem d (u / 48)).readP (bucketBase d (u / 48) ((core d u).job.getD 16) + a) n else peekVirt d u pages a n

/-- Every memory-side row of a load, one memory per segment. -/
def readRows (d : Device) (u : Nat) (x : Desc) (s : Side) (pages : Tab Nat) : List (List (Seg × Mem)) × Device :=
  let segs := transferSegs x s
  (segs.map (fun row => row.map (fun g => (g, memOfP (sidePeek d u s.kind pages g.at_ (rowSize x.mfmt g.n))))),
   if s.kind == 2 then
     (fetchRanges x s).foldl (fun d g => hallParity d (u / 48) (bucketBase d (u / 48) ((core d u).job.getD 16) + g.1) g.2) d
   else fetchSectors d u pages (fetchRanges x s))

/-- The elements of a memory-side row as F32, learned scale included (R72 step 1). -/
def rowEls (x : Desc) (ls : List (Nat × Bool)) (k : Nat) (row : List (Seg × Mem)) : List El :=
  row.flatMap (fun g => (List.range g.1.n).map (fun i =>
    let e := elAt g.2 x.mfmt g.1.n 0 i
    (if x.lscale then lsApply false (scaleAt x ls k (g.1.c0 + i)) e else e).f32))

/-- A load into its tile (R72, R146, R147). -/
def loadTile (d : Device) (u : Nat) (x : Desc) (e : Ins) : Device :=
  let s := sideOf x e
  let v := transferVecs d u x e.pages
  let r := readRows v.2.2 u x s e.pages
  let d := r.2
  let c := core d u
  let t := tileOf c x.tile
  let bad := r.1.any (fun row => row.any (fun g => !g.2.bad.isEmpty)) || (v.1 ++ v.2.1).any Prod.snd
  let d :=
    if rawCopy x t.fmt then
      let m := r.1.zipIdx.foldl (fun m row =>
        row.1.foldl (fun m g => copyEls g.2 m t.fmt t.cols (tileRow t (x.trow + row.2)) (x.tcol + g.1.c0) g.1.n 0 0 g.1.n) m) c.tile
      setCore d u { c with tile := m }
    else
      let rows := r.1.zipIdx.map (fun row =>
        let xs := rotateRow x.rotLg (rowEls x v.2.1 row.2 row.1)
        if x.smooth then smoothRow true v.1 xs else xs)
      let rows := if x.transpose then transposeEls x.mCols rows else rows
      let n := rows.zipIdx.foldl (fun (a : Narrow) row =>
        let n := putEls a.mem t.fmt t.cols (tileRow t (x.trow + row.2)) x.tcol row.1
        ⟨n.mem, a.sats + n.sats, a.nans + n.nans⟩) ⟨c.tile, 0, 0⟩
      countConv (setCore d u { c with tile := n.mem }) u (x.gradient t.fmt) n.sats (n.nans + badEntries v.1 v.2.1)
  let c := core d u
  let d := setCore d u (uncache { c with inUse := nins c.inUse x.tile } x.tile)
  tilePoison (bump d (corePage u + 0x788) (xposeBlocks x)) u bad

/-- The bytes of one segment of a store: the elements of the row from the segment's first column, converted (R71 step 4). -/
def segBytes (x : Desc) (g : Seg) (xs : List El) : List (Byte × Bool) × Nat × Nat :=
  let n := putEls {} x.mfmt g.n 0 0 ((xs.drop g.c0).take g.n)
  (n.mem.readP 0 (rowSize x.mfmt g.n), n.sats, n.nans)

/-- Rows of F32 elements stored to the memory side (R71, R147, R154). `f` is the source's format. -/
def storeRows (d : Device) (u : Nat) (x : Desc) (e : Ins) (rows : List (List El)) : Device :=
  let s := sideOf x e
  let v := transferVecs d u x e.pages
  let rows := rows.map (fun r => r.map El.f32)
  let rows := if x.transpose then transposeEls x.ncols rows else rows
  let done := (rows.zip (transferSegs x s)).zipIdx.foldl (fun (a : Device × Nat × Nat) row =>
    let xs := if x.smooth then smoothRow false v.1 row.1.1 else row.1.1
    let xs := rotateRow x.rotLg xs
    let xs := if x.lscale then xs.zipIdx.map (fun y => lsApply true (scaleAt x v.2.1 row.2 y.2) y.1) else xs
    row.1.2.foldl (fun (a : Device × Nat × Nat) g =>
      let b := segBytes x g xs
      (sideOut a.1 u x s.kind e.pages2 g.at_ b.1, a.2.1 + b.2.1, a.2.2 + b.2.2)) a) (v.2.2, 0, 0)
  let d := countConv done.1 u (x.gradient 0) done.2.1 (done.2.2 + badEntries v.1 v.2.1)
  tilePoison (bump d (corePage u + 0x788) (xposeBlocks x)) u ((v.1 ++ v.2.1).any Prod.snd)

/-- A store from a tile (R71, R146). -/
def storeTile (d : Device) (u : Nat) (x : Desc) (e : Ins) : Device :=
  let c := core d u
  let t := tileOf c x.tile
  let rowsBad := (List.range x.nrows).any (fun r => (elsAt c.tile t.fmt t.cols (tileRow t (x.trow + r)) x.tcol x.ncols).any El.bad)
  let d :=
    if rawCopy x t.fmt then
      let s := sideOf x e
      (transferSegs x s).zipIdx.foldl (fun d row =>
        row.1.foldl (fun d g =>
          let m := copyEls c.tile {} t.fmt g.n 0 0 t.cols (tileRow t (x.trow + row.2)) (x.tcol + g.c0) g.n
          sideOut d u x s.kind e.pages2 g.at_ (m.readP 0 (rowSize t.fmt g.n))) d) d
    else storeRows d u x e ((List.range x.nrows).map (fun r => elsAt c.tile t.fmt t.cols (tileRow t (x.trow + r)) x.tcol x.ncols))
  let d := setCore d u (clearInUse (core d u) e.deads)
  let d := coreParity d u ((List.range x.nrows).flatMap (fun r => elsFailing c.tile t.fmt t.cols (tileRow t (x.trow + r)) x.tcol x.ncols))
  tilePoison d u rowsBad

/-- A memory-to-memory transfer (R212). -/
def copyMem (d : Device) (u : Nat) (x : Desc) (e : Ins) : Device :=
  let r := sideRead d u x.src e.pages x.addr x.len
  let d := sideOut r.2 u x x.dst e.pages2 x.addr2 r.1
  tilePoison d u (r.1.any Prod.snd)

/-- The completion signal of a transfer (R216, R331). -/
def transferSignal (d : Device) (u : Nat) (x : Desc) : Device :=
  if !x.sigEn then d
  else if x.sigRemote then sendSignal d x.port x.cls x.sigWord x.peerJob x.sigAdd ((core d u).job.getD 16)
  else arriveProgram d x.sigWord x.sigAdd

/-! ### Slot images (R204, R205) -/

/-- The header of a slot image passes R205. -/
def slotHeaderOk (b : List Byte) : Bool :=
  (ofF32 (leAt b 0 4)).isFinite && smoothOk (leAt b 4 4) && leAt b 8 1 < 2 && leAt b 9 1 < 2
  && leAt b 0xA 2 == 0 && allZero ((b.take 0x40).drop 0x2C)

/-- A fired instruction that faults (R178). -/
def firedFault (d : Device) (u : Nat) (e : Ins) (code : Nat) : Device :=
  coreFault (setCore d u (unfly (core d u) e)) u e.pc code

/-- FTLD completes (R205). -/
def ftldComplete (d : Device) (u : Nat) (e : Ins) : Device :=
  let r := streamRead d u e.pages e.a 6208
  let d := r.2
  let img := r.1.map Prod.fst
  let k := e.f 57 55
  if (r.1.take 64).any Prod.snd then firedFault d u e 10
  else if !slotHeaderOk img then firedFault d u e 4
  else if r.1.any Prod.snd then
    let c := core d u
    firedFault (setCore d u { c with slots := tdrop (· == k) c.slots }) u e 10
  else
    let c := unfly (core d u) e
    setCore d u { c with slots := tset c.slots k ⟨some e.a, img⟩ }

/-! ### XFER_COMPLETE -/

/-- The transfer's bytes and its source hints. One that moves nothing ends its hints, and the RELEASE of a drain of nothing, as it completes (R151; of
the hints DESIGN CHOICE, notes/assumptions/74.md). -/
def transferMove (d : Device) (u : Nat) (x : Desc) (e : Ins) : Device :=
  if x.zero then
    let c := core d u
    let c := if e.isDrain && drRelease e then { c with accUse := ndel c.accUse (e.f 57 57) } else c
    setCore d u (clearInUse c e.deads)
  else if e.land == 3 then
    bump (setCore d u (clearInUse (core d u) e.deads)) (corePage u + 0x790) 1
  else if e.isDrain then storeRows d u x e e.vals
  else if x.memToMem then copyMem d u x e
  else if x.store then storeTile d u x e
  else loadTile d u x e

/-- XFER_COMPLETE (R216, R205, R15, R249): the `i`-th fired transfer, FTLD or drain to a descriptor of the core completes. A landing transfer
first needs its lookup, a drain its rows. -/
def xferComplete (u i : Nat) (d : Device) : Device :=
  let c := core d u
  match (c.fl.filter Ins.isStream)[i]? with
  | none => d
  | some e =>
    let x := e.d
    if !coreOn d u || e.land == 1 || (e.isDrain && e.stage == 0) then d
    else if e.op == opFTLD then ftldComplete d u e
    else
      let d := transferMove d u x e
      transferSignal (setCore d u (unfly (core d u) e)) u x

def execXferComplete (u i : Nat) (s : State) : Host.Outcome State Fault Refusal := run (.xferComplete u i) (xferComplete u i) s

end Sys2Proof.Machine
end

