-- ==== Sys2Proof/Machine/Landing.lean ====
section
/-!
DEFINITION. The landing unit: lookups, placement and drops (R238–R253), landing resets and their sweep (R254–R256). The current LAND_EPOCH,
LAND_USED, LAND_PEAK and counters stand in the job's landing window (R261).
-/
namespace Sys2Proof.Machine

/-- A landing record (R239). -/
structure LandRec where
  epoch : Nat
  state : Nat
  fmt : Nat
  recomp : Bool
  rows : Nat
  cols : Nat
  offset : Nat
  dropSig : Nat
  rseg : Nat
  resv : Bool
  deriving DecidableEq, Repr, Inhabited

def landRec (b : List Byte) : LandRec :=
  { epoch := leAt b 0 4, state := leAt b 4 1, fmt := leAt b 5 1 % 16, recomp := bit (leAt b 6 1) 0
    rows := leAt b 8 4, cols := leAt b 0xC 4, offset := leAt b 0x10 8 % 2 ^ 40, dropSig := leAt b 0x18 2 % 8192, rseg := leAt b 0x1A 2
    resv := 16 ≤ leAt b 5 1 || 2 ≤ leAt b 6 1 || leAt b 7 1 != 0 || 2 ^ 40 ≤ leAt b 0x10 8 || 8192 ≤ leAt b 0x18 2 || leAt b 0x1C 4 != 0 }

/-- LAND_EPOCH of a job. -/
def landEpoch (d : Device) (j : Nat) : Nat := getR d (landWin j + 0x1C)

/-- B, the bytes of a record's tensor (R241), and S, the bytes of a block row. -/
def landBytes (r : LandRec) : Nat := ceilDiv r.rows 32 * ceilDiv r.cols 32 * blockSize r.fmt
def landStride (r : LandRec) : Nat := ceilDiv r.cols 32 * blockSize r.fmt

/-- The checks of R243 on a record for a transfer, in the order of its table. -/
def recordCheck (epoch : Nat) (r : LandRec) (x : Desc) : Option Nat :=
  firstFail [
    (r.resv || (r.epoch == epoch && 2 < r.state), fBounds),
    (!fmtLegal r.fmt, fFmt),
    (r.rows == 0 || r.cols == 0 || 524288 < r.rows || 524288 < r.cols || (isMx r.fmt && r.cols % 32 != 0), fBounds),
    (x.mfmt != r.fmt, fBounds),
    (r.rows < 32 * x.brow + x.mRows || r.cols < 32 * x.bcol + x.mCols, fBounds)]

/-- A landing transfer faults (R178, R251). -/
def landFault (d : Device) (u : Nat) (e : Ins) (code : Nat) : Device := firedFault d u e code

/-- A translation fault of a core's transfer at a virtual address (R215, R292). -/
def xferFault (d : Device) (u : Nat) (e : Ins) (f : XFault) (va : Nat) (wr : Bool) : Device :=
  firedFault (recordXFault d ((core d u).job.getD 16) va f false wr u) u e f.code

/-- Bytes of a record put into its 32 bytes. -/
def recPut (rec_ : List Byte) (off : Nat) (bs : List Byte) : List Byte := rec_.take off ++ bs ++ rec_.drop (off + bs.length)

/-- A record enters the job's record cache, the oldest of 1,024 leaving (R247). -/
def recCache (d : Device) (j n : Nat) (rec_ : List Byte) : Device :=
  let x := job d j
  let l := x.landRecs.filter (fun r => r.1 != n) ++ [(n, rec_)]
  setJob d j { x with landRecs := l.drop (l.length - 1024) }

/-- The landing unit translates record `n` at `a` and writes parts of it, given by offset, on the transfer's behalf (R238, R245); the record cache
follows. -/
def recWrite (d : Device) (u j n a : Nat) (rec_ : List Byte) (parts : List (Nat × List Byte)) : Except (XFault × Nat) Device :=
  match translate d (u / 48) j true false (pagesOf a 32) with
  | .error e => .error e
  | .ok (pg, d) =>
    let d := parts.foldl (fun d p => writeVirt d pg (a + p.1) (clean p.2)) d
    .ok (recCache d j n (parts.foldl (fun b p => recPut b p.1 p.2) rec_))

/-- The first drop in an epoch sets FULL and sends LANDING_FULL (R250). -/
def landDrop (d : Device) (j n : Nat) (r : LandRec) : Device :=
  let d := bump d (landWin j + 0x30) 1
  let d := if r.recomp then arriveUnit d j r.dropSig 1 none else d
  let x := job d j
  if x.landFull then d
  else jobEv (setJob d j { x with landFull := true }) j 0x30 0 0
    (toLE 4 n ++ toLE 2 r.rseg ++ toLE 2 0 ++ toLE 8 (landBytes r) ++ toLE 8 (get64 d (landWin j + 0x20)))

/-- A transfer with the place of its rectangle (R242). -/
def landPlaced (d : Device) (j : Nat) (e : Ins) (r : LandRec) (offset : Nat) : Ins :=
  { e with land := 2, landStride := landStride r
           landAddr := (job d j).landBase + offset + e.d.brow * landStride r + e.d.bcol * blockSize r.fmt }

/-- A translation fault of a placed transfer's region pages, with the address and whether it is of a write (R215, R238): a load's pages must be writable
as well. -/
def landPages (d : Device) (u : Nat) (e : Ins) : Option (XFault × Nat × Bool) :=
  let j := (core d u).job.getD 16
  let s := sideOf e.d e
  let region := if e.d.store then (transferRanges e.d s).2 else fetchRanges e.d s
  match xlatePages d (u / 48) j true false (rangePages region) with
  | .error (f, p) => some (f, firstTouch region p, e.d.store)
  | .ok _ => none

/-- The pages of a placed transfer are translated (R215, R238), or it faults with nothing moved. -/
def landReady (d : Device) (u : Nat) (e : Ins) (r : LandRec) (offset : Nat) : Device :=
  let j := (core d u).job.getD 16
  let e := landPlaced d j e r offset
  match landPages d u e with
  | some (f, va, wr) => xferFault d u e f va wr
  | none =>
    let rs := transferRanges e.d (sideOf e.d e)
    match translateBoth d (u / 48) j (rangePages rs.1) (rangePages rs.2) with
    | .error (f, p, wr) => xferFault d u e f (firstTouch (if wr then rs.2 else rs.1) p) wr
    | .ok (r, w, d) => setCore d u (refly (core d u) { e with pages := r, pages2 := w })

/-- A store places an OPEN record (R245): nothing is claimed and no record changes when a page of the region or of the record faults (R243). -/
def landPlace (d : Device) (u : Nat) (e : Ins) (n a : Nat) (rec_ : List Byte) (r : LandRec) : Device :=
  let j := (core d u).job.getD 16
  let used := get64 d (landWin j + 0x20)
  match landPages d u (landPlaced d j e r used) with
  | some (f, va, wr) => xferFault d u e f va wr
  | none =>
    match recWrite d u j n a rec_ [(0, toLE 4 (landEpoch d j) ++ toLE 1 1), (0x10, toLE 8 used)] with
    | .error (f, p) => xferFault d u e f (max a (p * 65536)) true
    | .ok d =>
      let d := set64 d (landWin j + 0x20) (used + landBytes r)
      let d := set64 d (landWin j + 0x28) (max (get64 d (landWin j + 0x28)) (used + landBytes r))
      landReady d u e r used

/-- The lookup of a transfer whose record has been read and checked (R245, R249, R251, R253). -/
def landLookup (d : Device) (u : Nat) (e : Ins) (n a : Nat) (rec_ : List Byte) : Device :=
  let j := (core d u).job.getD 16
  let r := landRec rec_
  let ep := landEpoch d j
  let state := if r.epoch == ep then r.state else 0
  if !e.d.store then
    (if state == 1 then landReady d u e r r.offset
     else taint (landFault (bump d (landWin j + 0x34) 1) u e 11) j 2 11)
  else if state == 1 then landReady d u e r r.offset
  else if state == 2 then setCore d u (refly (core d u) { e with land := 3 })
  else if get64 d (landWin j + 0x20) + landBytes r ≤ get64 d (landWin j + 8) then landPlace d u e n a rec_ r
  else
    match recWrite d u j n a rec_ [(0, toLE 4 ep ++ toLE 1 2)] with
    | .error (f, p) => xferFault d u e f (max a (p * 65536)) true
    | .ok d =>
      let d := landDrop d j n r
      setCore d u (refly (core d u) { e with land := 3 })

/-- Record `n` at `a`, from the job's record cache or by a read of the directory (R247): its bytes, none for one that is poisoned. A record read clean
enters the cache. -/
def recRead (d : Device) (u j n a : Nat) : Except (XFault × Nat) (Option (List Byte) × Device) :=
  match (job d j).landRecs.find? (fun r => r.1 == n) with
  | some r => .ok (some r.2, d)
  | none =>
    match translate d (u / 48) j false false (pagesOf a 32) with
    | .error e => .error e
    | .ok (pg, d) =>
      let r := readVirt d pg a 32
      if r.1.any Prod.snd then .ok (none, r.2) else .ok (some (r.1.map Prod.fst), recCache r.2 j n (r.1.map Prod.fst))

/-- LANDING_PLACE (R243–R253): the lookup of the `i`-th fired transfer, which waited `waited` cycles. -/
def landingPlace (u i waited : Nat) (d : Device) : Device :=
  let c := core d u
  match (c.fl.filter Ins.isStream)[i]? with
  | none => d
  | some e =>
    let j := c.job.getD 16
    let n := e.d.record
    if !coreOn d u || e.land != 1 then d
    else
      let d := bump d (corePage u + 0x794) waited
      if getR d (landWin j + 0x18) ≤ n then landFault d u e fBounds
      else
        let a := (job d j).landDir + 32 * n
        match recRead d u j n a with
        | .error (f, p) => xferFault d u e f (max a (p * 65536)) false
        | .ok (none, d) => landFault (poisonSeen d (seqPage 2) (some j)) u e 10
        | .ok (some b, d) =>
          match recordCheck (landEpoch d j) (landRec b) e.d with
          | some f => landFault d u e f
          | none => landLookup d u e n a b

def execLandingPlace (u i waited : Nat) (s : State) : Host.Outcome State Fault Refusal :=
  run (.landingPlace u i waited) (landingPlace u i waited) s

/-! ### Landing resets -/

/-- A landing transfer of the job is in flight (R254). -/
def landInFlight (d : Device) (j : Nat) : Bool :=
  d.cores.any (fun e => e.2.job == some j && e.2.fl.any Ins.isLanding)

/-- A reset is requested: RESET_BUSY from now (R254). -/
def landRequest (d : Device) (j : Nat) : Device := setJob d j { job d j with landBusy := true }

/-- One record's EPOCH is written zero (R255): a record whose page does not translate is skipped, counted and, the first time, reported. (DESIGN CHOICE, notes/assumptions/40.md.) -/
def sweepOne (j : Nat) (a : Device × Bool) (n : Nat) : Device × Bool :=
  let va := (job a.1 j).landDir + 32 * n
  match unitWrite a.1 j va (clean (toLE 4 0)) 0xFFFF with
  | .ok d => (d, a.2)
  | .error (code, d) =>
    if a.2 then (d, true)
    else
      let r := freeVal d
      (jobEv r.2 j (r.1.toNat % 65536) code va (toLE 4 n), true)

/-- A reset begins (R255, R256): base and directory take effect, the record cache is emptied (DESIGN CHOICE, notes/assumptions/80.md), and at the wrap of
the epoch the directory's records are swept. -/
def landBegin (d : Device) (j : Nat) : Device :=
  let d := setJob d j { job d j with landBase := get64 d (landWin j), landDir := get64 d (landWin j + 0x10), landRecs := [] }
  if landEpoch d j == 0xFFFFFFFF then
    let d := ((List.range (getR d (landWin j + 0x18))).foldl (sweepOne j) (d, false)).1
    setJob d j { job d j with landSweep := true }
  else d

/-- A reset ends (R254): the epoch advances, the landing is empty. -/
def landEnd (d : Device) (j : Nat) : Device :=
  let d := setJob d j { job d j with landBusy := false, landFull := false, landSweep := false }
  set64 (setR d (landWin j + 0x1C) (if landEpoch d j == 0xFFFFFFFF then 1 else landEpoch d j + 1)) (landWin j + 0x20) 0

/-- A landing reset as a part of another command (R254–R256). -/
def landReset (d : Device) (j : Nat) : Device := if (job d j).landSweep then landEnd d j else landEnd (landBegin d j) j

/-- LAND_CTRL_RESET (R254, R262). -/
def landCtrlReset (j : Nat) (d : Device) : Device := landRequest d j
def execLandCtrlReset (j : Nat) (s : State) : Host.Outcome State Fault Refusal := run (.landCtrlReset j) (landCtrlReset j) s

/-- LANDING_RESET (R254, R255): a requested reset takes place once no landing transfer of the job is in flight. At the wrap of the epoch the sweep is one
such command, and the end of the reset the next (DESIGN CHOICE, notes/assumptions/71.md). -/
def landingReset (j : Nat) (d : Device) : Device :=
  if !(job d j).landBusy || landInFlight d j then d
  else if landEpoch d j == 0xFFFFFFFF && !(job d j).landSweep then landBegin d j
  else landReset d j
def execLandingReset (j : Nat) (s : State) : Host.Outcome State Fault Refusal := run (.landingReset j) (landingReset j) s

end Sys2Proof.Machine
end

