-- ==== Sys2Proof/Machine/Tiles.lean ====
section
/-!
DEFINITION. Tile configuration: TCFG with its table checks (R126–R137), TCLR and TDEAD (R141, R142).
-/
namespace Sys2Proof.Machine

/-- A shape table entry as read (R126): tile, shape, and whether a reserved field outside the format code is not zero. -/
structure ShapeEnt where
  tile : Nat
  t : Tile
  resv : Bool
  deriving DecidableEq, Repr, Inhabited

/-- An entry from its 8 bytes (R126). FMT and BASE of an entry that unconfigures its tile are not checked. -/
def shapeEnt (b : List Byte) : ShapeEnt :=
  let rows := leAt b 2 2
  let cols := leAt b 4 2
  let empty := rows == 0 && cols == 0
  ⟨leAt b 0 1 % 128,
   if empty then {} else ⟨rows, cols, leAt b 1 1 % 16, leAt b 6 2 * 64⟩,
   128 ≤ leAt b 0 1 || (!empty && 16 ≤ leAt b 1 1)⟩

/-- A failing check of a table (R128, R165): the entry, the reason, the other tile or entry, the fault code. -/
structure CfgErr where
  entry : Nat
  reason : Nat
  other : Option Nat
  code : Nat
  deriving DecidableEq, Repr, Inhabited

/-- TILE_CFG_ERR (R165). -/
def cfgErrWord (e : CfgErr) (restore : Bool) : Nat :=
  e.entry + e.reason * 256 + (match e.other with
    | some o => o * 65536 + 2 ^ 23
    | none => 0) + b2n restore * 2 ^ 24

/-- Two tiles share a byte (R128). -/
def overlap (a b : Tile) : Bool :=
  a.rows != 0 && b.rows != 0 && a.base < b.base + tileBytes b && b.base < a.base + tileBytes a

/-- The configuration after a table, as tile number to shape (R126, R128). -/
def afterTable (old : Tab Tile) (replace : Bool) (es : List ShapeEnt) : Tab Tile :=
  es.foldl (fun t e => if e.t.rows == 0 then tdrop (· == e.tile) t else tset t e.tile e.t) (if replace then [] else old)

/-- The first entry that fails a reason, with the other tile or entry and the code (R128). Of several tiles that an entry overlaps the lowest is named
(DESIGN CHOICE, notes/assumptions/76.md). -/
def failAt (es : List ShapeEnt) (new : Tab Tile) (reason : Nat) : Option CfgErr :=
  let dup (i : Nat) (e : ShapeEnt) : Option Nat := lfind (fun o => o.tile == e.tile) (es.take i)
  let hit (x : ShapeEnt × Nat) : Option CfgErr :=
    let e := x.1
    let i := x.2
    let legal := fmtLegal e.t.fmt
    match reason with
    | 1 => (dup i e).map (fun o => ⟨i, 1, some o, 2⟩)
    | 2 => if 256 < e.t.rows || 256 < e.t.cols || (e.t.rows == 0) != (e.t.cols == 0) then some ⟨i, 2, none, 2⟩ else none
    | 3 => if isMx e.t.fmt && e.t.cols % 32 != 0 then some ⟨i, 3, none, 2⟩ else none
    | 4 => if legal && e.t.rows != 0 && 524288 < e.t.base + tileBytes e.t then some ⟨i, 4, none, 2⟩ else none
    | 5 => if !legal then none
           else (new.find? (fun o => o.1 != e.tile && fmtLegal o.2.fmt && overlap e.t o.2)).map (fun o => ⟨i, 5, some o.1, 2⟩)
    | _ => if !legal then some ⟨i, 6, none, 3⟩ else if e.resv then some ⟨i, 6, none, 2⟩ else none
  es.zipIdx.findSome? hit

/-- The checks of a table's entries: the lowest reason code, and within it the lowest entry (R128). -/
def checkTable (old : Tab Tile) (replace : Bool) (es : List ShapeEnt) : Option CfgErr :=
  [1, 2, 3, 4, 5, 6].findSome? (failAt es (afterTable old replace es))

/-- The tiles that a new configuration affects (R129): those whose shape, format or base offset differ. -/
def affectedTiles (old new : Tab Tile) : List Nat :=
  (List.range 128).filter (fun t => tget ({} : Tile) old t != tget {} new t)

/-- The effect of a configuration on the core (R130): affected tiles read as zero, not in use, and out of the operand cache. -/
def applyTiles (c : Core) (new : Tab Tile) (affected : List Nat) : Core :=
  let c := { c with tiles := new }
  affected.foldl (fun c t =>
    let s := tget ({} : Tile) new t
    uncache { c with tile := if s.rows == 0 then c.tile else c.tile.zero s.base (tileBytes s), inUse := ndel c.inUse t } t) c

/-- TCFG (R192, R126–R128, R131, R135): phase 1 reads and checks the table, and the sequencer stands in it until the core's next command or an idle
step; the wait and the apply are TCFG_APPLY. -/
def tcfgInstr (u : Nat) (d : Device) : Device :=
  issue u 0x10 (fun c w d =>
    let a := addImm (xr c (fld w 48 44)) (fld w 31 0)
    let fail (e : CfgErr) : Device := coreFault (setR d (corePage u + 0x684) (cfgErrWord e false)) u c.pc e.code
    if fld w 57 49 != 0 || fld w 43 32 != 0 then coreFault d u c.pc 4
    else reading d u c [fld w 48 44]
      (if c.tcfg.isSome then d
       else if a % 8 != 0 then coreFault d u c.pc 4
       else if 32768 < a + 8 then fail ⟨0xFF, 7, none, 4⟩
       else
         let count := (c.smem.get a).toNat
         let flags := (c.smem.get (a + 1)).toNat
         if c.smem.flaw a 8 != 0 then coreStop d u c.pc (c.smem.flaw a 8)
         else if 128 < count || 32768 < a + 8 + 8 * count then fail ⟨0xFF, 7, none, 4⟩
         else if c.smem.num (a + 2) 6 != 0 || 1 < flags then fail ⟨0xFF, 6, none, 2⟩
         else if c.smem.flaw (a + 8) (8 * count) != 0 then coreStop d u c.pc (c.smem.flaw (a + 8) (8 * count))
         else if count == 0 then adv d u c
         else
           let es := (List.range count).map (fun i => shapeEnt (c.smem.read (a + 8 + 8 * i) 8))
           match checkTable c.tiles (flags == 1) es with
           | some e => fail e
           | none =>
             let new := afterTable c.tiles (flags == 1) es
             adv d u { c with st := .tcfg1, tcfg := some ⟨c.seqNo, new, affectedTiles c.tiles new⟩, seqNo := c.seqNo + 1 })) d

def execTcfg (u : Nat) (s : State) : Host.Outcome State Fault Refusal := run (.tcfg u) (tcfgInstr u) s

/-- Phase 2 of a TCFG lasts (R131): an earlier instruction that names an affected tile has not completed, a pass or a load not ended its read. -/
def tcfgAwaits (c : Core) : Bool :=
  match c.tcfg with
  | none => false
  | some t => (c.win ++ c.fl).any (fun e => e.seq < t.seq && meet e.names t.affected)

/-- TCFG_APPLY (R131, R132–R134): once every earlier instruction that names an affected tile has completed. -/
def tcfgApplyStep (u : Nat) (d : Device) : Device :=
  match (core d u).tcfg with
  | none => d
  | some t =>
    if !coreOn d u || tcfgAwaits (core d u) then d
    else
      let d := phase1End d u
      setCore d u { applyTiles (core d u) t.tiles t.affected with tcfg := none }

def execTcfgApply (u : Nat) (s : State) : Host.Outcome State Fault Refusal := run (.tcfgApply u) (tcfgApplyStep u) s

/-- TCLR (R192): enters the window. -/
def tclrInstr (u : Nat) (d : Device) : Device := enter u opTCLR (fun w => fld w 50 4 != 0) noReg noReg noMem d
def execTclr (u : Nat) (s : State) : Host.Outcome State Fault Refusal := run (.tclr u) (tclrInstr u) s

/-- TDEAD (R192): enters the window. -/
def tdeadInstr (u : Nat) (d : Device) : Device := enter u opTDEAD (fun w => fld w 50 4 != 0) noReg noReg noMem d
def execTdead (u : Nat) (s : State) : Host.Outcome State Fault Refusal := run (.tdead u) (tdeadInstr u) s

/-- TCLR fires (R141): every element reads as zero and the flag is clear. -/
def fireTclr (c : Core) (e : Ins) : Except Nat Core :=
  let t := e.f 57 51
  let s := tileOf c t
  if s.rows == 0 then .error 1
  else .ok (uncache { c with tile := c.tile.zero s.base (tileBytes s), inUse := ndel c.inUse t } t)

/-- TDEAD fires (R142): the flag is clear. -/
def fireTdead (c : Core) (e : Ins) : Except Nat Core :=
  let t := e.f 57 51
  if (tileOf c t).rows == 0 then .error 1 else .ok { c with inUse := ndel c.inUse t }

end Sys2Proof.Machine
end

