-- ==== Sys2Proof/Machine/Fire.lean ====
section
/-!
DEFINITION. INSTR_FIRE: a window entry fires (R173–R178), with the checks each instruction makes then (R138, R139).
-/
namespace Sys2Proof.Machine

/-- The ranges that a transfer of kind 1 source fetches from its memory side. -/
def sourceRanges (x : Desc) : List (Nat × Nat) := if x.memToMem then [(x.addr, x.len)] else fetchRanges x ⟨1, x.addr, x.rowStride⟩

/-- The page of a transfer's last demand read of its source. -/
def lastPage (x : Desc) : Nat := ((sourceRanges x).map (fun r => (r.1 + r.2 - 1) / 65536)).foldl max 0

/-- The run-ahead follows a transfer whose source is of kind 1 (R293, R294): at most four descriptor indices, the least recently fired first. `leaf` is
the leaf of its last demand read. -/
def follow (c : Core) (e : Ins) (x : Desc) (leaf : Leaf) : Core :=
  let idx := e.f 57 49
  let old := (c.ra.find? (fun r => r.index == idx)).map RaDesc.last
  let rest := c.ra.filter (fun r => r.index != idx)
  let rest := if 4 ≤ rest.length then rest.drop 1 else rest
  { c with ra := rest ++ [⟨idx, x.addr, old, (sourceRanges x).map (fun r => (r.1 - x.addr, r.2)), lastPage x, leaf⟩] }

/-- The leaf that a demand read of a page goes through. -/
def demandLeaf (d : Device) (hall j page : Nat) : Leaf :=
  match demand d hall j page false false with
  | .ok l => l.1.leaf
  | .error _ => default

/-- A stream transfer, or the store path of a drain, fires: the checks of R214, then the translation of R215. A landing transfer awaits its
lookup (R245). `c` is the core with the entry out of its window. -/
def fireStream (d : Device) (u : Nat) (c : Core) (e : Ins) : Device :=
  let x := e.d
  let d := setCore d u c
  let d := if x.src == 3 || x.dst == 3 then bump d (corePage u + 0x78C) 1 else d
  let drain := if e.isDrain then some (e.f 49 42, e.f 34 27) else none
  match descCheck d u drain x with
  | some f => coreFault d u e.pc f
  | none =>
    let c := core d u
    if x.zero then setCore d u { c with fl := c.fl ++ [e] }
    else if x.src == 3 || x.dst == 3 then setCore d u { c with fl := c.fl ++ [{ e with land := 1 }] }
    else
      let j := c.job.getD 16
      let rs := transferRanges x (sideOf x e)
      match translateBoth d (u / 48) j (rangePages rs.1) (rangePages rs.2) with
      | .error (f, p, wr) => xferFault d u e f (firstTouch (if wr then rs.2 else rs.1) p) wr
      | .ok (r, w, d') =>
        let c := core d' u
        let c := if !e.isDrain && x.src == 1 then follow c e x (demandLeaf d (u / 48) j (lastPage x)) else c
        setCore d' u { c with fl := c.fl ++ [{ e with pages := r, pages2 := w }] }

/-- FTLD fires (R203, R205): its image's pages are translated. -/
def fireFtld (d : Device) (u : Nat) (c : Core) (e : Ins) : Device :=
  let d := setCore d u c
  if e.a % 256 != 0 || 2 ^ 48 < e.a + 6208 then coreFault d u e.pc fBounds
  else
    match translate d (u / 48) (c.job.getD 16) false false (pagesOf e.a 6208) with
    | .error (f, p) => xferFault d u e f (max e.a (p * 65536)) false
    | .ok (r, d) =>
      let c := core d u
      setCore d u { c with fl := c.fl ++ [{ e with pages := r }] }

/-- SARR and SSET fire (R316–R318, R314). -/
def fireSignal (d : Device) (u : Nat) (c : Core) (e : Ins) : Device :=
  let d := setCore d u c
  let i := sigIdx e.a e.w
  match wordFault d i (c.job.getD 16) with
  | some f => coreFault d u e.pc f
  | none =>
    if e.op == opSARR then arriveProgram d i ((e.b + e.f 31 16) % 2 ^ 64)
    else if 2 ^ 48 ≤ e.b then coreFault d u e.pc fBounds
    else
      match wordHome d i with
      | some (h, k) => sendOp d h (.set k e.b)
      | none => d

/-- Hits on cached row-slices with failing parity (R157): which of the 256 entries holds a slice is an open number (DESIGN CHOICE,
notes/assumptions/73.md). -/
def cacheParity (u : Nat) : Nat → Device → Device
  | 0, d => d
  | n + 1, d =>
    let r := freeVal d
    cacheParity u n (coreParity r.2 u [3 * 2 ^ 30 + r.1.toNat % 256])

/-- The pass broadcast before on one of a pass's quarters had another mode (R102). -/
def modeChange (a : Arr) (mode : Nat) : Bool := (quarters mode).any (fun q => a.last.any (fun l => l.1 == q && l.2 != mode + 1))

/-- A pass fires; a change of mode costs at most 5 cycles, an open number (R102). -/
def fireMmaDev (d : Device) (u : Nat) (c : Core) (e : Ins) : Device :=
  match fireMma c e with
  | .error f => coreFault (setCore d u c) u e.pc f
  | .ok (c', r) =>
    let d := setCore d u c'
    let d := bump (bump d (corePage u + 0x628) r.hits) (corePage u + 0x62C) (r.rows.length - r.hits)
    let d := tilePoison (cacheParity u r.flawed (coreParity d u r.locs)) u (r.rows.any (fun x => x.any El.bad))
    if !modeChange c.arr e.mode || mmaM e == 0 then d
    else
      let r := freeVal d
      bump r.2 (corePage u + 0x620) (r.1.toNat % 6)

/-- The result of a firing that concerns the core alone. -/
def fireCore (d : Device) (u : Nat) (c : Core) (e : Ins) (r : Except Nat Core) : Device :=
  match r with
  | .error f => coreFault (setCore d u c) u e.pc f
  | .ok c => setCore d u c

/-- A drain fires (R138, R153, R195). -/
def fireDrain (d : Device) (u : Nat) (c : Core) (e : Ins) : Device :=
  match drainCheck c e with
  | some f => coreFault (setCore d u c) u e.pc f
  | none => if e.drainDesc then fireStream d u c e else setCore d u { c with fl := c.fl ++ [e] }

/-- A window entry fires to its unit. `c` is the core without the entry. (DEDUCED, notes/assumptions/66.md.) -/
def fireEntry (d : Device) (u : Nat) (c : Core) (e : Ins) : Device :=
  if e.isVec then fireCore d u c e (fireVec c e)
  else
    match e.op with
    | 0x11 => fireCore d u c e (fireTclr c e)
    | 0x12 => fireCore d u c e (fireTdead c e)
    | 0x14 => fireCore d u c e (fireWld c e)
    | 0x15 => fireMmaDev d u c e
    | 0x16 => fireDrain d u c e
    | 0x20 => fireFtld d u c e
    | 0x21 => setCore d u { c with slots := tdrop (· == e.f 57 55) c.slots }
    | 0x24 => fireStream d u c e
    | _ => fireSignal d u c e

/-- INSTR_FIRE (R174–R178): entry `i` of the window fires, when it can and is the oldest of its units that can. (DESIGN CHOICE, notes/assumptions/18.md.) -/
def instrFire (u i : Nat) (d : Device) : Device :=
  let c := core d u
  match c.win[i]? with
  | none => d
  | some e =>
    if !coreOn d u || !(c.st == .running || c.st == .swait || c.st == .tcfg1) || !canFire d c i then d
    else fireEntry (bump64 d (corePage u + 0x710) 1) u { c with win := ldel c.win i } e

def execInstrFire (u i : Nat) (s : State) : Host.Outcome State Fault Refusal := run (.instrFire u i) (instrFire u i) s

end Sys2Proof.Machine
end

