-- ==== Sys2Proof/Machine/Context.lean ====
section
/-!
DEFINITION. Core reset, program images (R224, R225, R475), the core context record (R158–R162, R222, R223) and the commands that write and
apply it.
-/
namespace Sys2Proof.Machine

/-- A core as at core reset (R98, R112, R117, R150, R203, R220); ARR_STEER keeps its value and takes effect. -/
def coreReset (c : Core) : Core :=
  { arr := { steer := c.arr.steer, inEffect := c.arr.steer } }

/-! ### Program images (R224, R225) -/

/-- The header of a program image (R224). -/
structure ImgHdr where
  len : Nat
  codeOff : Nat
  codeLen : Nat
  entry : Nat
  smemOff : Nat
  smemLen : Nat
  saveLen : Nat
  fnMask : Nat
  fnOff : Nat
  crc : Nat
  ok : Bool
  deriving DecidableEq, Repr, Inhabited

/-- Slots that an image preloads, in ascending order. -/
def fnSlots (m : Nat) : List Nat := (List.range 8).filter (bit m)

def imgHdr (b : List Byte) : ImgHdr :=
  let f (o : Nat) : Nat := leAt b o 4
  let n := (fnSlots (leAt b 0x24 1)).length
  { len := f 8, codeOff := f 0xC, codeLen := f 0x10, entry := f 0x14, smemOff := f 0x18, smemLen := f 0x1C, saveLen := f 0x20
    fnMask := leAt b 0x24 1, fnOff := f 0x28, crc := f 0x2C
    ok := f 0 == 0x47525043 && leAt b 4 2 == 0x100 && leAt b 6 2 == 64 && 64 ≤ f 8 && f 0xC % 64 == 0 && 64 ≤ f 0xC
      && 8 ≤ f 0x10 && f 0x10 ≤ 65536 && f 0x10 % 8 == 0 && f 0x14 % 8 == 0 && f 0x14 < f 0x10 && f 0x18 % 64 == 0 && f 0x1C ≤ 32768
      && f 0x20 % 64 == 0 && f 0x20 ≤ 32768 && leAt b 0x25 3 == 0 && f 0x28 % 256 == 0 && allZero ((b.take 64).drop 0x30)
      && f 0xC + f 0x10 ≤ f 8 && (f 0x1C == 0 || (64 ≤ f 0x18 && f 0x18 + f 0x1C ≤ f 8)) && (n == 0 || (64 ≤ f 0x28 && f 0x28 + n * 6400 ≤ f 8)) }

/-- The place of a preloaded slot's image in a program image. -/
def slotPlace (h : ImgHdr) (k : Nat) : Nat := h.fnOff + ((fnSlots h.fnMask).filter (· < k)).length * 6400

/-- The step sequencer reads and checks the image at a job address (R225): its bytes, or the fault code. -/
def readImage (d : Device) (j a : Nat) : Except (Nat × Device) (List Byte × Device) :=
  match unitRead d j a 64 0xFFFF with
  | .error e => .error e
  | .ok (b, d) =>
    let h := imgHdr (b.map Prod.fst)
    if b.any Prod.snd then .error (10, poisonSeen d (seqPage 0) (some j))
    else if !h.ok then .error (4, d)
    else
      match unitRead d j a h.len 0xFFFF with
      | .error e => .error e
      | .ok (b, d) =>
        let img := b.map Prod.fst
        if b.any Prod.snd then .error (10, poisonSeen d (seqPage 0) (some j))
        else if crc32c (img.drop 64) != h.crc then .error (4, d)
        else if (fnSlots h.fnMask).any (fun k => !slotHeaderOk ((img.drop (slotPlace h k)).take 6208)) then .error (4, d)
        else .ok (img, d)

/-- A core loaded afresh from an image (R475), or for a later micro-batch with scalar memory below SMEM_SAVE_LEN kept (R474). -/
def loadCore (c : Core) (j a : Nat) (img : List Byte) (keep : Bool) : Core :=
  let h := imgHdr img
  let fresh := Mem.ofBytes ((img.drop h.smemOff).take h.smemLen)
  let smem := if keep then
      let kept := c.smem.cut 0 h.saveLen
      let rest := fresh.cut h.saveLen 32768
      { cells := kept.cells ++ rest.cells, bad := kept.bad, ups := kept.ups }
    else fresh
  { coreReset c with
    clearing := false, pc := h.entry, codeLen := h.codeLen, istore := Mem.ofBytes ((img.drop h.codeOff).take h.codeLen), smem := smem
    slots := (fnSlots h.fnMask).map (fun k => (k, ⟨none, (img.drop (slotPlace h k)).take 6208⟩))
    job := some j, imgAddr := a, saveLen := h.saveLen, seqNo := c.seqNo, copies := if keep then c.copies else [], ra := if keep then c.ra else [] }

/-! ### Saving (R158–R160, R222) -/

/-- The in-use tiles that a save writes: configured and in use (R160). -/
def savedTiles (c : Core) : List Nat := (List.range 128).filter (fun t => c.inUse.contains t && (tileOf c t).rows != 0)

/-- A configured tile's bytes padded to 64. -/
def tileSection (t : Tile) : Nat := alignUp (tileBytes t) 64
def tileDataLen (c : Core) (ts : List Nat) : Nat := ts.foldl (fun n t => n + tileSection (tileOf c t)) 0
def accLen (c : Core) : Nat := c.accUse.length * 65536

/-- Quiet in the sense of R158: no window entry, no pass, WLD, drain or stream transfer in flight, no TCFG in any phase. -/
def quietRec (c : Core) : Bool :=
  c.win.isEmpty && c.tcfg.isNone && !c.fl.any (fun e => e.op == opMMA || e.op == opWLD || e.isDrain || e.isStream)

/-- RECORD_LEN of a record of the core as it stands (R159, R160). -/
def recordLen (c : Core) : Nat := 64 + 1024 + c.saveLen + 1024 + tileDataLen c (savedTiles c) + accLen c

/-- CTX_SIZE (R160, R163): RECORD_LEN that a save would write now, 0 when the core is not quiet, and 0 while no job's image is loaded, of which nothing
can be saved. (DEDUCED, notes/assumptions/41.md.) -/
def ctxSize (c : Core) : Nat := if quietRec c && c.job.isSome then recordLen c else 0

/-- The scalar section up to SMEM (R222). -/
def scalarHead (c : Core) : List (Byte × Bool) :=
  let xs := (List.range 32).flatMap (fun i => (toLE 8 (xr c i)).map (fun b => (b, i != 0 && (c.xbad.contains i || c.xups.contains i))))
  let fn := (List.range 8).flatMap (fun k => match c.slots.find? (fun e => e.1 == k) with
    | some (_, ⟨some a, _⟩) => toLE 8 (1 + a / 256 % 2 ^ 40 * 256)
    | some (_, ⟨none, _⟩) => toLE 8 0
    | none => toLE 8 0)
  let g := (List.range 15).flatMap (fun i => match c.gates.find? (fun e => e.1 == i + 1) with
    | some (_, b) => toLE 8 (b.word + b2n b.asked * 2 ^ 13 + 2 ^ 14) ++ toLE 8 b.target
    | none => toLE 16 0)
  xs ++ clean (toLE 4 c.pc ++ toLE 4 c.stop ++ toLE 4 c.saveLen ++ toLE 4 0 ++ fn ++ g ++ toLE 448 0)

/-- The shape section (R158, R126). -/
def shapeSection (c : Core) : List Byte :=
  (List.range 128).flatMap (fun i =>
    let t := tileOf c i
    toLE 1 i ++ toLE 1 t.fmt ++ toLE 2 t.rows ++ toLE 2 t.cols ++ toLE 2 (t.base / 64))

/-- The context record of a core (R158, R159, R222). -/
def ctxRecord (d : Device) (u : Nat) : List (Byte × Bool) :=
  let c := core d u
  let ts := savedTiles c
  let tiles := ts.flatMap (fun t =>
    let s := tileOf c t
    c.tile.readP s.base (tileBytes s) ++ clean (toLE (tileSection s - tileBytes s) 0))
  let accs := ([0, 1].filter (fun a => c.accUse.contains a)).flatMap (fun a => c.acc.readP (a * 65536) 65536)
  let body := scalarHead c ++ c.smem.readP 0 c.saveLen ++ clean (shapeSection c) ++ tiles ++ accs
  let flags := b2n (c.accUse.contains 0) + b2n (c.accUse.contains 1) * 2 + b2n (body.any Prod.snd) * 4
  clean (toLE 4 0x58544343 ++ toLE 2 0x100 ++ toLE 2 64 ++ toLE 4 (recordLen c) ++ toLE 1 (c.job.getD 0) ++ toLE 1 (d.plan.maps.logical (u / 48))
    ++ toLE 1 (d.plan.maps.slotOf u) ++ toLE 1 flags ++ toLE 4 d.plan.gen ++ toLE 4 (1024 + c.saveLen) ++ toLE 4 (tileDataLen c ts) ++ toLE 4 0
    ++ toLE 16 (ts.foldl (fun n t => n + 2 ^ t) 0) ++ toLE 16 0) ++ body

/-- Locations of R157 of the failing bytes that a save reads. -/
def saveFailing (c : Core) : List Nat :=
  (savedTiles c).flatMap (fun t => c.tile.failing (tileOf c t).base (tileBytes (tileOf c t)))
    ++ (([0, 1].filter (fun a => c.accUse.contains a)).flatMap (fun a => c.acc.failing (a * 65536) 65536)).map (fun a => 2 ^ 30 + a / 4 * 4)

/-- CTX_REGION, CTX_STRIDE and MICRO_OFF of a job (R469). -/
def ctxRegion (d : Device) (j : Nat) : Nat := leAt (job d j).desc 0x20 8
def ctxStride (d : Device) (j : Nat) : Nat := leAt (job d j).desc 0x28 4

/-- A save faults (R160, R482): the job is held and CMD_FAULT is sent for its PREEMPT. -/
def saveFault (d : Device) (j code : Nat) : Device :=
  let x := job d j
  let tag := match x.preempt with
    | some (_, t, _) => t
    | none => 0
  pushEv (setJob d j { x with st := 3, stuck := true })
    { type := 2, job := j, attempt := x.attempt, step := x.step, tag := tag, code := code }

/-- CONTEXT_SAVE (R158–R160, R191, R482): a core of a job that is being preempted, stopped at SAFEPT, at END or not running, is saved. -/
def contextSave (u : Nat) (d : Device) : Device :=
  let c := core d u
  match c.job with
  | none => d
  | some j =>
    let ready := c.st == .atSafept || c.st == .atEnd || c.st == .idle
    if (job d j).st != 4 || c.saved || !ready || !quietRec c then d
    else
      let c := { c with stop := if c.st == .atSafept then 0 else if c.st == .atEnd then 1 else 2 }
      let d := setCore d u c
      if ctxStride d j < recordLen c then saveFault d j 4
      else
        let rec_ := ctxRecord d u
        match unitWrite d j (ctxRegion d j + d.plan.maps.globalOf u * ctxStride d j) rec_ u with
        | .error (code, d) => saveFault d j code
        | .ok d =>
          let d := setCore d u { core d u with saved := true }
          let d := setJob d j { job d j with saved := nins (job d j).saved (d.plan.maps.globalOf u) }
          tilePoison (coreParity d u (saveFailing c)) u (rec_.any Prod.snd)

def execContextSave (u : Nat) (s : State) : Host.Outcome State Fault Refusal := run (.contextSave u) (contextSave u) s

/-! ### Restoring (R161, R162, R223) -/

/-- A restore's fault, with the detail that TILE_CFG_ERR records. -/
structure RestoreErr where
  code : Nat
  detail : Option Nat
  deriving DecidableEq, Repr, Inhabited

def headerErr : RestoreErr := ⟨4, some (cfgErrWord ⟨0xFF, 8, none, 4⟩ true)⟩

/-- The reserved fields of a record's header and scalar section (R159, R222). -/
def ctxResv (h s : List Byte) : Bool :=
  16 ≤ leAt h 0xC 1 || 8 ≤ leAt h 0xF 1 || leAt h 0x1C 4 != 0 || !allZero ((h.take 64).drop 0x30)
  || 2 < leAt s 0x104 4 || leAt s 0x10C 4 != 0 || leAt s 0x108 4 % 64 != 0 || 32768 < leAt s 0x108 4
  || (List.range 8).any (fun k => let e := leAt s (0x110 + 8 * k) 8; fld e 7 1 != 0 || fld e 63 48 != 0)
  || (List.range 15).any (fun g => 2 ^ 15 ≤ leAt s (0x150 + 16 * g) 8 || 2 ^ 48 ≤ leAt s (0x158 + 16 * g) 8)
  || !allZero ((s.take 1024).drop 0x240)

/-- The checks of R161 on a whole record: the new shapes and the tiles it carries. The TILE field of a shape entry names its tile, and an INUSE bit of an
unconfigured tile is recorded with reason 8 and the tile's number (DESIGN CHOICE, notes/assumptions/78.md). -/
def ctxCheck (region : Nat) (b : List Byte) : Except RestoreErr (Tab Tile × List Nat) :=
  let s := b.drop 64
  let save := leAt s 0x108 4
  let shapes := b.drop (64 + leAt b 0x14 4)
  let es := (List.range 128).map (fun i => shapeEnt ((shapes.drop (8 * i)).take 8))
  if leAt b 0 4 != 0x58544343 || leAt b 4 2 != 0x100 || leAt b 6 2 != 64 || ctxResv b s || region < leAt b 8 4
      || leAt b 0x14 4 != 1024 + save || leAt b 8 4 < 64 + leAt b 0x14 4 + 1024 then .error headerErr
  else
    match checkTable [] true es with
    | some e => .error ⟨e.code, some (cfgErrWord e true)⟩
    | none =>
      let new := afterTable [] true es
      let ts := (List.range 128).filter (bit (leAt b 0x20 16))
      match ts.find? (fun t => (tget ({} : Tile) new t).rows == 0) with
      | some t => .error ⟨2, some (cfgErrWord ⟨t, 8, none, 2⟩ true)⟩
      | none =>
        let data := ts.foldl (fun n t => n + tileSection (tget {} new t)) 0
        let flags := leAt b 0xF 1
        if leAt b 0x18 4 != data || leAt b 8 4 != 64 + 1024 + save + 1024 + data + (b2n (bit flags 0) + b2n (bit flags 1)) * 65536 then
          .error headerErr
        else .ok (new, ts)

/-- Bytes of a row of a tile that hold elements or scales; the rest of the stride is padding (R122, R123). -/
def rowData (t : Tile) : Nat := if isMx t.fmt then t.cols / 32 * (mxBytes t.fmt + 1) else t.cols * (elemBits t.fmt / 8)

/-- The tile data of a record written to the tiles it carries (R162); padding is never written (R123). -/
def putTiles (new : Tab Tile) : List Nat → List (Byte × Bool) → Mem → Mem
  | [], _, m => m
  | t :: ts, bs, m =>
    let s := tget {} new t
    let rows := (List.range s.rows).foldl (fun m r => m.writeP (tileRow s r) ((bs.drop (r * tileStride s)).take (rowData s))) m
    putTiles new ts (bs.drop (tileSection s)) rows

/-- A record applied to a core that its image has just loaded (R162, R222). Slots and gates follow. -/
def applyRecord (c : Core) (new : Tab Tile) (ts : List Nat) (b : List (Byte × Bool)) : Core :=
  let bytes := b.map Prod.fst
  let s := bytes.drop 64
  let sp := b.drop 64
  let save := leAt s 0x108 4
  let data := b.drop (64 + 1024 + save + 1024)
  let accs := data.drop (leAt bytes 0x18 4)
  let flags := leAt bytes 0xF 1
  let a0 := if bit flags 0 then Mem.writeP {} 0 (accs.take 65536) else {}
  let acc := if bit flags 1 then a0.writeP 65536 ((if bit flags 0 then accs.drop 65536 else accs).take 65536) else a0
  let rest := c.smem.cut save 32768
  let low := memOfP ((sp.drop 1024).take save)
  { c with
    x := (List.range 31).map (fun i => (i + 1, BitVec.ofNat 64 (leAt s (8 * (i + 1)) 8)))
    xups := []
    xbad := (List.range 31).filterMap (fun i => if ((sp.drop (8 * (i + 1))).take 8).any Prod.snd then some (i + 1) else none)
    pc := leAt s 0x100 4, stop := leAt s 0x104 4, smem := { cells := low.cells ++ rest.cells, bad := low.bad ++ rest.bad, ups := rest.ups }
    saveLen := save, tiles := new, tile := putTiles new ts data {}, inUse := ts, acc := acc
    accUse := [0, 1].filter (bit flags) }

/-- Slots that FTLD loaded reload from their recorded image addresses (R208, R222, R205); the others stay as the image sets them (DEDUCED,
notes/assumptions/40.md). -/
def restoreSlots (d : Device) (j u : Nat) (s : List Byte) : List Nat → Core → Except (Nat × Device) (Core × Device)
  | [], c => .ok (c, d)
  | k :: ks, c =>
    let e := leAt s (0x110 + 8 * k) 8
    if e % 2 == 0 then restoreSlots d j u s ks c
    else
      let a := fld e 47 8 * 256
      match unitRead d j a 6208 u with
      | .error f => .error f
      | .ok (b, d) =>
        if b.any Prod.snd then .error (10, poisonSeen d (corePage u) (some j))
        else if !slotHeaderOk (b.map Prod.fst) then .error (4, d)
        else restoreSlots d j u s ks { c with slots := tset c.slots k ⟨some a, b.map Prod.fst⟩ }

/-- Gates bound by the record start their waits (R181, R220, R222, R341). -/
def restoreGates (d : Device) (u : Nat) (s : List Byte) : Device :=
  (List.range 15).foldl (fun d g =>
    let e := leAt s (0x150 + 16 * g) 8
    if !bit e 14 then d
    else
      let r := startWait d u (g + 1) (e % 8192) (leAt s (0x158 + 16 * g) 8) (bit e 13)
      let c := core r.2 u
      setCore r.2 u { c with gates := tset c.gates (g + 1) r.1 }) d

/-- A restore of core `u` for job `j` from a record at `a` in a region of `len` bytes (R161, R162, R223): the image is reloaded first. The
core then continues as it was stopped. On a fault the core stays as it is, and TILE_CFG_ERR is written for a check of the record. (DEDUCED, notes/assumptions/42.md.) -/
def restoreCore (d : Device) (u j img a len : Nat) : Except (Nat × Device) Device :=
  match readImage d j img with
  | .error e => .error e
  | .ok (im, d) =>
    match unitRead d j a (min 64 len) u with
    | .error e => .error e
    | .ok (h, d) =>
      let n := min len (leAt (h.map Prod.fst) 8 4)
      match unitRead d j a n u with
      | .error e => .error e
      | .ok (b, d) =>
        let bytes := b.map Prod.fst
        let shapeAt := 64 + leAt bytes 0x14 4
        if (b.take 64).any Prod.snd || ((b.drop 320).take 768).any Prod.snd || ((b.drop shapeAt).take 1024).any Prod.snd then
          .error (10, poisonSeen d (corePage u) (some j))
        else
          match ctxCheck len bytes with
          | .error e => .error (e.code, match e.detail with
            | some w => setR d (corePage u + 0x684) w
            | none => d)
          | .ok (new, ts) =>
            let c := applyRecord (loadCore (core d u) j img im false) new ts b
            match restoreSlots d j u (bytes.drop 64) (List.range 8) c with
            | .error e => .error e
            | .ok (c, d) =>
              let c := { c with st := if c.stop == 0 then .running else if c.stop == 1 then .atEnd else .idle }
              let d := settleWatch (dropMonitors (setCore d u c) u) (u / 48)
              let d := restoreGates d u (bytes.drop 64)
              .ok (tilePoison d u (b.any Prod.snd))

/-- CONTEXT_RESTORE (R161, R162): a record applied to a core that is not running, for the job whose image it holds. -/
def contextRestore (u a len : Nat) (d : Device) : Device :=
  let c := core d u
  match c.job with
  | none => d
  | some j =>
    if c.st == .running || c.st == .swait || c.st == .tcfg1 || !quietCtx c then d
    else
      match restoreCore d u j c.imgAddr a len with
      | .ok d => d
      | .error (code, d) => recordErr d (corePage u) code a

def execContextRestore (u a len : Nat) (s : State) : Host.Outcome State Fault Refusal := run (.contextRestore u a len) (contextRestore u a len) s

end Sys2Proof.Machine
end

