-- ==== Sys2Proof/Machine/Update.lean ====
section
/-!
DEFINITION. The parameter update engines: contexts, coefficient sets and parameter tables (R434–R441), the statistics pass (R442–R444), the
grant and the step size (R445–R450), the apply pass with its mirrors (R430–R433, R447, R451, R452). Sums are kept by row and column, since
the spec gives no layout of the STATS partition (DESIGN CHOICE, notes/assumptions/14.md).
-/
namespace Sys2Proof.Machine

/-- A HI write of a pair commits with the LO half held for its source, or with the pair's own LO (R593). `off` is the LO half's offset. (DEDUCED, notes/assumptions/70.md.) -/
def commitPair (d : Device) (src off mlo mhi hi : Nat) : Device :=
  let h := hdr d (off / 0x1000)
  match h.hold.find? (fun e => e.1 == src && e.2.off == off) with
  | some (_, x) =>
    setR (setR (setHdr d (off / 0x1000) { h with hold := tdrop (· == src) h.hold }) off (x.lo.toNat &&& mlo)) (off + 4) (hi &&& mhi)
  | none => setR d (off + 4) (hi &&& mhi)

/-! ### Coefficient sets (R434, R435) and parameters (R436) -/

def cMode (c : List Byte) : Nat := leAt c 0 4
def cFirst (c : List Byte) : Bool := bit (cMode c) 0
def cSecond (c : List Byte) : Nat := fld (cMode c) 2 1
def cSign (c : List Byte) : Bool := bit (cMode c) 3
/-- The coefficient at an offset of a set. -/
def cAt (c : List Byte) (off : Nat) : Num := ofF32 (leAt c off 4)

/-- A valid coefficient set (R435). -/
def coefOk (c : List Byte) : Bool :=
  cMode c < 32 && allZero ((c.take 16).drop 4) && allZero ((c.take 80).drop 0x38) && cSecond c != 3
  && (List.range 9).all (fun k => (cAt c (0x10 + 4 * k)).isFinite) && smoothOk (leAt c 0x2C 4)
  && !(cAt c 0x34).isNan && !(cAt c 0x34).isZero && !(cAt c 0x34).negative

def pFrozen (p : List Byte) : Bool := bit (leAt p 0 1) 0
def pFloor (p : List Byte) : Bool := bit (leAt p 0 1) 1
def pMirror (p : List Byte) : Bool := bit (leAt p 0 1) 2
def pCoef (p : List Byte) : Nat := leAt p 1 1
def pFmt (p : List Byte) : Nat := leAt p 2 1 % 16
def pMfmt (p : List Byte) : Nat := leAt p 2 1 / 16
def pBucket (p : List Byte) : Nat := leAt p 4 2
def pElem (p : List Byte) : Nat := leAt p 8 4
def pRows (p : List Byte) : Nat := leAt p 0xC 4
def pCols (p : List Byte) : Nat := leAt p 0x10 4
def pM (p : List Byte) : Nat := leAt p 0x18 8
def pV (p : List Byte) : Nat := leAt p 0x20 8
def pOff (p : List Byte) : Nat := leAt p 0x28 8
/-- Elements of a parameter. -/
def pLen (p : List Byte) : Nat := pRows p * pCols p

/-- A reserved field of an entry is not zero. -/
def pResv (p : List Byte) : Bool :=
  8 ≤ leAt p 0 1 || leAt p 3 1 != 0 || leAt p 6 2 != 0 || leAt p 0x14 4 != 0 || 2 ^ 48 ≤ pM p || 2 ^ 48 ≤ pV p || !allZero ((p.take 64).drop 0x30)
  || 256 ≤ pBucket p

/-- The checks of R437 on one entry, after the entries before it: the fault. `last` is the key of the entry before, `used` the blocks taken in
the entry's bucket. -/
def paramCheck (c : Ctx) (ncoef : Nat) (last used : Nat) (p : List Byte) : Option Nat :=
  let key := pBucket p * 2 ^ 32 + pElem p
  if pResv p || key < last then some 4
  else if pFrozen p then none
  else if pElem p / 32 < used then some 4
  else if pElem p % 32 != 0 || pRows p == 0 || pCols p == 0 then some 4
  else if ncoef ≤ pCoef p || c.nb ≤ pBucket p then some 4
  else if eBlocks (c.entry (pBucket p)) * 32 < pElem p + pLen p then some 4
  else if pFmt p != c.wfmt || 1 < pMfmt p then some 3
  else if pM p % 64 != 0 || pV p % 64 != 0 || pOff p % 2097152 != 0 then some 4
  else none

/-- The checks of R437 on a table: the number of the first entry that fails, and its fault. -/
def tableCheck (c : Ctx) (ncoef : Nat) : Nat → Nat → Nat → List (List Byte) → Option (Nat × Nat)
  | _, _, _, [] => none
  | n, last, used, p :: ps =>
    let key := pBucket p * 2 ^ 32 + pElem p
    let used := if last / 2 ^ 32 == pBucket p then used else 0
    match paramCheck c ncoef last used p with
    | some f => some (n, f)
    | none => tableCheck c ncoef (n + 1) key (if pFrozen p then used else ceilDiv (pElem p + pLen p) 32) ps

/-! ### Contexts (R439, R440) -/

def uctxOf (d : Device) (j : Nat) : Option UCtx := (d.uctx.find? (fun e => e.1 == j)).map Prod.snd
def setUctx (d : Device) (j : Nat) (u : UCtx) : Device := { d with uctx := tset d.uctx j u }
def UCtx.rjid (u : UCtx) : Nat := leAt u.desc 7 1
def UCtx.nparam (u : UCtx) : Nat := leAt u.desc 8 4
def UCtx.ncoef (u : UCtx) : Nat := leAt u.desc 0xC 1
def UCtx.paramAt (u : UCtx) : Nat := leAt u.desc 0x10 8
def UCtx.coefAt (u : UCtx) : Nat := leAt u.desc 0x18 8

/-- Records of `sz` bytes cut from a run of bytes. -/
def records (sz n : Nat) (b : List Byte) : List (List Byte) := (List.range n).map (fun k => (b.drop (sz * k)).take sz)

/-- Why the coefficient sets and the table of a job cannot be used: the fault, and the address of the entry. -/
structure UFail where
  code : Nat
  at_ : Nat
  deriving DecidableEq, Repr, Inhabited

/-- A read for a job's update context, inside the job's 48-bit space (R16, R17); poison is recorded (R440, R554). -/
def uread (d : Device) (j a n : Nat) : Except (UFail × Device) (List Byte × Device) :=
  if n == 0 then .ok ([], d)
  else if 2 ^ 48 < a + n then .error (⟨4, a⟩, d)
  else
    match unitRead d j a n 0xFFFF with
    | .error (f, d) => .error (⟨f, a⟩, d)
    | .ok (b, d) => if b.any Prod.snd then .error (⟨10, a⟩, poisonSeen d (seqPage 4) none) else .ok (b.map Prod.fst, d)

/-- The coefficient sets and the whole parameter table are read and checked (R435, R437, R438). -/
def ulatch (d : Device) (j : Nat) (c : Ctx) (u : UCtx) : Except (UFail × Device) (UCtx × Device) :=
  match uread d j u.coefAt (80 * u.ncoef) with
  | .error e => .error e
  | .ok (cb, d) =>
    let cs := records 80 u.ncoef cb
    match lfind (fun k => !coefOk k) cs with
    | some k => .error (⟨4, u.coefAt + 80 * k⟩, d)
    | none =>
      match uread d j u.paramAt (64 * u.nparam) with
      | .error e => .error e
      | .ok (pb, d) =>
        let ps := records 64 u.nparam pb
        match tableCheck c u.ncoef 0 0 0 ps with
        | some (n, f) => .error (⟨f, u.paramAt + 64 * n⟩, d)
        | none => .ok ({ u with coefs := cs, table := ps }, d)

/-- The parts of a bucket on which slabs of a parameter can fall. -/
def slabParts (e p : List Byte) : List Nat :=
  let lo := pElem p / 32 / ePart e
  let hi := (pElem p + pLen p - 1) / 32 / ePart e
  (List.range (hi + 1 - lo)).map (· + lo)

/-- A factored parameter's need exceeds the STATS partition of a hall on which its slabs can fall (R440, R444). -/
def statsShort (d : Device) (j : Nat) (c : Ctx) (u : UCtx) : Bool :=
  u.table.any (fun p => !pFrozen p && cSecond (u.coefs.getD (pCoef p) []) == 1
    && (let e := c.entry (pBucket p)
        (slabParts e p).any (fun q => match d.plan.maps.physical (eHall e + q) with
          | none => true
          | some h => statsUnits d h j * 65536 < 4 * (pRows p + min (pCols p) 128))))

/-- UCTX_RESULT. -/
def uctxResult (d : Device) (j : Nat) (code : Option Nat) : Device :=
  setR d (updWin j + 0x0C) (match code with
    | none => 0
    | some c => 2 + c * 65536)

/-- A reserved or wrong field of a descriptor (R439, R440); the address of an empty table is not checked (R15). -/
def uctxBad (b : List Byte) : Bool :=
  leAt b 0 4 != 0x58445055 || leAt b 4 2 != 0x100 || 16 ≤ leAt b 6 1 || 64 ≤ leAt b 7 1 || 1048576 < leAt b 8 4 || leAt b 0xC 1 == 0
  || 16 < leAt b 0xC 1 || leAt b 0xD 3 != 0 || 2 ^ 48 ≤ leAt b 0x10 8 || (leAt b 8 4 != 0 && leAt b 0x10 8 % 64 != 0) || 2 ^ 48 ≤ leAt b 0x18 8
  || leAt b 0x18 8 % 16 != 0 || !allZero ((b.take 64).drop 0x20)

/-- UCTX_LOAD (R440). -/
def uctxLoad (j : Nat) (d : Device) : Device :=
  match uread d j (get64 d (updWin j)) 64 with
  | .error (f, d) => uctxResult d j (some f.code)
  | .ok (b, d) =>
    if uctxBad b then uctxResult d j (some 4)
    else
      let u : UCtx := { desc := b }
      match (ctxOf d u.rjid).filter (fun c => c.job == j) with
      | none => uctxResult d j (some 14)
      | some c =>
        if leAt b 6 1 != j || (job d j).phase != 0 then uctxResult d j (some 14)
        else
          match ulatch d j c u with
          | .error (f, d) => uctxResult d j (some f.code)
          | .ok (u, d) => if statsShort d j c u then uctxResult d j (some 14) else uctxResult (setUctx d j u) j none

def execUctxLoad (j : Nat) (s : State) : Host.Outcome State Fault Refusal := run (.uctxLoad j) (uctxLoad j) s

/-- A job's update context leaves the engines. -/
def dropUctx (d : Device) (j : Nat) : Device := { d with uctx := tdrop (· == j) d.uctx }

/-- UCTX_UNLOAD (R440). -/
def uctxUnload (j : Nat) (d : Device) : Device :=
  if (job d j).phase != 0 then uctxResult d j (some 14) else uctxResult (dropUctx d j) j none

def execUctxUnload (j : Nat) (s : State) : Host.Outcome State Fault Refusal := run (.uctxUnload j) (uctxUnload j) s

/-- UCTX_CMD_RESERVED (R440): OP 3. -/
def uctxCmdReserved (j : Nat) (d : Device) : Device := uctxResult d j (some 4)
def execUctxCmdReserved (j : Nat) (s : State) : Host.Outcome State Fault Refusal := run (.uctxCmdReserved j) (uctxCmdReserved j) s

/-- Step start (R435, R438): the sets and the table are latched, or the address and fault of what fails (DEDUCED, notes/assumptions/46.md). A repeat of the
step runs on what its start latched, and on nothing that the abandoned attempt formed (R453). -/
def updateStart (d : Device) (j : Nat) : Except (UFail × Device) Device :=
  match uctxOf d j with
  | none => .ok d
  | some u =>
    if (job d j).latched then .ok (setUctx d j { desc := u.desc, coefs := u.coefs, table := u.table, coloc := u.coloc })
    else
    match ctxOf d u.rjid with
    | none => .ok (setUctx d j { desc := u.desc, coefs := u.coefs, table := u.table })
    | some c =>
      match ulatch d j c { desc := u.desc } with
      | .error e => .error e
      | .ok (u, d) => .ok (setUctx d j u)

/-- Engines that hold job `j`'s context: those of the active halls. -/
def engines (d : Device) : List Nat := (List.range 18).filter (fun h => d.plan.maps.logical h != 0xFF)

/-- Engines that skip a step's update count it (R453). (DEDUCED, notes/assumptions/45.md.) -/
def updateSkip (d : Device) (j : Nat) : Device :=
  if (uctxOf d j).isNone then d
  else (engines d).foldl (fun d h => setEvt (bump d (updPage h + 0x120) 1) (updPage h) 16) d

/-! ### Slabs (R441) -/

/-- A slab: parameter number, entry, coefficient set, its elements of the bucket, and the engine's hall. -/
structure Slab where
  k : Nat
  p : List Byte
  c : List Byte
  lo : Nat
  hi : Nat
  hall : Nat
  deriving DecidableEq, Repr, Inhabited

/-- The slabs of a bucket, in ascending parameter order. -/
def slabs (d : Device) (c : Ctx) (u : UCtx) (n : Nat) : List Slab :=
  let e := c.entry n
  ((List.range u.table.length).zip u.table).filterMap (fun kp =>
    let p := kp.2
    let lo := max (shardLo c e c.pos * 32) (pElem p)
    let hi := min (shardHi c e c.pos * 32) (pElem p + pLen p)
    if pFrozen p || pBucket p != n || hi ≤ lo then none
    else (d.plan.maps.physical (eHall e + lo / 32 / ePart e)).map (fun h => ⟨kp.1, p, u.coefs.getD (pCoef p) [], lo, hi, h⟩))

/-- An element of job memory in a format without a scale. -/
def memEl (f : Nat) (bs : List (Byte × Bool)) (i : Nat) : El :=
  let w := elemBits f / 8
  let b := (bs.drop (i * w)).take w
  mkEl (elemVal f (ofLE (b.map Prod.fst))) (b.any Prod.snd)

/-- The reduced gradients of elements `lo` to `hi` − 1 of a bucket, expanded to F32 (R401, R430). -/
def gradients (d : Device) (c : Ctx) (e : List Byte) (lo hi : Nat) : Except (Nat × Device) (List El × Device) :=
  if isMx c.gfmt then
    let n := gBytes c.gfmt
    let b0 := lo / 32
    let nb := ceilDiv hi 32 - b0
    match unitRead d c.job (eG e + b0 * n) (nb * n) 0xFFFF with
    | .error x => .error x
    | .ok (bs, d) =>
      match unitRead d c.job (eG e + eBlocks e * n + b0) nb 0xFFFF with
      | .error x => .error x
      | .ok (ss, d) =>
        let one (i : Nat) : El :=
          let k := i / 32 - b0
          let blk := (bs.drop (k * n)).take n
          let s := ss.getD k (0, false)
          let m : Mem := Mem.ofBytes (blk.map Prod.fst)
          let w := elemBits c.gfmt
          let at_ := w * (i % 32) / 8
          let code := (m.num at_ 2 >>> (w * (i % 32) - 8 * at_)) % 2 ^ w
          let bytes := (blk.drop at_).take ((w * (i % 32) + w - 1) / 8 - at_ + 1)
          mkEl (rF32 (mxVal c.gfmt code s.1.toNat)) (s.2 || bytes.any Prod.snd)
        .ok ((List.range (hi - lo)).map (fun k => one (lo + k)), d)
  else
    let w := elemBits c.gfmt / 8
    match unitRead d c.job (eG e + lo * w) ((hi - lo) * w) 0xFFFF with
    | .error x => .error x
    | .ok (bs, d) => .ok ((List.range (hi - lo)).map (fun k => let x := memEl c.gfmt bs k; mkEl (rF32 x.num) x.bad), d)

/-- Operations on elements with poison (R553). -/
def elOp (f : Num → Num → Num) (a b : El) : El := mkEl (f a.num b.num) (a.bad || b.bad)
def elAdd (a b : El) : El := elOp fAdd a b
def elMul (a b : El) : El := elOp fMul a b
def elDiv (a b : El) : El := elOp fDiv a b
def elNat (n : Nat) : El := { v := some (.fin false n 0) }

/-! ### The statistics pass (R442, R444) -/

/-- One gradient is added to the sums of its row and column (R442). -/
def addSquare (cols i : Nat) (g : El) (s : Sums) : Sums :=
  let q := elMul g g
  let r := i / cols
  let k := i % cols
  { rows := tset s.rows r (match s.rows.find? (fun e => e.1 == r) with
      | some e => elAdd e.2 q
      | none => q)
    cols := tset s.cols k (match s.cols.find? (fun e => e.1 == k) with
      | some e => elAdd e.2 q
      | none => q) }

/-- The sums of a slab, in ascending element order. -/
def slabSums (cols : Nat) : Nat → List El → Sums → Sums
  | _, [], s => s
  | i, g :: gs, s => slabSums cols (i + 1) gs (addSquare cols i g s)

/-- Extra passes over the columns of a slab whose accumulators exceed STATS (R444). -/
def rereads (cap : Nat) (s : Sums) : Nat :=
  let chunk := (cap / 4 - s.rows.length) / 128 * 128
  if 4 * (s.rows.length + s.cols.length) ≤ cap || chunk == 0 then 0 else ceilDiv s.cols.length chunk - 1

/-! The sums lie in the STATS partition one slab after the other, F32 row sums before column sums, as far as they fit; what does not fit stays with the
engine (DESIGN CHOICE, notes/assumptions/14.md). -/

/-- The sums of a slab in the order in which they lie, and the bytes that they take. -/
def Sums.els (m : Sums) : List El := (m.rows ++ m.cols).map Prod.snd
def Sums.size (m : Sums) : Nat := 4 * (m.rows.length + m.cols.length)

/-- The sums with other values. -/
def Sums.withEls (m : Sums) (xs : List El) : Sums :=
  let put (t : Tab El) (xs : List El) : Tab El := (t.zip xs).map (fun p => (p.1.1, p.2))
  { m with rows := put m.rows xs, cols := put m.cols (xs.drop m.rows.length) }

/-- Where the next slab's sums begin in the STATS partition of hall `h`. -/
def statsFree (d : Device) (h j : Nat) (u : UCtx) : Nat :=
  u.sums.foldl (fun a e => match e.2.at_ with
    | some p => if p.1 == h then max a (p.2 + e.2.size) else a
    | none => a) (statsBase d h j)

/-- The sums of slab `k` are put into the STATS partition of hall `h`. -/
def putSums (d : Device) (h j k : Nat) (u : UCtx) (m : Sums) : Device :=
  let a := statsFree d h j u
  if statsBase d h j + statsUnits d h j * 65536 < a + m.size then setUctx d j { u with sums := tset u.sums k m }
  else
    let bs := m.els.flatMap (fun e => (toLE 4 (toF32 e.num)).map (fun b => (b, e.bad)))
    setUctx (setHmem d h ((hmem d h).writeP a bs)) j { u with sums := tset u.sums k { m with at_ := some (h, a) } }

/-- The sums of a slab as the engine reads them: failing parity in the partition poisons them (R272, R279). -/
def getSums (d : Device) (m : Sums) : Sums × Device :=
  match m.at_ with
  | none => (m, d)
  | some (h, a) => (m.withEls (elsAt (hmem d h) 0 0 a 0 (m.size / 4)), hallParity d h a m.size)

/-- A read of w or g returns poison (R452, R554): PARITY in the UPD page, and the attempt is tainted. -/
def engineParity (d : Device) (h j : Nat) (bad : Bool) : Device := if bad then taint (recordErr d (updPage h) 9 0) j 0 9 else d

/-- The further reads of g, one for each chunk of columns after the first (R444). -/
def chunkReads (c : Ctx) (e : List Byte) (s : Slab) : Nat → Device → Device
  | 0, d => d
  | n + 1, d => chunkReads c e s n (match gradients d c e s.lo s.hi with
    | .ok x => x.2
    | .error x => x.2)

/-- An access of an engine faults (R292): XFAULT is recorded, the slab stays unwritten, and an UPDATE event reports it
(DESIGN CHOICE, notes/assumptions/14.md). -/
def slabFault (d : Device) (j code : Nat) : Device := causeEv d j 0x80 code 0

/-- The statistics of one slab. -/
def slabStats (j n : Nat) (c : Ctx) (d : Device) (s : Slab) : Device :=
  if cSecond s.c != 1 then d
  else
    match gradients d c (c.entry n) s.lo s.hi with
    | .error (f, d) => slabFault d j f
    | .ok (gs, d) =>
      let m := slabSums (pCols s.p) (s.lo - pElem s.p) gs {}
      let more := rereads (statsUnits d s.hall j * 65536) m
      let d := chunkReads c (c.entry n) s more (engineParity d s.hall j (gs.any El.bad))
      let d := bump d (updPage s.hall + 0x118) more
      match uctxOf d j with
      | none => d
      | some u => putSums d s.hall j s.k u m

/-- A bucket of the attempt whose DONE_SIG has been arrived at (R423). -/
def bucketDone (d : Device) (j n : Nat) : Option (UCtx × Ctx) :=
  match uctxOf d j with
  | none => none
  | some u =>
    match ctxOf d u.rjid with
    | none => none
    | some c => if (job d j).phase != 0 && n < c.nb && (bkt c n).done then some (u, c) else none

/-- Slabs of a bucket in a hall, and the factored among them (R432, R441). -/
def hallSlabs (d : Device) (c : Ctx) (u : UCtx) (h n : Nat) : List Slab := (slabs d c u n).filter (fun s => s.hall == h)
def hallFactored (d : Device) (c : Ctx) (u : UCtx) (h n : Nat) : List Slab := (hallSlabs d c u h n).filter (fun s => cSecond s.c == 1)

/-- The first bucket whose reduction is done and whose statistics pass has not ended on the engine of hall `h` (R442). -/
def statsLeft (d : Device) (j h : Nat) : Option Nat :=
  match uctxOf d j with
  | none => none
  | some u => match ctxOf d u.rjid with
    | none => none
    | some c => (List.range c.nb).find? (fun n => (bucketDone d j n).isSome && !u.stats.contains n && !(hallFactored d c u h n).isEmpty)

/-- An engine that has slabs in the attempt has its statistics done (R445): every bucket of its slabs is reduced, and has passed its statistics where a
slab of it is factored. (DEDUCED, notes/assumptions/88.md.) -/
def statsDone (d : Device) (j h : Nat) : Bool :=
  match uctxOf d j with
  | none => false
  | some u => match ctxOf d u.rjid with
    | none => false
    | some c =>
      let ns := (List.range c.nb).filter (fun n => !(hallSlabs d c u h n).isEmpty)
      !ns.isEmpty && ns.all (fun n => (bucketDone d j n).isSome && (u.stats.contains n || (hallFactored d c u h n).isEmpty))

/-- The job whose engine of hall `h` has its statistics done and no grant yet (R445). -/
def grantWaiter (d : Device) (h : Nat) : Option Nat :=
  (tkeys d.uctx).find? (fun j => (job d j).phase != 0 && (job d j).phase < 5 && statsDone d j h)

/-- STATS_PASS (R442): every factored slab of a bucket. -/
def statsPass (j n : Nat) (d : Device) : Device :=
  match bucketDone d j n with
  | none => d
  | some (u, c) =>
    if u.stats.contains n then d
    else
      let d := (slabs d c u n).foldl (slabStats j n c) d
      match uctxOf d j with
      | none => d
      | some u => setUctx d j { u with stats := nins u.stats n }

def execStatsPass (j n : Nat) (s : State) : Host.Outcome State Fault Refusal := run (.statsPass j n) (statsPass j n) s

/-! ### The grant and the step size (R445–R450) -/

/-- The norm record of a context holds the current step and attempt with NF clear: NORM, or none (R445). -/
def normAgrees (d : Device) (c : Ctx) (x : Job) : Option (Nat × Device) :=
  match unitRead d c.job c.normAddr 32 0xFFFF with
  | .error _ => none
  | .ok (b, d) =>
    let r := b.map Prod.fst
    if b.any Prod.snd || leAt r 8 4 != x.step || leAt r 0xD 1 != x.attempt || bit (leAt r 0xC 1) 0 then none else some (leAt r 4 4, d)

/-- A checkpoint has regions that are not yet read (R481). -/
def ckptHolds (x : Job) : Bool := x.ckpts.any (fun k => k.phase == 1 || k.phase == 2)

/-- Every Arcade context of the job has the record of the attempt (R445). -/
def normsAgree (d : Device) (x : Job) : List Nat → Option Device
  | [] => some d
  | r :: rs => match ctxOf d r with
    | none => normsAgree d x rs
    | some c => match normAgrees d c x with
      | none => none
      | some (_, d) => normsAgree d x rs

/-- APPLY_GRANT (R445, R481): after APPLY, with no taint, the norm record of the attempt and no checkpoint that reads. -/
def applyGrant (j : Nat) (d : Device) : Device :=
  let x := job d j
  if x.phase != 4 || !x.kept || x.taint != 0 || ckptHolds x || (x.st != 2 && x.st != 4) then d
  else
    match normsAgree d x (ctxsOf d j) with
    | none => d
    | some d =>
      let d := setJob d j { job d j with phase := 5 }
      match uctxOf d j with
      | none => d
      | some u =>
        match (ctxOf d u.rjid).bind (fun c => normAgrees d c x) with
        | none => d
        | some (v, _) => setUctx d j { u with norm := v }

def execApplyGrant (j : Nat) (s : State) : Host.Outcome State Fault Refusal := run (.applyGrant j) (applyGrant j) s

/-- ETA_LATCH (R449, R450): the engine of physical hall `h` takes η when the word of the step's parity carries its tag. (DEDUCED, notes/assumptions/44.md.) -/
def etaLatch (j h waited : Nat) (d : Device) : Device :=
  let x := job d j
  match uctxOf d j with
  | none => d
  | some u =>
    let k := x.step % 2
    let w := updWin j + 0x10 + 8 * k
    if x.phase == 0 || x.st == 5 || !(engines d).contains h || (tkeys u.etas).contains h || d.etaBad.contains (2 * j + k)
        || getR d (w + 4) != x.step then d
    else
      let v := getR d w
      let d := bump d (updPage h + 0x114) waited
      if (ofF32 v).isFinite then
        let u := { u with etas := tset u.etas h (BitVec.ofNat 32 v) }
        let d := setUctx d j u
        if (engines d).all (tkeys u.etas).contains then setR d (updWin j + 0x20) x.step else d
      else
        let d := causeEv { d with etaBad := nins d.etaBad (2 * j + k) } j 0x80 13 0
        let d := taint d j 7 13
        -- R450 sets the grant aside: nothing is applied, and the attempt waits for another verdict
        let x := job d j
        if x.phase == 5 then setJob d j { x with phase := 3, kept := false } else d

def execEtaLatch (j h waited : Nat) (s : State) : Host.Outcome State Fault Refusal := run (.etaLatch j h waited) (etaLatch j h waited) s

/-- ETA_WORD_WRITE (R448): the HI write commits η and its tag together. -/
def etaWordWrite (src j : Nat) (odd : Bool) (hi : Reg) (d : Device) : Device :=
  let d := commitPair d src (updWin j + 0x10 + 8 * b2n odd) 0xFFFFFFFF 0xFFFFFFFF hi.toNat
  { d with etaBad := ndel d.etaBad (2 * j + b2n odd) }

def execEtaWordWrite (src j : Nat) (odd : Bool) (hi : Reg) (s : State) : Host.Outcome State Fault Refusal :=
  run (.etaWordWrite src j odd hi) (etaWordWrite src j odd hi) s

/-! ### The apply pass (R430–R433, R443, R446, R447, R451, R452) -/

/-- A mirrored address: MIRROR_OFF is signed. -/
def mirrorOf (p : List Byte) (a : Nat) : Nat := (a + pOff p) % 2 ^ 64

/-- A read of engine state (R451): a sector with a poisoned byte is read from the mirror, when there is one, and counted. -/
def stateRead (d : Device) (j h : Nat) (p : List Byte) (a n : Nat) : Except (Nat × Device) (List (Byte × Bool) × Device) :=
  match unitRead d j a n 0xFFFF with
  | .error e => .error e
  | .ok (bs, d) =>
    if !pMirror p || !bs.any Prod.snd then .ok (bs, d)
    else
      (blocks a n 64).foldl (fun acc s => match acc with
        | .error e => .error e
        | .ok (bs, d) =>
          let lo := max a (s * 64)
          let len := min (a + n) (s * 64 + 64) - lo
          if !((bs.drop (lo - a)).take len).any Prod.snd then .ok (bs, d)
          else
            match unitRead d j (mirrorOf p lo) len 0xFFFF with
            | .error e => .error e
            | .ok (ms, d) => .ok (bs.take (lo - a) ++ ms ++ bs.drop (lo - a + len), bump d (updPage h + 0x124) 1)) (.ok (bs, d))

/-- The bytes of elements in a format, and how many are infinite or NaN (R433). -/
def encodeEls (f : Nat) (xs : List El) : List (Byte × Bool) × Nat :=
  (xs.flatMap (fun x => (toLE (elemBits f / 8) (elemEnc f x.num).1).map (fun b => (b, x.bad))),
   (xs.filter (fun x => !(elemVal f (elemEnc f x.num).1).isFinite)).length)

/-- A write of engine state at its own address and at its mirror. -/
def stateWrite (d : Device) (j h : Nat) (p : List Byte) (mirrored : Bool) (f a : Nat) (xs : List El) : Except (Nat × Device) Device :=
  if xs.isEmpty then .ok d
  else
    let b := encodeEls f xs
    match unitWrite d j a b.1 0xFFFF with
    | .error e => .error e
    | .ok d =>
      let d := bump d (updPage h + 0x11C) b.2
      if mirrored && pMirror p then unitWrite d j (mirrorOf p a) b.1 0xFFFF else .ok d

/-- The smallest positive normal value of a weight format (R433). -/
def floorOf (f : Nat) : Num :=
  match fltOf f with
  | some t => .fin false 1 (1 - t.bias)
  | none => Num.zero

/-- The clip factor of a coefficient set (R446). -/
def clipOf (c : List Byte) (norm : Nat) : Num :=
  let n := ofF32 norm
  if bit (cMode c) 4 || n.isZero || n.le (cAt c 0x34) then Num.one else fDiv (cAt c 0x34) n

/-- Values without poison. -/
def elOf (v : Num) : El := { v := some v }

/-- The results for one element: w′, m′, v′. -/
structure Applied where
  w : El
  m : El
  v : El
  deriving DecidableEq, Repr, Inhabited

/-- The recurrence of R430 for one element; `vh` is v̂ of the factored mode. (DEDUCED, notes/assumptions/19.md.) -/
def applyOne (c : List Byte) (floor : Option Num) (clip eta : Num) (g w m v vh : El) : Applied :=
  let k (o : Nat) : El := elOf (cAt c o)
  let g' := elMul (elOf clip) g
  let m' := if cFirst c then elAdd (elMul (k 0x10) m) (elMul (k 0x14) g') else elOf Num.zero
  let v' := elAdd (elMul (k 0x18) v) (elMul (elMul (k 0x1C) g') g')
  let vh := if cSecond c == 2 then v' else vh
  let n := elAdd (elAdd (elMul (k 0x20) m') (elMul (k 0x24) m)) (elMul (k 0x28) g')
  let dd := elAdd (mkEl (fSqrt vh.num) vh.bad) (k 0x2C)
  let sgn (x : Num) : Num := if x.isNan || x.isZero then x else if x.negative then Num.one.neg else Num.one
  let u := if cSign c then mkEl (sgn n.num) n.bad else elDiv n dd
  let t := elMul (elOf eta) (elAdd u (elMul (k 0x30) w))
  let w' := elOp fSub w t
  let w' := match floor with
    | some x => if w'.num.isFinite && w'.num.lt x then mkEl x w'.bad else w'
    | none => w'
  -- R451, R452: an element with a poisoned input is written poisoned in w′ and in its moments
  let bad := g.bad || w.bad || m.bad || v.bad || vh.bad
  ⟨mkEl w'.num bad, mkEl m'.num bad, mkEl v'.num bad⟩

/-- Whether a leaf page of the primary state lies in a stack with a page of its mirror (R452): the leaf's first page, and the answer. -/
def colocated (d : Device) (j : Nat) (p : List Byte) (page : Nat) : Nat × Bool :=
  match walk d j (page * 65536) with
  | .error _ => (page, false)
  | .ok w =>
    let big := w.leaf.up.isNone
    let first := if big then page / 32 * 32 else page
    let pages := if big then (List.range 32).map (· + first) else [page]
    (first, pages.any (fun q => match walk d j (mirrorOf p (q * 65536)) with
      | .error _ => false
      | .ok m => stackOf m.leaf.pa == stackOf w.leaf.pa))

/-- Leaf pages of a range that lie with their mirror are counted once a step by the engine that writes them, with one event of the engine a step
(R452). -/
def countColoc (d : Device) (j h : Nat) (p : List Byte) (a n : Nat) : Device :=
  if !pMirror p then d
  else
    (pagesOf a n).foldl (fun d q =>
      let r := colocated d j p q
      match uctxOf d j with
      | none => d
      | some u =>
        let seen := tget [] u.coloc h
        if !r.2 || seen.contains r.1 then d
        else
          let d := if seen.isEmpty then causeEv d j 0x80 0 a else d
          bump (setUctx d j { u with coloc := tset u.coloc h (nins seen r.1) }) (updPage h + 0x128) 1) d

/-- r′ and c′ of a factored slab, with mean(r′) (R443). -/
structure Factored where
  rows : Tab El := []
  cols : Tab El := []
  mean : El := {}
  deriving DecidableEq, Repr, Inhabited

/-- v̂ of an element in factored mode (R431, R432). -/
def Factored.vhat (f : Factored) (cols i : Nat) : El :=
  if f.mean.num.isZero && !f.mean.num.negative then mkEl Num.zero f.mean.bad
  else elDiv (elMul (tget {} f.rows (i / cols)) (tget {} f.cols (i % cols))) f.mean

/-- β2 × old + γ2 × ((s × sum) / n) (R443). -/
def factorOne (c : List Byte) (s : Num) (old sum : El) (n : Nat) : El :=
  elAdd (elMul (elOf (cAt c 0x18)) old) (elMul (elOf (cAt c 0x1C)) (elDiv (elMul (elOf s) sum) (elNat n)))

/-- Ascending rows or columns by the sector that holds their statistic. -/
def bySector (base : Nat) : List Nat → List (List Nat)
  | [] => []
  | i :: is => match bySector base is with
    | (k :: g) :: gs => if (base + 4 * i) / 64 == (base + 4 * k) / 64 then (i :: k :: g) :: gs else [i] :: (k :: g) :: gs
    | gs => [i] :: gs

/-- The old statistics of rows or columns, in F32, a sector at a time. -/
def statEls (d : Device) (j h : Nat) (p : List Byte) (base : Nat) : List (List Nat) → Except (Nat × Device) (List El × Device)
  | [] => .ok ([], d)
  | is :: rest =>
    let lo := is.headD 0
    match stateRead d j h p (base + 4 * lo) (4 * (is.getLastD lo - lo) + 4) with
    | .error e => .error e
    | .ok (b, d) =>
      match statEls d j h p base rest with
      | .error e => .error e
      | .ok (es, d) => .ok (is.map (fun i => memEl 0 b (i - lo)) ++ es, d)

/-- r′, c′ and their mean for a slab (R443). -/
def factored (d : Device) (j : Nat) (s : Slab) (clip : Num) (m : Sums) : Except (Nat × Device) (Factored × Device) :=
  let cols := pCols s.p
  let idx := (List.range (s.hi - s.lo)).map (· + (s.lo - pElem s.p))
  match statEls d j s.hall s.p (pV s.p) (bySector (pV s.p) (tkeys m.rows)) with
  | .error e => .error e
  | .ok (rs, d) =>
    let at_ := pV s.p + 4 * pRows s.p
    match statEls d j s.hall s.p at_ (bySector at_ (tkeys m.cols)) with
    | .error e => .error e
    | .ok (cs, d) =>
      let sq := fMul clip clip
      let row := (m.rows.zip rs).map (fun e => (e.1.1, factorOne s.c sq e.2 e.1.2 (idx.filter (fun i => i / cols == e.1.1)).length))
      let col := (m.cols.zip cs).map (fun e => (e.1.1, factorOne s.c sq e.2 e.1.2 (idx.filter (fun i => i % cols == e.1.1)).length))
      let total := match row with
        | [] => elOf Num.zero
        | r :: t => t.foldl (fun a e => elAdd a e.2) r.2
      .ok (⟨row, col, elDiv total (elNat row.length)⟩, d)

/-- The statistics of a slab written with their mirrors. -/
def writeStats (d : Device) (j : Nat) (s : Slab) (base : Nat) : Tab El → Except (Nat × Device) Device
  | [] => .ok d
  | e :: t =>
    match stateWrite d j s.hall s.p true 0 (base + 4 * e.1) [e.2] with
    | .error x => .error x
    | .ok d => writeStats d j s base t

/-- What an apply pass reads of a slab: w, g, m, v and the factored statistics. -/
structure SlabIn where
  w : List El
  g : List El
  m : List El
  v : List El
  f : Factored
  deriving DecidableEq, Repr, Inhabited

/-- The reads of a slab (R447). -/
def slabRead (d : Device) (j : Nat) (c : Ctx) (u : UCtx) (e : List Byte) (s : Slab) (clip : Num) : Except (Nat × Device) (SlabIn × Device) :=
  let n := s.hi - s.lo
  let b := elemBits (pMfmt s.p) / 8
  let off := s.lo - pElem s.p
  let els (f : Nat) (bs : List (Byte × Bool)) : List El := (List.range n).map (memEl f bs)
  match gradients d c e s.lo s.hi with
  | .error x => .error x
  | .ok (g, d) =>
    match unitRead d j (eW e + s.lo * c.wBytes) (n * c.wBytes) 0xFFFF with
    | .error x => .error x
    | .ok (w, d) =>
      match (if cFirst s.c then stateRead d j s.hall s.p (pM s.p + off * b) (n * b) else .ok ([], d)) with
      | .error x => .error x
      | .ok (m, d) =>
        match (if cSecond s.c == 2 then stateRead d j s.hall s.p (pV s.p + off * b) (n * b) else .ok ([], d)) with
        | .error x => .error x
        | .ok (v, d) =>
          let r : SlabIn := ⟨els c.wfmt w, g, if cFirst s.c then els (pMfmt s.p) m else [], if cSecond s.c == 2 then els (pMfmt s.p) v else [], {}⟩
          if cSecond s.c != 1 then .ok (r, d)
          else
            let m := getSums d (tget {} u.sums s.k)
            match factored m.2 j s clip m.1 with
            | .error x => .error x
            | .ok (f, d) => .ok ({ r with f := f }, d)

/-- What one slab's read of poison records (R451, R452, R554, R558). -/
def slabPoison (d : Device) (j : Nat) (s : Slab) (r : SlabIn) : Device :=
  let d := engineParity d s.hall j ((r.w ++ r.g).any El.bad)
  if (r.m ++ r.v ++ r.f.rows.map Prod.snd ++ r.f.cols.map Prod.snd).any El.bad then poisonSeen d (updPage s.hall) (some j) else d

/-- The writes of a slab (R433, R447, R451, R452). -/
def slabWrite (d : Device) (j : Nat) (c : Ctx) (e : List Byte) (s : Slab) (f : Factored) (out : List Applied) : Except (Nat × Device) Device :=
  let n := s.hi - s.lo
  let b := elemBits (pMfmt s.p) / 8
  let off := s.lo - pElem s.p
  let d := if cFirst s.c then countColoc d j s.hall s.p (pM s.p + off * b) (n * b) else d
  let d := if cSecond s.c == 2 then countColoc d j s.hall s.p (pV s.p + off * b) (n * b) else d
  let d := f.rows.foldl (fun d r => countColoc d j s.hall s.p (pV s.p + 4 * r.1) 4) d
  let d := f.cols.foldl (fun d k => countColoc d j s.hall s.p (pV s.p + 4 * pRows s.p + 4 * k.1) 4) d
  match stateWrite d j s.hall s.p false c.wfmt (eW e + s.lo * c.wBytes) (out.map Applied.w) with
  | .error x => .error x
  | .ok d =>
    match stateWrite d j s.hall s.p true (pMfmt s.p) (pM s.p + off * b) (if cFirst s.c then out.map Applied.m else []) with
    | .error x => .error x
    | .ok d =>
      match stateWrite d j s.hall s.p true (pMfmt s.p) (pV s.p + off * b) (if cSecond s.c == 2 then out.map Applied.v else []) with
      | .error x => .error x
      | .ok d =>
        match writeStats d j s (pV s.p) f.rows with
        | .error x => .error x
        | .ok d => writeStats d j s (pV s.p + 4 * pRows s.p) f.cols

/-- The apply pass of one slab. -/
def applySlab (j : Nat) (c : Ctx) (u : UCtx) (e : List Byte) (d : Device) (s : Slab) : Device :=
  let clip := clipOf s.c u.norm
  match slabRead d j c u e s clip with
  | .error (f, d) => slabFault d j f
  | .ok (r, d) =>
    let d := slabPoison d j s r
    let eta := ofF32 (tget 0 u.etas s.hall).toNat
    let floor := if pFloor s.p then some (floorOf (pFmt s.p)) else none
    let out := (List.range (s.hi - s.lo)).map (fun i =>
      applyOne s.c floor clip eta (r.g.getD i {}) (r.w.getD i {}) (r.m.getD i {}) (r.v.getD i {})
        (if cSecond s.c == 1 then r.f.vhat (pCols s.p) (s.lo - pElem s.p + i) else {}))
    match slabWrite d j c e s r.f out with
    | .error (f, d) => slabFault d j f
    | .ok d =>
      let d := bump64 d (updPage s.hall + 0x108) (s.hi - s.lo)
      if out.any (fun x => x.w.bad) then setJob d j { job d j with repair := true } else d

/-- APPLY_BUCKET (R447): within the grant, buckets in ascending order, each after its reduction and its statistics pass. -/
def applyBucket (j n : Nat) (d : Device) : Device :=
  match bucketDone d j n with
  | none => d
  | some (u, c) =>
    let ss := slabs d c u n
    let stats := u.stats.contains n || ss.all (fun s => cSecond s.c != 1)
    if (job d j).phase != 5 || u.next != n || !stats || !ss.all (fun s => (tkeys u.etas).contains s.hall) then d
    else
      let e := c.entry n
      let d := ss.foldl (applySlab j c u e) d
      match uctxOf d j with
      | none => d
      | some u => arriveUnit (setUctx d j { u with next := n + 1 }) j (eApplySig e) 1 none

def execApplyBucket (j n : Nat) (s : State) : Host.Outcome State Fault Refusal := run (.applyBucket j n) (applyBucket j n) s

/-- An apply pass of the job is running (R454). -/
def applying (d : Device) (j : Nat) : Bool :=
  (job d j).phase == 5 && (match uctxOf d j with
    | none => false
    | some u => match ctxOf d u.rjid with
      | none => false
      | some c => u.next < c.nb)

end Sys2Proof.Machine
end

