-- ==== Sys2Proof/Machine/Foyer.lean ====
section
/-!
DEFINITION. The Foyer port (R459–R468, R481, R485): packets, the arbitration of VC1, event records, command rings, batch reads and checkpoint
writes. The link itself is port 6, link 0 (Machine/Harlon.lean).
-/
namespace Sys2Proof.Machine

/-! ### Packets (R461) -/

def fVc (h : Nat) : Nat := fld h 5 4
def fSpace (h : Nat) : Nat := fld h 21 20
def fTag (h : Nat) : Nat := fld h 33 22
def fAddr (h : Nat) : Nat := fld h 127 64

def mkFoyer (type vc job len space tag addr : Nat) : Nat :=
  type + vc * 2 ^ 4 + job * 2 ^ 6 + len * 2 ^ 10 + space * 2 ^ 20 + tag * 2 ^ 22 + addr * 2 ^ 64

/-- A malformed packet of the control node (R461): a reserved field, a type that is none, a length out of range, or a 4 KiB boundary crossed. -/
def foyerBad (h : Nat) : Bool :=
  fld h 63 34 != 0 ||
  match hType h with  -- TYPE 0 with another bit set is no NULL unit (R350; DEDUCED, notes/assumptions/83.md)
  | 1 => hLen h == 0 || 512 < hLen h || fSpace h == 3 || 4096 < fAddr h % 4096 + hLen h
  | 2 => hLen h == 0 || 512 < hLen h || fSpace h == 3 || 4096 < fAddr h % 4096 + hLen h
  | 3 => 512 < hLen h || 3 < fld h 71 64 || fld h 127 72 != 0
  | _ => true

/-- A packet of a type arrives on the active Foyer link; a NULL unit is skipped (R350), a malformed packet makes the link retrain (R354, R461). It wakes
the module (R504, R577). Every packet stands for the next DATA block (DESIGN CHOICE, notes/assumptions/11.md). -/
def foyerReceive (type : Nat) (hd : BitVec 128) (n : Nat) (f : Device → Device) (d : Device) : Device :=
  let h := hd.toNat
  let x := link d 6 0
  if x.st != 0 || h == 0 || (hType h != type && (hType h == 1 || hType h == 2 || hType h == 3 || hType h == 5)) then d
  else
    let d := wake (takeBlock d 6 0 ((x.rxSeq + 1) % 4096)) 1
    if foyerBad h || (type != 2 && n != hLen h) then malformed d 6
    else f (freeUnits (holdUnits d 6 0 (fVc h) (units n)) 6 0 (fVc h) (units n))

/-! ### Event records (R465, R485) -/

/-- An event record in its 64 bytes. -/
def eventBytes (seq : Nat) (e : Ev) : List Byte :=
  (toLE 2 e.type ++ toLE 1 e.job ++ toLE 1 (e.attempt % 16) ++ toLE 4 seq ++ toLE 4 e.step ++ toLE 2 e.tag ++ toLE 2 e.code
    ++ toLE 1 e.unitKind ++ toLE 3 0 ++ toLE 4 e.unit ++ toLE 8 e.addr ++ e.detail ++ toLE 32 0).take 64

def evtSize (d : Device) : Nat := getR d (foyPage + 0x118) % 2 ^ 17
def evtTail (d : Device) : Nat := getR d (foyPage + 0x11C)
def evtHead (d : Device) : Nat := getR d (foyPage + 0x120)

/-- A record is written: a WR on VC3 at the tail, which then moves on (R485). -/
def writeEvent (d : Device) (e : Ev) : Device :=
  let seq := d.evSeq % (2 ^ 32 - 1) + 1
  let a := (get64 d (foyPage + 0x110) + 64 * (evtTail d % evtSize d)) % 2 ^ 64
  let d := queuePkt d 6 { hdr := mkFoyer 1 3 0 64 3 0 a, payload := eventBytes seq e, job := e.job }
  setR { d with evSeq := seq } (foyPage + 0x11C) ((evtTail d + 1) % 2 ^ 32)

/-- EVENT_RECORD_WRITE (R465, R485, R631): the oldest record held, or LOST first, when the link is up, the ring is set and it has space. -/
def eventRecordWrite (d : Device) : Device :=
  if !portUp d 6 || !d.evBaseSet || !d.evSizeSet || evtSize d ≤ (evtTail d + 2 ^ 32 - evtHead d) % 2 ^ 32 then d
  else if 0 < d.evLost then writeEvent { d with evLost := 0 } { type := 0xF0, detail := toLE 4 d.evLost }
  else match d.evQ with
    | [] => d
    | e :: t => writeEvent { d with evQ := t } e

def execEventRecordWrite (s : State) : Host.Outcome State Fault Refusal := run .eventRecordWrite eventRecordWrite s

/-- A write to the event ring's base or size restarts the ring (R485). -/
def ringRestart (d : Device) : Device := setR (setR d (foyPage + 0x11C) 0) (foyPage + 0x120) 0

/-- EVT_BASE_WRITE (R485). -/
def evtBaseWrite (v : Word) (d : Device) : Device :=
  ringRestart { set64 d (foyPage + 0x110) (v.toNat / 64 * 64) with evBaseSet := true }

def execEvtBaseWrite (v : Word) (s : State) : Host.Outcome State Fault Refusal := run (.evtBaseWrite v) (evtBaseWrite v) s

/-- A power of two from `lo` to 65,536. -/
def ringSizeOk (lo n : Nat) : Bool := lo ≤ n && (List.range 17).any (fun k => n == 2 ^ k)

/-- The address of a register in the physical map (R573). -/
def cfgAddr (off : Nat) : Nat := 0x8000000000 + off

/-- EVT_SIZE_WRITE (R485): a size that is not accepted leaves everything and sends a CONFIG event with the register's address. -/
def evtSizeWrite (v : Reg) (d : Device) : Device :=
  let n := v.toNat % 2 ^ 17
  if ringSizeOk 64 n then ringRestart { setR d (foyPage + 0x118) n with evSizeSet := true }
  else causeEv d 0xFF 0x90 0 (cfgAddr (foyPage + 0x118))

def execEvtSizeWrite (v : Reg) (s : State) : Host.Outcome State Fault Refusal := run (.evtSizeWrite v) (evtSizeWrite v) s

/-- EVT_HEAD_WRITE (R485). -/
def evtHeadWrite (v : Reg) (d : Device) : Device := setR d (foyPage + 0x120) v.toNat

def execEvtHeadWrite (v : Reg) (s : State) : Host.Outcome State Fault Refusal := run (.evtHeadWrite v) (evtHeadWrite v) s

/-! ### Command rings (R466–R468) -/

def ringReg (r : Nat) : Nat := foyPage + 0x200 + r * 0x10
def ringSize (d : Device) (r : Nat) : Nat := getR d (ringReg r + 8) % 2 ^ 17
def ringTail (d : Device) (r : Nat) : Nat := getR d (ringReg r + 0xC)
def ringHead (d : Device) (r : Nat) : Nat := getR d (foyPage + 0x400 + r * 4)
/-- Entries written and not consumed. -/
def ringLoad (d : Device) (r : Nat) : Nat := (ringTail d r + 2 ^ 32 - ringHead d r) % 2 ^ 32

/-- The job of a ring in an event: none for the device ring. -/
def ringJob (r : Nat) : Nat := if r < 16 then r else 0xFF

/-- CMD_FAULT of a job's command (R468). -/
def cmdFault (d : Device) (j tag code : Nat) : Device :=
  if j < 16 then pushEv d { type := 2, job := j, attempt := (job d j).attempt, step := (job d j).step, tag := tag, code := code }
  else pushEv d { type := 2, tag := tag, code := code }

/-- CMD_DONE of a command whose NOTIFY is set (R468). (DEDUCED, notes/assumptions/21.md.) -/
def cmdDone (d : Device) (j tag : Nat) (notify : Bool) : Device :=
  if notify then pushEv d { type := 1, job := j, attempt := (job d j).attempt, step := (job d j).step, tag := tag } else d

/-- DOORBELL (R467); it wakes the module (R504). -/
def doorbell (r : Nat) (tail : Reg) (d : Device) : Device :=
  let d := wake d 1
  let n := (tail.toNat + 2 ^ 32 - ringHead d r) % 2 ^ 32
  if ringSize d r < n then
    let v := getR d (ringReg r + 8)
    cmdFault (if bit v 31 then d else setR d (ringReg r + 8) (v + 2 ^ 31)) (ringJob r) 0 4
  else if n == 0 then d
  else setR d (ringReg r + 0xC) tail.toNat

def execDoorbell (r : Nat) (tail : Reg) (s : State) : Host.Outcome State Fault Refusal := run (.doorbell r tail) (doorbell r tail) s

/-- RING_SIZE_WRITE (R466): ignored while entries wait; a size out of range sends a CONFIG event; bit 31 clears ERR. (DEDUCED, notes/assumptions/37.md.) -/
def ringSizeWrite (r : Nat) (v : Reg) (d : Device) : Device :=
  let n := v.toNat % 2 ^ 17
  if ringLoad d r != 0 then d
  else if ringSizeOk 16 n then
    setR d (ringReg r + 8) (n + (if bit (getR d (ringReg r + 8)) 31 && !bit v.toNat 31 then 2 ^ 31 else 0))
  else causeEv d 0xFF 0x90 0 (cfgAddr (ringReg r + 8))

def execRingSizeWrite (r : Nat) (v : Reg) (s : State) : Host.Outcome State Fault Refusal := run (.ringSizeWrite r v) (ringSizeWrite r v) s

/-- The entry at the head of a ring, read from physical or job memory (R466, R467), or the fault of the read. -/
def ringEntry (d : Device) (r : Nat) : Except (Nat × Device) (List Byte × Device) :=
  let a := get64 d (ringReg r) + 64 * (ringHead d r % ringSize d r)
  let got : Except (Nat × Device) (List (Byte × Bool) × Device) :=
    if r < 16 then (if 2 ^ 48 < a + 64 then .error (5, d) else unitRead d r a 64 0xFFFF)
    else if 2 ^ 39 < a + 64 || fenced d a then .error (5, d)
    else .ok (stackRead d a 64)
  match got with
  | .error e => .error e
  | .ok (b, d) => if b.any Prod.snd then .error (10, poisonSeen d foyPage (if r < 16 then some r else none)) else .ok (b.map Prod.fst, d)

/-- An entry waits at the head of a ring, commands are accepted (R622 B11, R631), and the module runs (R504). -/
def ringHas (d : Device) (r : Nat) : Bool := d.boot.accepting && awake d && ringLoad d r != 0

def ringPop (d : Device) (r : Nat) : Device := setR d (foyPage + 0x400 + r * 4) ((ringHead d r + 1) % 2 ^ 32)

/-- The opcodes of a ring (R468). -/
def ringOps (r : Nat) : List Nat := if r < 16 then [0x10, 0x11, 0x12] else [1, 2, 3, 4]

/-- Reserved bits of an entry, and its unused ARG bytes by opcode, are zero (R468). -/
def entryOk (e : List Byte) : Bool :=
  let op := leAt e 0 1
  let z (lo hi : Nat) : Bool := allZero ((e.take hi).drop lo)
  leAt e 1 1 < 2 && leAt e 4 1 < 16 && z 5 8 &&
  (if op == 1 || op == 0x12 then z 0x10 64
   else if op == 2 || op == 4 then z 8 64
   else if op == 3 then leAt e 8 1 < 2 && z 9 64
   else if op == 0x10 then z 0xD 0x10 && z 0x1C 64
   else z 0xC 0x10 && z 0x1C 64)

/-- A command of opcode `op` at the head of ring `r` is consumed (R467, R468): `f` carries it out for a job and a TAG, or fails with a code and
no effect; code 0 when it has sent its CMD_FAULT itself. A `wait` that holds leaves the entry in the ring. -/
def command (r op : Nat) (wait : Device → List Byte → Bool) (f : Device → List Byte → Nat → Nat → Bool → Except (Nat × Device) Device)
    (d : Device) : Device :=
  if !ringHas d r then d
  else
    match ringEntry d r with
    | .error _ => d
    | .ok (e, d') =>
      if leAt e 0 1 != op || wait d e then d
      else
        let d := ringPop d' r
        let j := if r < 16 then r else leAt e 4 1 % 16
        let tag := leAt e 2 2
        if !entryOk e then cmdFault d j tag 4
        else if r < 16 && !jobRunning d j then cmdFault d j tag 14
        else
          match f d e j tag (bit (leAt e 1 1) 0) with
          | .error (code, d) => if code == 0 then d else cmdFault d j tag code
          | .ok d => d

/-- No entry waits in the ring. -/
def noWait : Device → List Byte → Bool := fun _ _ => false

/-- CMD_RESERVED (R468): an opcode that the ring does not have, or an entry that cannot be read, is consumed with its fault. (DEDUCED, notes/assumptions/34.md.) -/
def cmdReserved (r : Nat) (d : Device) : Device :=
  if !ringHas d r then d
  else
    match ringEntry d r with
    | .error (code, d) => cmdFault (ringPop d r) (ringJob r) 0 code
    | .ok (e, d') =>
      if (ringOps r).contains (leAt e 0 1) then d
      else cmdFault (ringPop d' r) (if r < 16 then r else leAt e 4 1 % 16) (leAt e 2 2) 4

def execCmdReserved (r : Nat) (s : State) : Host.Outcome State Fault Refusal := run (.cmdReserved r) (cmdReserved r) s

/-! ### Batches (R473) -/

/-- The queued or current step `n` of a job is changed. -/
def mapStep (d : Device) (j n : Nat) (f : StepReq → StepReq) : Device :=
  let x := job d j
  let g (q : StepReq) : StepReq := if q.n == n && q.batch != 3 then f q else q
  setJob d j { x with cur := x.cur.map g, queue := x.queue.map g }

def stepOf (d : Device) (j n : Nat) : Option StepReq :=
  let x := job d j
  (x.cur.toList ++ x.queue).find? (fun q => q.n == n && q.batch != 3)

/-- A list entry of R473: source, destination, length. -/
def listEntry (m : Mem) (k : Nat) : Nat × Nat × Nat := (m.num (32 * k) 8, m.num (32 * k + 8) 8, m.num (32 * k + 16) 4)
/-- Its reserved bytes are zero (R13), and its range of job memory, which `side` picks, lies inside the job's space (R16, R17). -/
def listOk (m : Mem) (n : Nat) (side : Nat × Nat × Nat → Nat) : Bool :=
  (List.range n).all (fun k =>
    let e := listEntry m k
    allZero (m.read (32 * k + 20) 12) && (e.2.2 == 0 || side e + e.2.2 ≤ 2 ^ 48))

/-- BATCH_FETCH (R473): the batch of one of the first two steps that have not committed is requested, its list first. -/
def batchFetch (j : Nat) (d : Device) : Device :=
  let x := job d j
  match ((x.cur.toList ++ x.queue).take 2).find? (fun q => q.batch == 0) with
  | none => d
  | some q =>
    if x.st == 0 then d
    else if q.nbatch == 0 then mapStep d j q.n (fun q => { q with batch := 3 })
    else
      { mapStep d j q.n (fun q => { q with batch := 1, left := 32 * q.nbatch }) with
        rdTodo := d.rdTodo ++ [⟨0, j, q.n, q.list, 0, 32 * q.nbatch⟩] }

def execBatchFetch (j : Nat) (s : State) : Host.Outcome State Fault Refusal := run (.batchFetch j) (batchFetch j) s

/-- The batch list is in: its batches are requested, or with an entry at fault none is. (DEDUCED, notes/assumptions/38.md.) -/
def batchList (d : Device) (j : Nat) (q : StepReq) : Device :=
  let es := ((List.range q.nbatch).map (listEntry q.buf)).filter (fun e => e.2.2 != 0)
  let total := es.foldl (fun n e => n + e.2.2) 0
  if !listOk q.buf q.nbatch (fun e => e.2.1) then
    mapStep (cmdFault d j q.tag 4) j q.n (fun q => { q with batch := 3, left := 0, buf := {} })
  else
  let d := mapStep d j q.n (fun q => { q with batch := if total == 0 then 3 else 2, left := total, buf := {} })
  { d with rdTodo := d.rdTodo ++ es.map (fun e => ⟨1, j, q.n, e.1, e.2.1, e.2.2⟩) }

/-- `n` bytes of a batch have arrived, or failed to. -/
def batchBytes (d : Device) (j n len : Nat) : Device :=
  mapStep d j n (fun q => { q with left := q.left - len, batch := if q.left ≤ len then 3 else q.batch })

/-! ### Checkpoints (R481) -/

/-- The job's first checkpoint is changed. -/
def mapCkpt (d : Device) (j : Nat) (f : Ckpt → Ckpt) : Device :=
  let x := job d j
  setJob d j { x with ckpts := match x.ckpts with
    | [] => []
    | k :: t => f k :: t }

/-- The oldest checkpoint of a job starts once its step has committed. (DEDUCED, notes/assumptions/27.md.) -/
def ckptKick (d : Device) (j : Nat) : Device :=
  let x := job d j
  match x.ckpts with
  | [] => d
  | k :: _ =>
    if k.phase != 0 || !(x.lastDone.any (fun n => k.atStep ≤ n)) then d
    else if k.nreg == 0 then mapCkpt d j (fun k => { k with phase := 3 })
    else
      { mapCkpt d j (fun k => { k with phase := 1, left := 32 * k.nreg }) with
        rdTodo := d.rdTodo ++ [⟨2, j, k.atStep, k.list, 0, 32 * k.nreg⟩] }

/-- A checkpoint leaves, and the next one may start. -/
def ckptDrop (d : Device) (j : Nat) : Device :=
  let x := job d j
  ckptKick (setJob d j { x with ckpts := x.ckpts.drop 1 }) j

/-- A checkpoint ends with CMD_FAULT (R481, R553). -/
def ckptFail (d : Device) (j code : Nat) : Device :=
  match (job d j).ckpts with
  | [] => d
  | k :: _ =>
    let mine (r : FoyRd) : Bool := r.kind == 2 && r.job == j
    let d := { d with rdTodo := d.rdTodo.filter (fun r => !mine r)
                      rdOut := d.rdOut.map (fun e => (e.1, if mine e.2 then { e.2 with job := 16 } else e.2)) }
    ckptDrop (cmdFault d j k.tag code) j

/-- The region list is in. -/
def ckptList (d : Device) (j : Nat) (k : Ckpt) : Device :=
  if !listOk k.buf k.nreg Prod.fst then ckptFail d j 4
  else
    let rs := ((List.range k.nreg).map (listEntry k.buf)).filter (fun e => e.2.2 != 0)
    mapCkpt d j (fun k => { k with phase := if rs.isEmpty then 3 else 2, regions := rs, buf := {} })

/-- Jobs whose checkpoint streams. -/
def ckptJob (d : Device) : Option Nat :=
  (d.jobs.find? (fun e => match e.2.ckpts with
    | k :: _ => k.phase == 2
    | [] => false)).map Prod.fst

/-- The next packet of a checkpoint: its bytes are read now; a fault or poison ends the checkpoint (R481, R553). -/
def ckptSend (d : Device) (j : Nat) : Device :=
  match (job d j).ckpts with
  | [] => d
  | k :: _ =>
    match k.regions with
    | [] => d
    | (src, dst, len) :: rest =>
      let n := min (min 512 len) (4096 - dst % 4096)
      match unitRead d j src n 0xFFFF with
      | .error (code, d) => ckptFail d j code
      | .ok (b, d) =>
        if b.any Prod.snd then ckptFail (poisonSeen d foyPage (some j)) j 10
        else
          let rest := if len == n then rest else ((src + n), (dst + n) % 2 ^ 64, len - n) :: rest
          let d := mapCkpt d j (fun k => { k with regions := rest, phase := if rest.isEmpty then 3 else 2 })
          { queuePkt d 6 { hdr := mkFoyer 1 1 0 n 3 0 dst, payload := b.map Prod.fst, job := j } with vc1C := d.vc1C + n }

/-- CKPT_DONE (R481): every region has been read, and all its writes have been sent. -/
def ckptDone (j : Nat) (d : Device) : Device :=
  match (job d j).ckpts with
  | [] => d
  | k :: _ =>
    if k.phase != 3 || (port d 6).q.any (fun p => p.job == j && hType p.hdr == 1 && fVc p.hdr == 1) then d
    else
      let d := pushEv d { type := 0xA2, job := j, attempt := (job d j).attempt, step := (job d j).step, tag := k.tag }
      ckptDrop (cmdDone d j k.tag k.notify) j

def execCkptDone (j : Nat) (s : State) : Host.Outcome State Fault Refusal := run (.ckptDone j) (ckptDone j) s

/-! ### Sending (R463, R464) -/

/-- The lowest tag that no request holds. -/
def freeTag (d : Device) : Option Nat := (List.range 4096).find? (fun t => !(tkeys d.rdOut).contains t)

/-- The next request of control-node memory: at most 512 bytes, no 4 KiB boundary crossed (R461). -/
def readSend (d : Device) (t : Nat) (r : FoyRd) (rest : List FoyRd) : Device :=
  let n := min (min 512 r.len) (4096 - r.src % 4096)
  let rest := if r.len == n then rest else { r with src := (r.src + n) % 2 ^ 64, dst := r.dst + n, len := r.len - n } :: rest
  let d := { d with rdTodo := rest, rdOut := tset d.rdOut t { r with len := n } }
  let d := if r.kind == 2 then { d with vc1C := d.vc1C + n } else { d with vc1B := d.vc1B + n }
  queuePkt d 6 { hdr := mkFoyer 2 1 0 n 3 t r.src, job := r.job }

/-- The first waiting request of a stream: batches have kinds 0 and 1, checkpoints kind 2; with the requests before and after it. -/
def nextRead (ckpt : Bool) : List FoyRd → Option (FoyRd × List FoyRd)
  | [] => none
  | r :: t => if (r.kind == 2) == ckpt then some (r, t) else (nextRead ckpt t).map (fun x => (x.1, r :: x.2))

/-- The checkpoint stream gives VC1 its next packet, if it has one. -/
def vc1Ckpt (d : Device) : Option Device :=
  match nextRead true d.rdTodo, freeTag d with
  | some (r, rest), some t => some (readSend d t r rest)
  | _, _ => (ckptJob d).map (ckptSend d)

/-- The batch stream gives VC1 its next packet, if it has one. -/
def vc1Batch (d : Device) : Option Device :=
  match nextRead false d.rdTodo, freeTag d with
  | some (r, rest), some t => some (readSend d t r rest)
  | _, _ => none

/-- The stream that VC1 serves next, by VC1_WEIGHT (R464): true for checkpoints. Both weights 0 count as equal. -/
def vc1Turn (d : Device) : Bool :=
  let w := getR d (foyPage + 0x108)
  let b := if w % 65536 == 0 then 1 else w % 256
  let c := if w % 65536 == 0 then 1 else w / 256 % 256
  if b == 0 then true else if c == 0 then false else decide (d.vc1C * b < d.vc1B * c)

/-- VC1 takes its next batch read or checkpoint write (R464); a stream alone starts the count of both afresh. -/
def vc1Fill (d : Device) : Device :=
  let b := d.rdTodo.any (fun r => r.kind != 2)
  let c := d.rdTodo.any (fun r => r.kind == 2) || (ckptJob d).isSome
  if b && c then
    (if vc1Turn d then (vc1Ckpt d).getD d else (vc1Batch d).getD d)
  else
    let d := { d with vc1B := 0, vc1C := 0 }
    if c then (vc1Ckpt d).getD d else if b then (vc1Batch d).getD d else d

/-- One packet is assigned to the Foyer link: those sent again first, then VC0, VC3, VC2 and VC1 (R464). -/
def foyerSend (d : Device) : Device :=
  match againReady d 6 with
  | some (k, l) => sendAgain d 6 k l
  | none =>
    if !portUp d 6 then d
    else
      match ([0, 3, 2].findSome? (fun c => (classReady d 6 c).map (fun r => (c, r)))) with
      | some (c, k, l) => sendNew d 6 c k l
      | none =>
        let d := if (port d 6).q.any (fun k => hCls k.hdr == 1) then d else vc1Fill d
        match classReady d 6 1 with
        | some (k, l) => sendNew d 6 1 k l
        | none => sendRest d 6

/-- PACKET_SEND (R365, R464): a Harlon port, or with 6 the Foyer link, assigns one packet to a link; with none to assign, what waits on the links is sent.
(DESIGN CHOICE, notes/assumptions/17.md.) -/
def packetSend (p : Nat) (d : Device) : Device := if p == 6 then foyerSend d else harlonSend d p

def execPacketSend (p : Nat) (s : State) : Host.Outcome State Fault Refusal := run (.packetSend p) (packetSend p) s

/-! ### Completions (R461) -/

/-- The fault code of a completion's STATUS (R461): refused, translation fault, poisoned (DEDUCED, notes/assumptions/31.md). -/
def cplCode (st : Nat) : Nat := if st == 1 then 14 else if st == 2 then 5 else 10

/-- A completion of a batch read: its bytes are written to job memory; what fails is reported as CMD_FAULT of the STEP. (DEDUCED, notes/assumptions/38.md.) -/
def cplBatch (d : Device) (r : FoyRd) (q : StepReq) (st : Nat) (b : List Byte) : Device :=
  let d := if st != 0 then cmdFault d r.job q.tag (cplCode st)
    else match unitWrite d r.job r.dst (clean b) 0xFFFF with
      | .error (code, d) => cmdFault d r.job q.tag code
      | .ok d => d
  batchBytes d r.job r.n r.len

/-- A completion of a batch list. -/
def cplList (d : Device) (r : FoyRd) (q : StepReq) (st : Nat) (b : List Byte) : Device :=
  if st != 0 then mapStep (cmdFault d r.job q.tag (cplCode st)) r.job r.n (fun q => { q with batch := 3, left := 0, buf := {} })
  else
    let q := { q with buf := q.buf.write r.dst b, left := q.left - r.len }
    let d := mapStep d r.job r.n (fun _ => q)
    if q.left == 0 then batchList d r.job q else d

/-- A completion of a checkpoint's region list. -/
def cplCkpt (d : Device) (r : FoyRd) (st : Nat) (b : List Byte) : Device :=
  match (job d r.job).ckpts with
  | [] => d
  | k :: _ =>
    if k.phase != 1 then d
    else if st != 0 then ckptFail d r.job (cplCode st)
    else
      let k := { k with buf := k.buf.write r.dst b, left := k.left - r.len }
      let d := mapCkpt d r.job (fun _ => k)
      if k.left == 0 then ckptList d r.job k else d

/-- FOYER_CPL_RX (R461): the completion of an outstanding request. -/
def foyerCplRx (hd : BitVec 128) (b : List Byte) (d : Device) : Device :=
  foyerReceive 3 hd b.length (fun d =>
    let h := hd.toNat
    let st := fld h 71 64
    match d.rdOut.find? (fun e => e.1 == fTag h) with
    | none => d
    | some (_, r) =>
      if st == 0 && b.length != r.len then malformed d 6
      else
        let d := { d with rdOut := tdrop (· == fTag h) d.rdOut }
        if 16 ≤ r.job then d
        else if r.kind == 2 then cplCkpt d r st b
        else match stepOf d r.job r.n with
          | none => d
          | some q =>
            if r.kind == 1 then (if q.batch == 2 then cplBatch d r q st b else d)
            else if q.batch == 1 then cplList d r q st b else d) d

def execFoyerCplRx (hd : BitVec 128) (b : List Byte) (s : State) : Host.Outcome State Fault Refusal :=
  run (.foyerCplRx hd b) (foyerCplRx hd b) s

end Sys2Proof.Machine
end

