-- ==== Sys2Proof/Machine/Jobs.lean ====
section
/-!
DEFINITION. Where a job's work lies, and how its cores are stopped (R26, R478, R543, R586).
-/
namespace Sys2Proof.Machine

/-- A core that is stopped (R478): nothing waits or runs but the transfers that have fired, and its waits end. -/
def stopCore (d : Device) (u : Nat) : Device :=
  let c := core d u
  let d := dropMonitors d u
  setCore d u { c with st := .idle, win := [], fl := c.fl.filter Ins.isStream, tcfg := none, swait := none, gates := [], preempt := false }

/-- A core at core reset, its waits ended and its run-ahead copies gone (R297, R326). -/
def clearCore (d : Device) (u : Nat) : Device :=
  let d := dropMonitors d u
  settleWatch (setCore d u (coreReset (core d u))) (u / 48)

/-- The physical core of every global logical core that a job's core table names (R20, R469). -/
def jobCores (d : Device) (j : Nat) : List (Nat × Nat) :=
  (job d j).images.filterMap (fun e => (d.plan.maps.globalCore e.1).map (fun u => (e.1, u)))

/-- Cores that hold an image of the job. -/
def loadedCores (d : Device) (j : Nat) : List Nat := (d.cores.filter (fun e => e.2.job == some j)).map Prod.fst

/-- Physical halls on which a job has cores. -/
def jobHalls (d : Device) (j : Nat) : List Nat := ((jobCores d j).map (fun e => e.2 / 48)).foldl nins []

/-- A job that is starting, running, held, preempting or preempted (R586). -/
def jobAlive (d : Device) (j : Nat) : Bool := (job d j).st != 0 && (job d j).st != 6

def liveJobs (d : Device) : List Nat := (List.range 16).filter (jobAlive d)

/-- The job has work on a unit (R28, R543): its cores, its words, its contexts' ports; a stack holds work of every job. -/
def workOn (d : Device) (r : UnitRef) (j : Nat) : Bool :=
  match r.kind with
  | 0 => (jobCores d j).any (fun e => e.2 == r.a * 48 + r.b)
  | 1 => (jobCores d j).any (fun e => e.2 == r.a * 48 + r.b)
  | 2 => (jobHalls d j).contains r.a || (ownedWords d j).any (fun w => w.1 == r.a)
  | 3 => true
  | _ => d.ctxs.any (fun e => e.2.job == j && (e.2.inPort == r.a || e.2.outPort == r.a))

def jobsOn (d : Device) (r : UnitRef) : List Nat := (liveJobs d).filter (workOn d r)

/-- The job runs an attempt that no verdict has abandoned. -/
def inAttempt (d : Device) (j : Nat) : Bool := (job d j).phase != 0 && (job d j).verdict == 0

/-! ### The step-start image of a job's words (R337, R338) -/

/-- The step-start image of the job's words (R337). -/
def snapWords (d : Device) (j : Nat) : Device :=
  let ws := ownedWords d j
  let d := (jobHalls d j ++ ws.map Prod.fst).foldl flushStore d
  setJob d j { job d j with sigImage := ws.foldl (fun t hi => tset t (wordIndex d hi.1 hi.2) (sigWord d hi.1 hi.2)) [] }

/-- The signal words of a repeat, a skip or a remap (R338): every owned word is set to its step-start image, and the job's monitor entries go. -/
def restoreWords (d : Device) (j : Nat) : Device :=
  (job d j).sigImage.foldl (fun d e => match wordHome d e.1 with
    | none => d
    | some (h, i) =>
      let d := flushStore d h
      let s := sigStore d h
      seqSet (setSig d h { s with mons := s.mons.filter (fun m => m.i != i) }) h i e.2) d

/-- A transfer of the job's cores has fired and not completed (R478). -/
def transfersLeft (d : Device) (j : Nat) : Bool :=
  d.cores.any (fun e => e.2.job == some j && e.2.fl.any Ins.isStream)

end Sys2Proof.Machine
end

