-- ==== Sys2Proof/Machine/Floor.lean ====
section
/-!
DEFINITION. The Floor Plan: fences, standby takeover and returns (R24–R30, R267, R284, R543, R569, R570, R635), the table's entries (R32–R38)
and a change of the table (R39–R41).
-/
namespace Sys2Proof.Machine

/-! ### Maps -/

/-- Physical cores of a hall in ascending order. -/
def hallCores (h : Nat) : List Nat := (List.range 48).map (fun c => h * 48 + c)

/-- A standby core takes a slot (R25). -/
def takeSlot (m : Maps) (u slot : Nat) : Maps := { m with coreSt := tset m.coreSt u 0, slot := tset m.slot u slot }

/-- The lowest slots take the lowest standby cores of a hall (R25); what remains is vacant (R26). -/
def fillSlots (m : Maps) (h : Nat) (slots : List Nat) : Maps :=
  (slots.zip ((hallCores h).filter (fun u => m.coreState u == 1))).foldl (fun m e => takeSlot m e.2 e.1) m

/-- Slots of a hall that no core holds. -/
def openSlots (m : Maps) (h : Nat) : List Nat := (List.range 44).filter (fun s => (m.coreAt h s).isNone)

/-- The cores of a hall that takes a logical index (R635): those neither standby nor fenced in ascending order, then R25. -/
def seatHall (m : Maps) (h : Nat) : Maps :=
  let m := (hallCores h).foldl (fun m u => { m with slot := tset m.slot u 0xFF }) m
  let m := (((hallCores h).filter (fun u => m.coreState u == 0)).zip (List.range 44)).foldl (fun m e => { m with slot := tset m.slot e.1 e.2 }) m
  fillSlots m h (openSlots m h)

/-- A second lane of a quarter fences the core (R24). (DEDUCED, notes/assumptions/58.md.) -/
def laneRule (m : Maps) (f : Fence) : Fence :=
  let u := f.unit.a * 48 + f.unit.b
  if f.unit.kind == 0 && m.outLane.any (fun e => e.1 == u * 4 + f.unit.q && e.2 != f.unit.lane) then { f with unit := unitCore u } else f

/-- One fence in the maps, before any standby takes over; its record is kept (R30). -/
def fenceOne (m : Maps) (f : Fence) : Maps :=
  let r := f.unit
  let u := r.a * 48 + r.b
  let m := { m with fences := m.fences ++ [f] }
  match r.kind with
  | 0 => { m with outLane := tset m.outLane (u * 4 + r.q) r.lane }
  | 1 => { m with coreSt := tset m.coreSt u 2, slot := tset m.slot u 0xFF }
  | 2 => { m with hallSt := tset m.hallSt r.a 2, hallLog := tset m.hallLog r.a 0xFF
                  slot := (hallCores r.a).foldl (fun t u => tset t u 0xFF) m.slot }
  | 3 => { m with outStacks := nins m.outStacks r.a }
  | 4 => { m with ports := nins m.ports r.a }
  | _ => { m with links := nins m.links (r.a * 4 + r.b) }

/-- The unit is out of service by a fence; a quarter whose spare lane is out has an entry for it, which its OUT_LANE byte does not show. -/
def unitFenced (m : Maps) (r : UnitRef) : Bool :=
  match r.kind with
  | 0 => m.outLane.contains ((r.a * 48 + r.b) * 4 + r.q, r.lane)
  | 1 => m.coreState (r.a * 48 + r.b) == 2
  | 2 => m.hallState r.a == 2
  | 3 => m.outStacks.contains r.a
  | 4 => m.ports.contains r.a
  | _ => m.links.contains (r.a * 4 + r.b)

/-- The fences of one change, lane fences turned into core fences as they come; a unit has one record (R36). -/
def fenceAll (m : Maps) (fs : List Fence) : Maps :=
  fs.foldl (fun m f => let f := laneRule m f; if unitFenced m f.unit then m else fenceOne m f) m

/-- Logical halls that a change leaves without a physical hall, and the standby halls that take them (R27). -/
def hallMoves (old new : Maps) : List (Nat × Nat) :=
  ((List.range 16).filter (fun l => (old.physical l).isSome && (new.physical l).isNone)).zip
    ((List.range 18).filter (fun h => new.hallState h == 1))

/-- Slots of a hall that a change leaves without a core, and the standby cores that take them (R25). -/
def coreMoves (old new : Maps) (h : Nat) : List (Nat × Nat) :=
  ((List.range 44).filter (fun s => (old.coreAt h s).isSome && (new.coreAt h s).isNone)).zip
    ((hallCores h).filter (fun u => new.coreState u == 1))

/-- Halls that stay in service in a change. -/
def keptHalls (new : Maps) : List Nat := (List.range 18).filter (fun h => new.hallState h != 2)

/-- The maps after the fences of one change, with every takeover (R24–R27). -/
def remap (old : Maps) (fs : List Fence) : Maps :=
  let m := fenceAll old fs
  let m := (keptHalls m).foldl (fun m h => (coreMoves old m h).foldl (fun m e => takeSlot m e.2 e.1) m) m
  (hallMoves old m).foldl (fun m e => seatHall { m with hallSt := tset m.hallSt e.2 0, hallLog := tset m.hallLog e.2 e.1 } e.2) m

/-- The standby units that a change puts into service (R570). -/
def standbysUsed (old : Maps) (fs : List Fence) : List UnitRef :=
  let m := fenceAll old fs
  ((keptHalls m).map (fun h => (coreMoves old m h).map (fun e => unitCore e.2))).flatten ++ (hallMoves old m).map (fun e => unitHall e.2)

/-- A unit returns (R543): a core or hall as standby, a link or port to training, a lane or stack at the next bring-up. -/
def releaseOne (m : Maps) (r : UnitRef) : Maps :=
  let m := { m with fences := m.fences.filter (fun f => f.unit != r) }
  match r.kind with
  | 1 => { m with coreSt := tset m.coreSt (r.a * 48 + r.b) 1 }
  | 2 => { m with hallSt := tset m.hallSt r.a 1 }
  | 4 => { m with ports := ndel m.ports r.a }
  | 5 => { m with links := ndel m.links (r.a * 4 + r.b) }
  | _ => m

/-! ### The entries (R33–R38) -/

/-- An entry: TYPE, LENGTH and payload (R33). -/
def fpEntry (type : Nat) (p : List Byte) : List Byte := toLE 1 type ++ toLE 1 0 ++ toLE 2 p.length ++ p

/-- Quadrants (R18). -/
def hallQuad (h : Nat) : Nat := if h < 5 then 0 else if h < 9 then 1 else if h < 14 then 2 else 3
def portQuad (p : Nat) : Nat := if p < 2 then 0 else if p < 3 then 1 else if p < 5 then 2 else 3

def cfgBase : Nat := 0x8000000000

def fpDevice (d : Device) (m : Maps) : List Byte :=
  fpEntry 1 (toLE 4 0x7140 ++ toLE 2 Config.siliconRev.toNat ++ toLE 2 Config.moduleRev.toNat ++ toLE 8 Config.serial.toNat
    ++ toLE 1 (coolClass d) ++ toLE 1 d.boot.slot ++ toLE 1 ((List.range 16).filter (fun l => (m.physical l).isSome)).length
    ++ toLE 1 ((List.range 18).filter (fun h => m.hallState h == 1)).length
    ++ toLE 2 ((List.range 16).foldl (fun n s => if m.outStacks.contains s then n else n + 2 ^ s) 0)
    ++ toLE 1 ((List.range 6).foldl (fun n p => if portState d p == 0 || portState d p == 3 then n + 2 ^ p else n) 0) ++ toLE 1 0
    ++ toLE 2 (ceiling d) ++ toLE 2 (maxArith d) ++ toLE 8 cfgBase)

/-- Cores of a hall by state, and slots held. -/
def coresIn (m : Maps) (h st : Nat) : Nat := ((hallCores h).filter (fun u => m.coreState u == st)).length
def slotsIn (m : Maps) (h : Nat) : Nat := ((hallCores h).filter (fun u => m.slotOf u != 0xFF)).length

def fpHall (m : Maps) (h : Nat) : List Byte :=
  fpEntry 2 (toLE 1 h ++ toLE 1 (m.hallState h) ++ toLE 1 (m.logical h) ++ toLE 1 (hallQuad h) ++ toLE 1 (slotsIn m h)
    ++ toLE 1 (coresIn m h 1) ++ toLE 1 (coresIn m h 2) ++ toLE 1 0 ++ toLE 2 h ++ toLE 2 16384 ++ toLE 4 0 ++ toLE 8 (cfgBase + hallPage h))

def fpCore (m : Maps) (u : Nat) : List Byte :=
  fpEntry 3 (toLE 1 (u / 48) ++ toLE 1 (u % 48) ++ toLE 1 (m.coreState u) ++ toLE 1 (m.slotOf u)
    ++ ((List.range 4).map (fun q => toLE 1 (m.lane u q))).flatten)

def fpStack (m : Maps) (s : Nat) : List Byte :=
  fpEntry 4 (toLE 1 s ++ toLE 1 (if m.outStacks.contains s then 2 else 0) ++ toLE 1 (s / 4) ++ toLE 1 8 ++ toLE 2 32 ++ toLE 2 (18 + s)
    ++ toLE 8 (cfgBase + scPage s))

def fpPort (d : Device) (m : Maps) (p : Nat) : List Byte :=
  fpEntry 5 (toLE 1 p ++ toLE 1 (if m.ports.contains p then 2 else portState d p)
    ++ toLE 1 ((activeLinks d p).foldl (fun n l => n + 2 ^ l) 0) ++ toLE 1 (p / 3) ++ toLE 1 (portQuad p) ++ toLE 1 0 ++ toLE 2 (34 + p)
    ++ toLE 2 (40 + p) ++ toLE 6 0 ++ toLE 8 (cfgBase + portPage p))

def fpLink (d : Device) (p l : Nat) : List Byte :=
  fpEntry 6 (toLE 1 p ++ toLE 1 l ++ toLE 1 (link d p l).st ++ toLE 1 4 ++ toLE 4 212500 ++ toLE 8 (cfgBase + linkPage p l))

/-- Kind, instance, reference and clock in MHz of an island (R37, R489). -/
def island (d : Device) (n : Nat) : Nat × Nat × Nat × Nat :=
  if n < 18 then (1, n, 0, maxArith d)
  else if n < 34 then (2, n - 18, 0, 800)
  else if n < 40 then (3, n - 34, 0, 1250)
  else if n < 46 then (4, n - 40, 1, 1328)
  else if n < 50 then (5, n - 46, 0, 1200)
  else if n < 52 then (6, n - 50, 1, 1328)
  else match n with
    | 52 => (7, 0, 0, 800)
    | 53 => (8, 0, 0, 1000)
    | 54 => (9, 0, 0, 400)
    | 55 => (10, 0, 2, 0)
    | 56 => (11, 0, 0, 400)
    | _ => (n - 45, 0, 0, 100)

def fpIsland (d : Device) (n : Nat) : List Byte :=
  let (k, i, r, f) := island d n
  fpEntry 7 (toLE 2 n ++ toLE 1 k ++ toLE 1 i ++ toLE 1 r ++ toLE 1 (if n < 18 then 1 else if n == 55 then 2 else 0) ++ toLE 2 f
    ++ toLE 8 (cfgBase + pwrPage 2 + 0x100 + 8 * n))

/-- BLK_TYPE, INSTANCE and PAGE_NO of a register page by page number, (offset from CFG) / 0x1000 (R578–R581). -/
def pageInfo (page : Nat) : Option (Nat × Nat × Nat) :=
  if page == 0x10 || page == 0x11 || page == 0x12 then some (1, 0, page - 0x10)
  else if 0x100 ≤ page && page < 0x580 then
    let h := (page - 0x100) / 0x40
    let k := (page - 0x100) % 0x40
    if k == 0 then some (2, h, 0) else if k ≤ 48 then some (3, h, k - 1)
    else if k == 0x31 then some (4, h, 0) else if k == 0x32 then some (5, h, 0) else if k == 0x33 then some (6, h, 0) else none
  else if 0x800 ≤ page && page < 0x810 then some (7, page - 0x800, 0)
  else if 0x900 ≤ page && page < 0x960 then
    let p := (page - 0x900) / 0x10
    let k := page % 0x10
    if k == 0 then some (8, p, 0) else if k ≤ 4 then some (9, p, k - 1) else if k == 8 then some (10, p, 0) else none
  else if page == 0xA00 then some (11, 0, 0)
  else if 0xB00 ≤ page && page < 0xB05 then some (12, 0, page - 0xB00)
  else if 0xC00 ≤ page && page < 0xC03 then some (13, 0, page - 0xC00)
  else if page == 0xD00 then some (14, 0, 0)
  else if page == 0xE00 then some (15, 0, 0)
  else if page == 0xF00 then some (16, 0, 0)
  else none

/-- Every register page in ascending order. -/
def allPages : List Nat := (List.range 0xF01).filter (fun p => (pageInfo p).isSome)

def fpPage (page : Nat) : List Byte :=
  let (t, i, n) := (pageInfo page).getD (0, 0, 0)
  fpEntry 8 (toLE 2 t ++ toLE 1 i ++ toLE 1 n ++ toLE 4 0 ++ toLE 8 (cfgBase + page * 0x1000))

def fpSignal (m : Maps) (h : Nat) : List Byte :=
  let l := m.logical h
  fpEntry 9 (toLE 1 h ++ toLE 1 l ++ toLE 2 512 ++ toLE 2 (if l == 0xFF then 0xFFFF else l * 512) ++ toLE 2 0
    ++ toLE 8 (cfgBase + hallPage h + 0x38000))

def fpUpdate (m : Maps) (h : Nat) : List Byte :=
  fpEntry 10 (toLE 1 h ++ toLE 1 (m.hallState h) ++ toLE 1 (m.logical h) ++ toLE 1 16 ++ toLE 4 0 ++ toLE 8 (cfgBase + updPage h))

def fpSensor (i : Nat) (s : SensorDesc) : List Byte :=
  fpEntry 11 (toLE 2 i ++ toLE 1 s.kind ++ toLE 1 s.locKind ++ toLE 1 s.location ++ toLE 1 0 ++ toLE 2 s.warn.toNat ++ toLE 2 s.trip.toNat
    ++ toLE 2 0)

/-- A fence record's payload (R36). -/
def fenceBytes (f : Fence) : List Byte :=
  toLE 1 f.unit.kind ++ toLE 1 f.reason ++ toLE 2 f.code ++ toLE 4 (unitNum f.unit) ++ toLE 4 f.gen ++ toLE 4 0 ++ toLE 8 f.time

/-- Fence records in the order of their key (R33). -/
def fenceIns (f : Fence) : List Fence → List Fence
  | [] => [f]
  | g :: t => if f.unit.kind * 2 ^ 32 + unitNum f.unit < g.unit.kind * 2 ^ 32 + unitNum g.unit then f :: g :: t else g :: fenceIns f t

def fpMap (m : Maps) (l : Nat) : List Byte :=
  fpEntry 13 (toLE 1 l ++ toLE 1 ((m.physical l).getD 0xFF) ++ toLE 1 44 ++ toLE 1 0
    ++ ((List.range 44).map (fun s => toLE 1 (((m.physical l).bind (fun h => m.coreAt h s)).elim 0xFF (· % 48)))).flatten)

/-- The entries of the body (R33). -/
def fpEntries (d : Device) (m : Maps) : List (List Byte) :=
  [fpDevice d m] ++ (List.range 18).map (fpHall m) ++ (List.range 864).map (fpCore m) ++ (List.range 16).map (fpStack m)
    ++ (List.range 6).map (fpPort d m) ++ (List.range 24).map (fun k => fpLink d (k / 4) (k % 4)) ++ (List.range 60).map (fpIsland d)
    ++ allPages.map fpPage ++ (List.range 18).map (fpSignal m) ++ (List.range 18).map (fpUpdate m)
    ++ ((List.range Config.sensors.length).zip Config.sensors).map (fun e => fpSensor e.1 e.2)
    ++ (m.fences.foldl (fun l f => fenceIns f l) []).map (fun f => fpEntry 12 (fenceBytes f)) ++ (List.range 16).map (fpMap m)

/-- The body and its hash are written for the maps and link states of the moment (R40 steps 2 and 3). A body with more fence records than the window of R31
holds is kept whole, and a read returns what lies in the window (DESIGN CHOICE, notes/assumptions/82.md). -/
def writeBody (d : Device) : Device :=
  let es := fpEntries d d.plan.maps
  { d with plan := { d.plan with body := es.flatten, entries := es.length, hash := Config.sha384 es.flatten } }

/-- The header (R32, R43, R623): MAGIC reads zero until the Floor Plan is built. -/
def fpHeader (d : Device) : List Byte :=
  let p := d.plan
  (toLE 4 (if p.built then 0x504C4644 else 0) ++ toLE 2 0x100 ++ toLE 2 80 ++ toLE 4 p.gen ++ toLE 2 p.entries ++ toLE 2 (b2n p.updating)
    ++ toLE 4 p.body.length ++ toLE 12 0 ++ p.hash ++ toLE 48 0).take 80

/-! ### Fences -/

/-- Tests of the standby units that the pending fences will put into service (R570). -/
def standbyTests (d : Device) : Device :=
  (standbysUsed d.plan.maps d.plan.pendF).foldl (fun d r =>
    if d.plan.sbOk.contains r || d.tests.any (fun t => t.unit == r) then d
    else { d with tests := d.tests ++ [{ unit := r, errs := 0, why := 3 }] }) d

/-- A unit is to be fenced (R267, R543, R569): the jobs with work on it are tainted, and the next change carries the fence. -/
def requestFence (d : Device) (r : UnitRef) (reason code : Nat) : Device :=
  if unitFenced d.plan.maps r || d.plan.pendF.any (fun f => f.unit == r) then d
  else
    let f : Fence := { unit := r, reason := reason, code := code, gen := 0, time := get64 d (porterPage + 0x118) }
    let js := jobsOn d r
    let d := taintAll { d with plan := { d.plan with pendF := d.plan.pendF ++ [f] } } js 8 (if code == 0 then 13 else code)
    let d := if r.kind == 3 then js.foldl (fun d j => setJob d j { job d j with bound := 14 }) d else d
    standbyTests d

/-- A fence that moves work waits until no job with work on the unit runs an attempt (R28). -/
def fenceWaits (d : Device) (f : Fence) : Bool := f.unit.kind < 3 && (jobsOn d f.unit).any (inAttempt d)

/-- What a fence does to the unit's own state (R267, R363, R569). -/
def fenceEffect (d : Device) (f : Fence) : Device :=
  match f.unit.kind with
  | 1 => clearCore d (f.unit.a * 48 + f.unit.b)
  | 2 =>
    let d := ((d.cores.filter (fun e => e.1 / 48 == f.unit.a)).map Prod.fst).foldl clearCore d
    { d with sigs := tdrop (· == f.unit.a) d.sigs, hmem := tdrop (· == f.unit.a) d.hmem, xcache := tdrop (· == f.unit.a) d.xcache
             xptr := tdrop (· == f.unit.a) d.xptr }
  | 3 => { d with stack := d.stack.zero (f.unit.a * 2 ^ 35) (2 ^ 35) }
  | 4 => (linksOf f.unit.a).foldl (fun d l => leaveIdle d f.unit.a l true true) d
  | 5 => leaveIdle d f.unit.a f.unit.b true
  | _ => d

/-- The steering value of a core from its OUT_LANE bytes (R112). -/
def steerOf (m : Maps) (u : Nat) : Nat := (List.range 4).foldl (fun n q => n + m.lane u q * 2 ^ (8 * q)) 0

/-- A fence is carried by a change: its record, its event, the alert and the log (R30, R36, R485, R536, R548). -/
def fenceReport (d : Device) (f : Fence) : Device :=
  let d := log d 5 2 (fenceBytes f)
  alert (pushEv d { type := 0x41, code := f.code, unitKind := f.unit.kind, unit := unitNum f.unit, detail := toLE 4 d.plan.gen }) 7

/-- Partition entries of a hall go to the standby hall that took its index (R284). -/
def copyParts (d : Device) (old new : Nat) : Device :=
  (List.range 16).foldl (fun d j =>
    if bit (partB d old j) 31 then
      setR (setR d (hmemPage new + 0x200 + j * 8) (partA d old j)) (hmemPage new + 0x204 + j * 8) (partB d old j)
    else d) d

/-- The halls that moved in a change, as logical hall, old and new physical hall. -/
def movedHalls (old new : Maps) : List (Nat × Nat) :=
  (List.range 16).filterMap (fun l => match old.physical l, new.physical l with
    | some a, some b => if a == b then none else some (a, b)
    | _, _ => none)

/-- A remap changes nothing of the words of a job at a step boundary but where they lie (R337, R338): their image is taken before it and set after it. -/
def boundaryJobs (d : Device) (fs : List Fence) : List Nat :=
  (liveJobs d).filter (fun j => (job d j).phase == 0 && fs.any (fun f => (f.unit.kind == 1 || f.unit.kind == 2) && workOn d f.unit j))

/-- A change of the Floor Plan (R39–R41): the fences that can be carried now, the returns, and every change of a link's state, in one
generation. It is one command, so that no access sees UPDATING 1 (DESIGN CHOICE, notes/assumptions/9.md). -/
def changePlan (d : Device) : Device :=
  let now := d.plan.pendF.filter (fun f => !fenceWaits d f)
  let later := d.plan.pendF.filter (fenceWaits d)
  let back := d.plan.pendR
  let old := d.plan.maps
  let gen := max d.plan.gen d.porter.genRec + 1
  let fs := now.map (fun f => { f with gen := gen })
  let m := back.foldl releaseOne (remap old fs)
  let fs := m.fences.drop (m.fences.length - (m.fences.filter (fun f => f.gen == gen)).length)
  let js := boundaryJobs d fs
  let d := js.foldl snapWords d
  let d := (movedHalls old m).foldl (fun d e => copyParts d e.1 e.2) d
  let d := { d with plan := { d.plan with maps := m, pendF := later, pendR := [], dirty := false, gen := gen, changes := d.plan.changes + 1
                                          sbOk := [] }
                    porter := { d.porter with seed := m, genRec := gen } }
  let d := js.foldl restoreWords (fs.foldl fenceEffect d)
  let d := (fs.filter (fun f => f.unit.kind == 0)).foldl (fun d f =>
    let u := f.unit.a * 48 + f.unit.b
    arrSteerWrite u (BitVec.ofNat 32 (steerOf m u)) d) d
  let d := back.foldl (fun d r =>
    let d := log d 6 0 (match old.fences.find? (fun f => f.unit == r) with
      | some f => fenceBytes f
      | none => [])
    if r.kind == 5 then (if linkOn d r.a r.b && !linkFenced d r.a r.b then trainLink d r.a r.b else d)
    else if r.kind == 4 then (linksOf r.a).foldl (fun d l => if linkOn d r.a l && !linkFenced d r.a l then trainLink d r.a l else d) d
    else d) d
  let d := writeBody { d with plan := { d.plan with dirty := false } }
  let d := pushEv d { type := 0x40, detail := toLE 4 gen }
  standbyTests (fs.foldl fenceReport d)

/-- FLOOR_PLAN_CHANGE (R39–R41, R570): the Floor Plan is built, something has changed, and the standby units have passed their tests. -/
def floorPlanChange (d : Device) : Device :=
  let now := d.plan.pendF.filter (fun f => !fenceWaits d f)
  if !d.plan.built || (now.isEmpty && d.plan.pendR.isEmpty && !d.plan.dirty) then d
  else if !(standbysUsed d.plan.maps now).all d.plan.sbOk.contains then d
  else changePlan d

def execFloorPlanChange (s : State) : Host.Outcome State Fault Refusal := run .floorPlanChange floorPlanChange s

end Sys2Proof.Machine
end

