-- ==== Sys2Proof/Machine/Steps.lean ====
section
/-!
DEFINITION. The step sequencer: jobs (R469–R472), attempts, verdicts and commits (R473–R480), preemption (R482–R484, R340, R341) and the
pace monitor's barriers (R511–R513).
-/
namespace Sys2Proof.Machine

/-! ### The job descriptor (R469, R470) -/

/-- A read of job memory by the step sequencer; poison is a fault. -/
def seqRead (d : Device) (j a n : Nat) : Except (Nat × Device) (List Byte × Device) :=
  if 2 ^ 48 < a + n then .error (4, d)
  else match unitRead d j a n 0xFFFF with
    | .error e => .error e
    | .ok (b, d) => if b.any Prod.snd then .error (10, poisonSeen d (seqPage 0) (some j)) else .ok (b.map Prod.fst, d)

def dImages (b : List Byte) : Nat := leAt b 0xA 2
def dSigFirst (b : List Byte) : Nat := leAt b 0xC 2
def dSigCount (b : List Byte) : Nat := leAt b 0xE 2
def dMicro (b : List Byte) : Nat := leAt b 0x2C 4
def dLocal (b : List Byte) : Bool := bit (leAt b 9 1) 0

/-- A field of the descriptor is wrong or reserved (R469). -/
def descBad (j : Nat) (b : List Byte) : Bool :=
  leAt b 0 4 != 0x44424F4A || leAt b 4 2 != 0x100 || leAt b 6 2 != 64 || leAt b 8 1 != j || 2 ≤ leAt b 9 1 || dImages b == 0
  || 704 < dImages b || 8192 ≤ dSigFirst b || 8192 < dSigCount b || leAt b 0x20 8 % 64 != 0 || leAt b 0x28 4 % 64 != 0
  || (dMicro b != 0xFFFFFFFF && (dMicro b % 8 != 0 || 32768 < dMicro b + 8)) || !allZero ((b.take 64).drop 0x30)

/-- The core table's words that name an image, with their global logical cores (R469). -/
def tableWords : Nat → List Byte → List (Nat × Nat)
  | g, a :: b :: t => if leAt [a, b] 0 2 == 0xFFFF then tableWords (g + 1) t else (g, leAt [a, b] 0 2) :: tableWords (g + 1) t
  | _, _ => []

/-- The core table's entries: global logical core and image index, or the fault of the first that is wrong (R470, R586). -/
def coreTable (d : Device) (n : Nat) (t : List Byte) : Except Nat (List (Nat × Nat)) :=
  let es := tableWords 0 (t.take 1408)
  let bad (e : Nat × Nat) : Option Nat :=
    if n ≤ e.2 then some 4
    else match d.plan.maps.globalCore e.1 with
      | none => some 14
      | some u => if coreOn d u then none else some 14
  match es.findSome? bad with
  | some f => .error f
  | none => .ok es

/-- Every image is read and checked (R225, R470); one that fails is counted. -/
def imagesCheck (j : Nat) : List Nat → Device → Except (Nat × Device) Device
  | [], d => .ok d
  | a :: as, d =>
    match readImage d j a with
    | .error (f, d) => .error (f, bump d (seqPage 0 + 0x110) 1)
    | .ok (_, d) => imagesCheck j as d

/-- The checks that JOB_START and REIMAGE share (R470, R472): the descriptor and the image address of each global core it names; with `alloc` the signal
allocation among them. -/
def descCheckJob (d : Device) (j a : Nat) (alloc : Bool) : Except (Nat × Device) (List Byte × Tab Nat × Device) :=
  if a % 64 != 0 then .error (4, d)
  else match seqRead d j a 64 with
    | .error e => .error e
    | .ok (b, d) =>
      if descBad j b then .error (4, d)
      else if alloc && 8192 < dSigFirst b + dSigCount b then .error (14, d)
      else match seqRead d j (leAt b 0x10 8) 1408 with
        | .error e => .error e
        | .ok (t, d) => match coreTable d (dImages b) t with
          | .error f => .error (f, d)
          | .ok es => match seqRead d j (leAt b 0x18 8) (8 * dImages b) with
            | .error e => .error e
            | .ok (i, d) => match imagesCheck j ((List.range (dImages b)).map (fun k => leAt i (8 * k) 8)) d with
              | .error e => .error e
              | .ok d => .ok (b, es.map (fun e => (e.1, leAt i (8 * e.2) 8)), d)

/-! ### JOB_START and JOB_END (R470, R471) -/

/-- The first word of an allocation that has an owner or lies in a vacant logical hall (R312). -/
def wordTaken (d : Device) (first n : Nat) : Option Nat :=
  ((List.range n).map (· + first)).find? (fun w => match wordHome d w with
    | none => true
    | some (h, i) => (sigWord d h i).owner != 0x3F)

/-- Units of a job's region on a hall (R282). -/
def partSum (d : Device) (h j : Nat) : Nat := stageUnits d h j + bucketUnits d h j + scratchUnits d h j + statsUnits d h j + raUnits d h j

/-- The partition entry of a job on a hall fails its check (R282). -/
def partBad (d : Device) (j h : Nat) : Bool :=
  let b := baseUnit d h j
  let n := partSum d h j
  256 < b + n || (List.range 16).any (fun k =>
    k != j && n != 0 && partSum d h k != 0 && bit (partB d h k) 31 && b < baseUnit d h k + partSum d h k && baseUnit d h k < b + n)

/-- ACTIVE of a job's entries (R282, R304). -/
def partActive (d : Device) (j : Nat) (on : Bool) (hs : List Nat) : Device :=
  hs.foldl (fun d h => putBit d (hmemPage h + 0x204 + j * 8) 31 on) d

/-- The words of an allocation are given to the job (R312). -/
def giveWords (d : Device) (j first n : Nat) : Device :=
  ((List.range n).map (· + first)).foldl (fun d w => match wordHome d w with
    | none => d
    | some (h, i) => seqSet d h i { owner := j }) d

/-- JOB_START of an accepted descriptor (R470, R282, R312, R632). Its CMD_FAULT names the first word that is not free, or the hall whose partition
fails (DEDUCED, notes/assumptions/33.md). -/
def jobBegin (d : Device) (j tag : Nat) (b : List Byte) (imgs : Tab Nat) : Except (Nat × Device) Device :=
  let x := job d j
  let ev : Ev := { type := 2, job := j, attempt := x.attempt, step := x.step, tag := tag, code := 14 }
  match wordTaken d (dSigFirst b) (dSigCount b) with
  | some w => .error (0, pushEv d { ev with addr := w })
  | none =>
    let y : Job := { st := 2, desc := b, images := imgs, landBase := x.landBase, landDir := x.landDir, landBusy := x.landBusy
                     landFull := x.landFull, landSweep := x.landSweep
                     bound := if d.plan.pendF.any (fun f => f.unit.kind == 3) then 14 else 0 }
    let d' := setJob d j y
    match (jobHalls d' j).find? (partBad d' j) with
    | some h => .error (0, pushEv d { ev with unitKind := 2, unit := unitNum (unitHall h) })
    | none =>
      let d' := partActive (giveWords d' j (dSigFirst b) (dSigCount b)) j true (jobHalls d' j)
      .ok { d' with boot := { d'.boot with locked := true } }

/-- JOB_START (R470, R568, R625): the entry at the head of the device ring. -/
def jobStart (d : Device) : Device :=
  command 16 1 noWait (fun d e j tag notify =>
    if (job d j).st != 0 || d.boot.moduleFault then .error (14, d)
    else match descCheckJob d j (leAt e 8 8) true with
      | .error f => .error f
      | .ok (b, imgs, d) => match jobBegin d j tag b imgs with
        | .error f => .error f
        | .ok d => .ok (cmdDone d j tag notify)) d

def execJobStart (s : State) : Host.Outcome State Fault Refusal := run .jobStart jobStart s

/-- The job's requests of control-node memory are forgotten; completions on their way are discarded. -/
def dropReads (d : Device) (j : Nat) : Device :=
  { d with rdTodo := d.rdTodo.filter (fun r => r.job != j)
           rdOut := d.rdOut.map (fun e => (e.1, if e.2.job == j then { e.2 with job := 16 } else e.2)) }

/-- Everything of the job leaves the module (R471, R383, R440, R313, R282). A landing reset that waits takes place: no landing transfer is left (R254). -/
def jobEndAll (d : Device) (j : Nat) : Device :=
  let d := (loadedCores d j).foldl clearCore d
  let d := if (job d j).landBusy then landReset d j else d
  let d := dropReads (releaseWords (dropUctx (arcadeUnload d j) j) j) j
  let d := partActive d j false ((List.range 18).filter (fun h => bit (partB d h j) 31))
  let x := job d j
  setJob d j { landBase := x.landBase, landDir := x.landDir, landFull := x.landFull, landSweep := x.landSweep }

/-- JOB_END (R471). -/
def jobEnd (d : Device) : Device :=
  command 16 2 noWait (fun d _ j tag notify =>
    if (job d j).st == 0 then .error (14, d)
    else
      let d := jobEndAll d j
      .ok (if notify then pushEv d { type := 1, job := j, tag := tag } else d)) d

def execJobEnd (s : State) : Host.Outcome State Fault Refusal := run .jobEnd jobEnd s

/-! ### STEP, CHECKPOINT, REIMAGE (R472, R473, R481) -/

/-- STEP (R473): the entry stays in the ring while two steps are queued. -/
def stepCmd (j : Nat) (d : Device) : Device :=
  command j 0x10 (fun d _ => 2 ≤ (job d j).queue.length) (fun d e j tag notify =>
    let n := leAt e 0xC 1
    if n == 0 || 64 < n then .error (4, d)
    else
      let x := job d j
      let q : StepReq := { n := leAt e 8 4, nmicro := n, list := leAt e 0x10 8, nbatch := leAt e 0x18 4, tag := tag }
      .ok (cmdDone (setJob d j { x with queue := x.queue ++ [q] }) j tag notify)) d

def execStepCmd (j : Nat) (s : State) : Host.Outcome State Fault Refusal := run (.stepCmd j) (stepCmd j) s

/-- CHECKPOINT (R481): at once when its step has committed. -/
def checkpoint (j : Nat) (d : Device) : Device :=
  command j 0x11 noWait (fun d e j tag notify =>
    let x := job d j
    let k : Ckpt := { atStep := leAt e 8 4, list := leAt e 0x10 8, nreg := leAt e 0x18 4, tag := tag, notify := notify }
    .ok (ckptKick (setJob d j { x with ckpts := x.ckpts ++ [k] }) j)) d

def execCheckpoint (j : Nat) (s : State) : Host.Outcome State Fault Refusal := run (.checkpoint j) (checkpoint j) s

/-- The job is at a step boundary (R472): no attempt of its current step has begun. -/
def atBoundary (x : Job) : Bool := x.phase == 0 && (x.cur.isNone || x.attempt == 0)

/-- A REIMAGE that waits takes effect (R472). -/
def applyReimage (d : Device) (j : Nat) : Device :=
  let x := job d j
  match x.reimage with
  | none => d
  | some (b, imgs, tag, notify) =>
    let d := (loadedCores d j).foldl clearCore d
    cmdDone (setJob d j { x with desc := b, images := imgs, reimage := none }) j tag notify

/-- REIMAGE (R472): at the next step boundary, which may be now. -/
def reimage (j : Nat) (d : Device) : Device :=
  command j 0x12 noWait (fun d e j tag notify =>
    match descCheckJob d j (leAt e 8 8) false with
    | .error f => .error f
    | .ok (b, imgs, d) =>
      let d := setJob d j { job d j with reimage := some (b, imgs, tag, notify) }
      .ok (if atBoundary (job d j) then applyReimage d j else d)) d

def execReimage (j : Nat) (s : State) : Host.Outcome State Fault Refusal := run (.reimage j) (reimage j) s

/-! ### An attempt (R474–R480) -/

/-- An event of the job with its taint causes in DETAIL (R485). -/
def taintEv (d : Device) (j type code : Nat) : Device := jobEv d j type code 0 (toLE 4 (job d j).taint)

/-- The job is held, and REPEAT_HELD names the cause (R479). -/
def holdJob (d : Device) (j code : Nat) : Device :=
  taintEv (setJob d j { job d j with st := 3, hold := code }) j 0x13 code

/-- A self-test of a hall on which the job is placed is pending or running (R565). -/
def hallTested (d : Device) (j : Nat) : Bool := d.tests.any (fun t => t.unit.kind == 2 && (jobHalls d j).contains t.unit.a)

/-- Global logical cores of the job whose slots are vacant (R26). -/
def vacantCores (d : Device) (j : Nat) : List Nat :=
  ((job d j).images.filter (fun e => (d.plan.maps.globalCore e.1).isNone)).map Prod.fst

/-- Step 1 of R474 for the job's current step: a REIMAGE before the repeat of a job held for a vacant slot (R472), its holds, then at the step's start the
update tables (R435, R438), the signal image and the contexts. -/
def attemptBegin (d : Device) (j : Nat) : Device :=
  let x := job d j
  let d := setJob d j { x with taint := 0, hold := 0, kept := false, verdict := 0, micro := 0, phase := 0, repair := false }
  let d := if (vacantCores d j).isEmpty then d else applyReimage d j
  if x.bound != 0 then holdJob (setJob d j { job d j with bound := 0 }) j x.bound
  else if !(vacantCores d j).isEmpty then
    holdJob ((vacantCores d j).foldl (fun d g => jobEv d j 0x22 14 0 (toLE 4 g)) d) j 14
  else match updateStart d j with
    | .error (f, d) => holdJob (causeEv d j 0x90 14 f.at_) j 14
    | .ok d =>
      let d := snapWords d j
      arcadeStart (setJob d j { job d j with phase := 1, latched := true }) j x.step x.attempt

/-- A change of the Floor Plan that concerns the job is still to come (R28, R267). -/
def changeDue (d : Device) (j : Nat) : Bool := d.plan.pendF.any (fun f => workOn d f.unit j)

/-- What an abandoned attempt waits for is over (R478 items 2 and 3, R454, R556). -/
def abandonDone (d : Device) (j : Nat) : Bool :=
  !transfersLeft d j && !applying d j && !d.tests.any (fun t => t.why == 0 || t.why == 3) && !changeDue d j

/-- ATTEMPT_START (R474, R478, R254, R560): the first attempt of the next step, or the repeat of an abandoned one, which a landing reset precedes. No attempt
begins while a fence of a unit on which the job has work is still to be carried out (R28, R267). -/
def attemptStart (j : Nat) (d : Device) : Device :=
  let x := job d j
  if x.st != 2 || x.stuck || !awake d || hallTested d j || changeDue d j then d
  else if x.verdict == 2 && x.phase != 0 then
    if !abandonDone d j then d
    else
      let d := landReset (restoreWords d j) j
      let d := (loadedCores d j).foldl clearCore d
      attemptBegin (setJob d j { job d j with attempt := (x.attempt + 1) % 16 }) j
  else if x.phase != 0 || x.verdict != 0 || bit (getR d (devPage 2 + 0x118)) j then d
  else match x.cur with
    | some _ => attemptBegin d j
    | none => match x.queue with
      | [] => d
      | q :: rest =>
        if q.batch != 3 then d
        else attemptBegin (setJob d j { x with cur := some q, queue := rest, step := q.n, attempt := 0, latched := false }) j

def execAttemptStart (j : Nat) (s : State) : Host.Outcome State Fault Refusal := run (.attemptStart j) (attemptStart j) s

/-- One core of a micro-batch is loaded and started (R225, R474, R475), or its image is at fault (R479). (DEDUCED, notes/assumptions/26.md.) -/
def coreBegin (j : Nat) (d : Device) (e : Nat × Nat) : Device :=
  let x := job d j
  let a := tget 0 x.images e.1
  match readImage d j a with
  | .error (f, d) =>
    let d := jobEv (bump d (seqPage 0 + 0x110) 1) j 0x21 f 0 (toLE 4 e.1)
    let d := taint d j 1 f
    setJob d j { job d j with hold := if (job d j).hold == 0 then f else (job d j).hold }
  | .ok (img, d) =>
    let d := dropMonitors d e.2
    let c := loadCore (core d e.2) j a img (x.micro != 0)
    let m := dMicro x.desc
    let smem := if m == 0xFFFFFFFF then c.smem else c.smem.write m (toLE 8 x.micro)
    settleWatch (setCore d e.2 { c with smem := smem, st := .running }) (e.2 / 48)

/-- MICRO_BATCH_START (R474 step 2): landing reset, cores loaded, micro-batch index written, cores started. (DEDUCED, notes/assumptions/71.md.) -/
def microBatchStart (j : Nat) (d : Device) : Device :=
  let x := job d j
  if x.st != 2 || x.stuck || x.phase != 1 || x.verdict != 0 || landInFlight d j then d
  else
    let d := landReset d j
    let d := setJob d j { job d j with phase := 2, mStart := controlCycles d, mFirst := none, mLast := [] }
    (jobCores d j).foldl (coreBegin j) d

def execMicroBatchStart (j : Nat) (s : State) : Host.Outcome State Fault Refusal := run (.microBatchStart j) (microBatchStart j) s

/-! ### The barrier (R511–R513) -/

def paceN (w : Nat) : Nat := max 1 (fld w 15 8)
def paceThresh (w : Nat) : Nat := fld w 31 16

/-- The lag of a hall at the job's barrier: none when no core of the job ended there. -/
def lagOf (x : Job) (h : Nat) : Nat := tget 0 x.mLast h - x.mFirst.getD 0

/-- The PACE page of a hall records the barrier of the job it names (R511, R516). -/
def paceRecord (d : Device) (j h lag : Nat) (late : Bool) : Device :=
  let p := pacePage h
  if getR d (p + 0x100) % 16 != j then d
  else
    let d := setR (setR d (p + 0x104) lag) (p + 0x108) (max (getR d (p + 0x108)) lag)
    let d := set64 d (p + 0x10C) ((get64 d (p + 0x10C) + lag) % 2 ^ 64)
    let d := setR d (p + 0x114) ((getR d (p + 0x114) + 1) % 2 ^ 32)
    setR d (p + 0x118) (if late then min 255 (getR d (p + 0x118) + 1) else 0)

/-- The pace request of a hall: the lowest that its jobs make (R513). -/
def paceReq (d : Device) (h : Nat) : Device :=
  let rs := (d.jobs.map (fun e => tget 0 e.2.paceSet h)).filter (· != 0)
  dvfsReq d h 2 (rs.foldl min (rs.headD 0))

/-- The policy acts on a hall that has been late N times in a row (R512). -/
def paceAct (j interval : Nat) (d : Device) (h : Nat) : Device :=
  let lag := lagOf (job d j) h
  match getR d (pwrPage 1 + 0x400 + 4 * j) % 4 with
  | 1 => ((jobHalls d j).filter (· != h)).foldl (fun d g =>
      let f := (dvfs d g).cur * interval
      paceReq (setJob d j { job d j with paceSet := tset (job d j).paceSet g (alignUp (ceilDiv f (interval + lag)) 25) }) g) d
  | 2 => requestFence (taint d j 8 13) (unitHall h) 3 0
  | _ => pushEv d { type := 0x102, job := j, detail := toLE 1 h ++ toLE 3 0 ++ toLE 4 lag }

/-- A barrier of the job (R511, R512). (DEDUCED, notes/assumptions/25.md.) -/
def paceBarrier (d : Device) (j : Nat) : Device :=
  let x := job d j
  let w := getR d (pwrPage 1 + 0x400 + 4 * j)
  let i := x.mFirst.getD 0 - x.mStart
  let hs := jobHalls d j
  let late (h : Nat) : Bool := paceThresh w * i < lagOf x h * 1024
  let d := hs.foldl (fun d h => paceRecord d j h (lagOf x h) (late h)) d
  let calm : Nat := if hs.all (fun h => lagOf x h * 2048 ≤ paceThresh w * i) then x.paceCalm + 1 else 0
  let d := setJob d j { job d j with paceLate := hs.map (fun h => (h, if late h then tget 0 x.paceLate h + 1 else 0)), paceCalm := calm }
  let d := if paceN w ≤ calm then
      (tkeys x.paceSet).foldl paceReq (setJob d j { job d j with paceSet := [] })
    else d
  (hs.filter (fun h => paceN w ≤ tget 0 (job d j).paceLate h)).foldl (paceAct j i) d

/-- MICRO_BATCH_DONE (R474 step 3): every core of the micro-batch has completed END. -/
def microBatchDone (j : Nat) (d : Device) : Device :=
  let x := job d j
  if x.st != 2 || x.phase != 2 || x.verdict != 0 then d
  else if !(jobCores d j).all (fun e => (core d e.2).job == some j && (core d e.2).st == .atEnd) then d
  else
    let d := paceBarrier d j
    let last : Bool := match x.cur with
      | some q => decide (q.nmicro ≤ x.micro + 1)
      | none => true
    setJob d j (if last then { job d j with phase := 3 } else { job d j with phase := 1, micro := x.micro + 1 })

def execMicroBatchDone (j : Nat) (s : State) : Host.Outcome State Fault Refusal := run (.microBatchDone j) (microBatchDone j) s

/-! ### Step 4 and the verdict (R474–R479) -/

/-- An attempt is abandoned by a verdict (R476, R478 item 1, R453): 2 REPEAT, 3 SKIP. -/
def abandon (d : Device) (j dec : Nat) : Device :=
  let d := (loadedCores d j).foldl stopCore d
  let d := arcadeStop d j
  let d := if (job d j).phase == 5 then d else updateSkip d j
  let x := job d j
  setJob d j { x with verdict := dec, kept := false, hold := 0, st := if x.st == 3 then 2 else x.st
                      resumeSt := if x.resumeSt == 3 then 2 else x.resumeSt }

/-- The code that holds the attempt at step 4, 0 none (R478, R479): an image fault or a vacant slot, LANDING_MISS, a broken ring, attempt 15. (DEDUCED, notes/assumptions/24.md.) -/
def holdCode (d : Device) (j : Nat) : Nat :=
  let x := job d j
  if x.hold != 0 then x.hold
  else if bit x.taint 2 then 11
  else if (ctxsOf d j).any (fun r => (ctxOf d r).any Ctx.broken) then 13
  else if x.attempt == 15 && x.taint != 0 then 13
  else 0

/-- NORM and FLAGS of the attempt's norm record; without one they are open (R485, DESIGN CHOICE, notes/assumptions/2.md). -/
def normDetail (d : Device) (j : Nat) : List Byte × Device :=
  let r := match uctxOf d j with
    | some u => if (ctxsOf d j).contains u.rjid then some u.rjid else (ctxsOf d j).head?
    | none => (ctxsOf d j).head?
  match r.bind (ctxOf d) with
  | none => let f := freeVal d; (toLE 8 f.1.toNat, f.2)
  | some c =>
    match (if c.normDone then unitRead d j c.normAddr 32 0xFFFF else .error (0, d)) with
    | .error _ => let f := freeVal d; (toLE 8 f.1.toNat, f.2)
    | .ok (b, d) => let n := b.map Prod.fst; (toLE 4 (leAt n 4 4) ++ toLE 4 (leAt n 0xC 1), d)

/-- STEP_READY (R474 step 4, R476, R477, R479). (DEDUCED, notes/assumptions/39.md.) -/
def stepReady (j : Nat) (d : Device) : Device :=
  let x := job d j
  if x.st != 2 || x.verdict != 0 || x.phase == 0 || 4 ≤ x.phase || !(x.taint != 0 || (x.phase == 3 && normReady d j)) then d
  else
    let n := normDetail d j
    let d := setJob n.2 j { x with phase := 4 }
    let d := jobEv d j 0x10 0 0 (toLE 4 x.taint ++ n.1)
    let code := holdCode d j
    if code != 0 then holdJob d j code
    else if dLocal x.desc then
      (if x.taint == 0 then setJob d j { job d j with kept := true } else abandon d j (if x.taint == 16 then 3 else 2))
    else if x.kept && x.taint != 0 then taintEv (setJob d j { job d j with kept := false }) j 0x14 0
    else d

def execStepReady (j : Nat) (s : State) : Host.Outcome State Fault Refusal := run (.stepReady j) (stepReady j) s

/-- A held job (R479), preempted or not. -/
def heldJob (x : Job) : Bool := x.st == 3 || ((x.st == 4 || x.st == 5) && x.resumeSt == 3)

/-- Whether a verdict for a step and an attempt is one that the job waits for (R476, R558). -/
def verdictFits (x : Job) (step attempt : Nat) : Bool :=
  match x.cur with
  | none => false
  | some q => x.st != 0 && q.n == step && x.attempt == attempt && x.verdict == 0 && (x.phase != 0 || heldJob x)

/-- The HI half of VERDICT is written (R476). (DEDUCED, notes/assumptions/23.md.) -/
def verdict (src j attempt dec : Nat) (d : Device) : Device :=
  let d := commitPair d src (jobWin j + 8) 0xFFFFFFFF 0x3F (attempt + 16 * dec)
  let x := job d j
  if dec == 0 || !verdictFits x (getR d (jobWin j + 8)) attempt then bump d (jobWin j + 0x18) 1
  else if dec == 1 then
    (if heldJob x || x.taint != 0 then taintEv (setJob d j { x with kept := false }) j 0x14 0 else setJob d j { x with kept := true })
  else if x.phase == 0 then
    setJob d j { x with hold := 0, verdict := if dec == 3 then 3 else 0, st := if x.st == 3 then 2 else x.st
                        resumeSt := if x.resumeSt == 3 then 2 else x.resumeSt }
  else abandon d j dec

/-- VERDICT_APPLY (R476). -/
def verdictApply (src j a : Nat) (d : Device) : Device := verdict src j a 1 d
def execVerdictApply (src j a : Nat) (s : State) : Host.Outcome State Fault Refusal := run (.verdictApply src j a) (verdictApply src j a) s
/-- VERDICT_REPEAT (R476, R478). -/
def verdictRepeat (src j a : Nat) (d : Device) : Device := verdict src j a 2 d
def execVerdictRepeat (src j a : Nat) (s : State) : Host.Outcome State Fault Refusal := run (.verdictRepeat src j a) (verdictRepeat src j a) s
/-- VERDICT_SKIP (R476, R478). -/
def verdictSkip (src j a : Nat) (d : Device) : Device := verdict src j a 3 d
def execVerdictSkip (src j a : Nat) (s : State) : Host.Outcome State Fault Refusal := run (.verdictSkip src j a) (verdictSkip src j a) s
/-- VERDICT_NONE (R476): a DECISION of 0 is counted as stale. -/
def verdictNone (src j a : Nat) (d : Device) : Device := verdict src j a 0 d
def execVerdictNone (src j a : Nat) (s : State) : Host.Outcome State Fault Refusal := run (.verdictNone src j a) (verdictNone src j a) s

/-! ### Preemption (R482–R484) -/

/-- Preemption begins: cores stop at their next SAFEPT (R191). -/
def preemptBegin (d : Device) (j : Nat) : Device :=
  let x := job d j
  let d := setJob d j { x with st := 4, resumeSt := x.st, saved := [] }
  (loadedCores d j).foldl (fun d u => setCore d u { core d u with preempt := true, saved := false }) d

/-- PREEMPT (R482) with a MODE; the entry of the other MODE is left to its own row. (DEDUCED, notes/assumptions/22.md.) -/
def preemptCmd (mode : Nat) (d : Device) : Device :=
  command 16 3 (fun _ e => leAt e 8 1 % 2 != mode) (fun d _ j tag notify =>
    let x := job d j
    if (x.st != 2 && x.st != 3) || x.preempt.isSome then .error (14, d)
    else
      let d := setJob d j { x with preempt := some (mode, tag, notify) }
      .ok (if mode == 1 || x.phase == 0 then preemptBegin d j else d)) d

/-- PREEMPT_BOUNDARY (R482, MODE 0): at the next commit; a job with no step in progress is at a boundary. -/
def preemptBoundary (d : Device) : Device := preemptCmd 0 d
def execPreemptBoundary (s : State) : Host.Outcome State Fault Refusal := run .preemptBoundary preemptBoundary s

/-- PREEMPT_SAFEPT (R482, MODE 1). -/
def preemptSafept (d : Device) : Device := preemptCmd 1 d
def execPreemptSafept (s : State) : Host.Outcome State Fault Refusal := run .preemptSafept preemptSafept s

/-- The signal record of a job (R340). -/
def signalRecord (d : Device) (j : Nat) : List Byte :=
  let ws := ((ownedWords d j).map (fun hi => wordIndex d hi.1 hi.2)).foldl nins []
  let bits (w : Nat) : Nat := match wordHome d w with
    | some (h, i) => let v := wordBits d h i; if bit v 57 then v - 2 ^ 57 else v
    | none => 0
  toLE 4 0x58544353 ++ toLE 2 0x100 ++ toLE 2 32 ++ toLE 4 (32 + 16 * ws.length) ++ toLE 1 j ++ toLE 3 0 ++ toLE 4 ws.length ++ toLE 12 0
    ++ (ws.map (fun w => toLE 2 w ++ toLE 6 0 ++ toLE 8 (bits w))).flatten

/-- Where a job's signal record lies (R482). -/
def sigRecAt (d : Device) (j : Nat) : Nat := ctxRegion d j + 704 * ctxStride d j

/-- PREEMPTED (R482, R340, R454): every core of the job is saved and no apply pass runs. -/
def preempted (j : Nat) (d : Device) : Device :=
  let x := job d j
  if x.st != 4 || applying d j || !(loadedCores d j).all (fun u => (core d u).saved) then d
  else
    let (tag, notify) := match x.preempt with
      | some (_, t, n) => (t, n)
      | none => (0, false)
    let fin (d : Device) (sig : Bool) : Device :=
      let d := setJob d j { job d j with st := 5, preempt := none, sigSaved := sig }
      cmdDone (pushEv d { type := 0xA0, job := j, attempt := x.attempt, step := x.step, tag := tag }) j tag notify
    if bit (getR d (sigJob j)) 0 then
      let d := (ownedWords d j).foldl (fun d hi => flushStore d hi.1) d
      match unitWrite d j (sigRecAt d j) (clean (signalRecord d j)) 0xFFFF with
      | .error (code, d) => saveFault d j code
      | .ok d => fin (releaseWords d j) true
    else fin d false

def execPreempted (j : Nat) (s : State) : Host.Outcome State Fault Refusal := run (.preempted j) (preempted j) s

/-- The signal record is checked whole (R341): the words with their bits, or the fault and for a word that is taken its index. -/
def sigRecCheck (d : Device) (b : List Byte) : Except (Nat × Nat) (List (Nat × Nat)) :=
  let n := leAt b 0x10 4
  let es := (List.range n).map (fun k => (leAt b (0x20 + 16 * k) 2, leAt b (0x28 + 16 * k) 8))
  if leAt b 0 4 != 0x58544353 || leAt b 4 2 != 0x100 || leAt b 6 2 != 32 || leAt b 8 4 != 32 + 16 * n || 16 ≤ leAt b 0xC 1
      || leAt b 0xD 3 != 0 || leAt b 0x14 12 != 0 || 8192 < n then .error (4, 0)
  else if (List.range n).any (fun k => 8192 ≤ leAt b (0x20 + 16 * k) 2 || leAt b (0x22 + 16 * k) 6 != 0
      || leAt b (0x2E + 16 * k) 1 != 0) then .error (4, 0)
  else match es.find? (fun e => match wordHome d e.1 with
      | none => true
      | some (h, i) => (sigWord d h i).owner != 0x3F) with
    | some e => .error (6, e.1)
    | none => .ok es

/-- The words of a signal record are taken back (R341). -/
def takeWords (d : Device) (j : Nat) (es : List (Nat × Nat)) : Device :=
  es.foldl (fun d e => match wordHome d e.1 with
    | none => d
    | some (h, i) => seqSet d h i { count := fld e.2 47 0, ovf := bit e.2 56, owner := j }) d

/-- The signal record of a resume, when one was written (R341, R484): the fault is reported with the word it names. -/
def resumeWords (d : Device) (j : Nat) : Except (Nat × Device) Device :=
  if !(job d j).sigSaved then .ok d
  else match seqRead d j (sigRecAt d j) 32 with
    | .error e => .error e
    | .ok (h, d) => match seqRead d j (sigRecAt d j) (32 + 16 * min 8192 (leAt h 0x10 4)) with
      | .error e => .error e
      | .ok (b, d) => match sigRecCheck d b with
        | .error (f, w) => .error (f, causeEv d j 0x70 f w)
        | .ok es => .ok (takeWords d j es)

/-- Every saved core context is restored on the core that holds its slot now (R223, R484). -/
def resumeCores (j : Nat) : List Nat → Device → Except (Nat × Device) Device
  | [], d => .ok d
  | g :: gs, d =>
    match d.plan.maps.globalCore g with
    | none => .error (14, d)
    | some u => match restoreCore d u j (tget 0 (job d j).images g) (ctxRegion d j + g * ctxStride d j) (ctxStride d j) with
      | .error e => .error e
      | .ok d => resumeCores j gs d

/-- RESUME (R484): words first, then every core; on a failure the job stays preempted and nothing of it has changed. -/
def resume (d : Device) : Device :=
  command 16 4 noWait (fun d _ j tag notify =>
    let x := job d j
    if x.st != 5 then .error (14, d)
    else
      let undo (e : Nat × Device) : Nat × Device := (e.1, { e.2 with cores := d.cores, sigs := d.sigs, watch := d.watch })
      match resumeWords d j with
      | .error e => .error (undo e)
      | .ok d1 => match resumeCores j (if x.verdict == 0 then x.saved else []) d1 with
        | .error e => .error (undo e)
        | .ok d2 =>
          let d2 := setJob d2 j { job d2 j with st := x.resumeSt, saved := [], sigSaved := false }
          .ok (cmdDone (pushEv d2 { type := 0xA1, job := j, attempt := x.attempt, step := x.step, tag := tag }) j tag notify)) d

def execResume (s : State) : Host.Outcome State Fault Refusal := run .resume resume s

/-! ### The commit (R474 step 6) -/

/-- The step commits: counts, STEP_DONE, the repair hold, and what waits for the boundary (R472, R481, R482, R560). -/
def commitStep (d : Device) (j : Nat) : Device :=
  let x := job d j
  let d := bump64 (bump d (jobWin j + 0x14) 1) (seqPage 0 + 0x108) 1
  let d := taintEv d j 0x11 0
  let d := if x.repair then putBit d (devPage 2 + 0x118) j true else d
  let d := arcadeStop d j
  let d := setJob d j { job d j with lastDone := some x.step, cur := none, phase := 0, verdict := 0, kept := false, hold := 0, repair := false }
  let d := ckptKick (applyReimage d j) j
  match (job d j).preempt with
  | some (0, _, _) => if (job d j).st == 2 then preemptBegin d j else d
  | _ => d

/-- STEP_COMMIT (R474 step 6, R478): every GATHER_SIG has arrived after the grant, or a SKIP has run its items 1 to 4. -/
def stepCommit (j : Nat) (d : Device) : Device :=
  let x := job d j
  if x.verdict == 3 then
    (if x.st != 2 || !abandonDone d j then d else commitStep (if x.phase == 0 then d else restoreWords d j) j)
  else if x.phase == 5 && (x.st == 2 || x.st == 4) && gatherDone d j && !applying d j then commitStep d j
  else d

def execStepCommit (j : Nat) (s : State) : Host.Outcome State Fault Refusal := run (.stepCommit j) (stepCommit j) s

end Sys2Proof.Machine
end

