-- ==== Sys2Proof/Machine/Mailbox.lean ====
section
/-!
DEFINITION. The responses of the Porter's two transports (R539–R541, R548).
-/
namespace Sys2Proof.Machine

/-- Bytes written to a run of registers, the last one filled up with zero. -/
def regBytes (d : Device) (off : Nat) : List Byte → Device
  | a :: b :: c :: e :: t => regBytes (setR d off (ofLE [a, b, c, e])) (off + 4) t
  | [] => d
  | t => setR d off (ofLE t)

/-- The bytes of a run of registers. -/
def regRead (d : Device) (off n : Nat) : List Byte :=
  (((List.range ((n + 3) / 4)).map (fun k => toLE 4 (getR d (off + 4 * k)))).flatten).take n

/-- A response of the Porter (R540, R541): held for the sideband's next read, or written to MBX_RESP with DONE. -/
def respond (d : Device) (t : Transport) (cmd status : Nat) (payload : List Byte) : Device :=
  match t with
  | .sideband => { d with porter := { d.porter with side := some (status, cmd, payload) } }
  | .mailbox =>
    let d := regBytes d (porterPage + 0x900) (toLE 1 status ++ toLE 1 cmd ++ toLE 2 payload.length ++ payload)
    { d with porter := { d.porter with mbxBusy := false, mbxDone := true } }

end Sys2Proof.Machine
end

