-- ==== Sys2Proof/Machine/Errors.lean ====
section
/-!
DEFINITION. Self-tests (R563–R566), transient and lasting faults (R567, R570), the restore copy (R561) and REPAIR_HOLD (R560).
-/
namespace Sys2Proof.Machine

/-! ### Self-tests -/

/-- The hall or port of a test, by which tests exclude each other (R566). -/
def testPlace (r : UnitRef) : Option (Nat × Nat) :=
  if r.kind < 3 then some (2, r.a) else if r.kind == 3 then none else some (4, r.a)

/-- A job that lets a hall's test run (R565): at a step boundary, held, preempted, or with its attempt abandoned. -/
def jobPaused (d : Device) (j : Nat) : Bool :=
  (job d j).st == 3 || (job d j).st == 5 || (job d j).phase == 0 || (job d j).verdict != 0

/-- The core is stopped, or its attempt is abandoned (R563). -/
def coreQuiet (d : Device) (u : Nat) : Bool :=
  let c := core d u
  c.st == .idle || c.st == .fault || (match c.job with
    | none => true
    | some j => jobPaused d j)

/-- The unit can be held for its test (R563, R565). -/
def testReady (d : Device) (r : UnitRef) : Bool :=
  match r.kind with
  | 0 => coreQuiet d (r.a * 48 + r.b)
  | 1 => coreQuiet d (r.a * 48 + r.b)
  | 2 => (jobsOn d r).all (jobPaused d)
  | 5 => (link d r.a r.b).st != 4 && !(link d r.a r.b).draining && activeLinks d r.a != [r.b]
  | _ => true

/-- A pending test can start now (R566): at most four run, never two in one hall or on one port. -/
def testCan (d : Device) (t : Test) : Bool :=
  let run := d.tests.filter Test.running
  !t.running && run.length < 4 && testReady d t.unit
    && (match testPlace t.unit with
      | none => true
      | some k => !run.any (fun x => testPlace x.unit == some k))

/-- What a test does to its unit when it starts (R563): a link enters test, a port goes down. -/
def testHold (d : Device) (r : UnitRef) : Device :=
  match r.kind with
  | 4 => takeDown d r.a false
  | 5 =>
    let o := getR d (linkPage r.a r.b + 0x104)
    beginTest (setR d (linkPage r.a r.b + 0x104) (if bit o 1 then o else o + 2)) r.a r.b false
  | _ => d

/-- SELF_TEST_START (R563, R566): the first pending test that can start, when it is the unit's. (DEDUCED, notes/assumptions/57.md.) -/
def selfTestStart (r : UnitRef) (d : Device) : Device :=
  match lfind (testCan d) d.tests with
  | none => d
  | some i => match d.tests[i]? with
    | none => d
    | some t =>
      if t.unit != r || !d.boot.porterReady || !d.boot.logicReady then d
      else testHold { d with tests := lset d.tests i { t with running := true } } r

def execSelfTestStart (r : UnitRef) (s : State) : Host.Outcome State Fault Refusal := run (.selfTestStart r) (selfTestStart r) s

/-- The module step count (R595). -/
def moduleSteps (d : Device) : Nat := get64 d (seqPage 0 + 0x108)

/-- A lasting fault (R567): counted, and the unit is fenced. -/
def lasting (d : Device) (r : UnitRef) (reason code : Nat) : Device := requestFence (bump d (devPage 2 + 0x108) 1) r reason code

/-- A transient of a unit is counted (R567); the third within 10,000 module steps of the first is a lasting fault. -/
def transient (d : Device) (r : UnitRef) (code : Nat) : Device :=
  let d := bump d (devPage 2 + 0x104) 1
  let now := moduleSteps d
  let old := (d.transients.find? (fun t => t.unit == r)).elim [] Transient.steps
  let ss := old.filter (fun n => now - n ≤ 10000) ++ [now]
  let rest := d.transients.filter (fun t => t.unit != r)
  if 3 ≤ ss.length then lasting { d with transients := rest } r 2 code
  else { d with transients := rest ++ [{ unit := r, steps := ss }] }

def transients (d : Device) (r : UnitRef) (code : Nat) : Nat → Device
  | 0 => d
  | n + 1 => transients (transient d r code) r code n

/-- Failing lanes of a core that were in service. -/
def badLanes (d : Device) (u : Nat) (res : TestResult) : List (Nat × Nat) :=
  (res.lanes.filter (fun l => l.1 < 4 && l.2 < 33 && d.plan.maps.lane u l.1 != l.2)).foldl (fun t l => if t.contains l then t else t ++ [l]) []

/-- A core's test fails (R564): storage, or a quarter with more than one failing lane. -/
def coreFails (d : Device) (u : Nat) (res : TestResult) : Bool :=
  res.mismatch || (List.range 4).any (fun q => 1 < ((badLanes d u res).filter (fun l => l.1 == q)).length)

/-- A test's result (R564): failed, and for a link whether the fault lies beyond the module. -/
def testFails (d : Device) (r : UnitRef) (res : TestResult) : Bool × Bool :=
  match r.kind with
  | 0 => (res.mismatch || res.lanes.contains (r.q, r.lane), false)
  | 1 => (coreFails d (r.a * 48 + r.b) res, false)
  | 5 => (res.farFail && res.loopFail, res.farFail && !res.loopFail)
  | _ => (res.mismatch, false)

/-- A link or port leaves its test (R374, R563, R564): back to training, or down. -/
def testLeave (d : Device) (r : UnitRef) (train : Bool) : Device :=
  match r.kind with
  | 4 => if portFenced d r.a then d else takeDown d r.a train
  | 5 =>
    let d := setEvt (if (link d r.a r.b).testRun then countPrbs d r.a r.b else d) (linkPage r.a r.b) 17
    let o := getR d (linkPage r.a r.b + 0x104)
    let d := if bit o 1 then setR d (linkPage r.a r.b + 0x104) (o - 2) else d
    if train && linkOn d r.a r.b && !linkFenced d r.a r.b then trainLink d r.a r.b
    else moveLink d r.a r.b (fun x => { x with st := if linkFenced d r.a r.b then 2 else 6, step := 0 })
  | _ => d

/-- A unit whose release test passed returns with the next change of the Floor Plan (R543). -/
def giveBack (d : Device) (r : UnitRef) : Device := { d with plan := { d.plan with pendR := d.plan.pendR ++ [r] } }

/-- The messages that wait for a unit's test are answered with its result (R542, R543). -/
def answerTests (d : Device) (r : UnitRef) (pass : Bool) : Device :=
  let mine := d.porter.waits.filter (fun w => w.2.2 == r)
  let d := { d with porter := { d.porter with waits := d.porter.waits.filter (fun w => w.2.2 != r) } }
  mine.foldl (fun d w => respond d w.1 w.2.1 0 [Config.resultByte pass]) d

/-- What a test's end brings for its unit, by the reason it ran (R564, R567, R543, R570). -/
def testVerdict (d : Device) (t : Test) (res : TestResult) : Device :=
  let r := t.unit
  let f := testFails d r res
  if f.2 then d
  else if f.1 then (if t.why == 1 then d else lasting d r 1 t.code)
  else
    let d := if r.kind == 1 then
        (badLanes d (r.a * 48 + r.b) res).foldl (fun d l => lasting d (unitLane (r.a * 48 + r.b) l.1 l.2) 1 t.code) d
      else d
    match t.why with
    | 0 => transients d r t.code t.errs
    | 1 => giveBack d r
    | 3 => { d with plan := { d.plan with sbOk := d.plan.sbOk ++ [r] } }
    | _ => transients d r t.code (t.errs - 1)

/-- SELF_TEST_END (R564, R567): the result is logged and classed, and the unit is released or fenced. -/
def selfTestEnd (r : UnitRef) (res : TestResult) (d : Device) : Device :=
  match lfind (fun t => t.unit == r && t.running) d.tests with
  | none => d
  | some i => match d.tests[i]? with
    | none => d
    | some t =>
      let f := testFails d r res
      let pass := !f.1 && !f.2
      let v := freeVal { d with tests := ldel d.tests i }
      let d := log (bump v.2 (devPage 2 + 0x10C) 1) 9 (if pass then 0 else 2)
        (toLE 1 r.kind ++ toLE 4 (unitNum r) ++ [Config.resultByte pass] ++ toLE 4 v.1.toNat)
      let d := testVerdict d t res
      let d := testLeave d r (pass && t.why != 1)
      standbyTests (answerTests d r pass)

def execSelfTestEnd (r : UnitRef) (res : TestResult) (s : State) : Host.Outcome State Fault Refusal :=
  run (.selfTestEnd r res) (selfTestEnd r res) s

/-! ### The restore copy (R561) -/

/-- A restore copy that cannot start ends at once with its fault (R561). -/
def rstStat (busy : Bool) (code : Nat) : Nat := b2n busy + (if code == 0 then 0 else 2) + code * 65536

/-- RESTORE_COPY (R561): the bytes are read and the packets go to the port; BUSY until the last one is accepted. No core sends them, so the hall
and slot in their TAG (R352) are open. (DEDUCED, notes/assumptions/28.md.) -/
def restoreCopy (v : Reg) (d : Device) : Device :=
  let w := v.toNat
  let r := devPage 2
  let p := fld w 3 1
  let j := fld w 7 4
  let src := get64 d (r + 0x120)
  let len := getR d (r + 0x128)
  let sig := getR d (r + 0x130)
  if !bit w 0 || d.restore.isSome then d
  else if !ringPort d p || src % 64 != 0 || len % 64 != 0 || 2 ^ 48 < src + len then setR d (r + 0x134) (rstStat false 4)
  else match (if len == 0 then .ok ([], d) else unitRead d j src len 0xFFFF) with
    | .error (f, d) => setR d (r + 0x134) (rstStat false f)
    | .ok (b, d) =>
      let bad := b.any Prod.snd
      let d := if bad then poisonSeen d r (some j) else d
      let v := freeVal d
      let tag := j + v.1.toNat % 1024 * 16
      let d := (writePackets (fld w 13 12) (fld w 11 8) tag j (len + 1) src b).foldl (fun d k => queuePkt d p k) v.2
      let d := { d with restore := some { port := p, cls := fld w 13 12, job := j, peer := fld w 11 8
                                          sig := if bit sig 13 then some (sig % 8192) else none, fail := if bad then 10 else 0 } }
      setR d (r + 0x134) (rstStat true 0)

def execRestoreCopy (v : Reg) (s : State) : Host.Outcome State Fault Refusal := run (.restoreCopy v) (restoreCopy v) s

/-- RESTORE_COPY_DONE (R331, R335, R561): the port has accepted the last packet; the remote signal follows, and BUSY clears. -/
def restoreCopyDone (d : Device) : Device :=
  match d.restore with
  | none => d
  | some r =>
    let d := { d with restore := none }
    let d := match r.sig with
      | none => d
      | some w => sendSignal d r.port r.cls w r.peer 1 r.job
    setR d (devPage 2 + 0x134) (rstStat false r.fail)

def execRestoreCopyDone (s : State) : Host.Outcome State Fault Refusal := run .restoreCopyDone restoreCopyDone s

/-- REPAIR_HOLD_CLEAR (R560): a W1C write of REPAIR_HOLD. -/
def repairHoldClear (v : Reg) (d : Device) : Device :=
  setR d (devPage 2 + 0x118) (getR d (devPage 2 + 0x118) - (getR d (devPage 2 + 0x118) &&& v.toNat))

def execRepairHoldClear (v : Reg) (s : State) : Host.Outcome State Fault Refusal := run (.repairHoldClear v) (repairHoldClear v) s

end Sys2Proof.Machine
end

