-- ==== Sys2Proof/Machine/Power.lean ====
section
/-!
DEFINITION. The thermal loop, the power loop, the current limiter and the trip (R499–R503), power states (R504–R510), the write of PACE_JOB
(R516), and what the loss of the rails takes with it (R505, R614, R624).
-/
namespace Sys2Proof.Machine

/-! ### Loss of power -/

/-- What a loss of the main rails leaves (R11, R491, R500, R612, R624): the cycle counters, the locks, the always-on and Porter
islands, and the flash. (DEDUCED, notes/assumptions/55.md.) -/
def railsOff (d : Device) : Device :=
  let b := d.boot
  { regs := d.regs.filter (fun e => e.1 / 0x1000 == 0xC02 || e.1 / 0x1000 == 0xD00)
    hdrs := d.hdrs.filterMap (fun e => if e.1 == 0xD00 then some e else if e.2.lock then some (e.1, { lock := true }) else none)
    readOut := d.readOut
    plan := { maps := d.porter.seed }
    transients := d.transients
    logFront := d.logFront
    logRing := d.logRing
    logNext := d.logNext
    boot := { vin := b.vin, protOpen := b.protOpen, pwrEn := b.pwrEn, cool := b.cool, slot := b.slot, porterReady := b.porterReady
              retried := b.retried, seqRetried := b.seqRetried, heldOff := b.heldOff, recovery := b.recovery, fuseErr := b.fuseErr
              tripped := b.tripped, cause := b.cause, entry := b.entry, restart := b.restart, locked := b.locked, lastDepth := b.lastDepth, lastAbort := b.lastAbort, wakeCause := b.wakeCause }
    porter := { d.porter with waits := [], side := if d.porter.waits.isEmpty then d.porter.side else none, mbxBusy := false }
    now := d.now
    free := d.free }

/-- The ACTIVE slot of a kind, and the other one (R520). -/
def activeSlot (d : Device) (kind : Nat) : Nat := tget 0 d.porter.act kind % 2

/-- A slot of the flash that holds no valid image: erased. -/
def eraseSlot (d : Device) (kind slot len : Nat) : Device :=
  { d with porter := { d.porter with slots := tset d.porter.slots (2 * kind + slot) { shipped := false, len := len } } }

/-- A session closes without activation (R528): the inactive slot holds no valid image. -/
def closeSession (d : Device) : Device :=
  match d.porter.session with
  | none => d
  | some x => eraseSlot { d with porter := { d.porter with session := none } } x.kind (1 - activeSlot d x.kind) 0

/-- The Porter island loses its registers and its SRAM but the log front; the always-on island keeps the RTC and RTC_ALARM (R615, R624), and
the flash keeps what it holds but the slot of an open session. -/
def porterOff (d : Device) : Device :=
  let d := closeSession d
  let p := d.porter
  { d with
    regs := (if bit (getR d (porterPage + 0x108)) 3 then [(porterPage + 0x108, 8)] else [])
      ++ d.regs.filter (fun e => e.1 == porterPage + 0x118 || e.1 == porterPage + 0x11C || e.1 == porterPage + 0x120)
    hdrs := []
    transients := []
    boot := { d.boot with porterReady := false, recovery := false, fuseErr := false, locked := false }
    porter := { act := p.act, trial := p.trial, tries := p.tries, slots := p.slots, svn := p.svn, seed := p.seed, genRec := p.genRec
                alarm := p.alarm, sigFails := p.sigFails } }

/-! ### The thermal and power loops -/

/-- THERM_TARGET_WRITE (R503): a target outside 85.0 °C to 100.0 °C is ignored. -/
def thermTargetWrite (v : Reg) (d : Device) : Device :=
  let t := v.toNat % 65536
  if 340 ≤ t && t ≤ 400 then setR d (pwrPage 0 + 0x120) t else d

def execThermTargetWrite (v : Reg) (s : State) : Host.Outcome State Fault Refusal := run (.thermTargetWrite v) (thermTargetWrite v) s

/-- The loops run (R503): the Porter is ready and the module is in RUN or IDLE with its clocks. -/
def loopsRun (d : Device) : Bool := d.boot.porterReady && d.boot.oscReady && d.boot.pm ≤ 1 && d.boot.exit == 0 && !d.boot.tripped

/-- Stacks of a quadrant in service. -/
def quadStacks (d : Device) (q : Nat) : List Nat := (List.range 16).filter (fun s => s / 4 == q && !d.plan.maps.outStacks.contains s)

/-- The last temperature sample of a stack and OVER_RATED (R275, R277). -/
def stackTemp (d : Device) (s : Nat) : Int := signed 16 (getR d (scPage s + 0x104) % 65536)
def overRated (d : Device) (s : Nat) : Bool := bit (getR d (scPage s + 0x100)) 2

/-- The readings that the thermal loop compares for a hall (R499): its own temperature sensors, and its quadrant's stacks less 5.0 °C. -/
def hallReadings (d : Device) (h : Nat) : List Int :=
  (d.porter.samples.filterMap (fun e => match sensorDesc e.1 with
    | some s => if s.kind == 0 && s.locKind == 0 && s.location == h then some (signed 16 e.2.1) else none
    | none => none)) ++ (quadStacks d (hallQuad h)).map (fun s => stackTemp d s - 20)

/-- A request after one lowering by `n` MHz: from the current frequency when none is set, never below 400 MHz. -/
def lowered (d : Device) (h who n : Nat) : Nat :=
  let r := getR d (dvfsWin h + 4 * who)
  max 400 ((if r == 0 then (dvfs d h).cur else r) - n)

/-- A request after one raise by 25 MHz, cleared at MAX_ARITH_MHZ. -/
def raised (d : Device) (h who : Nat) : Nat :=
  let r := getR d (dvfsWin h + 4 * who) + 25
  if maxArith d ≤ r then 0 else r

/-- The thermal loop's action for one hall (R499). -/
def thermalHall (d : Device) (h : Nat) : Device :=
  let rs := hallReadings d h
  let hot := rs.foldl max (rs.headD 0)
  let t : Int := getR d (pwrPage 0 + 0x120)
  if (quadStacks d (hallQuad h)).any d.porter.hot.contains then dvfsReq d h 1 400
  else if rs.isEmpty then d
  else if t < hot then dvfsReq d h 1 (lowered d h 1 25)
  else if hot < t - 12 && getR d (dvfsWin h + 4) != 0 then dvfsReq d h 1 (raised d h 1)
  else d

/-- Stacks that hold their quadrant at 400 MHz (R499): OVER_RATED, or once so and not yet below 100.0 °C. -/
def hotStacks (d : Device) : List Nat :=
  (List.range 16).filter (fun s => overRated d s || (d.porter.hot.contains s && decide (400 ≤ stackTemp d s)))

/-- THERMAL_LOOP (R499, R503). -/
def thermalLoop (d : Device) : Device :=
  if !loopsRun d then d
  else
    let d := { d with porter := { d.porter with hot := hotStacks d } }
    (activeHalls d).foldl thermalHall d

def execThermalLoop (s : State) : Host.Outcome State Fault Refusal := run .thermalLoop thermalLoop s

/-- POWER_LOOP (R501, R503): above the ceiling every request falls by 25 MHz, by 50 MHz when the limiter has stretched; below 95 % a request
that is set rises; a rail past TRIP keeps the requests at 400 MHz (R535). (DESIGN CHOICE, notes/assumptions/69.md.) -/
def powerLoop (watts : Nat) (d : Device) : Device :=
  if !loopsRun d then d
  else
    let n := if d.boot.limSeen then 50 else 25
    let d := setR { d with boot := { d.boot with limSeen := getR d (pwrPage 0 + 0x124) != 0 } } (pwrPage 0 + 0x11C) watts
    if !d.porter.rails.isEmpty then d
    else if ceiling d < watts then (activeHalls d).foldl (fun d h => dvfsReq d h 3 (lowered d h 3 n)) d
    else if watts * 100 < ceiling d * 95 then
      (activeHalls d).foldl (fun d h => if getR d (dvfsWin h + 0xC) == 0 then d else dvfsReq d h 3 (raised d h 3)) d
    else d

def execPowerLoop (watts : Nat) (s : State) : Host.Outcome State Fault Refusal := run (.powerLoop watts) (powerLoop watts) s

/-- Half a microsecond in which the limiter stretches is counted (R502). -/
def limCount (d : Device) : Device :=
  if getR d (pwrPage 0 + 0x124) == 0 then d
  else if d.boot.limHalf == 0 then { d with boot := { d.boot with limHalf := 1, limSeen := true } }
  else bump { d with boot := { d.boot with limHalf := 0, limSeen := true } } (pwrPage 0 + 0x12C) 1

/-- CURRENT_LIMITER_CHECK (R502), every 0.5 µs: above 110 % of the ceiling one edge in 8, and one more for each 2 µs further, up to 4; below
the ceiling one is released every 20 µs. -/
def currentLimiterCheck (watts : Nat) (d : Device) : Device :=
  if !d.boot.oscReady || d.boot.tripped then d
  else
    let r := pwrPage 0 + 0x124
    let k := getR d r
    let b := d.boot
    let d := if ceiling d * 110 < watts * 100 then
        (if k == 0 then
           setEvt (bump (setR { d with boot := { b with limHigh := 0, limLow := 0 } } r 1) (pwrPage 0 + 0x128) 1) (pwrPage 0) 16
         else if b.limHigh + 1 < 4 then { d with boot := { b with limHigh := b.limHigh + 1, limLow := 0 } }
         else setR { d with boot := { b with limHigh := 0, limLow := 0 } } r (min 4 (k + 1)))
      else if watts < ceiling d && k != 0 then
        (if b.limLow + 1 < 40 then { d with boot := { b with limHigh := 0, limLow := b.limLow + 1 } }
         else setR { d with boot := { b with limHigh := 0, limLow := 0 } } r (k - 1))
      else { d with boot := { b with limHigh := 0, limLow := 0 } }
    limCount d

def execCurrentLimiterCheck (watts : Nat) (s : State) : Host.Outcome State Fault Refusal :=
  run (.currentLimiterCheck watts) (currentLimiterCheck watts) s

/-! ### Bring-up records and the thermal trip -/

/-- The last stage completed (R634). -/
def lastStage (d : Device) : Nat :=
  let b := d.boot
  if b.accepting then 11 else if b.running then 10 else if d.plan.built then 9 else if b.tested then 8 else if b.logicReady then 7
  else if b.seqReady then 6 else if b.memReady then 5 else if b.oscReady then 4 else if b.vrPgood then 3 else if b.porterReady then 2 else 1

/-- A BOOT record (R536, R634): CAUSE, STAGE, FAILED and RETRY, the slots booted and the SVNs. -/
def bootRecord (d : Device) (cause stage failed : Nat) : Device :=
  let p := d.porter
  log d 1 (if failed == 0 then 0 else 2)
    (toLE 1 cause ++ toLE 1 stage ++ toLE 1 failed ++ toLE 1 (b2n d.boot.retried) ++ toLE 1 (tget 0 p.runSlot 1) ++ toLE 1 (tget 0 p.runSlot 2)
      ++ toLE 1 (tget 0 p.runSvn 1) ++ toLE 1 (tget 0 p.runSvn 2))

/-- The Floor Plan's sensor of a place, or an open value where the list has none (R36; DESIGN CHOICE, notes/assumptions/32.md). -/
def sensorAt (d : Device) (locKind loc : Nat) : Nat × Device :=
  match (List.range Config.sensors.length).find? (fun i => match sensorDesc i with
    | some s => s.kind == 0 && s.locKind == locKind && s.location == loc
    | none => false) with
  | some i => (i, d)
  | none => ((freeVal d).1.toNat % 65536, (freeVal d).2)

/-- The module trips (R500, R538, R633, R634): the alert, the log and its flush, and the rails are removed; a bring-up under way stops, which is
recorded. -/
def trip (d : Device) (locKind loc v : Nat) : Device :=
  let s := sensorAt d locKind loc
  let d := log s.2 4 3 (toLE 2 s.1 ++ toLE 2 v)
  let d := if d.boot.pwrEn && !d.boot.accepting then bootRecord d 5 (lastStage d) 0 else d
  railsOff { flushLog (alert d 2) with boot := { d.boot with tripped := true, cause := 5 } }

/-- THERMAL_TRIP (R500): a hall or quadrant sensor at 115.0 °C, or a stack sample at 110.0 °C. -/
def thermalTrip (sensor : Nat) (value : BitVec 16) (d : Device) : Device :=
  let t := signed 16 value.toNat
  let k := if sensor < 18 then (0, sensor) else if sensor < 22 then (2, sensor - 18) else (1, sensor - 22)
  if !d.boot.vin || d.boot.tripped || d.boot.pm == 4 || decide (t < (if k.1 == 1 then 440 else 460)) then d
  else trip d k.1 k.2 value.toNat

def execThermalTrip (sensor : Nat) (value : BitVec 16) (s : State) : Host.Outcome State Fault Refusal :=
  run (.thermalTrip sensor value) (thermalTrip sensor value) s

/-! ### Power states (R504–R510) -/

/-- The module is quiescent (R507). -/
def quiescent (d : Device) : Bool :=
  (List.range 16).all (fun j =>
    let x := job d j
    x.st != 1 && x.st != 4 && x.st != 6 && (x.phase == 0 || x.st == 5) && x.ckpts.all (fun c => c.phase == 0))
  && (List.range 17).all (fun r => ringLoad d r == 0) && d.rdOut.isEmpty && d.rdTodo.isEmpty && d.ctxs.all (fun e => !e.2.active)

/-- The deepest state that PM_LATENCY_BUDGET, the enables and the jobs allow (R507). -/
def pmTarget (d : Device) : Nat :=
  let n := getR d (pwrPage 0 + 0x108)
  let c := getR d (pwrPage 0 + 0x10C)
  if 400000 ≤ n && bit c 1 && (List.range 16).all (fun j => (job d j).st == 0) then 4
  else if 25000 ≤ n && bit c 0 && (List.range 16).all (fun j => (job d j).st == 0 || (job d j).st == 5) then 3
  else if 200 ≤ n then 2 else if 2 ≤ n then 1 else 0

/-- PM_ENTRY_START (R507, R508): the module has been quiescent long enough for a state deeper than the one it is in. -/
def pmEntryStart (d : Device) : Device :=
  let b := d.boot
  let t := pmTarget d
  if !b.accepting || !b.pwrEn || b.heldOff || b.stage != 0 || b.exit != 0 || !quiescent d || t ≤ b.pm then d
  else bump { d with boot := { b with target := t, stage := depthStages b.pm + 1, done := depthStages b.pm, lastDepth := b.pm, wake := 0 } }
    (pwrPage 0 + 0x114) 1

def execPmEntryStart (s : State) : Host.Outcome State Fault Refusal := run .pmEntryStart pmEntryStart s

/-- What a core loses in DOZE (R505): its stores, tiles, accumulators, weight banks and operand cache; the run-ahead copies go with hall
memory. -/
def coreGated (c : Core) : Core :=
  { c with istore := {}, smem := {}, tile := {}, acc := {}, xbad := [], copies := [], arr := { c.arr with banks := [], cache := [] } }

/-- The trained stacks enter or leave self-refresh (R302, R508). -/
def selfRefresh (d : Device) (on : Bool) : Device :=
  (List.range 16).foldl (fun d s => if bit (getR d (scPage s + 0x100)) 0 then putBit d (scPage s + 0x100) 3 on else d) d

/-- Stage E2 (R505): the halls and the fabric are power-gated. -/
def gateHalls (d : Device) : Device :=
  { d with cores := d.cores.map (fun e => (e.1, coreGated e.2)), hmem := [], xcache := [], xptr := [] }

/-- Stage E4: the Harlon ports go down, and the optics are off. -/
def portsOff (d : Device) : Device := takeDown ((List.range 6).foldl (fun d p => takeDown d p false) d) 6 false

/-- Stage E6 (R508, R538): the log is flushed; the stacks, the retention domain and the Porter lose power. -/
def deepOff (d : Device) : Device :=
  let b := d.boot
  let e := porterOff (railsOff (flushLog d))
  { e with boot := { e.boot with pm := 4, done := 6, target := b.target, lastDepth := 4, wake := b.wake, wakeCause := b.wakeCause } }

/-- What a stage of entry does (R508). (DEDUCED, notes/assumptions/54.md.) -/
def stageEffect (d : Device) (k : Nat) : Device :=
  let at_ (d : Device) (st : Nat) : Device := { d with boot := { d.boot with pm := st, lastDepth := st } }
  match k with
  | 1 => at_ d 1
  | 2 => gateHalls d
  | 3 => at_ (selfRefresh d true) 2
  | 4 => portsOff d
  | 5 => at_ { d with boot := { d.boot with vrPgood := false, memReady := false, logicReady := false } } 3
  | _ => deepOff d

/-- A POWER_STATE record (R536): target, state reached, abort point and wake cause. -/
def powerRecord (d : Device) (sev : Nat) : Device :=
  let b := d.boot
  log d 10 sev (toLE 1 b.target ++ toLE 1 b.lastDepth ++ toLE 1 b.lastAbort ++ toLE 1 b.wakeCause)

/-- An entry that a wake ended is abandoned at the stage's abort point (R509); the exit for the stages completed begins. -/
def abandonEntry (d : Device) (k : Nat) : Device :=
  let d := bump { d with boot := { d.boot with lastAbort := k, wakeCause := d.boot.wake } } (pwrPage 0 + 0x118) 1
  let d := powerRecord d 0
  { d with boot := startExit d.boot }

/-- PM_STAGE_DONE (R508, R509): the stage in progress ends, once no change of voltage or frequency is in progress; the next stage follows, or
the entry is abandoned, or the target is reached. A wake during E6 acts after DEEP is reached. -/
def pmStageDone (d : Device) : Device :=
  let k := d.boot.stage
  if k == 0 || d.dvfs.any (fun e => e.2.phase != 0) then d
  else
    let t := d.boot.target
    let w := d.boot.wake
    let d := stageEffect d k
    let d := { d with boot := { d.boot with stage := 0, done := k } }
    if k == 6 then (if w != 0 then { d with boot := startExit d.boot } else d)
    else if w != 0 then abandonEntry d k
    else if k < depthStages t then { d with boot := { d.boot with stage := k + 1 } }
    else d

def execPmStageDone (s : State) : Host.Outcome State Fault Refusal := run .pmStageDone pmStageDone s

/-- PM_WAKE (R509). -/
def pmWake (cause : Nat) (d : Device) : Device := wake d cause

def execPmWake (cause : Nat) (s : State) : Host.Outcome State Fault Refusal := run (.pmWake cause) (pmWake cause) s

/-- Every link that may train does so (R367, R510, R622 B7); a fenced one stands fenced. -/
def trainPorts (d : Device) : Device :=
  (List.range 24).foldl (fun d k =>
    if linkFenced d (k / 4) (k % 4) then setLink d (k / 4) (k % 4) { link d (k / 4) (k % 4) with st := 2 }
    else if linkOn d (k / 4) (k % 4) then trainLink d (k / 4) (k % 4) else d) d

/-- PM_EXIT_STEP (R510): the exit's step has its ready indication. After step 4 the module runs; links that E4 took down retrain. -/
def pmExitStep (d : Device) : Device :=
  let b := d.boot
  match b.exit with
  | 0 => d
  | 1 => { d with boot := { b with exit := 2, vrPgood := true } }
  | 2 => { d with boot := { b with exit := 3 } }
  | 3 => selfRefresh { d with boot := { b with exit := 4, memReady := true } } false
  | _ =>
    let d := powerRecord { d with boot := { b with exit := 0, exitRetried := false, pm := 0, done := 0, target := 0, logicReady := true } } 0
    if 4 ≤ b.done then trainPorts (trainLink d 6 0) else d

def execPmExitStep (s : State) : Host.Outcome State Fault Refusal := run .pmExitStep pmExitStep s

/-- The exit has failed twice (R510): the stages that are left to SLEEP run, and the module stays there. -/
def holdAsleep (d : Device) : Device :=
  let d := selfRefresh (if d.boot.done < 4 then portsOff d else d) true
  { d with boot := { d.boot with exit := 0, done := 5, pm := 3, lastDepth := 3, heldOff := true, vrPgood := false, memReady := false
                                 logicReady := false } }

/-- PM_EXIT_TIMEOUT (R510): the first is logged and the exit is run again; after the second the module is held in SLEEP. -/
def pmExitTimeout (d : Device) : Device :=
  if d.boot.exit == 0 then d
  else
    let d := powerRecord d 2
    if d.boot.exitRetried then holdAsleep d else { d with boot := { d.boot with exit := 1, exitRetried := true } }

def execPmExitTimeout (s : State) : Host.Outcome State Fault Refusal := run .pmExitTimeout pmExitTimeout s

/-- PACE_JOB_WRITE (R516): the job is named, and the lag, sum, barrier and run registers become zero. -/
def paceJobWrite (h : Nat) (v : Reg) (d : Device) : Device :=
  let r := pacePage h
  [0x104, 0x108, 0x10C, 0x110, 0x114, 0x118].foldl (fun d o => setR d (r + o) 0) (setR d (r + 0x100) (v.toNat % 16))

def execPaceJobWrite (h : Nat) (v : Reg) (s : State) : Host.Outcome State Fault Refusal := run (.paceJobWrite h v) (paceJobWrite h v) s

end Sys2Proof.Machine
end

