-- ==== Sys2Proof/Machine/Porter.lean ====
section
/-!
DEFINITION. The Porter: its restart and boot chain (R517, R518, R525, R526, R530, R532), firmware (R523, R524, R527–R531), the message set
(R539–R546), the log (R536, R538) and the module's reset (R624).
-/
namespace Sys2Proof.Machine

/-! ### Firmware images -/

/-- Bytes of a slot of the flash (R519, R529): the image as shipped, or what a session wrote; other bytes read 0xFF. -/
def slotByte (d : Device) (kind slot off : Nat) : Byte :=
  let s := tget {} d.porter.slots (2 * kind + slot)
  if s.shipped then (Config.fwImage kind slot).getD off 0xFF else tget 0xFF s.bytes off

def slotBytes (d : Device) (kind slot off n : Nat) : List Byte := (List.range n).map (fun i => slotByte d kind slot (off + i))

/-- The fused counter of a kind (R522). -/
def fusedSvn (d : Device) (kind : Nat) : Nat := tget 0 d.porter.svn kind
def imageSvn (d : Device) (kind slot : Nat) : Nat := (slotByte d kind slot 7).toNat
def imageVersion (d : Device) (kind slot : Nat) : Nat := ofLE (slotBytes d kind slot 8 4)
def bodyLen (d : Device) (kind slot : Nat) : Nat := ofLE (slotBytes d kind slot 0xC 4)
def bodyMax (kind : Nat) : Nat := if kind == 1 then 196608 else 16759808
def slotSize (kind : Nat) : Nat := if kind == 1 then 0x100000 else 0x1000000
def imageBody (d : Device) (kind slot : Nat) : List Byte := slotBytes d kind slot 0x4400 (bodyLen d kind slot)

/-- Check 1 of R524: MAGIC, FMT_VER, KIND, the reserved bytes and BODY_LEN. -/
def headOk (d : Device) (kind slot : Nat) : Bool :=
  ofLE (slotBytes d kind slot 0 4) == 0x49574652 && ofLE (slotBytes d kind slot 4 2) == 0x100 && (slotByte d kind slot 6).toNat == kind
  && allZero (slotBytes d kind slot 0x18 8) && allZero (slotBytes d kind slot 0x50 176) && allZero (slotBytes d kind slot 0x4394 108)
  && 1 ≤ bodyLen d kind slot && bodyLen d kind slot ≤ bodyMax kind

/-- The image of a slot is accepted (R524): every check passes. -/
def imageOk (d : Device) (kind slot : Nat) : Bool :=
  let at_ := slotBytes d kind slot
  headOk d kind slot && fusedSvn d kind ≤ imageSvn d kind slot
  && Config.sha384 (at_ 0x100 388) == Config.rsaRootHash && Config.sha384 (at_ 0x284 48) == Config.slhRootHash
  && Config.rsaVerify (at_ 0 256) (at_ 0x100 388) (at_ 0x2B4 384) && Config.slhVerify (at_ 0 256) (at_ 0x284 48) (at_ 0x434 16224)
  && Config.sha384 (imageBody d kind slot) == at_ 0x20 48

/-- A kind's ACTIVE slot is in TRIAL (R520). -/
def inTrial (d : Device) (kind : Nat) : Bool := d.porter.trial.contains kind

/-- A FW_STATE record and its event (R536, R547). (DEDUCED, notes/assumptions/50.md.) -/
def fwState (d : Device) (kind slot state code : Nat) : Device :=
  let d := log d 2 (if state == 5 || state == 7 then 2 else 0) (toLE 1 kind ++ toLE 1 slot ++ toLE 1 state ++ toLE 2 code)
  pushEv d { type := 0x103, detail := toLE 1 kind ++ toLE 1 slot ++ toLE 1 state }

/-- An image is rejected (R524, R549). -/
def rejectImage (d : Device) (kind slot : Nat) : Device :=
  fwState { d with porter := { d.porter with sigFails := min (d.porter.sigFails + 1) 0xFFFFFFFF } } kind slot 7 16

def setActive (d : Device) (kind slot : Nat) : Device := { d with porter := { d.porter with act := tset d.porter.act kind slot } }

/-- Roll back (R532): the other slot is ACTIVE, TRIAL is cleared, and FW_ROLLBACK is logged. -/
def rollback (d : Device) (kind : Nat) : Device :=
  let s := activeSlot d kind
  let d := setActive { d with porter := { d.porter with trial := ndel d.porter.trial kind } } kind (1 - s)
  alert (fwState d kind s 5 0) 4

/-- A slot of a kind is selected (R532): the slot to boot, none when no slot passes R524, and whether the selection rolled back. -/
def selectSlot (d : Device) (kind : Nat) : Option Nat × Bool × Device :=
  let s := activeSlot d kind
  if inTrial d kind then
    let tries := tget 0 d.porter.tries kind + 1
    let d := { d with porter := { d.porter with tries := tset d.porter.tries kind tries } }
    if tries < 2 && imageOk d kind s then (some s, false, d)
    else
      let d := if tries < 2 then rejectImage d kind s else d
      let d := rollback d kind
      if imageOk d kind (1 - s) then (some (1 - s), true, d) else (none, true, rejectImage d kind (1 - s))
  else if imageOk d kind s then (some s, false, d)
  else
    let d := rejectImage d kind s
    if imageOk d kind (1 - s) then (some (1 - s), false, setActive d kind (1 - s)) else (none, false, rejectImage d kind (1 - s))

/-- The image that a kind now runs, with its measurement (R525, R549). -/
def runImage (d : Device) (kind slot : Nat) : Device :=
  let p := d.porter
  let h := Config.sha384 (imageBody d kind slot)
  { d with porter := { p with runSlot := tset p.runSlot kind slot, runSvn := tset p.runSvn kind (imageSvn d kind slot)
                              runVer := tset p.runVer kind (imageVersion d kind slot)
                              mPorter := if kind == 1 then h else p.mPorter, mSeq := if kind == 2 then h else p.mSeq } }

/-- A TRIAL slot that has booted is confirmed (R530). -/
def confirm (d : Device) (kind : Nat) : Device :=
  if inTrial d kind then fwState { d with porter := { d.porter with trial := ndel d.porter.trial kind } } kind (activeSlot d kind) 4 0 else d

/-! ### Boot chain, restart and reset -/

/-- Recovery mode (R526, R633): RECOVERY, BOOT_FAIL and a BOOT record of the failure. -/
def recover (d : Device) (fuse : Bool) : Device :=
  let d := alert { d with boot := { d.boot with porterReady := false, recovery := true, fuseErr := fuse } } 5
  bootRecord d 6 1 2

/-- The Porter is powered and not running its firmware. -/
def porterDown (d : Device) : Bool := d.boot.vin && !d.boot.porterReady && !d.boot.recovery && d.boot.pm != 4

/-- What the Porter does when it is ready (R498, R525, R530, R547, R634): it confirms its slot, writes the BOOT record of an entry, reports wrong
straps and a restart, and carries fences of the seed. -/
def porterUp (d : Device) : Device :=
  let d := confirm { d with boot := { d.boot with porterReady := true } } 1
  let d := if d.boot.entry && d.boot.cause == 0 && d.boot.cool == 3 then
      let v := toLE 1 d.boot.cool ++ toLE 1 d.boot.slot
      alert (pushEv (log d 12 1 v) { type := 0x104, detail := v }) 8
    else d
  let d := if d.boot.entry then
      (let d := bootRecord d d.boot.cause 0 0
       { d with boot := { d.boot with entry := false, cause := 0 }, plan := { d.plan with maps := d.porter.seed } })
    else d
  if d.boot.restart == 0 then d
  else
    let d := pushEv d { type := 0x105, detail := toLE 1 (d.boot.restart - 1) }
    { d with boot := { d.boot with restart := 0 } }

/-- PORTER_BOOT (R525 steps 1 to 4, R526, R532): the fuses, the selection, the image, PORTER_READY. -/
def porterBoot (fusesOk : Bool) (d : Device) : Device :=
  if !porterDown d then d
  else
    let d := { d with porter := { d.porter with mRom := Config.romHash } }
    if !fusesOk then recover d true
    else match selectSlot d 1 with
      | (none, _, d) => recover d false
      | (some s, _, d) => porterUp (runImage d 1 s)

def execPorterBoot (fusesOk : Bool) (s : State) : Host.Outcome State Fault Refusal := run (.porterBoot fusesOk) (porterBoot fusesOk) s

/-- The Porter island restarts (R518, R538, R567): the log is flushed and the transient counts are cleared. -/
def porterRestart (d : Device) (cause : Nat) : Device :=
  let d := flushLog d
  { d with boot := { d.boot with porterReady := false, restart := cause + 1 }, transients := [] }

/-- WATCHDOG_RESTART (R517, R518, R532): firmware that hangs before PORTER_READY has used one of its tries. -/
def watchdogRestart (d : Device) : Device :=
  if d.boot.porterReady then porterRestart d 1
  else if !porterDown d then d
  else match selectSlot d 1 with
    | (none, _, d) => recover d false
    | (some _, _, d) => porterRestart d 1

def execWatchdogRestart (s : State) : Host.Outcome State Fault Refusal := run .watchdogRestart watchdogRestart s

/-- PORTER_READY_TIMEOUT (R518, R526). -/
def porterReadyTimeout (d : Device) : Device := if porterDown d then recover d false else d

def execPorterReadyTimeout (s : State) : Host.Outcome State Fault Refusal := run .porterReadyTimeout porterReadyTimeout s

/-- The module is reset (R491, R538, R615, R624): the log is flushed, the rails are removed, and the Porter island restarts; the trip clears. -/
def moduleReset (d : Device) (cause : Nat) : Device :=
  let d := porterOff (railsOff (flushLog d))
  { d with
    regs := d.regs.filter (fun e => e.1 / 0x1000 == 0xD00)
    boot := { d.boot with tripped := false, heldOff := false, retried := false, seqRetried := false, entry := true, restart := 0
                          cause := if d.boot.cause == 4 || d.boot.cause == 5 then d.boot.cause else cause, lastDepth := 0, lastAbort := 0
                          wakeCause := 0 } }

/-! ### The message set (R539–R542) -/

/-- What a message brings: its response, unless it waits, and whether it changed state (R536 SIDEBAND). -/
abbrev Answer := Option (Nat × List Byte × Bool) × Device

def answer (d : Device) (status : Nat) (payload : List Byte := []) (changed : Bool := false) : Answer := (some (status, payload, changed), d)

/-- MBX_REQ holds this request, and it has been submitted (R540). -/
def mbxHolds (d : Device) (cmd : Nat) (payload : List Byte) : Bool :=
  let q := porterPage + 0x400
  let n := getR d q / 65536
  d.porter.mbxBusy && getR d q % 256 == cmd && n == payload.length && (1276 < n || regRead d (q + 4) n == payload)

/-- A response leaves (R540, R541); a sideband message that changed state is logged (R536). (DEDUCED, notes/assumptions/51.md.) -/
def finish (t : Transport) (cmd : Nat) (a : Answer) : Device :=
  match a.1 with
  | none => a.2
  | some (status, payload, changed) =>
    let d := if changed && t == .sideband then log a.2 11 0 (toLE 1 cmd ++ toLE 1 status) else a.2
    respond d t cmd status payload

/-- A message on a transport (R518, R540–R542): unpowered it is not answered, a restarting Porter answers BUSY, a request that waits is not
replaced by a second one, recovery refuses all but GET_STATUS and the FW_ messages, and a wrong length is refused. (DEDUCED, notes/assumptions/47.md.) (DEDUCED, notes/assumptions/49.md.) -/
def message (t : Transport) (cmd lo hi : Nat) (payload : List Byte) (f : Device → Answer) (d : Device) : Device :=
  let waiting := d.porter.waits.any (fun w => w.1 == t)
  match t with
  | .sideband =>
    if !d.boot.vin || d.boot.pm == 4 then d
    else
      let d := wake d 3
      if waiting || (!d.boot.porterReady && !d.boot.recovery) then respond d t cmd 1 []
      else if d.boot.recovery && cmd != 1 && !(0x10 ≤ cmd && cmd ≤ 0x14) then respond d t cmd 4 []
      else if payload.length < lo || hi < payload.length then respond d t cmd 2 []
      else finish t cmd (f d)
  | .mailbox =>
    if !mbxHolds d cmd payload || waiting || !d.boot.porterReady then d
    else if payload.length < lo || hi < payload.length then respond d t cmd 2 []
    else finish t cmd (f d)

/-- Security work is refused in SLEEP (R542). -/
def asleep (d : Device) : Bool := d.boot.pm == 3

/-- ALERT_CAUSE bits clear (R544), but FOYER_DOWN while the Foyer link is down after B7 (R630). -/
def alertClear (d : Device) (mask : Nat) : Device :=
  let v := getR d (porterPage + 0x108)
  let keep := if d.boot.logicReady && !portUp d 6 && bit mask 6 then mask - 64 else mask
  setR d (porterPage + 0x108) (v - (v &&& keep))

/-- The hottest temperature sample, and an open value when there is none. -/
def hottest (d : Device) : Nat × Device :=
  let ts := d.porter.samples.filterMap (fun e => match sensorDesc e.1 with
    | some s => if s.kind == 0 then some e.2.1 else none
    | none => none)
  match ts with
  | [] => ((freeVal d).1.toNat % 65536, (freeVal d).2)
  | x :: t => (t.foldl (fun m v => if signed 16 m < signed 16 v then v else m) x, d)

/-- The power state byte of GET_STATUS (R542, R612): the state of R504, or a code for main rails that are off, which the spec does not give. (DESIGN CHOICE, notes/assumptions/48.md.) -/
def powerByte (d : Device) : Nat × Device :=
  if d.boot.pm != 0 || d.boot.vrPgood then (d.boot.pm, d) else (5 + (freeVal d).1.toNat % 251, (freeVal d).2)

/-- GET_STATUS (R542). -/
def getStatus (t : Transport) (payload : List Byte) (d : Device) : Device :=
  message t 1 0 0 payload (fun d =>
    let s := powerByte d
    let h := hottest s.2
    answer h.2 0 (toLE 1 s.1 ++ toLE 1 (coolClass d) ++ toLE 1 (b2n d.boot.recovery) ++ toLE 1 (b2n d.boot.porterReady) ++ toLE 4 d.plan.gen
      ++ toLE 4 (getR d (porterPage + 0x108)) ++ toLE 2 (getR d (pwrPage 0 + 0x11C)) ++ toLE 2 h.1)) d

def execGetStatus (t : Transport) (p : List Byte) (s : State) : Host.Outcome State Fault Refusal := run (.getStatus t p) (getStatus t p) s

/-- ALERT_ACK (R542, R544). -/
def alertAck (t : Transport) (payload : List Byte) (d : Device) : Device :=
  message t 2 4 4 payload (fun d => answer (alertClear d (ofLE payload)) 0 (toLE 4 (getR d (porterPage + 0x108))) true) d

def execAlertAck (t : Transport) (p : List Byte) (s : State) : Host.Outcome State Fault Refusal := run (.alertAck t p) (alertAck t p) s

/-- The last sample of a sensor as a response (R534): value, age, FLAGS. (DEDUCED, notes/assumptions/52.md.) -/
def sensorReply (d : Device) (i : Nat) (s : SensorDesc) (fresh : Bool) : Answer :=
  match d.porter.samples.find? (fun e => e.1 == i) with
  | none =>
    let v := freeVal d
    answer v.2 0 (toLE 2 v.1.toNat ++ toLE 4 (v.1.toNat / 65536) ++ [0])
  | some (_, v, tick) =>
    answer d 0 (toLE 2 v ++ toLE 4 (min (porterTicks d - tick) 0xFFFFFFFF)
      ++ toLE 1 (1 + 2 * b2n fresh + 4 * b2n (pastLimit s s.warn v) + 8 * b2n (pastLimit s s.trip v)))

/-- READ_SENSOR (R534): `fresh` is a conversion that won the hub, of a sensor that the hub converts. -/
def readSensor (t : Transport) (payload : List Byte) (fresh : Option (BitVec 16)) (d : Device) : Device :=
  message t 3 2 2 payload (fun d =>
    let i := ofLE payload
    match sensorDesc i with
    | none => answer d 3
    | some s => match fresh with
      | some v =>
        if s.locKind == 1 || 5 ≤ s.locKind || !d.boot.oscReady || asleep d then sensorReply d i s false
        else sensorReply (sensorSample d i v.toNat) i s true
      | none => sensorReply d i s false) d

def execReadSensor (t : Transport) (p : List Byte) (fresh : Option (BitVec 16)) (s : State) : Host.Outcome State Fault Refusal :=
  run (.readSensor t p fresh) (readSensor t p fresh) s

/-- A value for every chassis sensor of a kind (R534, R535). -/
def chassisTemp (d : Device) (kind v : Nat) : Device :=
  (List.range Config.sensors.length).foldl (fun d i => match sensorDesc i with
    | some s => if s.kind == kind then sensorSample d i v else d
    | none => d) d

/-- SET_CHASSIS_TEMP (R534, R542), a message of the sideband alone. -/
def setChassisTemp (t : Transport) (payload : List Byte) (d : Device) : Device :=
  message t 4 4 4 payload (fun d =>
    if t == .mailbox then answer d 4
    else answer (chassisTemp (chassisTemp d 4 (leAt payload 0 2)) 5 (leAt payload 2 2)) 0 [] true) d

def execSetChassisTemp (t : Transport) (p : List Byte) (s : State) : Host.Outcome State Fault Refusal :=
  run (.setChassisTemp t p) (setChassisTemp t p) s

/-- A log record in its 64 bytes (R536). -/
def recordBytes (r : LogRec) : List Byte :=
  let b := (toLE 4 r.seq ++ toLE 2 r.type ++ toLE 1 r.severity ++ toLE 1 0 ++ toLE 8 r.rtc ++ (r.payload ++ toLE 44 0).take 44)
  b ++ toLE 4 (crc32c b)

/-- READ_LOG (R542): the records of the named run of SEQ that the log holds. -/
def readLog (t : Transport) (payload : List Byte) (d : Device) : Device :=
  message t 5 5 5 payload (fun d =>
    let first := leAt payload 0 4
    let n := leAt payload 4 1
    if n == 0 || (if t == .sideband then 3 else 16) < n then answer d 3
    else answer d 0 (((d.logRing ++ d.logFront).filter (fun r => (r.seq + 2 ^ 32 - first) % 2 ^ 32 < n)).map recordBytes).flatten) d

def execReadLog (t : Transport) (p : List Byte) (s : State) : Host.Outcome State Fault Refusal := run (.readLog t p) (readLog t p) s

/-- WAKE (R504, R542): over the mailbox it is a Porter request. -/
def wakeMsg (t : Transport) (payload : List Byte) (d : Device) : Device :=
  message t 6 0 0 payload (fun d => answer (wake d (if t == .sideband then 3 else 4)) 0 [] true) d

def execWakeMsg (t : Transport) (p : List Byte) (s : State) : Host.Outcome State Fault Refusal := run (.wakeMsg t p) (wakeMsg t p) s

/-- RESET_MODULE (R542, R624): acts as MOD_RESET_N, so that its response is lost with the Porter's restart. -/
def resetModule (t : Transport) (payload : List Byte) (d : Device) : Device :=
  message t 7 1 1 payload (fun d =>
    if ofLE payload != 0xA5 then answer d 3
    else (none, moduleReset (if t == .sideband then log d 11 0 (toLE 1 7 ++ toLE 1 0) else d) 2)) d

def execResetModule (t : Transport) (p : List Byte) (s : State) : Host.Outcome State Fault Refusal := run (.resetModule t p) (resetModule t p) s

/-- SET_RTC (R537, R542). -/
def setRtc (t : Transport) (payload : List Byte) (d : Device) : Device :=
  message t 8 8 8 payload (fun d => answer (set64 d (porterPage + 0x118) (ofLE payload)) 0 [] true) d

def execSetRtc (t : Transport) (p : List Byte) (s : State) : Host.Outcome State Fault Refusal := run (.setRtc t p) (setRtc t p) s

/-- SET_ALARM (R542): 0 clears. -/
def setAlarm (t : Transport) (payload : List Byte) (d : Device) : Device :=
  message t 9 8 8 payload (fun d => answer { d with porter := { d.porter with alarm := ofLE payload } } 0 [] true) d

def execSetAlarm (t : Transport) (p : List Byte) (s : State) : Host.Outcome State Fault Refusal := run (.setAlarm t p) (setAlarm t p) s

/-- RTC_ALARM (R504, R544): the RTC has reached the alarm; RTC_ALARM is set, and the alarm is a wake source. -/
def rtcAlarm (d : Device) : Device :=
  let a := d.porter.alarm
  if a == 0 || !d.boot.vin || get64 d (porterPage + 0x118) < a then d
  else wake (alert { d with porter := { d.porter with alarm := 0 } } 3) 5

def execRtcAlarm (s : State) : Host.Outcome State Fault Refusal := run .rtcAlarm rtcAlarm s

/-- LOG_FLUSH (R538): 1 s after the oldest unwritten record. -/
def logFlush (d : Device) : Device := if d.boot.porterReady then flushLog d else d

def execLogFlush (s : State) : Host.Outcome State Fault Refusal := run .logFlush logFlush s

/-! ### Firmware update (R527–R531) -/

/-- A FW_ message is refused (R526, R528): from the other transport, or after a fuse failure. -/
def fwRefused (d : Device) (t : Transport) : Bool := d.boot.fuseErr || d.porter.session.any (fun x => x.via != t)

/-- FW_BEGIN (R526, R527). -/
def fwBegin (t : Transport) (payload : List Byte) (d : Device) : Device :=
  message t 0x10 5 5 payload (fun d =>
    let kind := leAt payload 0 1
    let len := leAt payload 1 4
    if fwRefused d t || (d.boot.recovery && kind == 2) then answer d 4
    else if (kind != 1 && kind != 2) || slotSize kind < len then answer d 3
    else
      let d := closeSession d
      let d := eraseSlot d kind (1 - activeSlot d kind) len
      answer { d with porter := { d.porter with session := some { via := t, kind := kind, len := len } } } 0 [] true) d

def execFwBegin (t : Transport) (p : List Byte) (s : State) : Host.Outcome State Fault Refusal := run (.fwBegin t p) (fwBegin t p) s

/-- FW_DATA (R527, R529): a chunk replaces what it covers, and a verification no longer counts; the length is written when every byte is. -/
def fwData (t : Transport) (payload : List Byte) (d : Device) : Device :=
  message t 0x11 4 (if t == .sideband then 255 else 1028) payload (fun d =>
    let off := leAt payload 0 4
    let bs := payload.drop 4
    match d.porter.session with
    | none => answer d 4
    | some x =>
      if fwRefused d t then answer d 4
      else if x.len < off + bs.length then answer d 3
      else
        let k := 2 * x.kind + (1 - activeSlot d x.kind)
        let s := tget {} d.porter.slots k
        let new := ((List.range bs.length).zip bs).foldl (fun m e => tset m (off + e.1) e.2) s.bytes
        let d := { d with porter := { d.porter with slots := tset d.porter.slots k { s with bytes := new }
                                                    session := some { x with verified := false } } }
        answer (if s.bytes.length < x.len && new.length == x.len then fwState d x.kind (1 - activeSlot d x.kind) 1 0 else d) 0 [] true) d

def execFwData (t : Transport) (p : List Byte) (s : State) : Host.Outcome State Fault Refusal := run (.fwData t p) (fwData t p) s

/-- FW_VERIFY (R524, R529). -/
def fwVerify (t : Transport) (payload : List Byte) (d : Device) : Device :=
  message t 0x12 0 0 payload (fun d =>
    match d.porter.session with
    | none => answer d 4
    | some x =>
      let slot := 1 - activeSlot d x.kind
      if fwRefused d t || asleep d then answer d 4
      else if imageOk d x.kind slot then
        answer (fwState { d with porter := { d.porter with session := some { x with verified := true } } } x.kind slot 2 0) 0 (toLE 2 0) true
      else answer (rejectImage { d with porter := { d.porter with session := some { x with verified := false } } } x.kind slot) 5 (toLE 2 16) true) d

def execFwVerify (t : Transport) (p : List Byte) (s : State) : Host.Outcome State Fault Refusal := run (.fwVerify t p) (fwVerify t p) s

/-- FW_ACTIVATE (R529): the slot is ACTIVE in TRIAL with TRIES 0; Porter firmware restarts the Porter. -/
def fwActivate (t : Transport) (payload : List Byte) (d : Device) : Device :=
  message t 0x13 0 0 payload (fun d =>
    match d.porter.session with
    | none => answer d 4
    | some x =>
      if fwRefused d t || asleep d || !x.verified then answer d 4
      else
        let slot := 1 - activeSlot d x.kind
        let p := d.porter
        let d := fwState { d with porter := { p with act := tset p.act x.kind slot, trial := nins p.trial x.kind
                                                     tries := tset p.tries x.kind 0, session := none } } x.kind slot 3 0
        if x.kind == 1 then
          (none, porterRestart (finish t 0x13 (answer { d with boot := { d.boot with recovery := false } } 0 [] true)) 0)
        else answer d 0 [] true) d

def execFwActivate (t : Transport) (p : List Byte) (s : State) : Host.Outcome State Fault Refusal := run (.fwActivate t p) (fwActivate t p) s

/-- FW_COMMIT (R531): the counter rises to the SVN of the active image. -/
def fwCommit (t : Transport) (payload : List Byte) (d : Device) : Device :=
  message t 0x14 1 1 payload (fun d =>
    let kind := leAt payload 0 1
    if fwRefused d t || asleep d then answer d 4
    else if kind != 1 && kind != 2 then answer d 3
    else if inTrial d kind || (d.boot.recovery && kind == 2) then answer d 4
    else
      let n := max (fusedSvn d kind) (min 64 (imageSvn d kind (activeSlot d kind)))
      let d := { d with porter := { d.porter with svn := tset d.porter.svn kind n } }
      answer (fwState d kind (activeSlot d kind) 6 0) 0 (toLE 1 n) true) d

def execFwCommit (t : Transport) (p : List Byte) (s : State) : Host.Outcome State Fault Refusal := run (.fwCommit t p) (fwCommit t p) s

/-- FW_SESSION_TIMEOUT (R528): 60 s without a FW_ message. -/
def fwSessionTimeout (d : Device) : Device := if d.boot.vin then closeSession d else d

def execFwSessionTimeout (s : State) : Host.Outcome State Fault Refusal := run .fwSessionTimeout fwSessionTimeout s

/-! ### Identity and attestation (R545, R546) -/

/-- The most payload bytes that a response holds (R539, R548). -/
def replyMax (t : Transport) : Nat := if t == .sideband then 253 else 1276

/-- GET_IDENTITY (R542, R545). -/
def getIdentity (t : Transport) (payload : List Byte) (d : Device) : Device :=
  message t 0x20 4 4 payload (fun d =>
    if 17120 ≤ ofLE payload then answer d 3 else answer d 0 (((Config.identity.take 17120).drop (ofLE payload)).take (replyMax t))) d

def execGetIdentity (t : Transport) (p : List Byte) (s : State) : Host.Outcome State Fault Refusal := run (.getIdentity t p) (getIdentity t p) s

/-- A measurement in its 48 bytes. -/
def hash48 (b : List Byte) : List Byte := (b ++ toLE 48 0).take 48

/-- The signed bytes of a report (R546). -/
def reportHead (d : Device) (nonce : List Byte) : List Byte :=
  let p := d.porter
  toLE 4 0x54535441 ++ toLE 2 0x100 ++ toLE 2 0 ++ toLE 4 16928 ++ toLE 4 0 ++ toLE 8 Config.serial.toNat ++ toLE 4 d.plan.gen
    ++ toLE 1 (fusedSvn d 1) ++ toLE 1 (fusedSvn d 2) ++ toLE 1 (tget 0 p.runSvn 1) ++ toLE 1 (tget 0 p.runSvn 2)
    ++ toLE 8 (get64 d (porterPage + 0x118))
    ++ toLE 4 (tget 0 p.runSlot 1 + 2 * tget 0 p.runSlot 2 + 4 * b2n (inTrial d 1) + 8 * b2n (inTrial d 2)) ++ toLE 4 0
    ++ nonce ++ hash48 p.mRom ++ hash48 p.mPorter ++ hash48 p.mSeq ++ hash48 d.plan.hash ++ toLE 32 0

/-- ATTEST_REQ (R542, R546): a report is formed and signed; it replaces one that has not been read. -/
def attestReq (t : Transport) (payload : List Byte) (d : Device) : Device :=
  message t 0x21 48 48 payload (fun d =>
    if asleep d then answer d 4
    else
      let h := reportHead d payload
      answer { d with porter := { d.porter with attest := 1, nonce := payload, report := h ++ Config.rsaSign h ++ Config.slhSign h } } 0 [] true) d

def execAttestReq (t : Transport) (p : List Byte) (s : State) : Host.Outcome State Fault Refusal := run (.attestReq t p) (attestReq t p) s

/-- ATTEST_READY (R546). -/
def attestReady (d : Device) : Device := if d.porter.attest == 1 then { d with porter := { d.porter with attest := 2 } } else d

def execAttestReady (s : State) : Host.Outcome State Fault Refusal := run .attestReady attestReady s

/-- ATTEST_READ (R542): BUSY until the report is ready, NOT_READY when none was asked for. -/
def attestRead (t : Transport) (payload : List Byte) (d : Device) : Device :=
  message t 0x22 4 4 payload (fun d =>
    if asleep d then answer d 4
    else if d.porter.attest == 0 then answer d 7
    else if d.porter.attest == 1 then answer d 1
    else if 16928 ≤ ofLE payload then answer d 3
    else answer d 0 (((d.porter.report.take 16928).drop (ofLE payload)).take (replyMax t))) d

def execAttestRead (t : Transport) (p : List Byte) (s : State) : Host.Outcome State Fault Refusal := run (.attestRead t p) (attestRead t p) s

/-! ### Fences and tests (R542, R543) -/

/-- The unit that UNIT_KIND and UNIT name (R36), none when they name no unit or an unused byte is not 0xFF. -/
def unitOf (payload : List Byte) : Option UnitRef :=
  let k := leAt payload 0 1
  let b (n : Nat) : Nat := leAt payload n 1
  let r : UnitRef := match k with
    | 0 => ⟨0, b 1, b 2, b 3, b 4⟩
    | 1 => ⟨1, b 1, b 2, 0, 0⟩
    | 5 => ⟨5, b 1, b 2, 0, 0⟩
    | _ => ⟨k, b 1, 0, 0, 0⟩
  if r.wf && unitNum r == leAt payload 1 4 then some r else none

/-- FENCE_UNIT (R543). (DEDUCED, notes/assumptions/59.md.) -/
def fenceUnit (t : Transport) (payload : List Byte) (d : Device) : Device :=
  message t 0x30 5 5 payload (fun d => match unitOf payload with
    | none => answer d 3
    | some r => answer (requestFence d r 4 0) 0 [] true) d

def execFenceUnit (t : Transport) (p : List Byte) (s : State) : Host.Outcome State Fault Refusal := run (.fenceUnit t p) (fenceUnit t p) s

/-- A test is asked for, and its message waits for the result (R543, R566); without power to the logic there is none to test. -/
def askTest (t : Transport) (cmd why : Nat) (r : UnitRef) (d : Device) : Answer :=
  if !d.boot.logicReady then answer d 7
  else
    let d := { d with porter := { d.porter with waits := d.porter.waits ++ [(t, cmd, r)] } }
    match lfind (fun x => x.unit == r) d.tests with
    | some i => (none, match d.tests[i]? with
      | some x => { d with tests := lset d.tests i { x with why := if why == 1 then 1 else x.why } }
      | none => d)
    | none => (none, { d with tests := d.tests ++ [{ unit := r, errs := 0, why := why }] })

/-- RELEASE_UNIT (R543): a manufacturing fence cannot be released. -/
def releaseUnit (t : Transport) (payload : List Byte) (d : Device) : Device :=
  message t 0x31 5 5 payload (fun d => match unitOf payload with
    | none => answer d 3
    | some r => match d.plan.maps.fences.find? (fun f => f.unit == r) with
      | some f => if f.reason == 0 then answer d 4 else askTest t 0x31 1 r d
      | none => askTest t 0x31 2 r d) d

def execReleaseUnit (t : Transport) (p : List Byte) (s : State) : Host.Outcome State Fault Refusal := run (.releaseUnit t p) (releaseUnit t p) s

/-- SELF_TEST (R542). -/
def selfTest (t : Transport) (payload : List Byte) (d : Device) : Device :=
  message t 0x32 5 5 payload (fun d => match unitOf payload with
    | none => answer d 3
    | some r => askTest t 0x32 2 r d) d

def execSelfTest (t : Transport) (p : List Byte) (s : State) : Host.Outcome State Fault Refusal := run (.selfTest t p) (selfTest t p) s

/-- The commands of the message set (R542). -/
def messageSet : List Nat := [1, 2, 3, 4, 5, 6, 7, 8, 9, 0x10, 0x11, 0x12, 0x13, 0x14, 0x20, 0x21, 0x22, 0x30, 0x31, 0x32]

/-- UNKNOWN_CMD (R541, R542): a command that the set does not list; while a request of the transport waits, it is answered as the others are
(DEDUCED, notes/assumptions/47.md). -/
def unknownCmd (t : Transport) (cmd : Byte) (payload : List Byte) (d : Device) : Device :=
  let waiting := d.porter.waits.any (fun w => w.1 == t)
  if messageSet.contains cmd.toNat then d
  else match t with
    | .sideband =>
      if !d.boot.vin || d.boot.pm == 4 then d
      else
        let d := wake d 3
        if waiting || (!d.boot.porterReady && !d.boot.recovery) then respond d t cmd.toNat 1 [] else respond d t cmd.toNat 6 []
    | .mailbox =>
      if !mbxHolds d cmd.toNat payload || waiting || !d.boot.porterReady then d
      else respond d t cmd.toNat 6 []

def execUnknownCmd (t : Transport) (cmd : Byte) (p : List Byte) (s : State) : Host.Outcome State Fault Refusal :=
  run (.unknownCmd t cmd p) (unknownCmd t cmd p) s

end Sys2Proof.Machine
end

