-- ==== Sys2Proof/Machine/Flags.lean ====
section
/-!
DEFINITION. The status registers, formed from the state (R116, R165, R227, R262, R302, R304, R344, R346, R376, R377, R428, R429, R456, R457,
R487, R488, R514, R515, R548, R549, R572, R583, R594–R596). A register that no rule gives a computed value is stored in `Device.regs`.
-/
namespace Sys2Proof.Machine

/-- Bits of a set of numbers. -/
def bitsOf (ns : List Nat) : Nat := ns.foldl (fun v n => v ||| 2 ^ n) 0

/-- An open number below `n` (DESIGN CHOICE, notes/assumptions/2.md). Every configuration read takes the next free value. -/
def openNum (d : Device) (n : Nat) : Nat := (Config.free d.free).toNat % n

/-! ### Header (R582, R583) -/

/-- The unit of a page's block, for the pages of units (R579, R580). -/
def pageUnit (page : Nat) : Option UnitRef :=
  match pageInfo page with
  | some (2, h, _) => some (unitHall h)
  | some (3, h, c) => some (unitCore (h * 48 + c))
  | some (7, s, _) => some (unitStack s)
  | some (8, p, _) => some (unitPort p)
  | some (9, p, l) => some (unitLink p l)
  | _ => none

def pageType (page : Nat) : Nat := ((pageInfo page).getD (0, 0, 0)).1

/-- BLK_CAPS (R583): FENCE_CAP, RESET_CAP, ENABLE_CAP, MULTI_PAGE. -/
def fenceCap (t : Nat) : Bool := t == 3 || t == 2 || t == 7 || t == 8 || t == 9
def resetCap (t : Nat) : Bool := t == 3 || t == 2 || t == 4 || t == 5 || t == 6 || t == 7 || t == 8 || t == 9 || t == 10
def enableCap (t : Nat) : Bool := t == 3 || t == 2 || t == 8 || t == 9
/-- Blocks of R578 with more than one page in an instance's INSTANCE and PAGE_NO: DEV, CORE, LINK, SEQ and PWR. (DEDUCED, notes/assumptions/60.md.) -/
def multiPage (t : Nat) : Bool := t == 1 || t == 3 || t == 9 || t == 12 || t == 13

def blkId (page : Nat) : Nat := match pageInfo page with
  | some (t, i, n) => n + i * 256 + t * 65536
  | none => 0

def blkCaps (page : Nat) : Nat :=
  let t := pageType page
  b2n (fenceCap t) + 2 * b2n (resetCap t) + 4 * b2n (enableCap t) + 8 * b2n (multiPage t)

/-- A page is locked (R11, R589, R632). -/
def locked (d : Device) (page : Nat) : Bool := (hdr d page).lock || d.boot.locked

def pageFenced (d : Device) (page : Nat) : Bool := (pageUnit page).any (unitFenced d.plan.maps)

def blkCtrl (d : Device) (page : Nat) : Nat :=
  b2n (hdr d page).enable + 4 * b2n (pageFenced d page) + 8 * b2n (locked d page)

/-- The unit of a page is in service (R628): a core or hall in state active, another unit not fenced. -/
def inService (d : Device) (page : Nat) : Bool :=
  match pageUnit page with
  | some r => if r.kind == 1 then d.plan.maps.coreState (r.a * 48 + r.b) == 0 && d.plan.maps.hallState r.a == 0
              else if r.kind == 2 then d.plan.maps.hallState r.a == 0 else !unitFenced d.plan.maps r
  | none => true

/-- A core works (R583). -/
def coreBusy (c : Core) : Bool := c.st == .running || c.st == .swait || c.st == .tcfg1 || !c.win.isEmpty || !c.fl.isEmpty

/-- The unit of a page has work in progress for a job (R583). -/
def pageBusy (d : Device) (page : Nat) : Bool :=
  match pageInfo page with
  | some (2, h, _) => d.cores.any (fun e => e.1 / 48 == h && coreBusy e.2)
  | some (3, h, c) => coreBusy (core d (h * 48 + c))
  | some (8, p, _) => !(port d p).q.isEmpty || !(port d p).again.isEmpty || (linksOf p).any (fun l => !(link d p l).owed.isEmpty)
  | some (9, p, l) => !(link d p l).owed.isEmpty
  | some (10, p, _) => d.ctxs.any (fun e => e.2.inPort == p && e.2.active)
  | some (11, _, _) => !(port d 6).q.isEmpty || !d.rdOut.isEmpty
  | some (12, _, _) => d.jobs.any (fun e => e.2.phase != 0)
  | _ => false

/-- BLK_STAT (R583, R623, R628). -/
def blkStat (d : Device) (page : Nat) : Nat :=
  let h := hdr d page
  b2n (d.plan.built && !h.resetting && inService d page) + 2 * b2n (pageBusy d page) + 4 * b2n (pageFenced d page) + 8 * b2n (h.errCode != 0)
    + 16 * b2n (locked d page) + 32 * b2n h.resetting

/-- BLK_EVT (R583): GEN is set by changes of the Floor Plan since GEN was last cleared. -/
def blkEvt (d : Device) (page : Nat) : Nat :=
  let h := hdr d page
  h.evt.toNat ||| (if h.genAck < d.plan.changes then 4 else 0)

/-- A header register (R582); ERR_COUNT is cleared by the read that returns it. -/
def headView (d : Device) (page r : Nat) : Nat :=
  let h := hdr d page
  match r with
  | 0x000 => blkId page
  | 0x004 => 0x100
  | 0x008 => blkCaps page
  | 0x00C => if d.plan.built then d.plan.gen else 0
  | 0x010 => blkCtrl d page
  | 0x014 => blkStat d page
  | 0x018 => blkEvt d page
  | 0x01C => h.evtEn.toNat
  | 0x020 => h.errCode
  | 0x024 => h.errCount.toNat
  | 0x028 => h.errAddr.toNat % 2 ^ 32
  | 0x02C => h.errAddr.toNat / 2 ^ 32
  | 0x030 => h.scratch.toNat
  | _ => 0

/-! ### DEV, HALL and SC -/

/-- Pages whose BLK_EVT AND BLK_EVT_EN is not zero (R590, R594). -/
def eventPages (d : Device) : List Nat := (tkeys d.hdrs).filter (fun p => (pageInfo p).isSome && blkEvt d p &&& (hdr d p).evtEn.toNat != 0)

/-- Jobs that have cores on a hall (R596). -/
def hallJobs (d : Device) (h : Nat) : List Nat := (List.range 16).filter (fun j => (job d j).st != 0 && (jobHalls d j).contains h)

/-- HALL_STAT and HALL_CORES (R596). -/
def hallStat (d : Device) (h : Nat) : Nat :=
  if d.plan.built then d.plan.maps.logical h + 256 * b2n (d.plan.maps.hallState h == 1) + 65536 * bitsOf (hallJobs d h) else 0xFF
def hallCoresReg (d : Device) (h : Nat) : Nat :=
  if d.plan.built then slotsIn d.plan.maps h + 256 * coresIn d.plan.maps h 1 + 65536 * coresIn d.plan.maps h 2 else 0

/-- SIG_STAT (R344). -/
def sigStat (d : Device) (h : Nat) : Nat :=
  let s := sigStore d h
  (s.words.filter (fun w => w.2.owner != 0x3F)).length + 1024 * s.mons.length

/-- Reads outstanding at a stack (R302) are an open number while a core has a transfer that has fired. -/
def scView (d : Device) (r : Nat) : Option Nat :=
  if r == 0x108 then some (if d.cores.any (fun e => e.2.fl.any Ins.isStream) then openNum d 4609 else 0)
  else none

/-! ### CORE (R116, R165, R227) -/

/-- Rows of a pass are in the pipeline (R116): the front pass of some quarters does not wait for its banks. -/
def rowsMove (c : Core) : Bool := [0, 1, 2].any (fun m => match frontPass c m with
  | some e => !(mmaSwap e && e.stage == 0)
  | none => false)

def arrStat (c : Core) : Nat :=
  let a := c.arr
  bitsOf ((List.range 4).filter (fun q => tget 0 a.front q % 2 == 1))
    + 16 * ((List.range 4).foldl (fun v q => v + tget 0 a.back q % 4 * 4 ^ q) 0) + 2 ^ 12 * b2n a.split
    + 2 ^ 13 * b2n (rowsMove c) + 2 ^ 14 * b2n a.steerPending + 2 ^ 15 * (a.cache.foldl (fun n e => n + e.size) 0 % 512)

/-- TILE_STAT (R164): phase 2 of a TCFG lasts while an earlier instruction is awaited, and phase 3 from then to TCFG_APPLY. -/
def tileStat (c : Core) : Nat :=
  let ts := c.tiles.filter (fun e => e.2.rows != 0)
  let later := c.tcfg.isSome && c.st != .tcfg1
  ts.length + 256 * c.inUse.length + 2 ^ 16 * b2n (later && tcfgAwaits c) + 2 ^ 17 * b2n (later && !tcfgAwaits c) + 2 ^ 20 * (ceilDiv (ts.foldl (fun n e => n + tileBytes e.2) 0) 1024 % 1024)

/-- TILE_INUSE word `k`: tiles 32k to 32k + 31. -/
def tileInUse (c : Core) (k : Nat) : Nat := bitsOf ((c.inUse.filter (fun t => t / 32 == k)).map (· % 32))

def accStat (c : Core) : Nat :=
  b2n (c.accUse.contains 0) + 2 * b2n (c.accUse.contains 1) + 4 * b2n (c.fl.any Ins.isDrain) + 8 * b2n c.clearing

def coreStNum : CoreSt → Nat
  | .idle => 0
  | .running => 1
  | .atEnd => 2
  | .atSafept => 3
  | .fault => 4
  | .swait => 5
  | .tcfg1 => 6

def cxStat (c : Core) : Nat :=
  c.pc % 65536 + 2 ^ 16 * (c.win.length % 32) + 2 ^ 21 * coreStNum c.st + 2 ^ 24 * bitsOf ((tkeys c.slots).filter (· < 8))

/-- STR_INFLIGHT (R226): how many reads are outstanding is open while a fired transfer reads stack memory, and otherwise there are none. -/
def strInflight (d : Device) (c : Core) : Nat :=
  let l := c.fl.filter Ins.isStream
  l.length + (if l.any (fun e => !e.pages.isEmpty) then 256 * openNum d 113 else 0)

def coreView (d : Device) (u r : Nat) : Option Nat :=
  let c := core d u
  match r with
  | 0x600 => some (arrStat c)
  | 0x604 => some c.arr.steer.toNat
  | 0x680 => some (tileStat c)
  | 0x688 => some (tileInUse c 0)
  | 0x68C => some (tileInUse c 1)
  | 0x690 => some (tileInUse c 2)
  | 0x694 => some (tileInUse c 3)
  | 0x698 => some (accStat c)
  | 0x6A8 => some (ctxSize c)
  | 0x700 => some (cxStat c)
  | 0x720 => some (strInflight d c)
  | _ => none

/-! ### UPD and HMEM (R304, R456, R457) -/

/-- The job whose context waits for η on a hall's engine (R449). -/
def etaWaiter (d : Device) (h : Nat) : Option Nat :=
  (d.uctx.find? (fun e => (job d e.1).phase == 5 && !(tkeys e.2.etas).contains h)).map Prod.fst

/-- The job whose apply pass is on a hall's engine, and the bucket it is at: one that has slabs to apply there (R447). -/
def applyAt (d : Device) (h : Nat) : Option (Nat × Nat) :=
  d.uctx.findSome? (fun e => match ctxOf d e.2.rjid with
    | none => none
    | some c => if !applying d e.1 || (hallSlabs d c e.2 h e.2.next).isEmpty then none else some (e.1, e.2.next))

/-- The job whose statistics pass is on a hall's engine, and its bucket (R442). -/
def statsAt (d : Device) (h : Nat) : Option (Nat × Nat) := (tkeys d.uctx).findSome? (fun j => (statsLeft d j h).map (j, ·))

/-- UPD_STAT (R457). A pass is in progress from where it may begin to the command that ends it; of several the apply pass is named. (DESIGN CHOICE,
notes/assumptions/88.md.) -/
def updStat (d : Device) (h : Nat) : Nat :=
  if !(engines d).contains h then 0
  else match etaWaiter d h with
    | some j => j + 64
    | none => match applyAt d h with
      | some a => a.1 + 32 + 256 * (a.2 % 256)
      | none => match statsAt d h with
        | some a => a.1 + 16 + 256 * (a.2 % 256)
        | none => match grantWaiter d h with
          | some j => j + 128
          | none => 0

def updView (d : Device) (h r : Nat) : Option Nat :=
  if r == 0x100 then some (updStat d h)
  else if r == 0x104 then some (if (engines d).contains h then bitsOf (tkeys d.uctx) else 0)
  else none

/-- HMEM_STAT (R304): units of ACTIVE regions. -/
def hmemStat (d : Device) (h : Nat) : Nat :=
  (List.range 16).foldl (fun n j => if bit (partB d h j) 31 then n + partSum d h j else n) 0

/-! ### PORT, LINK and ARC (R345, R376, R377, R428, R429) -/

def portStat (d : Device) (p : Nat) : Nat := portState d p + 8 * bitsOf (activeLinks d p) + 128 * b2n (port d p).allocErr

def sigHeld (d : Device) (p : Nat) : Nat :=
  (List.range 4).foldl (fun v c => v + (((port d p).held ++ (port d p).ready).filter (fun s => s.cls == c)).length % 128 * 2 ^ (8 * c)) 0

def portView (d : Device) (p r : Nat) : Option Nat :=
  if r == 0x100 then some (portStat d p) else if r == 0x440 then some (sigHeld d p) else none

/-- ALERT_N is driven low (R544): by the Porter island while an enabled cause stands, and by the always-on island while RTC_ALARM is set. -/
def alertLow (d : Device) : Bool :=
  let cause := getR d (porterPage + 0x108)
  d.boot.vin && ((d.boot.pm != 4 && cause &&& (getR d (porterPage + 0x10C) &&& 0x1F7) != 0) || bit cause 3)

def linkStat (x : Link) : Nat :=
  x.st % 8 + 8 * b2n x.fecLock + 16 * (x.laneLock % 16) + 256 * (x.prbsLock % 16) + 4096 * (x.polarity % 16) + 65536 * (x.laneMap % 256)
    + 2 ^ 24 * (x.fails % 4) + 2 ^ 26 * b2n x.testRefused

def linkView (d : Device) (p l r : Nat) : Option Nat :=
  if r == 0x100 then some (linkStat (link d p l))
  else if 0x140 ≤ r && r < 0x150 then some (creditOf (link d p l) ((r - 0x140) / 4) % 16384)
  else if r == 0x150 then some (link d p l).unacked.length
  else none

/-- RJIDs held at a port. -/
def ctxsAt (d : Device) (p : Nat) : List Nat := (d.ctxs.filter (fun e => e.2.inPort == p)).map Prod.fst

/-- The context that the window of a port shows (R428). -/
def ctxShown (d : Device) (p : Nat) : Option Ctx :=
  (d.ctxs.find? (fun e => e.1 == getR d (arcPage p + 0x114) % 64 && e.2.inPort == p)).map Prod.snd

/-- CTX_STEP (R428). -/
def ctxStepReg (c : Ctx) : Nat :=
  c.step % 4096 + 4096 * (c.attempt % 16) + 65536 * ((c.bkts.filter (fun e => e.2.done)).length % 512)

def arcView (d : Device) (p r : Nat) : Option Nat :=
  if r == 0x100 then some (ctxsAt d p).length
  else if r == 0x118 then some (bitsOf ((ctxsAt d p).filter (· < 32)))
  else if r == 0x11C then some (bitsOf (((ctxsAt d p).filter (32 ≤ ·)).map (· - 32)))
  else if 0x180 ≤ r && r < 0x1B8 then
    some (match ctxShown d p with
      | none => 0
      | some c => if r == 0x180 then c.stat else if r == 0x184 then ctxStepReg c else tget 0 c.ctr r)
  else none

/-! ### FOY and SEQ (R262, R346, R487, R488, R595) -/

def foyView (d : Device) (r : Nat) : Option Nat :=
  let x := link d 6 0
  if r == 0x100 then some (x.st % 8 + 8 * b2n x.fecLock + 16 * (x.laneLock % 4))
  else if r == 0x128 then some d.evQ.length
  else if 0x200 ≤ r && r < 0x310 && r % 16 == 0xC then some 0
  else none

/-- JOB_STAT (R488). -/
def jobStat (x : Job) : Nat := x.st % 8 + 8 * (x.attempt % 16) + 128 * (x.micro % 64)

def seq1View (d : Device) (r : Nat) : Option Nat :=
  let x := job d ((r - 0x100) / 0x20)
  match (r - 0x100) % 0x20 with
  | 0x00 => some (jobStat x)
  | 0x04 => some x.step
  | 0x10 => some x.taint
  | _ => none

/-- LAND_STAT (R262). -/
def landStat (x : Job) : Nat := b2n x.landBusy + 2 * b2n x.landFull + 4 * b2n x.landSweep

def seqView (d : Device) (n r : Nat) : Option Nat :=
  match n with
  | 0 =>
    if r == 0x100 then some (b2n d.boot.running + 2 * ((List.range 16).filter (fun j => (job d j).st != 0)).length)
    else if r == 0x104 then some (tget 0 d.porter.runVer 2)
    else none
  | 1 => if 0x100 ≤ r && r < 0x300 then seq1View d r else none
  | 2 =>
    if 0x100 ≤ r && r < 0x500 && (r - 0x100) % 0x40 == 0x3C then some (landStat (job d ((r - 0x100) / 0x40))) else none
  | 3 => if 0x100 ≤ r && r < 0x140 then some (getR d (seqPage 3 + r) % 2 + 65536 * (ownedWords d ((r - 0x100) / 4)).length) else none
  | _ => none

/-! ### PWR (R514, R515) -/

def pmStat (b : Boot) : Nat := b.target % 8 + 8 * (b.lastDepth % 8) + 64 * (b.lastAbort % 8) + 512 * (b.wakeCause % 16)

def dvfsStat (x : Dvfs) : Nat := x.cur % 4096 + 4096 * (x.target % 4096) + 2 ^ 24 * (x.winner % 8) + 2 ^ 27 * b2n (x.phase != 0)

def dvfsVolt (h : Nat) (x : Dvfs) : Nat :=
  x.volt % 4096 + 4096 * (targetVolt h x % 4096) + 2 ^ 24 * b2n (x.volt != 0 && x.phase != 2 && x.phase != 3 && x.volt == targetVolt h x)

def pwrView (d : Device) (n r : Nat) : Option Nat :=
  match n with
  | 0 =>
    if r == 0x100 then some (coolClass d + 4 * b2n (d.boot.cool == 3) + 8 * b2n d.boot.tripped)
    else if r == 0x104 then some (if d.boot.vin then ceiling d + 65536 * maxArith d else 0)
    else if r == 0x110 then some (pmStat d.boot)
    else none
  | 1 =>
    if 0x100 ≤ r && r < 0x340 then
      let h := (r - 0x100) / 0x20
      let x := dvfs d h
      (match (r - 0x100) % 0x20 with
      | 0x10 => some (dvfsStat x)
      | 0x14 => some (if d.boot.oscReady then dvfsVolt h x else 0)
      | 0x18 => some (if x.ovrWait == 0 then x.ovr else x.ovrWait)
      | _ => none)
    else none
  | _ => none

/-! ### PORTER, SEC and the index of pages (R548, R549, R572) -/

def mbxStat (d : Device) : Nat :=
  b2n d.porter.mbxBusy + 2 * b2n d.porter.mbxDone + 4 * b2n d.boot.porterReady + 8 * b2n d.boot.recovery + 16 * b2n d.boot.seqReady

def secView (d : Device) (r : Nat) : Option Nat :=
  let p := d.porter
  if r == 0x100 then
    some (tget 0 p.runSlot 1 % 2 + 2 * (tget 0 p.runSlot 2 % 2) + 4 * b2n (inTrial d 1) + 8 * b2n (inTrial d 2) + 16 * (tget 0 p.tries 1 % 4)
      + 64 * (tget 0 p.tries 2 % 4) + 256 * b2n d.boot.fuseErr)
  else if r == 0x104 then
    some (fusedSvn d 1 % 128 + 256 * (fusedSvn d 2 % 128) + 2 ^ 16 * (tget 0 p.runSvn 1 % 128) + 2 ^ 24 * (tget 0 p.runSvn 2 % 128))
  else if r == 0x108 then some (if p.attest == 1 then 1 else if p.attest == 2 then 2 else 0)
  else if r == 0x10C then some p.sigFails
  else if 0x200 ≤ r && r < 0x290 then some (leAt (hash48 p.mRom ++ hash48 p.mPorter ++ hash48 p.mSeq) (r - 0x200) 4)
  else none

/-- The computed value of a register of a page's block, none for a stored register. -/
def blockView (d : Device) (page r : Nat) : Option Nat :=
  match pageInfo page with
  | some (1, _, 0) => match r with
    | 0x100 => some 0x7140
    | 0x104 => some (Config.siliconRev.toNat + 65536 * Config.moduleRev.toNat)
    | 0x108 => some (Config.serial.toNat % 2 ^ 32)
    | 0x10C => some (Config.serial.toNat / 2 ^ 32)
    | 0x114 => some (eventPages d).length
    | 0x118 => some ((eventPages d).headD 0 * 0x1000)
    | _ => none
  | some (1, _, 1) => if r == 0x204 then some (b2n d.xinv.isSome) else none
  | some (1, _, 2) => if r == 0x100 then some ((d.tests.filter Test.running).length + 8 * b2n d.boot.moduleFault) else none
  | some (2, h, _) =>
    if r == 0x100 then some (hallStat d h) else if r == 0x104 then some (hallCoresReg d h) else if r == 0x400 then some (sigStat d h) else none
  | some (3, h, c) => coreView d (h * 48 + c) r
  | some (4, h, _) => updView d h r
  | some (6, h, _) => if r == 0x100 then some (hmemStat d h) else none
  | some (7, _, _) => scView d r
  | some (8, p, _) => portView d p r
  | some (9, p, l) => linkView d p l r
  | some (10, p, _) => arcView d p r
  | some (11, _, _) => foyView d r
  | some (12, _, n) => seqView d n r
  | some (13, _, n) => pwrView d n r
  | some (14, _, _) => if r == 0x104 then some (mbxStat d) else none
  | some (15, _, _) => secView d r
  | _ => none

end Sys2Proof.Machine
end

