-- ==== Sys2Proof/Machine/Memory.lean ====
section
/-!
DEFINITION. The stack controllers' commands (R266–R278), run-ahead and the watch filter (R293–R300), and invalidation of cached translations
(R289, R290).
-/
namespace Sys2Proof.Machine

/-- STACK_READ (R270–R273, R554): a unit reads physical memory, on a job's behalf or on none. -/
def stackReadCmd (a n : Nat) (j : Option Nat) (d : Device) : Device :=
  if fenced d a then d
  else
    let r := stackRead d a n
    match j with
    | some j => if r.1.any Prod.snd then taint r.2 j 0 10 else r.2
    | none => r.2

def execStackRead (a n : Nat) (j : Option Nat) (s : State) : Host.Outcome State Fault Refusal := run (.stackRead a n j) (stackReadCmd a n j) s

/-- STACK_WRITE_ACCEPT (R271, R273, R298, R299). -/
def stackWriteAccept (a : Nat) (data : List Byte) (poisoned : List Nat) (d : Device) : Device :=
  stackWrite d a (data.zipIdx.map (fun b => (b.1, poisoned.contains b.2)))

def execStackWriteAccept (a : Nat) (data : List Byte) (poisoned : List Nat) (s : State) : Host.Outcome State Fault Refusal :=
  run (.stackWriteAccept a data poisoned) (stackWriteAccept a data poisoned) s

/-- STACK_REFRESH (R276): a refresh takes place, from which the rate that DERATED selects is in force. A stack in self-refresh refreshes itself. -/
def stackRefresh (s : Nat) (d : Device) : Device :=
  if bit (getR d (scPage s + 0x100)) 3 then d
  else { d with refresh2 := if bit (getR d (scPage s + 0x100)) 1 then nins d.refresh2 s else ndel d.refresh2 s }

def execStackRefresh (k : Nat) (s : State) : Host.Outcome State Fault Refusal := run (.stackRefresh k) (stackRefresh k) s

/-- STACK_TEMP_SAMPLE (R275–R277, R535): the sample in quarter degrees, and the milliseconds at the doubled rate since the last one. -/
def stackTempSample (s : Nat) (temp : BitVec 16) (ms : Nat) (d : Device) : Device :=
  let r := scPage s
  let t := signed 16 temp.toNat
  let d := setR d (r + 0x104) temp.toNat
  let d := if d.refresh2.contains s then bump d (r + 0x130) ms else d
  let was := bit (getR d (r + 0x100)) 1
  let now : Bool := decide (340 ≤ t) || (was && decide (328 ≤ t))
  let d := if was == now then d else setEvt (putBit d (r + 0x100) 1 now) r 17
  let above : Bool := decide (420 ≤ t)
  let wasOver := bit (getR d (r + 0x100)) 2
  let d := putBit d (r + 0x100) 2 above
  stackSensors (if above && !wasOver then setEvt d r 16 else d) s temp

def execStackTempSample (k : Nat) (temp : BitVec 16) (ms : Nat) (s : State) : Host.Outcome State Fault Refusal :=
  run (.stackTempSample k temp ms) (stackTempSample k temp ms) s

/-! ### Run-ahead (R293–R298) -/

/-- A core's run-ahead share in bytes (R293). -/
def raShare (d : Device) (u j : Nat) : Nat :=
  let n := (d.cores.filter (fun e => e.1 / 48 == u / 48 && e.2.job == some j)).length
  raUnits d (u / 48) j * 16 / max n 1 * 4096

/-- A stack controller accepts a run-ahead read: its block enters the hall's filter, the oldest of 4,096 leaving (R297). -/
def watchAdd (d : Device) (h a : Nat) : Device :=
  let k := stackOf a * 18 + h
  let l := tget [] d.watch k
  if l.contains (a / 4096) then d
  else if l.length < 4096 then { d with watch := tset d.watch k (l ++ [a / 4096]) }
  else
    let d := bump (dropCopies d h (l.headD 0)) (scPage (stackOf a) + 0x124) 1
    { d with watch := tset d.watch k (l.drop 1 ++ [a / 4096]) }

/-- The walk of a run-ahead fetch (R294, R295): from the leaf of the demand read's 2 MiB page, or through its level 2 entry at most the level 3 table. The
physical address of the page's 64 KiB unit, and the table entries read. -/
def raWalk (d : Device) (j : Nat) (leaf : Leaf) (va : Nat) : Except XFault Walked :=
  let w : Except XFault Walked := if !hasRoot d j then .error { cause := 0, level := 1 }
    else match leaf.up with
      | none => .ok ⟨{ leaf with pa := bigPa leaf.ent va }, []⟩
      | some e2 => walk3 d [] e2 va
  match w with
  | .error f => .error f
  | .ok w => if fenced d w.leaf.pa then .error { cause := 2, level := 0, reads := w.reads } else .ok w

/-- The oldest copies that a core held before a fetch, `old` of them at most, leave until its share has room for a request (R293, R296; DESIGN CHOICE,
notes/assumptions/79.md). -/
def raRoom (d : Device) (u j old : Nat) : Device :=
  let c := core d u
  let excess := ceilDiv (c.copies.length * 64 + 256 - raShare d u j) 64
  if excess == 0 then d else setCore d u { c with copies := c.copies.drop (min excess old) }

/-- One 256-byte run-ahead request at virtual address `va` for the predicted sectors `n` in it (R293–R297). `q` follows the descriptor, and `before` are
the sectors whose copies the core held before this fetch. -/
def raRequest (d : Device) (u j : Nat) (q : RaDesc) (before : List Nat) (va n : Nat) : Device :=
  if va / 2097152 != q.page / 32 then bump d (corePage u + 0x7CC) n
  else
    let d := raRoom d u j ((core d u).copies.filter (fun x => before.contains x.at_)).length
    if raShare d u j < (core d u).copies.length * 64 + 256 then d
    else
      let d := bump d (corePage u + 0x7C0) 1
      match raWalk d j q.leaf va with
      | .error f => bump (tableReads d f.reads) (corePage u + 0x7C8) 1
      | .ok w =>
        let pa := w.leaf.pa + va % 65536
        let d := watchAdd (tableReads d w.reads) (u / 48) pa
        let d := readPeak d (stackOf pa)
        (List.range 4).foldl (fun d i =>
          let sec := pa / 64 + i
          let bad := d.stack.anyBad (sec * 64) 64
          let d := sectorRead d sec
          let c := core d u
          if bad || (copyOf c (sec * 64)).isSome then d
          else setCore d u { c with copies := c.copies ++ [⟨sec * 64, d.stack.read (sec * 64) 64⟩] }) d


/-- The 256-byte blocks of the predicted transfer, each with the number of its sectors that the transfer touches. -/
def raBlocks (q : RaDesc) (next : Nat) : List (Nat × Nat) :=
  let secs := jobsOf (q.ranges.flatMap (fun g => blocks (next + g.1) g.2 64))
  (jobsOf (secs.map (· / 4))).map (fun b => (b, (secs.filter (fun s => s / 4 == b)).length))

/-- RUNAHEAD_FETCH (R293–R297): the predicted next transfer of a followed descriptor is fetched. -/
def runaheadFetch (u k : Nat) (d : Device) : Device :=
  let c := core d u
  match c.ra[k]?, c.job with
  | some r, some j =>
    match r.prev with
    | none => d
    | some p =>
      if p == r.last || !coreOn d u || raUnits d (u / 48) j == 0 then d
      else
        let next := (r.last + r.last + 2 ^ 48 - p) % 2 ^ 48
        let before := c.copies.map (·.at_)
        settleWatch ((raBlocks r next).foldl (fun d b => raRequest d u j r before (b.1 * 256) b.2) d) (u / 48)
  | _, _ => d

def execRunaheadFetch (u k : Nat) (s : State) : Host.Outcome State Fault Refusal := run (.runaheadFetch u k) (runaheadFetch u k) s

/-! ### Invalidation (R290) -/

/-- Whether an invalidation covers a 64 KiB page of a job. -/
def Xinv.covers (x : Xinv) (j page : Nat) : Bool :=
  x.all || (x.job == j && (!x.range || (x.first ≤ page / 32 && page / 32 < x.first + x.count)))

/-- An invalidation starts, unless one is under way. -/
def xinvStart (x : Xinv) (d : Device) : Device := if d.xinv.isSome then d else { d with xinv := some x }

/-- XINV_ALL_JOBS (R290). -/
def xinvAllJobs (d : Device) : Device := xinvStart ⟨true, false, 0, 0, 0⟩ d
def execXinvAllJobs (s : State) : Host.Outcome State Fault Refusal := run .xinvAllJobs xinvAllJobs s

/-- XINV_JOB (R290). -/
def xinvJob (j : Nat) (d : Device) : Device := xinvStart ⟨false, false, j, 0, 0⟩ d
def execXinvJob (j : Nat) (s : State) : Host.Outcome State Fault Refusal := run (.xinvJob j) (xinvJob j) s

/-- XINV_RANGE (R290): XINV_COUNT regions of 2 MiB from XINV_VA. -/
def xinvRange (j : Nat) (d : Device) : Device :=
  xinvStart ⟨false, true, j, get64 d (devPage 1 + 0x208) % 2 ^ 48 / 2097152, getR d (devPage 1 + 0x210)⟩ d
def execXinvRange (j : Nat) (s : State) : Host.Outcome State Fault Refusal := run (.xinvRange j) (xinvRange j) s

/-- An access in flight uses a page that the invalidation covers. -/
def xinvUsed (d : Device) (x : Xinv) : Bool :=
  d.cores.any (fun e => match e.2.job with
    | some j => e.2.fl.any (fun i => (i.pages ++ i.pages2).any (fun p => x.covers j p.1))
    | none => false)

/-- XINV_COMPLETE (R290): every hall has dropped the matching entries, and no access uses them. -/
def xinvComplete (d : Device) : Device :=
  match d.xinv with
  | none => d
  | some x =>
    if xinvUsed d x then d
    else
      let keepLeaf (e : XEnt) : Bool := if e.big then !(List.range 32).any (fun i => x.covers e.job (e.key * 32 + i)) else !x.covers e.job e.key
      { d with xinv := none
               xcache := d.xcache.map (fun e => (e.1, e.2.filter keepLeaf))
               xptr := d.xptr.map (fun e => (e.1, e.2.filter (fun p => !x.covers p.job (p.key * 32)))) }

def execXinvComplete (s : State) : Host.Outcome State Fault Refusal := run .xinvComplete xinvComplete s

end Sys2Proof.Machine
end

