-- ==== Sys2Proof/Machine/Registers.lean ====
section
/-!
DEFINITION. Configuration space (R573–R577, R593): reads and writes of its registers, the controls of the header (R585–R589), the DBG window
(R597, R598), and the Foyer's requests (R461, R462, R631). Sources: 0 Foyer, 1 DBG, 2 Porter.
-/
namespace Sys2Proof.Machine

/-! ### Which registers are 64-bit pairs, counters, and storage -/

/-- The offset in a page is the LO half of a 64-bit pair (R593). -/
def pairLo (page r : Nat) : Bool :=
  r == 0x028 ||
  match pageInfo page with
  | some (1, _, 0) => r == 0x108
  | some (1, _, 1) => (0x100 ≤ r && r < 0x180 && r % 8 == 0) || r == 0x208 || r == 0x224
  | some (1, _, 2) => r == 0x120
  | some (2, _, _) => r == 0x404
  | some (3, _, _) => r == 0x608 || r == 0x610 || r == 0x710
  | some (4, _, _) => r == 0x108
  | some (5, _, _) => r == 0x10C
  | some (7, _, _) => r == 0x110 || r == 0x118
  | some (8, _, _) => r == 0x110 || r == 0x124 || r == 0x140 || r == 0x148 || (0x400 ≤ r && r < 0x440 && r % 8 == 0)
  | some (9, _, _) => r == 0x108 || r == 0x138
  | some (10, _, _) => r == 0x104 || r == 0x118
  | some (11, _, _) => r == 0x110 || (0x200 ≤ r && r < 0x310 && r % 16 == 0)
  | some (12, _, 0) => r == 0x108
  | some (12, _, 1) => 0x100 ≤ r && r < 0x300 && r % 0x20 == 8
  | some (12, _, 2) => 0x100 ≤ r && r < 0x500 && (r % 0x40 < 0x18 || (0x20 ≤ r % 0x40 && r % 0x40 < 0x30)) && r % 8 == 0
  | some (12, _, 4) => 0x100 ≤ r && r < 0x500 && (r % 0x40 == 0 || r % 0x40 == 0x10 || r % 0x40 == 0x18)
  | some (13, _, 2) => 0x100 ≤ r && r < 0x2E0 && r % 8 == 0
  | some (14, _, _) => r == 0x110 || r == 0x118
  | _ => false

/-- The offset is the HI half of a pair. -/
def pairHi (page r : Nat) : Bool := 4 ≤ r && pairLo page (r - 4)

/-- The bits that a write sets in the LO and HI half of a writable pair, none for a pair that is not written (RO). -/
def pairMask (page r : Nat) : Option (Nat × Nat) :=
  match pageInfo page with
  | some (1, _, 1) => if r < 0x180 then some (0xFFFF0001, 0x7F) else if r == 0x208 then some (0xFFE00000, 0xFFFF) else none
  | some (1, _, 2) => some (0xFFFFFFC0, 0xFFFF)
  | some (9, _, _) => if r == 0x108 then some (0xFFFFFFFF, 0xFFFFFFFF) else none
  | some (10, _, _) => if r == 0x104 then some (0xFFFFFFC0, 0xFFFF) else none
  | some (11, _, _) => if r == 0x110 then some (0xFFFFFFC0, 0xFFFFFFFF) else some (0xFFFFFFC0, 0xFFFF)
  | some (12, _, 1) => some (0xFFFFFFFF, 0x3F)
  | some (12, _, 2) => match r % 0x40 with
    | 0x00 => some (0xFFE00000, 0xFFFF)
    | 0x08 => some (0xFFFFFFC0, 0xFF)
    | 0x10 => some (0xFFFFFFC0, 0xFFFF)
    | _ => none
  | some (12, _, 4) => if r % 0x40 == 0 then some (0xFFFFFFC0, 0xFFFF) else some (0xFFFFFFFF, 0xFFFFFFFF)
  | _ => none

/-- The bits that a write sets in a register of plain storage (RW), 0 for every other register. -/
def rwMask (page r : Nat) : Nat :=
  match pageInfo page with
  | some (1, _, 1) => if r == 0x210 then 0x0FFFFFFF else 0
  | some (1, _, 2) => if r == 0x128 then 0xFFFFFFC0 else if r == 0x130 then 0x3FFF else 0
  | some (8, _, _) => if r == 0x104 then 3 else if r == 0x108 then 0xFFFFFFFF else 0
  | some (10, _, _) => if r == 0x114 then 0x3F else 0
  | some (11, _, _) => if r == 0x104 then 3 else if r == 0x108 then 0xFFFF else 0
  | some (12, _, 2) => if 0x100 ≤ r && r < 0x500 && r % 0x40 == 0x18 then 0x1FFFFF else 0
  | some (12, _, 3) => if 0x100 ≤ r && r < 0x140 then 1 else 0
  | some (13, _, 0) => if r == 0x108 then 0xFFFFFFFF else if r == 0x10C then 3 else 0
  | some (13, _, 1) => if 0x400 ≤ r && r < 0x440 then 0xFFFFFF03 else 0
  | some (14, _, _) => if r == 0x10C then 0x1FF else if 0x400 ≤ r && r < 0xE00 then 0xFFFFFFFF else 0
  | some (16, _, _) => if r == 0x104 then 0x00FFFFFC else if r == 0x108 then 0xFFFFFFFF else 0
  | _ => 0

/-- The register is an RC counter of a page's block (R8). -/
def isRC (page r : Nat) : Bool :=
  match pageInfo page with
  | some (1, _, 0) => r == 0x110 || r == 0x11C
  | some (1, _, 1) => r == 0x22C
  | some (1, _, 2) => 0x104 ≤ r && r ≤ 0x114
  | some (2, _, _) => 0x40C ≤ r && r ≤ 0x418
  | some (3, _, _) =>
    (0x618 ≤ r && r ≤ 0x62C) || (0x69C ≤ r && r ≤ 0x6A4) || r == 0x6AC || (0x704 ≤ r && r ≤ 0x70C) || r == 0x718 || r == 0x71C
    || (0x780 ≤ r && r ≤ 0x794) || (0x7C0 ≤ r && r ≤ 0x7D0)
  | some (4, _, _) => 0x110 ≤ r && r ≤ 0x128
  | some (5, _, _) => r == 0x108
  | some (7, _, _) => r == 0x10C || (0x120 ≤ r && r ≤ 0x130)
  | some (8, _, _) => (0x12C ≤ r && r ≤ 0x13C) || r == 0x444 || r == 0x448
  | some (9, _, _) => 0x110 ≤ r && r < 0x138
  | some (10, _, _) => 0x120 ≤ r && r ≤ 0x128
  | some (11, _, _) => r == 0x10C || r == 0x124 || r == 0x12C
  | some (12, _, 0) => r == 0x110
  | some (12, _, 1) => 0x100 ≤ r && r < 0x300 && (r % 0x20 == 0x14 || r % 0x20 == 0x18)
  | some (12, _, 2) => 0x100 ≤ r && r < 0x500 && (r % 0x40 == 0x30 || r % 0x40 == 0x34)
  | some (13, _, 0) => r == 0x114 || r == 0x118 || r == 0x128 || r == 0x12C
  | some (13, _, 1) => 0x100 ≤ r && r < 0x340 && r % 0x20 == 0x1C
  | some (14, _, _) => r == 0x124
  | _ => false

/-! ### Reading -/

/-- The word window of a hall's signal store (R309): the hall, none for another address. -/
def sigWindowHall (off : Nat) : Option Nat :=
  let page := off / 0x1000
  if 0x100 ≤ page && page < 0x580 && (page - 0x100) % 0x40 == 0x38 then some ((page - 0x100) / 0x40) else none

/-- A register's value as a read returns it, before a capture (R593). -/
def regValue (d : Device) (off : Nat) : Nat :=
  let page := off / 0x1000
  let r := off % 0x1000
  if r < 0x100 then headView d page r
  else (blockView d page r).getD (getR d off)

/-- The key of a captured HI half: the source and the LO half's offset. -/
def capKey (src off : Nat) : Nat := src * 2 ^ 24 + off

/-- A captured HI half of a source is returned once (R118, R593); a read of a LO half captures its pair's HI half. -/
def readCapture (d : Device) (src page off lo : Nat) (isLo isHi : Bool) (hiNow : Nat) : Nat × Device :=
  let h := hdr d page
  if isLo then (lo, setHdr d page { h with hiCap := tset h.hiCap (capKey src off) ⟨off, BitVec.ofNat 32 hiNow⟩ })
  else if isHi then
    match h.hiCap.find? (fun e => e.1 == capKey src (off - 4)) with
    | some (_, x) => (x.lo.toNat, setHdr d page { h with hiCap := tdrop (· == capKey src (off - 4)) h.hiCap })
    | none => (lo, d)
  else (lo, d)

/-- An RC register is cleared by the read that returns it (R8, R10, R118); SC_RD_PEAK is at least every SC_RD_INFLIGHT shown (R302). -/
def readClears (d : Device) (page off : Nat) : Device :=
  let r := off % 0x1000
  if r == 0x024 then setHdr d page { hdr d page with errCount := 0 }
  else if isRC page r then setR d off 0
  else match pageInfo page with
    | some (10, p, _) =>
      if 0x188 ≤ r && r < 0x1B8 then
        (match ctxShown d p with
         | some c => { d with ctxs := tset d.ctxs (getR d (arcPage p + 0x114) % 64) { c with ctr := tset c.ctr r 0 } }
         | none => d)
      else d
    | some (7, _, _) => if r == 0x108 then setR d (off + 4) (max (getR d (off + 4)) (regValue d off)) else d
    | _ => d

/-- A read of a SIG window (R309, R310, R316, R319): an operation of the store, but for a HI half that an earlier read captured. -/
def sigRead (src h off : Nat) (d : Device) : Nat × Device :=
  let page := off / 0x1000
  let i := off % 0x1000 / 8
  let held := off % 8 != 0 && (hdr d page).hiCap.any (fun e => e.1 == capKey src (off - 4))
  let d := if backed d h && !held then readOp d h else d
  let w := if backed d h then wordBits d h i else 0
  if off % 8 == 0 then readCapture d src page off (w % 2 ^ 32) true false (w / 2 ^ 32)
  else readCapture d src page off (w / 2 ^ 32) false true 0

/-- A configuration read (R574, R575): the value and what the read changes. Every read takes the next free value. -/
def cfgRead (src off : Nat) (d : Device) : Nat × Device :=
  let page := off / 0x1000
  let r := off % 0x1000
  let (v, d) :=
    if off < 0x10000 then (leAt (fpHeader d ++ d.plan.body) off 4, d)
    else match sigWindowHall off with
      | some h => sigRead src h off d
      | none =>
        if (pageInfo page).isNone then (0, bump d (devPage 0 + 0x110) 1)
        else
          let x := readCapture d src page off (regValue d off) (pairLo page r) (pairHi page r) (regValue d (off + 4))
          (x.1, readClears x.2 page off)
  (v, { d with readOut := tset d.readOut src (BitVec.ofNat 32 v), free := d.free + 1 })

/-! ### Header controls (R585–R589) -/

/-- ERROR_CLEAR (R585): ERROR of BLK_EVT is cleared, and with it the code and the address. -/
def errorClear (_src page : Nat) (d : Device) : Device :=
  let h := hdr d page
  if (pageInfo page).isNone then d
  else setHdr d page { h with evt := h.evt &&& 0xFFFFFFFE, errCode := 0, errAddr := 0 }

def execErrorClear (src page : Nat) (s : State) : Host.Outcome State Fault Refusal := run (.errorClear src page) (errorClear src page) s

/-- A W1C write of BLK_EVT (R583, R585). -/
def evtWrite (src page v : Nat) (d : Device) : Device :=
  let d := if bit v 0 then errorClear src page d else d
  let h := hdr d page
  setHdr d page { h with evt := h.evt &&& ~~~ BitVec.ofNat 32 v, genAck := if bit v 2 then d.plan.changes else h.genAck }

/-- The port of a PORT, LINK or ARC page. -/
def pagePort (page : Nat) : Option Nat := match pageInfo page with
  | some (t, p, _) => if t == 8 || t == 9 || t == 10 then some p else none
  | none => none

/-- A job has work on the page's unit, or an Arcade context uses the port (R586, R587): the units of UPD, PACE and HMEM pages are their hall. -/
def pageInUse (d : Device) (page : Nat) : Bool :=
  match pagePort page with
  | some p => d.ctxs.any (fun e => e.2.inPort == p || e.2.outPort == p)
  | none =>
    match pageUnit page with
    | some r => !(jobsOn d r).isEmpty
    | none => match pageInfo page with
      | some (t, h, _) => (t == 4 || t == 5 || t == 6) && !(jobsOn d (unitHall h)).isEmpty
      | none => false

/-- CONFIG is recorded in a page (R584, R586); the form of its address is open. -/
def configErr (d : Device) (page : Nat) : Device := recordErr (freeVal d).2 (page * 0x1000) 14 (freeVal d).1.toNat

/-- A source whose writes the lock binds (R589). -/
def bound (d : Device) (src page : Nat) : Bool := src != 2 && locked d page

/-- Links that a write of ENABLE takes out of service or returns (R586). -/
def pageLinks (page : Nat) : List (Nat × Nat) := match pageInfo page with
  | some (8, p, _) => (linksOf p).map (fun l => (p, l))
  | some (9, p, l) => [(p, l)]
  | _ => []

/-- BLK_ENABLE (R586, R589). -/
def blkEnable (src page : Nat) (on : Bool) (d : Device) : Device :=
  let h := hdr d page
  if !enableCap (pageType page) || bound d src page || h.enable == on then d
  else if !on && pageInUse d page then configErr d page
  else
    let d := setHdr d page { h with enable := on }
    (pageLinks page).foldl (fun d e =>
      if linkFenced d e.1 e.2 || !d.boot.logicReady then d
      else if on then (if linkOn d e.1 e.2 then trainLink d e.1 e.2 else d)
      else leaveIdle d e.1 e.2 false ((pageLinks page).length != 1)) d

def execBlkEnable (src page : Nat) (on : Bool) (s : State) : Host.Outcome State Fault Refusal :=
  run (.blkEnable src page on) (blkEnable src page on) s

/-- What a soft reset does to the state of a block (R112, R587). -/
def resetBlock (d : Device) (page : Nat) : Device :=
  match pageInfo page with
  | some (2, h, _) => { d with sigs := tdrop (· == h) d.sigs }
  | some (3, h, c) => clearCore d (h * 48 + c)
  | some (6, h, _) => { d with xcache := tdrop (· == h) d.xcache, xptr := tdrop (· == h) d.xptr }
  | some (7, s, _) =>
    let d := (d.watch.filter (fun e => e.1 / 18 == s)).foldl (fun d e => e.2.foldl (fun d b => dropCopies d (e.1 % 18) b) d) d
    { d with watch := tdrop (fun k => k / 18 == s) d.watch, refresh2 := ndel d.refresh2 s }
  | some (8, p, _) => setPort (takeDown d p true) p {}
  | some (9, p, l) => if linkFenced d p l || !linkOn d p l then d else trainLink (moveLink d p l (fun _ => {})) p l
  | _ => d

/-- SOFT_RESET (R587): LOCK, BLK_GEN, BLK_SCRATCH and BLK_ERR_COUNT are kept, the stack's TRAINED and SELF_REFRESH are its interface's. -/
def softReset (_src page : Nat) (d : Device) : Device :=
  let h := hdr d page
  if !resetCap (pageType page) then d
  else if pageInUse d page then configErr d page
  else
    let keep := if pageType page == 7 then getR d (page * 0x1000 + 0x100) else 0
    let d := setHdr { d with regs := tdrop (fun o => o / 0x1000 == page) d.regs } page
      { lock := h.lock, resetting := true, errCount := h.errCount, scratch := h.scratch, genAck := d.plan.changes }
    resetBlock (if keep % 2 == 1 then setR d (page * 0x1000 + 0x100) (keep &&& 9) else d) page

def execSoftReset (src page : Nat) (s : State) : Host.Outcome State Fault Refusal := run (.softReset src page) (softReset src page) s

/-- SOFT_RESET_DONE (R587): a LINK page's reset lasts while the link trains. -/
def softResetDone (page : Nat) (d : Device) : Device :=
  let h := hdr d page
  let training := (pageType page == 9) && (pageLinks page).any (fun e => (link d e.1 e.2).st == 5)
  if !h.resetting || training then d else setHdr d page { h with resetting := false }

def execSoftResetDone (page : Nat) (s : State) : Host.Outcome State Fault Refusal := run (.softResetDone page) (softResetDone page) s

/-- BLK_FENCE (R588, R589): a 1 acts as FENCE_UNIT for the page's unit; a 0 returns nothing to service. -/
def blkFence (src page : Nat) (on : Bool) (d : Device) : Device :=
  if !on || !fenceCap (pageType page) || bound d src page then d
  else match pageUnit page with
    | some r => requestFence d r 4 0
    | none => d

def execBlkFence (src page : Nat) (on : Bool) (s : State) : Host.Outcome State Fault Refusal := run (.blkFence src page on) (blkFence src page on) s

/-- LOCK (R589). -/
def lockPage (_src page : Nat) (d : Device) : Device :=
  if (pageInfo page).isNone then d else setHdr d page { hdr d page with lock := true }

def execLockPage (src page : Nat) (s : State) : Host.Outcome State Fault Refusal := run (.lockPage src page) (lockPage src page) s

/-- A write of BLK_CTRL acts field by field (R583), in the order ENABLE, SOFT_RESET, FENCE, LOCK (DESIGN CHOICE, notes/assumptions/81.md). -/
def ctrlWrite (src page v : Nat) (d : Device) : Device :=
  let d := blkEnable src page (bit v 0) d
  let d := if bit v 1 then softReset src page d else d
  let d := blkFence src page (bit v 2) d
  if bit v 3 then lockPage src page d else d

/-- A write of a header register (R582, R583). -/
def headWrite (src page r v : Nat) (d : Device) : Device :=
  match r with
  | 0x010 => ctrlWrite src page v d
  | 0x018 => evtWrite src page v d
  | 0x01C => setHdr d page { hdr d page with evtEn := BitVec.ofNat 32 v }
  | 0x030 => setHdr d page { hdr d page with scratch := BitVec.ofNat 32 v }
  | _ => d

/-! ### Writing -/

/-- A LO half is held for its source (R593). -/
def holdLo (src off v : Nat) (d : Device) : Device :=
  let h := hdr d (off / 0x1000)
  setHdr d (off / 0x1000) { h with hold := tset h.hold src ⟨off, BitVec.ofNat 32 v⟩ }

/-- The HI half of a writable pair is written (R593), with what the register's chapter ties to it; `lo` is the LO half's offset. -/
def commit (src lo v : Nat) (d : Device) : Device :=
  let page := lo / 0x1000
  let r := lo % 0x1000
  match pairMask page r with
  | none => d
  | some (ml, mh) =>
    let plain (d : Device) : Device := commitPair d src lo ml mh v
    match pageInfo page with
    | some (11, _, _) =>
      if r == 0x110 then
        (let d := plain d
         evtBaseWrite (BitVec.ofNat 64 (get64 d lo)) d)
      else if ringLoad d ((r - 0x200) / 16) != 0 then d
      else plain d
    | some (12, _, 1) => verdict src ((r - 0x100) / 0x20) (fld v 3 0) (fld v 5 4) d
    | some (12, _, 4) =>
      if r % 0x40 == 0 then plain d else etaWordWrite src ((r - 0x100) / 0x40) (r % 0x40 == 0x18) (BitVec.ofNat 32 v) d
    | _ => plain d

/-- The HI half of a word of a SIG window (R309, R342, R593). -/
def sigCommit (src h off v : Nat) (d : Device) : Device :=
  let page := off / 0x1000
  let i := off % 0x1000 / 8
  let d := if backed d h then flushStore d h else d
  let x := hdr d page
  match x.hold.find? (fun e => e.1 == src && e.2.off == off - 4) with
  | some (_, y) => sigWindowSet src h i (BitVec.ofNat 64 (v * 2 ^ 32 + y.lo.toNat)) (setHdr d page { x with hold := tdrop (· == src) x.hold })
  | none => sigWindowSet src h i (BitVec.ofNat 64 (v * 2 ^ 32 + wordBits d h i % 2 ^ 32)) d

/-- A write of LINK_CTRL (R372–R374, R377). -/
def linkCtrlWrite (p l v : Nat) (d : Device) : Device :=
  let was := bit (getR d (linkPage p l + 0x104)) 1
  let w := BitVec.ofNat 32 v
  let d := if bit v 1 && !was then (if bit v 2 then testForce p l w d else testReq p l w d)
    else if !bit v 1 && was then testEnd p l d
    else storeLinkCtrl d p l v
  if bit v 0 then retrain p l d else d

/-- A write of the Arcade's CTX_CMD (R382, R428). -/
def ctxCmdWrite (p v : Nat) (d : Device) : Device :=
  match fld v 1 0 with
  | 1 => ctxLoad p (fld v 9 4) (fld v 15 12) d
  | 2 => ctxUnload p (fld v 9 4) d
  | 3 => ctxCmdReserved p d
  | _ => d

/-- A write of UCTX_CMD (R440). -/
def uctxCmdWrite (j v : Nat) (d : Device) : Device :=
  match fld v 1 0 with
  | 1 => uctxLoad j d
  | 2 => uctxUnload j d
  | 3 => uctxCmdReserved j d
  | _ => d

/-- A W1C write of VALID, bit 31 of a record's register (R292, R375). -/
def validWrite (d : Device) (off v : Nat) : Device := if bit v 31 then putBit d off 31 false else d

/-- A write of a FOY register (R466, R467, R485). -/
def foyWrite (r v : Nat) (d : Device) : Device :=
  let w := BitVec.ofNat 32 v
  if r == 0x118 then evtSizeWrite w d
  else if r == 0x120 then evtHeadWrite w d
  else if 0x200 ≤ r && r < 0x310 then
    (if r % 16 == 8 then ringSizeWrite ((r - 0x200) / 16) w d else if r % 16 == 0xC then doorbell ((r - 0x200) / 16) w d else d)
  else d

/-- A write of a PWR register (R493, R496, R503). -/
def pwrWrite (n r v : Nat) (d : Device) : Device :=
  let w := BitVec.ofNat 32 v
  if n == 0 && r == 0x120 then thermTargetWrite w d
  else if n == 1 && 0x100 ≤ r && r < 0x340 then
    (let h := (r - 0x100) / 0x20
     let o := (r - 0x100) % 0x20
     if o < 0x10 then dvfsRequest h (o / 4) w d else if o == 0x18 then voltOvrWrite h w d else d)
  else d

/-- A write of a PORTER register (R540, R544, R548). -/
def porterWrite (r v : Nat) (d : Device) : Device :=
  if r == 0x100 then (if bit v 0 && !d.porter.mbxBusy then { d with porter := { d.porter with mbxBusy := true } } else d)
  else if r == 0x104 then (if bit v 1 then { d with porter := { d.porter with mbxDone := false } } else d)
  else if r == 0x108 then alertClear d v
  else d

/-- A write of DBG_CTRL (R597): DBG_EN is RWL. -/
def dbgCtrlWrite (src v : Nat) (d : Device) : Device :=
  if bound d src (dbgPage / 0x1000) then d else setR d (dbgPage + 0x100) (v % 2)

/-- A write of a register with behaviour of its own. -/
def specialWrite (src page r v : Nat) (d : Device) : Device :=
  let w := BitVec.ofNat 32 v
  let off := page * 0x1000 + r
  match pageInfo page with
  | some (1, _, 1) =>
    if r == 0x200 then (if bit v 4 then xinvAllJobs d else if bit v 5 then xinvRange (fld v 3 0) d else xinvJob (fld v 3 0) d)
    else if r == 0x220 then validWrite d off v
    else d
  | some (1, _, 2) => if r == 0x118 then repairHoldClear w d else if r == 0x12C then restoreCopy w d else d
  | some (3, h, c) => if r == 0x604 then arrSteerWrite (h * 48 + c) w d else d
  | some (5, h, _) => if r == 0x100 then paceJobWrite h w d else d
  | some (6, h, _) =>
    if 0x200 ≤ r && r < 0x280 && !bit (partB d h ((r - 0x200) / 8)) 31 then
      setR d off (v &&& (if r % 8 == 0 then 0x07FFFFFF else 0x03FFFFFF))
    else d
  | some (8, _, _) => if r == 0x120 then validWrite d off v else d
  | some (9, p, l) => if r == 0x104 then linkCtrlWrite p l v d else d
  | some (10, p, _) => if r == 0x10C then ctxCmdWrite p v d else d
  | some (11, _, _) => foyWrite r v d
  | some (12, _, 2) => if 0x100 ≤ r && r < 0x500 && r % 0x40 == 0x38 && bit v 0 then landCtrlReset ((r - 0x100) / 0x40) d else d
  | some (12, _, 4) => if 0x100 ≤ r && r < 0x500 && r % 0x40 == 8 then uctxCmdWrite ((r - 0x100) / 0x40) v d else d
  | some (13, _, n) => pwrWrite n r v d
  | some (14, _, _) => porterWrite r v d
  | some (16, _, _) => if r == 0x100 then dbgCtrlWrite src v d else d
  | _ => d

/-- A configuration write (R574, R575, R593) of any register but DBG_CMD. -/
def cfgWrite (src off v : Nat) (d : Device) : Device :=
  let page := off / 0x1000
  let r := off % 0x1000
  if off < 0x10000 then d
  else match sigWindowHall off with
    | some h => if r % 8 == 0 then holdLo src off v d else sigCommit src h off v d
    | none =>
      if (pageInfo page).isNone then bump d (devPage 0 + 0x110) 1
      else if r < 0x100 then headWrite src page r v d
      else if pairLo page r then (if (pairMask page r).isSome then holdLo src off v d else d)
      else if pairHi page r then commit src (off - 4) v d
      else if rwMask page r != 0 then setR d off (v &&& rwMask page r)
      else specialWrite src page r v d

/-! ### The DBG window (R597, R598) -/

/-- DBG_STAT after a command: the access has ended, or is refused. -/
def dbgEnd (d : Device) (refused : Bool) : Device := setR d (dbgPage + 0x110) (if refused then 4 else 2)

/-- The target of the window, none when the command is refused: DBG_EN is 0, or the target lies in the DBG page. -/
def dbgTarget (d : Device) : Option Nat :=
  let a := getR d (dbgPage + 0x104)
  if !bit (getR d (dbgPage + 0x100)) 0 || a / 0x1000 == dbgPage / 0x1000 then none else some a

/-- DBG_READ (R598): DBG_CMD is written with READ alone. -/
def dbgRead (d : Device) : Device :=
  match dbgTarget d with
  | none => dbgEnd d true
  | some a =>
    let x := cfgRead 1 a d
    dbgEnd (setR x.2 (dbgPage + 0x108) x.1) false

def execDbgRead (s : State) : Host.Outcome State Fault Refusal := run .dbgRead dbgRead s

/-- DBG_WRITE (R598): DBG_CMD is written with WRITE alone. -/
def dbgWrite (d : Device) : Device :=
  match dbgTarget d with
  | none => dbgEnd d true
  | some a => dbgEnd (cfgWrite 1 a (getR d (dbgPage + 0x108)) d) false

def execDbgWrite (s : State) : Host.Outcome State Fault Refusal := run .dbgWrite dbgWrite s

/-- A write of DBG_CMD (R598). -/
def dbgCmd (v : Nat) (d : Device) : Device :=
  if bit v 0 && !bit v 1 then dbgRead d else if bit v 1 && !bit v 0 then dbgWrite d else dbgEnd d true

/-! ### Accesses by source -/

/-- Pages that the Foyer may write before RUNNING (R631): FOY, DEV, PWR, PORTER, SEC, DBG. -/
def earlyPage (page : Nat) : Bool :=
  let t := pageType page
  t == 1 || t == 11 || t == 13 || t == 14 || t == 15 || t == 16

/-- The source reaches a page (R577, R612): the Porter only pages whose islands are powered, the others while the logic has power. -/
def reaches (d : Device) (src page : Nat) : Bool :=
  if src == 2 then d.boot.porterReady && d.boot.pm != 4 && (page == porterPage / 0x1000 || (d.boot.logicReady && d.boot.pm != 3))
  else d.boot.logicReady && d.boot.pm < 3

/-- A write of a source (R576, R577, R631): an access of the Foyer or the debugger wakes the module; the DBG page itself is never reached by
source DBG (R598). (DESIGN CHOICE, notes/assumptions/61.md.) -/
def writeBy (src off v : Nat) (d : Device) : Device :=
  let page := off / 0x1000
  if !reaches d src page || (src == 1 && page == dbgPage / 0x1000) || (src == 0 && !d.boot.running && !earlyPage page) then d
  else
    let d := wake d (if src == 2 then 4 else 1)
    if off == dbgPage + 0x10C then dbgCmd v d else cfgWrite src off v d

/-- A read of a source; a page that the Porter does not reach reads as zero (R577). -/
def readBy (src off : Nat) (d : Device) : Device :=
  let page := off / 0x1000
  if src == 1 && page == dbgPage / 0x1000 then d
  else if !reaches d src page then (if src == 2 && d.boot.porterReady then { d with readOut := tset d.readOut 2 0 } else d)
  else (cfgRead src off (wake d (if src == 2 then 4 else 1))).2

/-- REGISTER_WRITE (R576). -/
def registerWrite (src off : Nat) (v : Reg) (d : Device) : Device := writeBy src off v.toNat d

def execRegisterWrite (src off : Nat) (v : Reg) (s : State) : Host.Outcome State Fault Refusal :=
  run (.registerWrite src off v) (registerWrite src off v) s

/-- RC_READ (R10, R118, R576). -/
def rcRead (src off : Nat) (d : Device) : Device := readBy src off d

def execRcRead (src off : Nat) (s : State) : Host.Outcome State Fault Refusal := run (.rcRead src off) (rcRead src off) s

/-- The offset is the LO or the HI half of a pair or of a word of a SIG window. -/
def isLo (off : Nat) : Bool := if (sigWindowHall off).isSome then off % 8 == 0 else pairLo (off / 0x1000) (off % 0x1000)
def isHi (off : Nat) : Bool := if (sigWindowHall off).isSome then off % 8 == 4 else pairHi (off / 0x1000) (off % 0x1000)

/-- REG64_LO_WRITE (R593). -/
def reg64LoWrite (src off : Nat) (v : Reg) (d : Device) : Device := if isLo off then writeBy src off v.toNat d else d

def execReg64LoWrite (src off : Nat) (v : Reg) (s : State) : Host.Outcome State Fault Refusal :=
  run (.reg64LoWrite src off v) (reg64LoWrite src off v) s

/-- REG64_HI_COMMIT (R593). -/
def reg64HiCommit (src off : Nat) (v : Reg) (d : Device) : Device := if isHi off then writeBy src off v.toNat d else d

def execReg64HiCommit (src off : Nat) (v : Reg) (s : State) : Host.Outcome State Fault Refusal :=
  run (.reg64HiCommit src off v) (reg64HiCommit src off v) s

/-! ### Requests of the control node (R461, R462, R574, R631) -/

/-- A request is refused (R462): counted for a WR, and a CONFIG event with the fault's code. (DEDUCED, notes/assumptions/36.md.) -/
def foyerRefuse (d : Device) (wr : Bool) (job code addr : Nat) : Device :=
  causeEv (if wr then bump d (foyPage + 0x10C) 1 else d) job 0x90 code addr

/-- Every page that a SPACE 0 request touches may be accessed now (R462, R574, R631). (DEDUCED, notes/assumptions/35.md.) -/
def space0Ok (d : Device) (wr : Bool) (vc a n : Nat) : Bool :=
  (vc == 0 || vc == 2) && a % 4 == 0 && n % 4 == 0 && cfgBase ≤ a && a + n ≤ cfgBase + 2 ^ 24
  && (d.boot.running || (if wr then (List.range (n / 4)).all (fun i => earlyPage ((a - cfgBase + 4 * i) / 0x1000)) else vc == 2))

/-- SPACE 1 and SPACE 2 requests may be accessed now (R462, R631). -/
def spaceOk (d : Device) (space a n : Nat) : Bool :=
  d.boot.running && (if space == 1 then a + n ≤ 2 ^ 48 else bit (getR d (foyPage + 0x104)) 1 && a + n ≤ 2 ^ 39 && !fenced d a)

/-- The job that an event of a request names (R485): of SPACE 1 alone. -/
def reqJob (h : Nat) : Nat := if fSpace h == 1 then hJob h else 0xFF

/-- FOYER_WR_RX (R462, R574). -/
def foyerWrRx (hd : BitVec 128) (b : List Byte) (d : Device) : Device :=
  foyerReceive 1 hd b.length (fun d =>
    let h := hd.toNat
    let a := fAddr h
    if fSpace h == 0 then
      (if !space0Ok d true (fVc h) a b.length then foyerRefuse d true 0xFF 0 a
       else (List.range (b.length / 4)).foldl (fun d i => writeBy 0 (a - cfgBase + 4 * i) (leAt b (4 * i) 4) d) d)
    else if !spaceOk d (fSpace h) a b.length then foyerRefuse d true (reqJob h) 0 a
    else if fSpace h == 2 then stackWrite d a (clean b)
    else match unitWrite d (hJob h) a (clean b) 0xFFFF with
      | .error (code, d) => foyerRefuse d true (hJob h) code a
      | .ok d => d) d

def execFoyerWrRx (hd : BitVec 128) (b : List Byte) (s : State) : Host.Outcome State Fault Refusal := run (.foyerWrRx hd b) (foyerWrRx hd b) s

/-- A completion on the request's virtual channel (R461). -/
def complete (d : Device) (h st : Nat) (b : List Byte) : Device :=
  queuePkt d 6 { hdr := mkFoyer 3 (fVc h) 0 b.length 3 (fTag h) st, payload := b }

/-- The bytes that a SPACE 0 read returns, 32 bits at a time in ascending order (R574). -/
def readRange (off : Nat) : Nat → Device → List Byte × Device
  | 0, d => ([], d)
  | n + 1, d =>
    let x := readRange off n d
    let v := cfgRead 0 (off + 4 * n) x.2
    (x.1 ++ toLE 4 v.1, v.2)

/-- A read of stack memory answers with its bytes, or with STATUS 3 when one is poisoned (R462, R553). -/
def completeRead (h : Nat) (x : List (Byte × Bool) × Device) : Device :=
  if x.1.any Prod.snd then complete (poisonSeen x.2 foyPage none) h 3 [] else complete x.2 h 0 (x.1.map Prod.fst)

/-- FOYER_RD_RX (R461, R462, R574). -/
def foyerRdRx (hd : BitVec 128) (d : Device) : Device :=
  foyerReceive 2 hd 0 (fun d =>
    let h := hd.toNat
    let a := fAddr h
    let n := hLen h
    if fSpace h == 0 then
      (if !space0Ok d false (fVc h) a n then complete (foyerRefuse d false 0xFF 0 a) h 1 []
       else
         let x := readRange (a - cfgBase) (n / 4) d
         complete x.2 h 0 x.1)
    else if !spaceOk d (fSpace h) a n then complete (foyerRefuse d false (reqJob h) 0 a) h 1 []
    else if fSpace h == 2 then completeRead h (stackRead d a n)
    else match unitRead d (hJob h) a n 0xFFFF with
      | .error (code, d) => complete (foyerRefuse d false (hJob h) code a) h 2 []
      | .ok x => completeRead h x) d

def execFoyerRdRx (hd : BitVec 128) (s : State) : Host.Outcome State Fault Refusal := run (.foyerRdRx hd) (foyerRdRx hd) s

end Sys2Proof.Machine
end

