-- ==== Sys2Proof/Machine/Bringup.lean ====
section
/-!
DEFINITION. Input power and pins (R607–R615) and bring-up (R622–R634).
-/
namespace Sys2Proof.Machine

/-! ### Input power and pins -/

/-- The module without input power (R614): the flash and the fuses keep their contents. -/
def powerOff (d : Device) : Device :=
  let p := d.porter
  { readOut := d.readOut
    plan := { maps := p.seed }
    logRing := d.logRing
    logNext := d.logNext
    boot := { pwrEn := d.boot.pwrEn, protOpen := d.boot.protOpen }
    porter := { act := p.act, trial := p.trial, tries := p.tries, slots := p.slots, svn := p.svn, seed := p.seed, genRec := p.genRec }
    now := d.now
    free := d.free }

/-- POWER_APPLY (R498, R608, R622 B1): the straps are sampled, and the RTC counts from zero. An update session that power ended is closed. (DEDUCED, notes/assumptions/56.md.) -/
def powerApply (cool : BitVec 2) (slot : BitVec 6) (d : Device) : Device :=
  if d.boot.vin || d.boot.protOpen then d
  else
    let d := powerOff d
    let d := { d with boot := { d.boot with vin := true, cool := cool.toNat, slot := slot.toNat, entry := true, cause := 0 } }
    if cool.toNat == 3 then setEvt d (pwrPage 0) 17 else d

def execPowerApply (cool : BitVec 2) (slot : BitVec 6) (s : State) : Host.Outcome State Fault Refusal :=
  run (.powerApply cool slot) (powerApply cool slot) s

/-- POWER_LOSS (R614): an open session leaves no valid image (R528); removing input power lets the protection close (R610). -/
def powerLoss (d : Device) : Device :=
  let d := powerOff (closeSession d)
  { d with boot := { d.boot with protOpen := false } }

def execPowerLoss (s : State) : Host.Outcome State Fault Refusal := run .powerLoss powerLoss s

/-- OVERVOLTAGE_SHUTDOWN (R610): the module is shut down until power is applied again. -/
def overvoltageShutdown (d : Device) : Device := if d.boot.vin then powerOff (closeSession d) else d

def execOvervoltageShutdown (s : State) : Host.Outcome State Fault Refusal := run .overvoltageShutdown overvoltageShutdown s

/-- INPUT_PROTECTION_OPEN (R610): it stays open until input power is removed and applied again. -/
def inputProtectionOpen (d : Device) : Device :=
  if !d.boot.vin then d
  else
    let d := powerOff (closeSession d)
    { d with boot := { d.boot with protOpen := true } }

def execInputProtectionOpen (s : State) : Host.Outcome State Fault Refusal := run .inputProtectionOpen inputProtectionOpen s

/-- PWR_EN_RISE (R613). -/
def pwrEnRise (d : Device) : Device := { d with boot := { d.boot with pwrEn := true } }

def execPwrEnRise (s : State) : Host.Outcome State Fault Refusal := run .pwrEnRise pwrEnRise s

/-- PWR_EN_FALL (R613–R615): the rails are removed, which the next BOOT record names; while the module is tripped it has no effect. -/
def pwrEnFall (d : Device) : Device :=
  if !d.boot.pwrEn then d
  else
    let b := d.boot
    let off := { d with boot := { b with pwrEn := false } }
    if !b.vin || b.tripped then off
    else if b.pm == 4 then { off with boot := { off.boot with pm := 0, done := 0, target := 0, cause := 4, entry := true } }
    else if b.vrPgood || b.pm == 3 || b.exit != 0 then
      railsOff { off with boot := { off.boot with retried := false, seqRetried := false, cause := 4 } }
    else off

def execPwrEnFall (s : State) : Host.Outcome State Fault Refusal := run .pwrEnFall pwrEnFall s

/-- MOD_RESET_N (R607, R624): low for 10 µs. -/
def modResetN (d : Device) : Device := if d.boot.vin then moduleReset d 1 else d

def execModResetN (s : State) : Host.Outcome State Fault Refusal := run .modResetN modResetN s

/-- WAKE_N falls (R607, R615). -/
def wakeN (d : Device) : Device := wake d 6

def execWakeN (s : State) : Host.Outcome State Fault Refusal := run .wakeN wakeN s

/-! ### Failures (R633) -/

/-- The module is held off (R633). -/
def holdOff (d : Device) (failed : Nat) : Device :=
  let d := bootRecord d 6 (lastStage d) failed
  alert (railsOff { d with boot := { d.boot with heldOff := true } }) 5

/-- The rails are removed, and the stages run again from B3. -/
def rerun (d : Device) (failed : Nat) : Device := railsOff (bootRecord d 6 (lastStage d) failed)

/-- A stage that may fail once (R633): the second failure holds the module off. -/
def stageFails (d : Device) (failed : Nat) : Device :=
  if d.boot.retried then holdOff d failed
  else
    let d := rerun d failed
    { d with boot := { d.boot with retried := true } }

/-- The stages may run: input power, PWR_EN, a Porter that is ready, and nothing that stops them. -/
def stagesRun (d : Device) : Bool :=
  d.boot.vin && d.boot.pwrEn && d.boot.porterReady && !d.boot.recovery && !d.boot.heldOff && !d.boot.tripped && d.boot.pm == 0 && d.boot.exit == 0

/-- STAGE_FAILURE (R633): B3, B4 or B7 is in progress and its ready indication is late, or a rail faults. -/
def stageFailure (stage : Nat) (d : Device) : Device :=
  let b := d.boot
  let at_ := if !b.vrPgood then 3 else if !b.oscReady then 4 else if b.memReady && !b.logicReady then 7 else 0
  if !stagesRun d || stage != at_ then d else stageFails d stage

def execStageFailure (stage : Nat) (s : State) : Host.Outcome State Fault Refusal := run (.stageFailure stage) (stageFailure stage) s

/-! ### Stages B3 to B7 -/

/-- MAIN_RAILS (R622 B3). -/
def mainRails (d : Device) : Device := if stagesRun d && !d.boot.vrPgood then { d with boot := { d.boot with vrPgood := true } } else d

def execMainRails (s : State) : Host.Outcome State Fault Refusal := run .mainRails mainRails s

/-- OSC_START (R622 B4). -/
def oscStart (d : Device) : Device := if stagesRun d && d.boot.vrPgood && !d.boot.oscReady then clocksLock d else d

def execOscStart (s : State) : Host.Outcome State Fault Refusal := run .oscStart oscStart s

/-- The fence record of a unit, and whether bring-up tests the unit (R543, R625): it is not fenced, its record is of REASON 1 or 2, or a release
removed its record. -/
def recordOf (m : Maps) (r : UnitRef) : Option Fence := m.fences.find? (fun f => f.unit == r)
def retested (m : Maps) (r : UnitRef) : Bool := match recordOf m r with
  | some f => f.reason == 1 || f.reason == 2
  | none => true

/-- A fence of bring-up (R626, R627): REASON 1. -/
def bootFence (d : Device) (r : UnitRef) : Device :=
  if (recordOf d.plan.maps r).isSome || d.plan.pendF.any (fun f => f.unit == r) then d
  else
    let f : Fence := { unit := r, reason := 1, code := 0, gen := 0, time := get64 d (porterPage + 0x118) }
    { d with plan := { d.plan with pendF := d.plan.pendF ++ [f] } }

def trained (d : Device) (s : Nat) : Bool := bit (getR d (scPage s + 0x100)) 0
/-- The stack has been given up in this bring-up, or was never trained in it because its fence stands. -/
def stackOut (d : Device) (s : Nat) : Bool := 3 ≤ tget 0 d.boot.tries s || !retested d.plan.maps (unitStack s)

/-- MEM_READY (R627): every stack is trained or fenced; every stack fenced is a failure of B5. -/
def stacksReady (d : Device) : Device :=
  if (List.range 16).all (stackOut d) then holdOff d 5
  else if (List.range 16).all (fun s => trained d s || stackOut d s) then { d with boot := { d.boot with memReady := true } }
  else d

/-- STACK_TRAIN (R622 B5, R627): one attempt of a stack; the third failure fences it. -/
def stackTrain (s : Nat) (ok : Bool) (d : Device) : Device :=
  if !stagesRun d || !d.boot.oscReady || d.boot.memReady || trained d s || stackOut d s then d
  else if ok then
    let d := setR d (scPage s + 0x100) (getR d (scPage s + 0x100) ||| 1)
    stacksReady (if d.plan.maps.outStacks.contains s then { d with plan := { d.plan with pendR := d.plan.pendR ++ [unitStack s] } } else d)
  else
    let n := tget 0 d.boot.tries s + 1
    let d := { d with boot := { d.boot with tries := tset d.boot.tries s n } }
    stacksReady (if n == 3 then bootFence d (unitStack s) else d)

def execStackTrain (stk : Nat) (ok : Bool) (s : State) : Host.Outcome State Fault Refusal := run (.stackTrain stk ok) (stackTrain stk ok) s

/-- SEQ_IMAGE_LOAD (R525 step 5, R532, R622 B6): a rollback runs the stages once more from B3; with no slot that passes the module is held off. -/
def seqImageLoad (d : Device) : Device :=
  if !stagesRun d || !d.boot.oscReady || d.boot.seqReady then d
  else match selectSlot d 2 with
    | (none, _, d) => holdOff d 6
    | (some s, rolled, d) =>
      if rolled && !d.boot.seqRetried then
        (let d := rerun d 6
         { d with boot := { d.boot with seqRetried := true } })
      else
        (let d := runImage d 2 s
         { d with boot := { d.boot with seqReady := true } })

def execSeqImageLoad (s : State) : Host.Outcome State Fault Refusal := run .seqImageLoad seqImageLoad s

/-- LOGIC_RELEASE (R622 B7, R630): halls, fabric, ports and the Foyer leave reset with every core stopped, and training starts. -/
def logicRelease (d : Device) : Device :=
  if !stagesRun d || !d.boot.memReady || d.boot.logicReady then d
  else
    let d := { d with boot := { d.boot with logicReady := true } }
    alert (trainPorts (trainLink d 6 0)) 6

def execLogicRelease (s : State) : Host.Outcome State Fault Refusal := run .logicRelease logicRelease s

/-! ### Stages B8 and B9 -/

/-- Units that B8 tests (R625): lanes, cores, halls and ports that are not fenced, and lanes and cores whose fence bring-up tests again. -/
def bootTested (m : Maps) (r : UnitRef) : Bool :=
  r.kind != 3 && r.kind != 5 && (!unitFenced m r || ((r.kind == 0 || r.kind == 1) && retested m r))

/-- Fenced lanes and cores that B8 tests again and that pass (R543, R625, R626). -/
def bootReturns (m : Maps) (fails : List UnitRef) : List UnitRef :=
  let lanes := m.outLane.map (fun e => unitLane (e.1 / 4) (e.1 % 4) e.2)
  let cores := m.coreSt.filterMap (fun e => if e.2 == 2 then some (unitCore e.1) else none)
  (lanes ++ cores).filter (fun r => retested m r && !fails.contains r && !(r.kind == 0 && fails.contains (unitCore (r.a * 48 + r.b))))

/-- POWER_ON_SELF_TEST (R625, R626, R568). -/
def powerOnSelfTest (fails : List UnitRef) (fixedFail : Bool) (d : Device) : Device :=
  if !stagesRun d || !d.boot.logicReady || d.boot.tested then d
  else
    let m := d.plan.maps
    let back := bootReturns m fails
    let d := (fails.filter (bootTested m)).foldl bootFence d
    { d with plan := { d.plan with pendR := d.plan.pendR ++ back }
             boot := { d.boot with tested := true, moduleFault := d.boot.moduleFault || fixedFail } }

def execPowerOnSelfTest (fails : List UnitRef) (fixedFail : Bool) (s : State) : Host.Outcome State Fault Refusal :=
  run (.powerOnSelfTest fails fixedFail) (powerOnSelfTest fails fixedFail) s

/-- A unit returns at bring-up (R543): as a release, and a lane and a stack return to service. -/
def returnOne (m : Maps) (r : UnitRef) : Maps :=
  let m := releaseOne m r
  match r.kind with
  | 0 => { m with outLane := tdrop (· == (r.a * 48 + r.b) * 4 + r.q) m.outLane }
  | 3 => { m with outStacks := ndel m.outStacks r.a }
  | _ => m

/-- ARR_STEER of every core from its OUT_LANE bytes (R112, R628). -/
def loadSteer (d : Device) : Device :=
  ((d.plan.maps.outLane.map (fun e => e.1 / 4)).foldl nins []).foldl (fun d u =>
    let c := core d u
    let v := BitVec.ofNat 32 (steerOf d.plan.maps u)
    setCore d u { c with arr := { c.arr with steer := v, inEffect := v, steerPending := false } }) d

/-- FLOOR_PLAN_BUILD (R622 B9, R628): the maps of the seed with the fences and returns of bring-up, one generation above the highest recorded; the
first publication sets no GEN bit and sends no event of a change. -/
def floorPlanBuild (d : Device) : Device :=
  if !stagesRun d || !d.boot.tested || d.plan.built then d
  else
    let old := d.plan.pendR.foldl returnOne d.plan.maps
    let gen := d.porter.genRec + 1
    let back := d.plan.pendR.filterMap (recordOf d.plan.maps)
    let m := remap old (d.plan.pendF.map (fun f => { f with gen := gen }))
    let fs := m.fences.drop old.fences.length
    let d := { d with plan := { d.plan with maps := m, pendF := [], pendR := [], dirty := false, gen := gen, changes := 0, sbOk := []
                                            built := true }
                      porter := { d.porter with seed := m, genRec := gen } }
    let d := fs.foldl fenceEffect d
    let d := back.foldl (fun d f => log d 6 0 (fenceBytes f)) d
    let d := fs.foldl fenceReport (loadSteer d)
    writeBody { d with plan := { d.plan with dirty := false } }

def execFloorPlanBuild (s : State) : Host.Outcome State Fault Refusal := run .floorPlanBuild floorPlanBuild s

/-! ### Stages B10 and B11 -/

/-- SEQ_INIT (R530, R622 B10): the firmware reports RUNNING, which confirms a TRIAL slot. -/
def seqInit (d : Device) : Device :=
  if !stagesRun d || !d.plan.built || !d.boot.seqReady || d.boot.running then d
  else confirm { d with boot := { d.boot with running := true } } 2

def execSeqInit (s : State) : Host.Outcome State Fault Refusal := run .seqInit seqInit s

/-- COMMANDS_ACCEPTED (R622 B11, R631). -/
def commandsAccepted (d : Device) : Device :=
  if !stagesRun d || !d.boot.running then d else { d with boot := { d.boot with accepting := true } }

def execCommandsAccepted (s : State) : Host.Outcome State Fault Refusal := run .commandsAccepted commandsAccepted s

/-- SEQ_RUNNING_TIMEOUT (R629): a slot in TRIAL rolls back and the stages run once more from B3; otherwise the module is held off. -/
def seqRunningTimeout (d : Device) : Device :=
  if !stagesRun d || !d.boot.seqReady || d.boot.running then d
  else if inTrial d 2 then
    (let d := rerun (rollback d 2) 10
     { d with boot := { d.boot with seqRetried := true } })
  else holdOff (rejectImage d 2 (activeSlot d 2)) 10

def execSeqRunningTimeout (s : State) : Host.Outcome State Fault Refusal := run .seqRunningTimeout seqRunningTimeout s

end Sys2Proof.Machine
end

