-- ==== Sys2Proof/Machine/Dispatch.lean ====
section
/-!
DEFINITION. The dispatch: one arm per command, each one direct call of its meaning.
-/
namespace Sys2Proof.Machine

/-- A command's effect on everything but the queue. -/
def exec (i : Instr) (s : State) : Host.Outcome State Fault Refusal :=
  match i with
  | .alu u => Sys2Proof.Machine.execAlu u s
  | .alui u => Sys2Proof.Machine.execAlui u s
  | .li u => Sys2Proof.Machine.execLi u s
  | .ld u => Sys2Proof.Machine.execLd u s
  | .st u => Sys2Proof.Machine.execSt u s
  | .br u => Sys2Proof.Machine.execBr u s
  | .jal u => Sys2Proof.Machine.execJal u s
  | .jalr u => Sys2Proof.Machine.execJalr u s
  | .csrr u => Sys2Proof.Machine.execCsrr u s
  | .fence u => Sys2Proof.Machine.execFence u s
  | .safept u => Sys2Proof.Machine.execSafept u s
  | .endProg u => Sys2Proof.Machine.execEndProg u s
  | .nop u => Sys2Proof.Machine.execNop u s
  | .tcfg u => Sys2Proof.Machine.execTcfg u s
  | .tcfgApply u => Sys2Proof.Machine.execTcfgApply u s
  | .tclr u => Sys2Proof.Machine.execTclr u s
  | .tdead u => Sys2Proof.Machine.execTdead u s
  | .wld u => Sys2Proof.Machine.execWld u s
  | .wldStart u mode waited => Sys2Proof.Machine.execWldStart u mode waited s
  | .wldReady u mode => Sys2Proof.Machine.execWldReady u mode s
  | .mma u => Sys2Proof.Machine.execMma u s
  | .bankSwap u mode waited => Sys2Proof.Machine.execBankSwap u mode waited s
  | .passComplete u mode => Sys2Proof.Machine.execPassComplete u mode s
  | .accdrain u => Sys2Proof.Machine.execAccdrain u s
  | .drainComplete u => Sys2Proof.Machine.execDrainComplete u s
  | .accClearDone u => Sys2Proof.Machine.execAccClearDone u s
  | .vbin u => Sys2Proof.Machine.execVbin u s
  | .vfma u => Sys2Proof.Machine.execVfma u s
  | .vun u => Sys2Proof.Machine.execVun u s
  | .vscal u => Sys2Proof.Machine.execVscal u s
  | .vfn u => Sys2Proof.Machine.execVfn u s
  | .vdfn u => Sys2Proof.Machine.execVdfn u s
  | .vred u => Sys2Proof.Machine.execVred u s
  | .vste u => Sys2Proof.Machine.execVste u s
  | .vectorComplete u => Sys2Proof.Machine.execVectorComplete u s
  | .ftld u => Sys2Proof.Machine.execFtld u s
  | .ftinv u => Sys2Proof.Machine.execFtinv u s
  | .sxfer u => Sys2Proof.Machine.execSxfer u s
  | .sarr u => Sys2Proof.Machine.execSarr u s
  | .sset u => Sys2Proof.Machine.execSset u s
  | .swait u => Sys2Proof.Machine.execSwait u s
  | .sgate u => Sys2Proof.Machine.execSgate u s
  | .sread u => Sys2Proof.Machine.execSread u s
  | .instrFire u n => Sys2Proof.Machine.execInstrFire u n s
  | .xferComplete u n => Sys2Proof.Machine.execXferComplete u n s
  | .landingPlace u n waited => Sys2Proof.Machine.execLandingPlace u n waited s
  | .landCtrlReset j => Sys2Proof.Machine.execLandCtrlReset j s
  | .landingReset j => Sys2Proof.Machine.execLandingReset j s
  | .contextSave u => Sys2Proof.Machine.execContextSave u s
  | .contextRestore u addr len => Sys2Proof.Machine.execContextRestore u addr len s
  | .arrSteerWrite u v => Sys2Proof.Machine.execArrSteerWrite u v s
  | .steerApply u => Sys2Proof.Machine.execSteerApply u s
  | .stackRead a len job => Sys2Proof.Machine.execStackRead a len job s
  | .stackWriteAccept a data poisoned => Sys2Proof.Machine.execStackWriteAccept a data poisoned s
  | .stackRefresh stk => Sys2Proof.Machine.execStackRefresh stk s
  | .stackTempSample stk temp ms => Sys2Proof.Machine.execStackTempSample stk temp ms s
  | .runaheadFetch u k => Sys2Proof.Machine.execRunaheadFetch u k s
  | .xinvAllJobs => Sys2Proof.Machine.execXinvAllJobs s
  | .xinvJob j => Sys2Proof.Machine.execXinvJob j s
  | .xinvRange j => Sys2Proof.Machine.execXinvRange j s
  | .xinvComplete => Sys2Proof.Machine.execXinvComplete s
  | .sigStoreApply h n => Sys2Proof.Machine.execSigStoreApply h n s
  | .sigPoll u g => Sys2Proof.Machine.execSigPoll u g s
  | .sigWindowSet src h n v => Sys2Proof.Machine.execSigWindowSet src h n v s
  | .signalRx rx => Sys2Proof.Machine.execSignalRx rx s
  | .remoteSignalRelease p cls => Sys2Proof.Machine.execRemoteSignalRelease p cls s
  | .writeRx rx => Sys2Proof.Machine.execWriteRx rx s
  | .writeErrRx rx => Sys2Proof.Machine.execWriteErrRx rx s
  | .linkPacketRx p l hdr => Sys2Proof.Machine.execLinkPacketRx p l hdr s
  | .badBlock p l uncorrectable => Sys2Proof.Machine.execBadBlock p l uncorrectable s
  | .packetSend p => Sys2Proof.Machine.execPacketSend p s
  | .trainBlockRx p l block => Sys2Proof.Machine.execTrainBlockRx p l block s
  | .trainStepTimeout p l => Sys2Proof.Machine.execTrainStepTimeout p l s
  | .linkSilenceTimeout p l => Sys2Proof.Machine.execLinkSilenceTimeout p l s
  | .laneLockLoss p l lane => Sys2Proof.Machine.execLaneLockLoss p l lane s
  | .laneLockRegained p l => Sys2Proof.Machine.execLaneLockRegained p l s
  | .retrain p l => Sys2Proof.Machine.execRetrain p l s
  | .testReq p l v => Sys2Proof.Machine.execTestReq p l v s
  | .testForce p l v => Sys2Proof.Machine.execTestForce p l v s
  | .testEnd p l => Sys2Proof.Machine.execTestEnd p l s
  | .testAnswerTimeout p l => Sys2Proof.Machine.execTestAnswerTimeout p l s
  | .ctxLoad p rjid job => Sys2Proof.Machine.execCtxLoad p rjid job s
  | .ctxUnload p rjid => Sys2Proof.Machine.execCtxUnload p rjid s
  | .ctxCmdReserved p => Sys2Proof.Machine.execCtxCmdReserved p s
  | .bucketReady rjid n => Sys2Proof.Machine.execBucketReady rjid n s
  | .readyRx rx => Sys2Proof.Machine.execReadyRx rx s
  | .chainStart rjid n b => Sys2Proof.Machine.execChainStart rjid n b s
  | .partialRx rx => Sys2Proof.Machine.execPartialRx rx s
  | .deadlineTaint rjid wait n => Sys2Proof.Machine.execDeadlineTaint rjid wait n s
  | .pushedSend rjid n => Sys2Proof.Machine.execPushedSend rjid n s
  | .upstreamRestart rjid n => Sys2Proof.Machine.execUpstreamRestart rjid n s
  | .emptyBlockWrite rjid n => Sys2Proof.Machine.execEmptyBlockWrite rjid n s
  | .normSend rjid => Sys2Proof.Machine.execNormSend rjid s
  | .normRx rx => Sys2Proof.Machine.execNormRx rx s
  | .gatherSend rjid n => Sys2Proof.Machine.execGatherSend rjid n s
  | .gatherRx rx => Sys2Proof.Machine.execGatherRx rx s
  | .uctxLoad j => Sys2Proof.Machine.execUctxLoad j s
  | .uctxUnload j => Sys2Proof.Machine.execUctxUnload j s
  | .uctxCmdReserved j => Sys2Proof.Machine.execUctxCmdReserved j s
  | .statsPass j n => Sys2Proof.Machine.execStatsPass j n s
  | .applyGrant j => Sys2Proof.Machine.execApplyGrant j s
  | .etaLatch j h waited => Sys2Proof.Machine.execEtaLatch j h waited s
  | .etaWordWrite src j odd hi => Sys2Proof.Machine.execEtaWordWrite src j odd hi s
  | .applyBucket j n => Sys2Proof.Machine.execApplyBucket j n s
  | .foyerWrRx hdr payload => Sys2Proof.Machine.execFoyerWrRx hdr payload s
  | .foyerRdRx hdr => Sys2Proof.Machine.execFoyerRdRx hdr s
  | .foyerCplRx hdr payload => Sys2Proof.Machine.execFoyerCplRx hdr payload s
  | .doorbell r tail => Sys2Proof.Machine.execDoorbell r tail s
  | .jobStart => Sys2Proof.Machine.execJobStart s
  | .jobEnd => Sys2Proof.Machine.execJobEnd s
  | .preemptBoundary => Sys2Proof.Machine.execPreemptBoundary s
  | .preemptSafept => Sys2Proof.Machine.execPreemptSafept s
  | .preempted j => Sys2Proof.Machine.execPreempted j s
  | .resume => Sys2Proof.Machine.execResume s
  | .stepCmd j => Sys2Proof.Machine.execStepCmd j s
  | .checkpoint j => Sys2Proof.Machine.execCheckpoint j s
  | .ckptDone j => Sys2Proof.Machine.execCkptDone j s
  | .reimage j => Sys2Proof.Machine.execReimage j s
  | .cmdReserved r => Sys2Proof.Machine.execCmdReserved r s
  | .batchFetch j => Sys2Proof.Machine.execBatchFetch j s
  | .attemptStart j => Sys2Proof.Machine.execAttemptStart j s
  | .microBatchStart j => Sys2Proof.Machine.execMicroBatchStart j s
  | .microBatchDone j => Sys2Proof.Machine.execMicroBatchDone j s
  | .stepReady j => Sys2Proof.Machine.execStepReady j s
  | .verdictApply src j attempt => Sys2Proof.Machine.execVerdictApply src j attempt s
  | .verdictRepeat src j attempt => Sys2Proof.Machine.execVerdictRepeat src j attempt s
  | .verdictSkip src j attempt => Sys2Proof.Machine.execVerdictSkip src j attempt s
  | .verdictNone src j attempt => Sys2Proof.Machine.execVerdictNone src j attempt s
  | .stepCommit j => Sys2Proof.Machine.execStepCommit j s
  | .eventRecordWrite => Sys2Proof.Machine.execEventRecordWrite s
  | .evtBaseWrite v => Sys2Proof.Machine.execEvtBaseWrite v s
  | .evtSizeWrite v => Sys2Proof.Machine.execEvtSizeWrite v s
  | .evtHeadWrite v => Sys2Proof.Machine.execEvtHeadWrite v s
  | .ringSizeWrite r v => Sys2Proof.Machine.execRingSizeWrite r v s
  | .dvfsRequest h who v => Sys2Proof.Machine.execDvfsRequest h who v s
  | .dvfsStepDone h => Sys2Proof.Machine.execDvfsStepDone h s
  | .voltOvrWrite h v => Sys2Proof.Machine.execVoltOvrWrite h v s
  | .thermTargetWrite v => Sys2Proof.Machine.execThermTargetWrite v s
  | .thermalLoop => Sys2Proof.Machine.execThermalLoop s
  | .powerLoop watts => Sys2Proof.Machine.execPowerLoop watts s
  | .currentLimiterCheck watts => Sys2Proof.Machine.execCurrentLimiterCheck watts s
  | .thermalTrip sensor value => Sys2Proof.Machine.execThermalTrip sensor value s
  | .pmEntryStart => Sys2Proof.Machine.execPmEntryStart s
  | .pmStageDone => Sys2Proof.Machine.execPmStageDone s
  | .pmWake cause => Sys2Proof.Machine.execPmWake cause s
  | .pmExitStep => Sys2Proof.Machine.execPmExitStep s
  | .pmExitTimeout => Sys2Proof.Machine.execPmExitTimeout s
  | .paceJobWrite h v => Sys2Proof.Machine.execPaceJobWrite h v s
  | .watchdogRestart => Sys2Proof.Machine.execWatchdogRestart s
  | .porterReadyTimeout => Sys2Proof.Machine.execPorterReadyTimeout s
  | .getStatus t payload => Sys2Proof.Machine.execGetStatus t payload s
  | .alertAck t payload => Sys2Proof.Machine.execAlertAck t payload s
  | .readSensor t payload fresh => Sys2Proof.Machine.execReadSensor t payload fresh s
  | .setChassisTemp t payload => Sys2Proof.Machine.execSetChassisTemp t payload s
  | .readLog t payload => Sys2Proof.Machine.execReadLog t payload s
  | .wakeMsg t payload => Sys2Proof.Machine.execWakeMsg t payload s
  | .resetModule t payload => Sys2Proof.Machine.execResetModule t payload s
  | .setRtc t payload => Sys2Proof.Machine.execSetRtc t payload s
  | .setAlarm t payload => Sys2Proof.Machine.execSetAlarm t payload s
  | .fwBegin t payload => Sys2Proof.Machine.execFwBegin t payload s
  | .fwData t payload => Sys2Proof.Machine.execFwData t payload s
  | .fwVerify t payload => Sys2Proof.Machine.execFwVerify t payload s
  | .fwActivate t payload => Sys2Proof.Machine.execFwActivate t payload s
  | .fwCommit t payload => Sys2Proof.Machine.execFwCommit t payload s
  | .fwSessionTimeout => Sys2Proof.Machine.execFwSessionTimeout s
  | .getIdentity t payload => Sys2Proof.Machine.execGetIdentity t payload s
  | .attestReq t payload => Sys2Proof.Machine.execAttestReq t payload s
  | .attestReady => Sys2Proof.Machine.execAttestReady s
  | .attestRead t payload => Sys2Proof.Machine.execAttestRead t payload s
  | .fenceUnit t payload => Sys2Proof.Machine.execFenceUnit t payload s
  | .releaseUnit t payload => Sys2Proof.Machine.execReleaseUnit t payload s
  | .selfTest t payload => Sys2Proof.Machine.execSelfTest t payload s
  | .unknownCmd t cmd payload => Sys2Proof.Machine.execUnknownCmd t cmd payload s
  | .sensorConversion n v => Sys2Proof.Machine.execSensorConversion n v s
  | .logFlush => Sys2Proof.Machine.execLogFlush s
  | .rtcAlarm => Sys2Proof.Machine.execRtcAlarm s
  | .selfTestStart unit => Sys2Proof.Machine.execSelfTestStart unit s
  | .selfTestEnd unit res => Sys2Proof.Machine.execSelfTestEnd unit res s
  | .floorPlanChange => Sys2Proof.Machine.execFloorPlanChange s
  | .restoreCopy v => Sys2Proof.Machine.execRestoreCopy v s
  | .restoreCopyDone => Sys2Proof.Machine.execRestoreCopyDone s
  | .repairHoldClear v => Sys2Proof.Machine.execRepairHoldClear v s
  | .blkEnable src page on => Sys2Proof.Machine.execBlkEnable src page on s
  | .softReset src page => Sys2Proof.Machine.execSoftReset src page s
  | .softResetDone page => Sys2Proof.Machine.execSoftResetDone page s
  | .blkFence src page on => Sys2Proof.Machine.execBlkFence src page on s
  | .lockPage src page => Sys2Proof.Machine.execLockPage src page s
  | .errorClear src page => Sys2Proof.Machine.execErrorClear src page s
  | .reg64LoWrite src off v => Sys2Proof.Machine.execReg64LoWrite src off v s
  | .reg64HiCommit src off v => Sys2Proof.Machine.execReg64HiCommit src off v s
  | .dbgRead => Sys2Proof.Machine.execDbgRead s
  | .dbgWrite => Sys2Proof.Machine.execDbgWrite s
  | .registerWrite src off v => Sys2Proof.Machine.execRegisterWrite src off v s
  | .powerApply cool slot => Sys2Proof.Machine.execPowerApply cool slot s
  | .powerLoss => Sys2Proof.Machine.execPowerLoss s
  | .overvoltageShutdown => Sys2Proof.Machine.execOvervoltageShutdown s
  | .inputProtectionOpen => Sys2Proof.Machine.execInputProtectionOpen s
  | .pwrEnRise => Sys2Proof.Machine.execPwrEnRise s
  | .pwrEnFall => Sys2Proof.Machine.execPwrEnFall s
  | .modResetN => Sys2Proof.Machine.execModResetN s
  | .wakeN => Sys2Proof.Machine.execWakeN s
  | .porterBoot fusesOk => Sys2Proof.Machine.execPorterBoot fusesOk s
  | .mainRails => Sys2Proof.Machine.execMainRails s
  | .oscStart => Sys2Proof.Machine.execOscStart s
  | .stackTrain stk ok => Sys2Proof.Machine.execStackTrain stk ok s
  | .seqImageLoad => Sys2Proof.Machine.execSeqImageLoad s
  | .logicRelease => Sys2Proof.Machine.execLogicRelease s
  | .powerOnSelfTest fails fixedFail => Sys2Proof.Machine.execPowerOnSelfTest fails fixedFail s
  | .floorPlanBuild => Sys2Proof.Machine.execFloorPlanBuild s
  | .seqInit => Sys2Proof.Machine.execSeqInit s
  | .commandsAccepted => Sys2Proof.Machine.execCommandsAccepted s
  | .seqRunningTimeout => Sys2Proof.Machine.execSeqRunningTimeout s
  | .stageFailure stage => Sys2Proof.Machine.execStageFailure stage s
  | .trainStepDone p l polarity laneMap => Sys2Proof.Machine.execTrainStepDone p l polarity laneMap s
  | .testEntryAckTimeout p l => Sys2Proof.Machine.execTestEntryAckTimeout p l s
  | .rcRead src off => Sys2Proof.Machine.execRcRead src off s

end Sys2Proof.Machine
end

