-- ==== Sys2Proof/Machine/Tick.lean ====
section
/-!
DEFINITION. Time while the block idles (DESIGN CHOICE, notes/assumptions/3.md): the cycle counters of the islands (R491), the Porter's ticks (R517), the RTC
(R537), and the counters of waiting cycles.
-/
namespace Sys2Proof.Machine

/-- Clock edges of island `n` (R37) in this idle step. -/
def edges (d : Device) (n : Nat) : Nat := Config.elapsed n d.now

/-- An island has power (R491, R504, R612): the Porter's with input power, the always-on one in every state, the others with the main rails, the
halls and the fabric not while they are power-gated. -/
def powered (d : Device) (n : Nat) : Bool :=
  if n == 55 then d.boot.vin
  else if n == 54 then d.boot.vin && d.boot.pm != 4
  else if n < 18 || (46 ≤ n && n < 50) then d.boot.oscReady && d.boot.vrPgood && (d.boot.done < 2 || d.boot.done == 6)
  else d.boot.oscReady && d.boot.vrPgood

/-- The cycle counters advance and wrap at 2⁶⁴ (R491). -/
def countIslands (d : Device) : Device :=
  (List.range 60).foldl (fun d n => if powered d n then bump64 d (pwrPage 2 + 0x100 + 8 * n) (edges d n) else d) d

/-- Porter ticks, one for each 400 cycles of its island while its firmware runs, and RTC units, one for each cycle of the 32.768 kHz crystal. -/
def countTime (d : Device) : Device :=
  let d := if d.boot.porterReady then bump64 d (porterPage + 0x110) (edges d 54 / 400) else d
  if d.boot.vin then bump64 d (porterPage + 0x118) (edges d 55) else d

/-- The stream engine reads a tile, or writes one (R125): a store from a tile, or a load into one, that moves something. -/
def readsTile (e : Ins) : Bool := e.op == opSXFER && e.d.src == 0 && !e.d.zero && e.land != 3
def writesTile (e : Ins) : Bool := e.op == opSXFER && e.d.dst == 0 && !e.d.zero

/-- Bytes of a row-slice of a fired pass (R106). -/
def sliceBytes (c : Core) (e : Ins) : Nat := rowSize (tileOf c (mmaA e)).fmt (mmaK (tileOf c (mmaA e)) e)

/-- A row of a fired pass may wait for the broadcast read port (R110): one that missed the cache, while the stream engine reads a tile, or while the
other half fetches a row-slice that missed too and the two exceed the port's 128 bytes. -/
def portShared (c : Core) : Bool :=
  c.fl.any (fun e => e.op == opMMA && e.missed != 0
    && (c.fl.any readsTile || c.fl.any (fun o => o.op == opMMA && o.missed != 0 && !modesMeet o.mode e.mode && 128 < sliceBytes c e + sliceBytes c o)))

/-- Issue stops on a full window (R173): the instruction at the program counter is to enter it. -/
def issueStalls (c : Core) : Bool := c.st == .running && 16 ≤ c.win.length && c.pc < c.codeLen && opWindowed (fld (c.istore.num c.pc 8) 63 58)

/-- The cycles that a core's waits add to its counters: TCFG_WAIT, CX_GATE_WAIT per entry, CX_SWAIT, CX_ISSUE_STALL (R163, R226), and open numbers to
ARR_PORT_WAIT and TILE_PORT_WAIT while an access may wait for its port (R110, R125, R163). Phase 1 of a TCFG then ends. -/
def coreWaits (d : Device) (u : Nat) : Device :=
  let c := core d u
  let n := edges d (u / 48)
  let r := corePage u
  let gated := (c.win.filter (fun e => !gateOpen d e)).length
  let d := if portShared c then bump d (r + 0x624) (Config.portStall 0x624 u d.now) else d
  let d := if c.fl.any writesTile then bump d (r + 0x6AC) (Config.portStall 0x6AC u d.now) else d
  let d := if c.st != .tcfg1 && tcfgAwaits c then bump d (r + 0x6A4) n else d
  let d := bump d (r + 0x708) (gated * n)
  let d := if c.st == .swait then bump d (r + 0x70C) n else d
  let d := if issueStalls c then bump d (r + 0x704) n else d
  phase1End d u

/-- The counters of waiting cycles of every core. -/
def countWaits (d : Device) : Device := (tkeys d.cores).foldl coreWaits d

/-- An engine whose job waits for its grant counts the cycles (R445). -/
def countGrants (d : Device) : Device :=
  (engines d).foldl (fun d h => if (grantWaiter d h).isSome then bump d (updPage h + 0x110) (edges d h) else d) d

/-- The cycles that a context's waits add to WAIT_UP, WAIT_DOWN and WAIT_CREDIT, whatever the number of its buckets that wait (R406). -/
def countCtx (d : Device) (r : Nat) : Device :=
  match ctxOf d r with
  | none => d
  | some c =>
    let n := edges d (34 + c.inPort)
    let d := if (List.range c.nb).any (waitsPartial c) then ctxBump d r 0x188 n else d
    let d := if (List.range c.nb).any (waitsReady c) then ctxBump d r 0x18C n else d
    if waitsCredit d r c (fun _ => true) then ctxBump d r 0x190 n else d

/-- The waited cycles of every context. -/
def countCtxs (d : Device) : Device := (tkeys d.ctxs).foldl countCtx d

/-- What a link's receiver counts: codewords and symbols that the code has corrected, while it holds codeword lock (R347, R377), and in a running
test its errors and bits (R374). How many there are is open (notes/assumptions/85.md). -/
def countLink (d : Device) (r : Nat × Nat) : Device :=
  let x := link d r.1 r.2
  let d := if x.fecLock then
      let a := freeVal d
      let b := freeVal a.2
      bump (bump b.2 (linkPage r.1 r.2 + 0x110) a.1.toNat) (linkPage r.1 r.2 + 0x114) b.1.toNat
    else d
  if x.testRun then countPrbs d r.1 r.2 else d

/-- The counters of every link of the Harlon ports. -/
def countLinks (d : Device) : Device :=
  (List.range 6).foldl (fun d p => (List.range 4).foldl (fun d l => countLink d (p, l)) d) d

/-! ### Failing parity (R550–R552, R568) -/

/-- The page of a unit without storage of its own in the state: a fabric quadrant, the Foyer, or the control island (R550). -/
def fixedPage (island : Nat) : Nat := if island == 52 then foyPage else if island == 53 then seqPage 0 else devPage 0

/-- A unit without standby, by its clock island (R567, R568). -/
def fixedUnit (island : Nat) : UnitRef := ⟨9, island, 0, 0, 0⟩

/-- A lasting fault of a unit without standby (R568): every job that runs is held where it next begins an attempt. -/
def fixedLasting (d : Device) (island : Nat) : Device :=
  let d := bump d (devPage 2 + 0x108) 1
  let d := { d with boot := { d.boot with moduleFault := true } }
  let d := (List.range 16).foldl (fun d j => if jobRunning d j then setJob d j { job d j with bound := 9 } else d) d
  let r := freeVal d
  pushEv r.2 { type := 0x90, code := 9, unit := island, detail := toLE 4 r.1.toNat }

/-- An error of a unit without standby (R552, R567, R568): recorded, logged, and counted as if it had passed a test. -/
def fixedError (d : Device) (island : Nat) : Device :=
  let r := freeVal d
  let a := r.1.toNat
  let d := log (recordErr r.2 (fixedPage island) 9 a) 8 2 (toLE 1 0xFF ++ toLE 4 island ++ toLE 2 9 ++ toLE 8 a)
  let d := bump d (devPage 2 + 0x104) 1
  let now := moduleSteps d
  let u := fixedUnit island
  let old := (d.transients.find? (fun t => t.unit == u)).elim [] Transient.steps
  let ss := old.filter (fun n => now - n ≤ 10000) ++ [now]
  let rest := d.transients.filter (fun t => t.unit != u)
  if 3 ≤ ss.length then fixedLasting { d with transients := rest } island
  else { d with transients := rest ++ [{ unit := u, steps := ss }] }

/-- A weight's parity fails (R114). -/
def strikeBank (c : Core) (a : Nat) : Core :=
  let q := a / 2048
  let b := a / 1024 % 2
  let k := a / 32 % 32
  let n := a % 32
  let x := bankOf c.arr q b
  if x.w.length ≤ k || (x.w.getD k []).length ≤ n then c
  else
    let row := (x.w.getD k []).zipIdx.map (fun e => if e.2 == n then { e.1 with bad := true } else e.1)
    { c with arr := { c.arr with banks := tset c.arr.banks (2 * q + b) { x with w := lset x.w k row, ups := x.ups ++ [(k, n)] } } }

/-- A byte's parity fails in the operand cache (R157): byte `a` of the valid row-slices, oldest first, by their entries of 64 bytes. -/
def strikeCache : List CacheEnt → Nat → List CacheEnt
  | [], _ => []
  | x :: t, a => if a < 64 * x.size then { x with data := x.data.strike a } :: t else x :: strikeCache t (a - 64 * x.size)

/-- A failing parity bit, or an error of a unit without standby. A place that does not exist is not struck. -/
def strikeAt (d : Device) (s : Strike) : Device :=
  let u := s.unit
  let a := s.addr
  let bufferError (ok : Bool) (page : Nat) (r : UnitRef) : Device := if ok && d.boot.logicReady then parityErr d page a r else d
  let atCore (n : Nat) (f : Core → Core) : Device := if u < 864 && a < n then setCore d u (f (core d u)) else d
  match s.kind with
  | 0 => if a < 2 ^ 39 then { d with stack := { d.stack with bad := nins d.stack.bad a } } else d
  | 1 => if u < 18 && a < 2 ^ 24 then setHmem d u ((hmem d u).strike a) else d
  | 2 => atCore (2 ^ 19) (fun c => { c with tile := c.tile.strike a })
  | 3 => atCore (2 ^ 17) (fun c => { c with acc := c.acc.strike a })
  | 4 => atCore (2 ^ 15) (fun c => { c with smem := c.smem.strike a })
  | 5 => atCore (2 ^ 16) (fun c => { c with istore := c.istore.strike a })
  | 6 => if a == 0 then d else atCore 32 (fun c => { c with xups := nins c.xups a })
  | 7 => atCore 8192 (fun c => strikeBank c a)
  | 8 =>
    if 4 ≤ u || !d.boot.logicReady then d
    else
      let d := bump d (devPage 2 + 0x114) 1
      if a == 1 then fixedError d (46 + u) else d
  | 9 => if d.boot.logicReady && ((46 ≤ u && u < 50) || u == 52 || u == 53) then fixedError d u else d
  | 10 => atCore 16384 (fun c => { c with arr := { c.arr with cache := strikeCache c.arr.cache a } })
  | 11 => bufferError (u < 18) (hallPage u) (unitHall u)
  | 12 => bufferError (u < 18) (updPage u) (unitHall u)
  | 13 => bufferError (u < 6) (portPage u) (unitPort u)
  | _ => bufferError (u < 6) (arcPage u) (unitPort u)

/-- What strikes the module in this idle step. -/
def struck (d : Device) : Device := match Config.strike d.now with
  | some s => strikeAt d s
  | none => d

/-- One idle step. -/
def tick (d : Device) : Device :=
  let d := struck (countLinks (countCtxs (countGrants (countWaits (countTime (countIslands d))))))
  { d with now := d.now + 1 }

end Sys2Proof.Machine
end

