-- ==== Sys2Proof/Safety.lean ====
section
/-!
DEFINITION. The words in which statements are made: when a command's own effect takes place, and what is canonical, bounded or kept.
-/
namespace Sys2Proof.Machine

/-! ### A core issues (R168–R173) -/

/-- The instruction word at the core's program counter. -/
def wordAt (d : Device) (u : Nat) : Nat := (core d u).istore.num (core d u).pc 8

/-- The core exists, runs, and an instruction of opcode `op` stands at its program counter, inside the program and with good parity. -/
def issues (d : Device) (u op : Nat) : Bool :=
  u < 864 && (core d u).st == .running && coreOn d u && decide ((core d u).pc < (core d u).codeLen)
  && (core d u).istore.flaw (core d u).pc 8 == 0 && fld (wordAt d u) 63 58 == op

/-- None of the scalar registers holds poison or failing parity. -/
def cleanRegs (c : Core) (rs : List Nat) : Bool := rs.all (fun r => r == 0 || (!c.xups.contains r && !c.xbad.contains r))

/-- A scalar register that is read has failing parity, or holds poison (R552, R553). -/
def upsetReg (c : Core) (rs : List Nat) : Bool := rs.any (fun r => r != 0 && c.xups.contains r)
def poisonReg (c : Core) (rs : List Nat) : Bool := rs.any (fun r => r != 0 && c.xbad.contains r)

/-- How an instruction that reads scalar registers stops the core when one of them is not clean (R552, R553): failing parity first. -/
def regStop (d : Device) (u : Nat) (rs : List Nat) : Device :=
  if upsetReg (core d u) rs then coreStop d u (core d u).pc 9 else coreFault d u (core d u).pc 10

/-- The instruction issues, the window has room, its gate is bound, and the registers and scalar memory bytes that it captures are clean. -/
def entersWindow (d : Device) (u op : Nat) (rs : List Nat) (a n : Nat) : Bool :=
  issues d u op && decide ((core d u).win.length < 16) && (captureGate (core d u) (wordAt d u % 16)).isSome && cleanRegs (core d u) rs
  && (core d u).smem.flaw a n == 0

/-- The core with the instruction in its window, the captured values `x` and `y` and `n` captured bytes from `a`, and past it. -/
def windowed (d : Device) (u x y a n : Nat) : Device :=
  let c := core d u
  adv d u { c with
    win := c.win ++ [{ seq := c.seqNo, pc := c.pc, w := wordAt d u, a := x, b := y, desc := c.smem.read a n
                       gate := (captureGate c (wordAt d u % 16)).getD none }]
    seqNo := c.seqNo + 1 }

/-! ### A Harlon packet is accepted (R354, R355, R362) -/

/-- The module after a packet's DATA block is taken: its number is the link's last good one, the module wakes, and the packet's units stand in the
receive buffer. -/
def tookBlock (d : Device) (rx : Rx) : Device :=
  holdUnits (wake (takeBlock d rx.port rx.link rx.seq) 2) rx.port rx.link (hCls rx.hdr.toNat) (units (hLen rx.hdr.toNat))

/-- The module after that, with the packet's PSN in the port's record. -/
def arrived (d : Device) (rx : Rx) : Device :=
  setPort (tookBlock d rx) rx.port (notePsn (port (tookBlock d rx) rx.port) (hPsn rx.hdr.toNat))

/-- A well-formed packet of a type comes in an acceptable block on an active link, and is no duplicate. -/
def accepts (d : Device) (rx : Rx) (type : Nat) : Bool :=
  rx.wf && rx.hdr.toNat != 0 && hType rx.hdr.toNat == type && blockNext (link d rx.port rx.link) rx.seq && !badHeader rx.hdr.toNat
  && !isDup (port (tookBlock d rx) rx.port) (hPsn rx.hdr.toNat)

/-! ### The Foyer, the command rings and the Porter's transports (R461, R467, R468, R540, R541) -/

/-- A well-formed Foyer packet of a type comes on the active link with `n` payload bytes. -/
def foyerAccepts (d : Device) (type : Nat) (h : BitVec 128) (n : Nat) : Bool :=
  (link d 6 0).st == 0 && h.toNat != 0 && hType h.toNat == type && !foyerBad h.toNat && (type == 2 || n == hLen h.toNat)

/-- The module after that packet is taken in the next DATA block: it wakes, and the packet's units pass through the receive buffer. -/
def foyerArrived (d : Device) (h : BitVec 128) (n : Nat) : Device :=
  freeUnits (holdUnits (wake (takeBlock d 6 0 (((link d 6 0).rxSeq + 1) % 4096)) 1) 6 0 (fVc h.toNat) (units n)) 6 0 (fVc h.toNat) (units n)

/-- A well-formed entry `e` of opcode `op` is at the head of ring `r`, reading it leaves `d1`, and the ring's job runs. -/
def takes (d : Device) (r op : Nat) (e : List Byte) (d1 : Device) : Prop :=
  ringHas d r = true ∧ ringEntry d r = .ok (e, d1) ∧ leAt e 0 1 = op ∧ entryOk e = true ∧ (r < 16 → jobRunning (ringPop d1 r) r = true)

/-- The job of an entry, its TAG and its NOTIFY bit. -/
def entryJob (r : Nat) (e : List Byte) : Nat := if r < 16 then r else leAt e 4 1 % 16
def entryTag (e : List Byte) : Nat := leAt e 2 2
def entryNotify (e : List Byte) : Bool := bit (leAt e 1 1) 0

/-- The Porter hears a message: its transport is powered and free, the Porter runs, and recovery does not refuse the command. -/
def heard (d : Device) (t : Transport) (cmd : Nat) (payload : List Byte) : Bool :=
  !d.porter.waits.any (fun w => w.1 == t) &&
  match t with
  | .sideband => d.boot.vin && d.boot.pm != 4 && (d.boot.porterReady || d.boot.recovery)
    && (!d.boot.recovery || cmd == 1 || (decide (0x10 ≤ cmd) && decide (cmd ≤ 0x14)))
  | .mailbox => mbxHolds d cmd payload && d.boot.porterReady

/-- The module as the Porter carries a message out: one of the sideband wakes it. -/
def listening (d : Device) (t : Transport) : Device := if t == .sideband then wake d 3 else d

/-! ### What every step keeps (R266, R279, R465, R522, R531, R538) -/

/-- The stack memory and the memory of every hall are in canonical form, at most 256 event records are held, the log's front holds fewer than 256
records and its ring at most 1,048,576, and no fused counter is below its bound `b`. -/
def Sound (b : Nat → Nat) (d : Device) : Prop :=
  d.stack.wf = true ∧ (∀ e ∈ d.hmem, e.2.wf = true) ∧ d.evQ.length ≤ 256 ∧ d.logFront.length < 256 ∧ d.logRing.length ≤ 1048576
  ∧ ∀ k, b k ≤ fusedSvn d k

end Sys2Proof.Machine
end

