-- ==== Sys2Proof/Certificates/Slice0/Obligations.lean ====
section
/-!
DEFINITION. The statements for the provers. Each says in its docstring which rules of the spec it rests on.
-/
open Sys2Proof Sys2Proof.Machine

/-- A step takes the command at the front of the queue and carries it out with the queue's rest; on an empty queue time passes (the model's choice,
DESIGN CHOICE, notes/assumptions/3.md). The queue of waiting commands is first in, first out: a step that takes a command leaves the rest in order, and a command
adds none. -/
def Obligations.StepTakesTheFront : Prop :=
  (
    ∀ (c : Instr) (rest : List Instr) (s : State),
      step { s with pending := c :: rest } = exec c { s with pending := rest } ∧ step { s with pending := [] } = .next { pending := [], dev := tick s.dev })
  ∧ (
    ∀ (s t : State), step s = .next t → t.pending = s.pending.tail)

/-- Every command that names units and registers that exist answers a next state with the queue as it is, and every other stops by noSuchUnit (the
model's choice, DESIGN CHOICE, notes/assumptions/8.md); no command is refused. -/
def Obligations.EveryCommandAnswers : Prop :=
  ∀ (c : Instr) (s : State),
    (c.wf = true → ∃ d, exec c s = .next { s with dev := d }) ∧ (c.wf = false → exec c s = .fault .noSuchUnit)

/-- Reset: the registers named here hold the values that the spec's register tables give them (R8, R116, R261, R376, R458, R487, R488, R514, R515,
R548), the signal words, the cores, the event queue and the log are empty, and input power is absent. The module right after reset is sound. That the
scalar registers are 0 there, and that reset is the module before input power, are the model's choice (DESIGN CHOICE, notes/assumptions/15.md and 1.md). -/
def Obligations.ResetState : Prop :=
  (
    let d := State.reset.dev
    State.reset.pending = [] ∧ evtSize d = 64 ∧ evtTail d = 0 ∧ evtHead d = 0 ∧ (∀ r, r < 17 → ringSize d r = 16 ∧ ringHead d r = 0 ∧ ringTail d r = 0)
    ∧ getR d (pwrPage 0 + 0x108) = 2 ∧ getR d (pwrPage 0 + 0x120) = 0x17C ∧ getR d (porterPage + 0x10C) = 0x1FF
    ∧ (∀ j, j < 16 → getR d (pwrPage 1 + 0x400 + 4 * j) = 0x00330300 ∧ getR d (landWin j + 0x1C) = 1 ∧ getR d (updWin j + 0x14) = 0xFFFFFFFF
      ∧ getR d (updWin j + 0x20) = 0xFFFFFFFF ∧ (job d j).st = 0)
    ∧ (∀ p, p < 6 → getR d (portPage p + 0x104) = 3 ∧ getR d (portPage p + 0x108) = 0x20202020)
    ∧ (∀ h i, h < 18 → i < 512 → (sigWord d h i).count = 0 ∧ (sigWord d h i).owner = 0x3F)
    ∧ (∀ u r, u < 864 → xr (core d u) r = 0 ∧ (core d u).st = .idle ∧ (core d u).win = []) ∧ d.evQ = [] ∧ d.logFront = [] ∧ d.boot.vin = false)
  ∧ (
   Sound (fun _ => 0) State.reset.dev)

/-- Every step keeps the module sound: memories stay in canonical form (R266, R279), the event queue and the log keep their bounds (R465, R538), and
no fused anti-rollback counter falls (R522, R531). -/
def Obligations.EveryStepKeepsSound : Prop :=
  ∀ (b : Nat → Nat) (s t : State), Sound b s.dev → step s = .next t → Sound b t.dev

/-- A scalar instruction of a core (R168 to R191, R220), whether it is carried out or faults, leaves every other core, every memory outside the core,
the links and the Porter as they are. -/
def Obligations.ScalarInstructionsStayLocal : Prop :=
  ∀ (u : Nat) (s t : State) (c : Instr), c ∈ [.alu u, .alui u, .li u, .ld u, .st u, .br u, .jal u, .jalr u, .csrr u, .fence u, .safept u, .endProg u, .nop u] →
    exec c s = .next t → (∀ v, v ≠ u → core t.dev v = core s.dev v) ∧ t.dev.stack = s.dev.stack ∧ t.dev.hmem = s.dev.hmem ∧ t.dev.sigs = s.dev.sigs
      ∧ t.dev.links = s.dev.links ∧ t.dev.ports = s.dev.ports ∧ t.dev.ctxs = s.dev.ctxs ∧ t.dev.boot = s.dev.boot ∧ t.pending = s.pending

/-- An instruction that enters the window (R172, R173, R192 to R218) leaves every other core, and of its own core the registers, the scalar memory,
the tiles and the accumulators, and every memory outside the core, as they are. -/
def Obligations.WindowInstructionsOnlyEnter : Prop :=
  ∀ (u : Nat) (s t : State) (c : Instr),
    c ∈ [.tclr u, .tdead u, .wld u, .mma u, .accdrain u, .vbin u, .vfma u, .vun u, .vscal u, .vfn u, .vdfn u, .vred u, .vste u, .ftld u, .ftinv u, .sxfer u,
      .sarr u, .sset u] →
    exec c s = .next t → (∀ v, v ≠ u → core t.dev v = core s.dev v) ∧ (core t.dev u).x = (core s.dev u).x ∧ (core t.dev u).smem = (core s.dev u).smem
      ∧ (core t.dev u).tile = (core s.dev u).tile ∧ (core t.dev u).acc = (core s.dev u).acc ∧ (core t.dev u).win.length ≤ (core s.dev u).win.length + 1
      ∧ t.dev.stack = s.dev.stack ∧ t.dev.hmem = s.dev.hmem ∧ t.dev.sigs = s.dev.sigs ∧ t.dev.links = s.dev.links ∧ t.dev.ctxs = s.dev.ctxs

/-- LI (R184), every form of it: with HIGH 0 register XD receives IMM48 sign-extended; with HIGH 1 its bits [63:48] receive IMM48 [15:0] and bits
[47:0] are kept, where a non-zero IMM48 [47:16] faults with DESC_BOUNDS. A write of x0 writes nothing. -/
def Obligations.LiWritesRegister : Prop :=
  ∀ (u : Nat) (s : State), let c := core s.dev u; let w := wordAt s.dev u; let xd := fld w 53 49
    issues s.dev u 0x03 = true → fld w 57 54 = 0 →
      (fld w 48 48 = 0 →
        let t : State := { s with dev := adv s.dev u (xw c xd ((BitVec.ofNat 48 (fld w 47 0)).signExtend 64).toNat) }
        exec (.li u) s = .next t ∧ (xd ≠ 0 → xr (core t.dev u) xd = ((BitVec.ofNat 48 (fld w 47 0)).signExtend 64).toNat)
        ∧ (core t.dev u).pc = c.pc + 8 ∧ (∀ r, r ≠ xd → xr (core t.dev u) r = xr c r) ∧ xr (core t.dev u) 0 = 0)
      ∧ (fld w 48 48 = 1 → fld w 47 16 = 0 → cleanRegs c [xd] = true →
        let t : State := { s with dev := adv s.dev u (xw c xd (xr c xd % 2 ^ 48 + fld w 15 0 * 2 ^ 48)) }
        exec (.li u) s = .next t ∧ (xd ≠ 0 → xr (core t.dev u) xd = xr c xd % 2 ^ 48 + fld w 15 0 * 2 ^ 48)
        ∧ (core t.dev u).pc = c.pc + 8 ∧ (∀ r, r ≠ xd → xr (core t.dev u) r = xr c r) ∧ xr (core t.dev u) 0 = 0)
      ∧ (fld w 48 48 = 1 → fld w 47 16 ≠ 0 → exec (.li u) s = .next { s with dev := coreFault s.dev u c.pc 4 })

/-- ALU, ALUI, CSRR and NOP: the result is written to XD, x0 apart, the program counter moves past the instruction, and nothing else changes. The
functions of ALU and ALUI by FUNC code (R185); codes 13 to 15 are reserved. -/
def Obligations.ScalarResults : Prop :=
  (
    ∀ (u v : Nat) (s : State), let d := s.dev; let c := core d u; let w := wordAt d u
      (issues d u 0x01 = true → aluOp (fld w 57 54) (xr c (fld w 48 44)) (xr c (fld w 43 39)) = some v → fld w 38 0 = 0 →
        cleanRegs c [fld w 48 44, fld w 43 39] = true → exec (.alu u) s = .next { s with dev := adv d u (xw c (fld w 53 49) v) })
      ∧ (issues d u 0x02 = true → aluOp (fld w 57 54) (xr c (fld w 48 44)) (addImm 0 (fld w 31 0)) = some v → fld w 43 32 = 0 →
        cleanRegs c [fld w 48 44] = true → exec (.alui u) s = .next { s with dev := adv d u (xw c (fld w 53 49) v) })
      ∧ (issues d u 0x09 = true → csrValue d u c (fld w 15 0) = some v → fld w 57 54 = 0 → fld w 48 16 = 0 →
        exec (.csrr u) s = .next { s with dev := adv d u (xw c (fld w 53 49) v) })
      ∧ (issues d u 0x0D = true → fld w 57 0 = 0 → exec (.nop u) s = .next { s with dev := adv d u c }))
  ∧ (
    ∀ a b : Nat, a < 2 ^ 64 → b < 2 ^ 64 →
      aluOp 0 a b = some ((a + b) % 2 ^ 64) ∧ aluOp 1 a b = some ((a + (2 ^ 64 - b)) % 2 ^ 64)
      ∧ aluOp 2 a b = some (a &&& b) ∧ aluOp 3 a b = some (a ||| b) ∧ aluOp 4 a b = some (a ^^^ b)
      ∧ aluOp 5 a b = some (a * 2 ^ (b % 64) % 2 ^ 64) ∧ aluOp 6 a b = some (a / 2 ^ (b % 64))
      ∧ aluOp 7 a b = some (((BitVec.ofNat 64 a).sshiftRight (b % 64)).toNat)
      ∧ aluOp 8 a b = some (a * b % 2 ^ 64)
      ∧ aluOp 9 a b = some (if (BitVec.ofNat 64 a).toInt ≤ (BitVec.ofNat 64 b).toInt then a else b)
      ∧ aluOp 10 a b = some (if (BitVec.ofNat 64 a).toInt ≤ (BitVec.ofNat 64 b).toInt then b else a)
      ∧ aluOp 11 a b = some (if (BitVec.ofNat 64 a).toInt < (BitVec.ofNat 64 b).toInt then 1 else 0)
      ∧ aluOp 12 a b = some (if a < b then 1 else 0)
      ∧ (∀ f, 13 ≤ f → aluOp f a b = none))

/-- LD and ST (R186): an aligned access inside scalar memory reads, or writes, its bytes at XA + IMM32; every other byte of the memory is unchanged by
ST, and LD changes none. An access that is not aligned or leaves the memory faults with DESC_BOUNDS, as a non-zero reserved field does (R169); a
register that is not clean (R552, R553), and bytes that LD would read and that are not, stop the core. -/
def Obligations.ScalarMemoryAccess : Prop :=
  ∀ (u : Nat) (s : State), let d := s.dev; let c := core d u; let w := wordAt d u
    let n := 2 ^ fld w 57 56; let a := addImm (xr c (fld w 48 44)) (fld w 31 0)
    (issues d u 0x04 = true → fld w 54 54 = 0 → fld w 43 32 = 0 → cleanRegs c [fld w 48 44] = true →
      (a % n = 0 → a + n ≤ 32768 → c.smem.flaw a n = 0 →
        exec (.ld u) s = .next { s with dev := adv d u (xw c (fld w 53 49)
          (if fld w 55 55 = 1 then wrap64 (signed (8 * n) (c.smem.num a n)) else c.smem.num a n)) })
      ∧ (a % n = 0 → a + n ≤ 32768 → c.smem.flaw a n ≠ 0 → exec (.ld u) s = .next { s with dev := coreStop d u c.pc (c.smem.flaw a n) })
      ∧ ((a % n ≠ 0 ∨ 32768 < a + n) → exec (.ld u) s = .next { s with dev := coreFault d u c.pc 4 }))
    ∧ (issues d u 0x04 = true →
      (¬(fld w 54 54 = 0 ∧ fld w 43 32 = 0) → exec (.ld u) s = .next { s with dev := coreFault d u c.pc 4 })
      ∧ (fld w 54 54 = 0 → fld w 43 32 = 0 → cleanRegs c [fld w 48 44] = false →
        exec (.ld u) s = .next { s with dev := regStop d u [fld w 48 44] }))
    ∧ (issues d u 0x05 = true →
      (¬(fld w 55 54 = 0 ∧ fld w 43 32 = 0) → exec (.st u) s = .next { s with dev := coreFault d u c.pc 4 })
      ∧ (fld w 55 54 = 0 → fld w 43 32 = 0 → cleanRegs c [fld w 48 44, fld w 53 49] = false →
        exec (.st u) s = .next { s with dev := regStop d u [fld w 48 44, fld w 53 49] }))
    ∧ (issues d u 0x05 = true → fld w 55 54 = 0 → fld w 43 32 = 0 → cleanRegs c [fld w 48 44, fld w 53 49] = true →
      (a % n = 0 → a + n ≤ 32768 →
        let t : State := { s with dev := adv d u { c with smem := c.smem.write a (toLE n (xr c (fld w 53 49))) } }
        exec (.st u) s = .next t ∧ (core t.dev u).smem.read a n = toLE n (xr c (fld w 53 49))
        ∧ (core t.dev u).smem.flaw a n = 0 ∧ ∀ b, (b < a ∨ a + n ≤ b) → (core t.dev u).smem.get b = c.smem.get b)
      ∧ ((a % n ≠ 0 ∨ 32768 < a + n) → exec (.st u) s = .next { s with dev := coreFault d u c.pc 4 }))

/-- BR, JAL and JALR (R187): the six conditions of COND, a jump to a multiple of 8, a branch not taken, and the fault INSTR of another target. -/
def Obligations.ScalarJumps : Prop :=
  (∀ a b : Nat, a < 2 ^ 64 → b < 2 ^ 64 → condOp 0 a b = some (decide (a = b)) ∧ condOp 1 a b = some (decide (a ≠ b))
    ∧ condOp 2 a b = some (decide ((BitVec.ofNat 64 a).toInt < (BitVec.ofNat 64 b).toInt))
    ∧ condOp 3 a b = some (decide ((BitVec.ofNat 64 b).toInt ≤ (BitVec.ofNat 64 a).toInt))
    ∧ condOp 4 a b = some (decide (a < b)) ∧ condOp 5 a b = some (decide (b ≤ a)) ∧ condOp 6 a b = none ∧ condOp 7 a b = none)
  ∧ ∀ (u : Nat) (s : State), let d := s.dev; let c := core d u; let w := wordAt d u; let rel := addImm c.pc (fld w 31 0)
    let ind := addImm (xr c (fld w 48 44)) (fld w 31 0)
    (issues d u 0x06 = true → fld w 54 49 = 0 → fld w 38 32 = 0 → cleanRegs c [fld w 48 44, fld w 43 39] = true →
      (condOp (fld w 57 55) (xr c (fld w 48 44)) (xr c (fld w 43 39)) = some false → exec (.br u) s = .next { s with dev := adv d u c })
      ∧ (condOp (fld w 57 55) (xr c (fld w 48 44)) (xr c (fld w 43 39)) = some true →
        (rel % 8 = 0 → exec (.br u) s = .next { s with dev := setCore d u { c with pc := rel } })
        ∧ (rel % 8 ≠ 0 → exec (.br u) s = .next { s with dev := coreFault d u c.pc 7 })))
    ∧ (issues d u 0x07 = true → fld w 57 54 = 0 → fld w 48 32 = 0 →
      (rel % 8 = 0 → exec (.jal u) s = .next { s with dev := setCore d u { xw c (fld w 53 49) (c.pc + 8) with pc := rel } })
      ∧ (rel % 8 ≠ 0 → exec (.jal u) s = .next { s with dev := coreFault d u c.pc 7 }))
    ∧ (issues d u 0x08 = true → fld w 57 54 = 0 → fld w 43 32 = 0 → cleanRegs c [fld w 48 44] = true →
      (ind % 8 = 0 → exec (.jalr u) s = .next { s with dev := setCore d u { xw c (fld w 53 49) (c.pc + 8) with pc := ind } })
      ∧ (ind % 8 ≠ 0 → exec (.jalr u) s = .next { s with dev := coreFault d u c.pc 7 }))

/-- FENCE, SAFEPT and END (R189 to R191): FENCE and END wait while an instruction is in the window or fired, END then stops the core with its program
complete; SAFEPT stops a core that a preemption is requested of once it is quiet, and is a NOP otherwise. -/
def Obligations.FenceSafeptEnd : Prop :=
  ∀ (u : Nat) (s : State), let d := s.dev; let c := core d u; let w := wordAt d u
    (issues d u 0x0A = true → fld w 57 0 = 0 →
      (c.win = [] ∧ c.fl = [] → exec (.fence u) s = .next { s with dev := adv d u c })
      ∧ (¬(c.win = [] ∧ c.fl = []) → exec (.fence u) s = .next s))
    ∧ (issues d u 0x0B = true → fld w 57 0 = 0 →
      (c.preempt = false → exec (.safept u) s = .next { s with dev := adv d u c })
      ∧ (c.preempt = true → c.win = [] → c.fl = [] → c.tcfg = none →
        exec (.safept u) s = .next { s with dev := adv d u { c with st := .atSafept, stop := 0 } }))
    ∧ (issues d u 0x0C = true → fld w 57 0 = 0 →
      (c.win = [] ∧ c.fl = [] → exec (.endProg u) s = .next { s with dev := noteEnd (adv d u { c with st := .atEnd, stop := 1 }) u })
      ∧ (¬(c.win = [] ∧ c.fl = []) → exec (.endProg u) s = .next s))

/-- SWAIT, SGATE and SREAD (R218, R220, R327) on a word that the core's job owns: SWAIT goes on when the count has reached the target and otherwise
stops issue with its wait noted, SGATE binds its gate, SREAD reads the whole word after every operation that the store holds. A word that is not the
job's or has no hall, a target past 48 bits, a reserved field and gate 0 fault with DESC_BOUNDS or the word's fault, and a register that is not clean
stops the core (R169, R552, R553). -/
def Obligations.SignalWaits : Prop :=
  ∀ (u h n : Nat) (s : State), let d := s.dev; let c := core d u; let w := wordAt d u; let t := xr c (fld w 43 39)
    let i := sigIdx (xr c (fld w 36 32)) w; let g := fld w 57 54; let gi := xr c (fld w 36 32) % 8192
    (issues d u 0x2A = true → fld w 57 57 = 0 → fld w 37 37 = 0 → fld w 31 0 = 0 → cleanRegs c [fld w 43 39, fld w 36 32] = true →
      wordFault d i (c.job.getD 16) = none → t < 2 ^ 48 →
      let r := startWait d u 0 i t (bit w 38)
      (r.1.seen = true → exec (.swait u) s = .next { s with dev := adv r.2 u (core r.2 u) })
      ∧ (r.1.seen = false → exec (.swait u) s = .next { s with dev := adv r.2 u { core r.2 u with st := .swait, swait := some r.1 } }))
    ∧ (issues d u 0x2B = true → g ≠ 0 → fld w 53 44 = 0 → fld w 37 37 = 0 → fld w 31 0 = 0 →
      cleanRegs c [fld w 43 39, fld w 36 32] = true → wordFault d gi (c.job.getD 16) = none → t < 2 ^ 48 →
      let poll (e : Ins) : Ins := if e.w % 16 = g then { e with gate := e.gate.map (fun b => { b with mon := false }) } else e
      let r := startWait (dropMonitor (setCore d u { c with win := c.win.map poll }) u g) u g gi t (bit w 38)
      exec (.sgate u) s = .next { s with dev := adv r.2 u { core r.2 u with gates := tset (core r.2 u).gates g r.1 } })
    ∧ (issues d u 0x2C = true → fld w 57 57 = 0 → fld w 38 37 = 0 → fld w 31 0 = 0 → cleanRegs c [fld w 36 32] = true →
      wordFault d i (c.job.getD 16) = none → wordHome d i = some (h, n) →
      let e := bump64 (flushStore d h) (hallPage h + 0x404) 1
      exec (.sread u) s = .next { s with dev := adv e u (xw (core e u) (fld w 43 39) (wordBits (flushStore d h) h n)) })
    ∧ (issues d u 0x2A = true → let rs := [fld w 43 39, fld w 36 32]
      (¬(fld w 57 57 = 0 ∧ fld w 37 37 = 0 ∧ fld w 31 0 = 0) → exec (.swait u) s = .next { s with dev := coreFault d u c.pc 4 })
      ∧ (fld w 57 57 = 0 → fld w 37 37 = 0 → fld w 31 0 = 0 →
        (cleanRegs c rs = false → exec (.swait u) s = .next { s with dev := regStop d u rs })
        ∧ (∀ f, cleanRegs c rs = true → wordFault d i (c.job.getD 16) = some f → exec (.swait u) s = .next { s with dev := coreFault d u c.pc f })
        ∧ (cleanRegs c rs = true → wordFault d i (c.job.getD 16) = none → 2 ^ 48 ≤ t → exec (.swait u) s = .next { s with dev := coreFault d u c.pc 4 })))
    ∧ (issues d u 0x2B = true → let rs := [fld w 43 39, fld w 36 32]
      (¬(g ≠ 0 ∧ fld w 53 44 = 0 ∧ fld w 37 37 = 0 ∧ fld w 31 0 = 0) → exec (.sgate u) s = .next { s with dev := coreFault d u c.pc 4 })
      ∧ (g ≠ 0 → fld w 53 44 = 0 → fld w 37 37 = 0 → fld w 31 0 = 0 →
        (cleanRegs c rs = false → exec (.sgate u) s = .next { s with dev := regStop d u rs })
        ∧ (∀ f, cleanRegs c rs = true → wordFault d gi (c.job.getD 16) = some f → exec (.sgate u) s = .next { s with dev := coreFault d u c.pc f })
        ∧ (cleanRegs c rs = true → wordFault d gi (c.job.getD 16) = none → 2 ^ 48 ≤ t → exec (.sgate u) s = .next { s with dev := coreFault d u c.pc 4 })))
    ∧ (issues d u 0x2C = true → let rs := [fld w 36 32]
      (¬(fld w 57 57 = 0 ∧ fld w 38 37 = 0 ∧ fld w 31 0 = 0) → exec (.sread u) s = .next { s with dev := coreFault d u c.pc 4 })
      ∧ (fld w 57 57 = 0 → fld w 38 37 = 0 → fld w 31 0 = 0 →
        (cleanRegs c rs = false → exec (.sread u) s = .next { s with dev := regStop d u rs })
        ∧ (∀ f, cleanRegs c rs = true → wordFault d i (c.job.getD 16) = some f → exec (.sread u) s = .next { s with dev := coreFault d u c.pc f })))

/-- TCLR, TDEAD, WLD, MMA and ACCDRAIN (R192 to R195) enter the firing window of 16 entries (R172, R173) with the scalar registers and the bytes of
scalar memory that they name captured, and the program counter moves past them; no other part of the module changes. -/
def Obligations.TileControlEntersWindow : Prop :=
  ∀ (u : Nat) (s : State), let d := s.dev; let c := core d u; let w := wordAt d u
    (entersWindow d u 0x11 [] 0 0 = true → fld w 50 4 = 0 →
      exec (.tclr u) s = .next { s with dev := windowed d u 0 0 0 0 })
    ∧ (entersWindow d u 0x12 [] 0 0 = true → fld w 50 4 = 0 →
      exec (.tdead u) s = .next { s with dev := windowed d u 0 0 0 0 })
    ∧ (entersWindow d u 0x14 [] 0 0 = true → fld w 49 48 ≠ 3 → fld w 47 46 ≠ 3 → fld w 45 4 = 0 →
      exec (.wld u) s = .next { s with dev := windowed d u 0 0 0 0 })
    ∧ (entersWindow d u 0x15 [] 0 0 = true → fld w 21 20 ≠ 3 → fld w 18 17 ≠ 3 → fld w 16 4 = 0 →
      exec (.mma u) s = .next { s with dev := windowed d u 0 0 0 0 })
    ∧ (entersWindow d u 0x16 [] (fld w 20 12 * 64) 64 = true → fld w 21 21 = 1 → (fld w 26 23 < 8 ∨ fld w 26 23 = 15) → fld w 11 4 = 0 →
      exec (.accdrain u) s = .next { s with dev := windowed d u 0 0 (fld w 20 12 * 64) 64 })
    ∧ (entersWindow d u 0x16 [fld w 13 9] 0 0 = true → fld w 21 21 = 0 → (fld w 26 23 < 8 ∨ fld w 26 23 = 15) → fld w 8 4 = 0 →
      exec (.accdrain u) s = .next { s with dev := windowed d u (xr c (fld w 13 9)) 0 0 0 })

/-- VBIN, VFMA, VUN, VSCAL, VFN, VDFN, VRED and VSTE (R196, R198) enter the firing window of 16 entries (R172, R173) with the scalar registers and the
bytes of scalar memory that they name captured, and the program counter moves past them; no other part of the module changes. -/
def Obligations.VectorEntersWindow : Prop :=
  ∀ (u : Nat) (s : State), let d := s.dev; let c := core d u; let w := wordAt d u
    (entersWindow d u 0x18 [] 0 0 = true → fld w 26 23 ≤ 5 → fld w 22 21 ≠ 3 → fld w 36 30 = 0 → fld w 27 27 = 0 → fld w 20 16 = 0 → fld w 15 4 = 0 →
      exec (.vbin u) s = .next { s with dev := windowed d u 0 0 0 0 })
    ∧ (entersWindow d u 0x19 [] 0 0 = true → fld w 26 23 = 0 → fld w 22 21 ≠ 3 → fld w 20 16 = 0 → fld w 15 4 = 0 →
      exec (.vfma u) s = .next { s with dev := windowed d u 0 0 0 0 })
    ∧ (entersWindow d u 0x1A [] 0 0 = true → fld w 26 23 < 6 → fld w 43 30 = 0 → fld w 28 28 = 0 → fld w 27 27 = 0 → fld w 22 21 = 0 → fld w 15 4 = 0 → fld w 20 16 = 0 →
      exec (.vun u) s = .next { s with dev := windowed d u 0 0 0 0 })
    ∧ (entersWindow d u 0x1A [fld w 20 16] 0 0 = true → fld w 26 23 = 6 → fld w 43 30 = 0 → fld w 28 28 = 0 → fld w 27 27 = 0 → fld w 22 21 = 0 → fld w 15 4 = 0 → fld w 50 44 = 0 → fld w 29 29 = 0 →
      exec (.vun u) s = .next { s with dev := windowed d u (xr c (fld w 20 16)) 0 0 0 })
    ∧ (entersWindow d u 0x1B [fld w 20 16] 0 0 = true → fld w 26 23 ≤ 3 → fld w 43 30 = 0 → fld w 28 28 = 0 → fld w 27 27 = 0 → fld w 22 21 = 0 → fld w 15 4 = 0 →
      exec (.vscal u) s = .next { s with dev := windowed d u (xr c (fld w 20 16)) 0 0 0 })
    ∧ (entersWindow d u 0x1C [] 0 0 = true → fld w 26 26 = 0 → fld w 43 30 = 0 → fld w 28 28 = 0 → fld w 27 27 = 0 → fld w 22 4 = 0 →
      exec (.vfn u) s = .next { s with dev := windowed d u 0 0 0 0 })
    ∧ (entersWindow d u 0x1D [] 0 0 = true → fld w 26 26 = 0 → fld w 36 30 = 0 → fld w 27 27 = 0 → fld w 22 4 = 0 →
      exec (.vdfn u) s = .next { s with dev := windowed d u 0 0 0 0 })
    ∧ (entersWindow d u 0x1E [] 0 0 = true → fld w 43 30 = 0 → fld w 28 28 = 0 → fld w 27 27 = 0 → fld w 22 4 = 0 →
      exec (.vred u) s = .next { s with dev := windowed d u 0 0 0 0 })
    ∧ (entersWindow d u 0x1F [fld w 20 16] 0 0 = true → fld w 24 23 = 0 → fld w 27 27 = 0 → fld w 22 21 = 0 → fld w 15 4 = 0 →
      exec (.vste u) s = .next { s with dev := windowed d u (xr c (fld w 20 16)) 0 0 0 })
    ∧ (entersWindow d u 0x1F [fld w 20 16] (xr c (fld w 20 16)) (min 512 (32768 - xr c (fld w 20 16))) = true → fld w 24 23 ≠ 0 → fld w 24 23 ≠ 3 → fld w 27 27 = 0 → fld w 22 21 = 0 → fld w 15 4 = 0 →
      exec (.vste u) s = .next { s with dev := windowed d u (xr c (fld w 20 16)) 0 (xr c (fld w 20 16)) (min 512 (32768 - xr c (fld w 20 16))) })

/-- FTLD, FTINV, SXFER, SARR and SSET (R203, R209, R218) enter the firing window of 16 entries (R172, R173) with the scalar registers and the bytes of
scalar memory that they name captured, and the program counter moves past them; no other part of the module changes. -/
def Obligations.StreamEntersWindow : Prop :=
  ∀ (u : Nat) (s : State), let d := s.dev; let c := core d u; let w := wordAt d u
    (entersWindow d u 0x20 [fld w 48 44] 0 0 = true → fld w 54 49 = 0 → fld w 43 4 = 0 →
      exec (.ftld u) s = .next { s with dev := windowed d u (xr c (fld w 48 44)) 0 0 0 })
    ∧ (entersWindow d u 0x21 [] 0 0 = true → fld w 54 4 = 0 →
      exec (.ftinv u) s = .next { s with dev := windowed d u 0 0 0 0 })
    ∧ (entersWindow d u 0x24 [fld w 48 44] (fld w 57 49 * 64) 64 = true → fld w 43 39 = 0 → fld w 37 4 = 0 →
      exec (.sxfer u) s = .next { s with dev := windowed d u (xr c (fld w 48 44)) 0 (fld w 57 49 * 64) 64 })
    ∧ (entersWindow d u 0x28 [fld w 36 32, fld w 43 39] 0 0 = true → fld w 57 57 = 0 → fld w 37 37 = 0 → fld w 15 4 = 0 →
      exec (.sarr u) s = .next { s with dev := windowed d u (xr c (fld w 36 32)) (xr c (fld w 43 39)) 0 0 })
    ∧ (entersWindow d u 0x29 [fld w 36 32, fld w 43 39] 0 0 = true → fld w 57 57 = 0 → fld w 37 37 = 0 → fld w 31 4 = 0 →
      exec (.sset u) s = .next { s with dev := windowed d u (xr c (fld w 36 32)) (xr c (fld w 43 39)) 0 0 })

/-- INSTR_FIRE (R174 to R178): the oldest entry of its units that can fire leaves the window, is counted in CX_FIRED and goes to its unit; an entry
that cannot fire stays, with the module unchanged. FTINV empties its slot, and a vector instruction whose check passes joins the fired ones. -/
def Obligations.EntryFires : Prop :=
  ∀ (u i : Nat) (e : Ins) (s : State), let d := s.dev; let c := core d u
    u < 864 → i < 16 → c.win[i]? = some e → coreOn d u = true → (c.st = .running ∨ c.st = .swait) →
      let d1 := bump64 d (corePage u + 0x710) 1; let c1 : Core := { c with win := ldel c.win i }
      (canFire d c i = true → exec (.instrFire u i) s = .next { s with dev := fireEntry d1 u c1 e })
      ∧ (canFire d c i = true → e.isVec = false → e.op = 0x21 →
        exec (.instrFire u i) s = .next { s with dev := setCore d1 u { c1 with slots := tdrop (· == fld e.w 57 55) c1.slots } })
      ∧ (∀ c2, canFire d c i = true → e.isVec = true → fireVec c1 e = .ok c2 → exec (.instrFire u i) s = .next { s with dev := setCore d1 u c2 })
      ∧ (canFire d c i = false → exec (.instrFire u i) s = .next s)

/-- TCFG and TCFG_APPLY (R126 to R134): an aligned table that passes its checks is taken in phase 1, and takes effect once every earlier instruction
that names an affected tile has completed or ended its read: the tile table is the new one, no affected tile is in use, and the accumulators and the
program counter are as they were. One that fails a check faults with its reason in TILE_CFG_ERR, bytes that are not clean stop the core, and a TCFG
before which another is not applied waits. -/
def Obligations.TileConfiguration : Prop :=
  (∀ (u : Nat) (s : State), let d := s.dev; let c := core d u; let w := wordAt d u; let a := addImm (xr c (fld w 48 44)) (fld w 31 0)
    let count := (c.smem.get a).toNat; let flags := (c.smem.get (a + 1)).toNat
    let es := (List.range count).map (fun i => shapeEnt (c.smem.read (a + 8 + 8 * i) 8))
    let new := afterTable c.tiles (flags == 1) es
    let fail (e : CfgErr) : Device := coreFault (setR d (corePage u + 0x684) (cfgErrWord e false)) u c.pc e.code
    issues d u 0x10 = true →
      (¬(fld w 57 49 = 0 ∧ fld w 43 32 = 0) → exec (.tcfg u) s = .next { s with dev := coreFault d u c.pc 4 })
      ∧ (fld w 57 49 = 0 → fld w 43 32 = 0 → cleanRegs c [fld w 48 44] = false → exec (.tcfg u) s = .next { s with dev := regStop d u [fld w 48 44] })
      ∧ (fld w 57 49 = 0 → fld w 43 32 = 0 → cleanRegs c [fld w 48 44] = true →
        (c.tcfg ≠ none → exec (.tcfg u) s = .next s)
        ∧ (c.tcfg = none → a % 8 ≠ 0 → exec (.tcfg u) s = .next { s with dev := coreFault d u c.pc 4 })
        ∧ (c.tcfg = none → a % 8 = 0 → 32768 < a + 8 → exec (.tcfg u) s = .next { s with dev := fail ⟨0xFF, 7, none, 4⟩ })
        ∧ (c.tcfg = none → a % 8 = 0 → a + 8 ≤ 32768 →
          (c.smem.flaw a 8 ≠ 0 → exec (.tcfg u) s = .next { s with dev := coreStop d u c.pc (c.smem.flaw a 8) })
          ∧ (c.smem.flaw a 8 = 0 → (128 < count ∨ 32768 < a + 8 + 8 * count) → exec (.tcfg u) s = .next { s with dev := fail ⟨0xFF, 7, none, 4⟩ })
          ∧ (c.smem.flaw a 8 = 0 → count ≤ 128 → a + 8 + 8 * count ≤ 32768 →
            ((c.smem.num (a + 2) 6 ≠ 0 ∨ 1 < flags) → exec (.tcfg u) s = .next { s with dev := fail ⟨0xFF, 6, none, 2⟩ })
            ∧ (c.smem.num (a + 2) 6 = 0 → flags ≤ 1 →
              (c.smem.flaw (a + 8) (8 * count) ≠ 0 →
                exec (.tcfg u) s = .next { s with dev := coreStop d u c.pc (c.smem.flaw (a + 8) (8 * count)) })
              ∧ (c.smem.flaw (a + 8) (8 * count) = 0 →
                (count = 0 → exec (.tcfg u) s = .next { s with dev := adv d u c })
                ∧ (∀ e, count ≠ 0 → checkTable c.tiles (flags == 1) es = some e → exec (.tcfg u) s = .next { s with dev := fail e })
                ∧ (count ≠ 0 → checkTable c.tiles (flags == 1) es = none →
                  let c1 : Core := { c with st := .tcfg1, tcfg := some ⟨c.seqNo, new, affectedTiles c.tiles new⟩, seqNo := c.seqNo + 1 }
                  exec (.tcfg u) s = .next { s with dev := adv d u c1 })))))))
  ∧ (∀ (u : Nat) (t : Tcfg) (s : State), let d := s.dev; let c := core d u
    u < 864 → coreOn d u = true → c.tcfg = some t →
      (tcfgAwaits c = false →
        let d1 := phase1End d u
        let r : State := { s with dev := setCore d1 u { applyTiles (core d1 u) t.tiles t.affected with tcfg := none } }
        exec (.tcfgApply u) s = .next r ∧ (core r.dev u).tiles = t.tiles ∧ (core r.dev u).tcfg = none
        ∧ (∀ k ∈ t.affected, k ∉ (core r.dev u).inUse) ∧ (core r.dev u).acc = c.acc ∧ (core r.dev u).pc = c.pc)
      ∧ (tcfgAwaits c = true → exec (.tcfgApply u) s = .next s))

/-- The weight path (R90 to R95): a load starts when the back banks of its quarters are FREE and none runs, ends with them READY and its weights in
them, and a swap makes READY back banks front and the old fronts FREE. The steering of the array (R112, R117) and the reset clear of the accumulators
(R150): a write of ARR_STEER keeps a quarter whose value is above 32 and waits; once no WLD or MMA is fired it takes effect and every bank is empty.
The clear ends with both accumulators at +0. -/
def Obligations.WeightBanksAndSteering : Prop :=
  (
    ∀ (u mode waited : Nat) (e : Ins) (s : State), let d := s.dev; let c := core d u
      u < 864 → mode < 3 → coreOn d u = true →
        (c.fl.find? (fun x => x.op == opWLD && x.stage == 0) = some e → e.mode = mode → c.fl.all (fun x => !(x.op == opWLD && x.stage == 1)) = true →
          (quarters mode).all (fun q => backState c.arr q == 0) = true →
          let t := tileOf c (e.f 57 51)
          ∃ r, exec (.wldStart u mode waited) s = .next r
            ∧ (core r.dev u).fl = c.fl.map (fun o => if o.seq == e.seq then { e with stage := 1, vals := readWeights c t (e.f 47 46), read := true } else o)
            ∧ (∀ q ∈ quarters mode, backState (core r.dev u).arr q = 1) ∧ (core r.dev u).arr.banks = c.arr.banks ∧ (core r.dev u).tile = c.tile)
        ∧ (c.fl.find? (fun x => x.op == opWLD && x.stage == 1 && x.mode == mode) = some e →
          ∃ r, exec (.wldReady u mode) s = .next r ∧ (core r.dev u).fl = c.fl.filter (fun o => o.seq != e.seq)
            ∧ (∀ q ∈ quarters mode, backState (core r.dev u).arr q = 2
              ∧ bankOf (core r.dev u).arr q (1 - frontOf c.arr q) = bankFor mode (e.f 47 46) e.vals q)
            ∧ (∀ v, v ≠ u → core r.dev v = core d v))
        ∧ (frontPass c mode = some e → mmaSwap e = true → e.stage = 0 → (quarters mode).all (fun q => backState c.arr q == 2) = true →
          ∃ r, exec (.bankSwap u mode waited) s = .next r
            ∧ (∀ q ∈ quarters mode, frontOf (core r.dev u).arr q = 1 - frontOf c.arr q ∧ backState (core r.dev u).arr q = 0)
            ∧ (core r.dev u).arr.banks = c.arr.banks
            ∧ getR r.dev (corePage u + 0x618) = min (getR d (corePage u + 0x618) + waited) 0xFFFFFFFF))
  ∧ (
    ∀ (u : Nat) (v : Reg) (s : State), let d := s.dev; let c := core d u
      u < 864 →
        (∃ r, exec (.arrSteerWrite u v) s = .next r ∧ (core r.dev u).arr.steerPending = true ∧ (core r.dev u).arr.inEffect = c.arr.inEffect
          ∧ (∀ q, q < 4 → fld (core r.dev u).arr.steer.toNat (8 * q + 5) (8 * q)
            = if 32 < fld v.toNat (8 * q + 5) (8 * q) then fld c.arr.steer.toNat (8 * q + 5) (8 * q) else fld v.toNat (8 * q + 5) (8 * q))
          ∧ ∀ x, x ≠ u → core r.dev x = core d x)
        ∧ (c.arr.steerPending = true → c.fl.all (fun e => e.op != opWLD && e.op != opMMA) = true →
          exec (.steerApply u) s = .next { s with dev := setCore d u { c with arr := { c.arr with
            banks := [], front := [], back := [], prog := [], nexts := [], steerPending := false, inEffect := c.arr.steer } } })
        ∧ (c.clearing = true → exec (.accClearDone u) s = .next { s with dev := setCore d u { c with clearing := false, acc := {} } }))

/-- PASS_COMPLETE and DRAIN_COMPLETE (R87 to R89, R99 to R104, R151 to R155): the oldest fired pass of its mode is done once its weights are front and
no earlier drain of its accumulator runs: it leaves the fired instructions, its accumulator receives its rows and is in use, and the tile file is
unchanged. A drain is done reading once no earlier pass of its accumulator runs: into a tile it leaves the fired instructions, and the tile file alone
receives its rows; towards a descriptor its rows pass to the store path, and it stays fired until XFER_COMPLETE. A pass or drain that has to wait
stays, with the module unchanged. -/
def Obligations.PassesAndDrains : Prop :=
  ∀ (u mode : Nat) (e : Ins) (s : State), let d := s.dev; let c := core d u
    u < 864 → mode < 3 → coreOn d u = true →
      (frontPass c mode = some e → passWaits c e = false →
        ∃ r, exec (.passComplete u mode) s = .next r ∧ (core r.dev u).fl = c.fl.filter (fun o => o.seq != e.seq)
          ∧ (core r.dev u).acc = passAcc c e ∧ mmaAcc e ∈ (core r.dev u).accUse ∧ (core r.dev u).tile = c.tile ∧ (core r.dev u).smem = c.smem
          ∧ (core r.dev u).x = c.x ∧ (core r.dev u).arr.banks = c.arr.banks ∧ r.dev.stack = d.stack ∧ ∀ x, x ≠ u → core r.dev x = core d x)
      ∧ (frontPass c mode = some e → passWaits c e = true → exec (.passComplete u mode) s = .next s)
      ∧ (c.fl.find? (fun x => x.isDrain && x.stage == 0) = some e → drainWaits c e = false → bit e.w 21 = false →
        ∃ r, exec (.drainComplete u) s = .next r ∧ (core r.dev u).fl = c.fl.filter (fun o => o.seq != e.seq)
          ∧ (core r.dev u).tile = (drainTile c e).mem ∧ (drZero e = false → e.f 20 14 ∈ (core r.dev u).inUse)
          ∧ (core r.dev u).acc = c.acc ∧ (core r.dev u).smem = c.smem ∧ (core r.dev u).x = c.x ∧ r.dev.stack = d.stack
          ∧ (drRelease e = true → e.f 57 57 ∉ (core r.dev u).accUse) ∧ (drRelease e = false → (core r.dev u).accUse = c.accUse)
          ∧ ∀ x, x ≠ u → core r.dev x = core d x)
      ∧ (c.fl.find? (fun x => x.isDrain && x.stage == 0) = some e → drainWaits c e = false → bit e.w 21 = true →
        ∃ r, exec (.drainComplete u) s = .next r ∧ (core r.dev u).fl = (refly c { e with stage := 1, vals := drainVals c e }).fl
          ∧ (core r.dev u).tile = c.tile ∧ (core r.dev u).acc = c.acc ∧ (core r.dev u).smem = c.smem ∧ r.dev.stack = d.stack
          ∧ ((drRelease e = true ∧ drZero e = false) → e.f 57 57 ∉ (core r.dev u).accUse)
          ∧ (¬(drRelease e = true ∧ drZero e = false) → (core r.dev u).accUse = c.accUse)
          ∧ ∀ x, x ≠ u → core r.dev x = core d x)
      ∧ (c.fl.find? (fun x => x.isDrain && x.stage == 0) = some e → drainWaits c e = true → exec (.drainComplete u) s = .next s)

/-- VECTOR_COMPLETE (R197 to R202): the fired vector instruction leaves the fired ones, its destination tiles are in use and hold its result, and
scalar memory, the accumulators and every other core are unchanged. -/
def Obligations.VectorCompletes : Prop :=
  ∀ (u : Nat) (e : Ins) (s : State), let d := s.dev; let c := core d u
    u < 864 → coreOn d u = true → c.fl.find? Ins.isVec = some e →
      ∃ r, exec (.vectorComplete u) s = .next r ∧ (core r.dev u).fl = c.fl.filter (fun o => o.seq != e.seq)
        ∧ (core r.dev u).tile = (vecResult c e).mem ∧ (∀ t ∈ e.writes, t ∈ (core r.dev u).inUse)
        ∧ (core r.dev u).acc = c.acc ∧ (core r.dev u).smem = c.smem ∧ ∀ x, x ≠ u → core r.dev x = core d x

/-- XFER_COMPLETE (R205, R216, R249): a fired transfer moves its bytes, leaves the fired ones and signals: a store its rows, a load its rectangle, a
copy its bytes, a drain the rows that it has read, a dropped landing store and a zero count nothing. A function table with a valid and clean image
fills its slot; one whose header is poisoned or not valid faults with the slot as it was, one with poison elsewhere faults with the slot empty. A
landing transfer whose lookup is awaited, and a drain whose rows are not read, stay. -/
def Obligations.TransferCompletes : Prop :=
  ∀ (u i : Nat) (e : Ins) (s : State), let d := s.dev; let c := core d u
    u < 864 → i < 8 → coreOn d u = true → (c.fl.filter Ins.isStream)[i]? = some e →
      (e.op ≠ 0x20 → e.land ≠ 1 → (e.isDrain = false ∨ e.stage ≠ 0) →
        let m := transferMove d u e.d e; let live := e.d.zero = false ∧ e.land ≠ 3
        exec (.xferComplete u i) s = .next { s with dev := transferSignal (setCore m u (unfly (core m u) e)) u e.d }
        ∧ (¬live → m.stack = d.stack ∧ m.hmem = d.hmem ∧ m.ports = d.ports ∧ (core m u).tile = c.tile ∧ (core m u).acc = c.acc)
        ∧ (live → e.isDrain = true → m = storeRows d u e.d e e.vals)
        ∧ (live → e.isDrain = false → e.d.memToMem = true → m = copyMem d u e.d e)
        ∧ (live → e.isDrain = false → e.d.memToMem = false → e.d.store = true → m = storeTile d u e.d e)
        ∧ (live → e.isDrain = false → e.d.memToMem = false → e.d.store = false → m = loadTile d u e.d e
          ∧ e.d.tile ∈ (core m u).inUse))
      ∧ (e.op = 0x20 → e.land ≠ 1 →
        let r := streamRead d u e.pages e.a 6208; let img := r.1.map Prod.fst; let c1 := core r.2 u; let k := e.f 57 55
        ((r.1.take 64).any Prod.snd = true → exec (.xferComplete u i) s = .next { s with dev := firedFault r.2 u e 10 })
        ∧ ((r.1.take 64).any Prod.snd = false → slotHeaderOk img = false → exec (.xferComplete u i) s = .next { s with dev := firedFault r.2 u e 4 })
        ∧ ((r.1.take 64).any Prod.snd = false → slotHeaderOk img = true → r.1.any Prod.snd = true →
          exec (.xferComplete u i) s = .next { s with dev := firedFault (setCore r.2 u { c1 with slots := tdrop (· == k) c1.slots }) u e 10 })
        ∧ (r.1.any Prod.snd = false → slotHeaderOk img = true →
          exec (.xferComplete u i) s = .next { s with dev := setCore r.2 u { unfly c1 e with slots := tset c1.slots k ⟨some e.a, img⟩ } }))
      ∧ (e.land = 1 ∨ (e.isDrain = true ∧ e.stage = 0) → exec (.xferComplete u i) s = .next s)

/-- LANDING_PLACE (R243 to R253): an awaited lookup of a record inside the directory, held in the record cache or read clean from its page, that passes
the checks goes on to placing: a store of an OPEN record that fits claims its bytes, a transfer of a PLACED record is pointed at its place, a store of
a DROPPED record moves nothing, a load of a record that is not PLACED faults with LAND and taints; a record number at or above LAND_RECORDS, a page
that does not translate, poisoned bytes and a failed check fault. The waited cycles are counted. Landing resets (R254 to R256): a request sets
RESET_BUSY; once no landing transfer of the job is in flight it takes effect: base and directory are read, the epoch advances (from 0xFFFF_FFFF to 1,
after a sweep of the directory, which is one command and the end of the reset the next: the model's choice, notes/assumptions/71.md), FULL and LAND_USED return to
zero. -/
def Obligations.LandingRecords : Prop :=
  (
    ∀ (u i waited : Nat) (e : Ins) (s : State), let d := s.dev; let c := core d u; let j := c.job.getD 16
      u < 864 → i < 8 → coreOn d u = true → (c.fl.filter Ins.isStream)[i]? = some e → e.land = 1 →
        let d1 := bump d (corePage u + 0x794) waited; let a := (job d1 j).landDir + 32 * e.d.record
        let n := e.d.record
        (getR d1 (landWin j + 0x18) ≤ n → exec (.landingPlace u i waited) s = .next { s with dev := landFault d1 u e 4 })
        ∧ (∀ d2 b, n < getR d1 (landWin j + 0x18) → recRead d1 u j n a = .ok (some b, d2) →
          let k := landRec b; let st := if k.epoch = landEpoch d2 j then k.state else 0; let used := get64 d2 (landWin j + 0x20)
          (∀ f, recordCheck (landEpoch d2 j) k e.d = some f → exec (.landingPlace u i waited) s = .next { s with dev := landFault d2 u e f })
          ∧ (recordCheck (landEpoch d2 j) k e.d = none → exec (.landingPlace u i waited) s = .next { s with dev := landLookup d2 u e n a b }
            ∧ (st = 1 → landLookup d2 u e n a b = landReady d2 u e k k.offset)
            ∧ (e.d.store = true → st = 2 → landLookup d2 u e n a b = setCore d2 u (refly (core d2 u) { e with land := 3 }))
            ∧ (e.d.store = true → st ≠ 1 → st ≠ 2 → used + landBytes k ≤ get64 d2 (landWin j + 8) → landLookup d2 u e n a b = landPlace d2 u e n a b k)
            ∧ (e.d.store = false → st ≠ 1 → landLookup d2 u e n a b = taint (landFault (bump d2 (landWin j + 0x34) 1) u e 11) ((core d2 u).job.getD 16) 2 11)))
        ∧ (∀ d2, n < getR d1 (landWin j + 0x18) → recRead d1 u j n a = .ok (none, d2) →
          exec (.landingPlace u i waited) s = .next { s with dev := landFault (poisonSeen d2 (seqPage 2) (some j)) u e 10 })
        ∧ (∀ f p, n < getR d1 (landWin j + 0x18) → recRead d1 u j n a = .error (f, p) →
          exec (.landingPlace u i waited) s = .next { s with dev := xferFault d1 u e f (max a (p * 65536)) false }))
  ∧ (
    ∀ (j : Nat) (s : State), let d := s.dev; let x := job d j
      j < 16 →
        (exec (.landCtrlReset j) s = .next { s with dev := setJob d j { x with landBusy := true } })
        ∧ (x.landBusy = true → landInFlight d j = false → (landEpoch d j ≠ 0xFFFFFFFF ∨ x.landSweep = true) → ∃ r, exec (.landingReset j) s = .next r
          ∧ landEpoch r.dev j = (if landEpoch d j = 0xFFFFFFFF then 1 else landEpoch d j + 1) % 2 ^ 32
          ∧ get64 r.dev (landWin j + 0x20) = 0 ∧ (job r.dev j).landBusy = false ∧ (job r.dev j).landFull = false ∧ (job r.dev j).landSweep = false
          ∧ (x.landSweep = false → (job r.dev j).landBase = get64 d (landWin j) ∧ (job r.dev j).landDir = get64 d (landWin j + 0x10)))
        ∧ (x.landBusy = true → landInFlight d j = false → landEpoch d j = 0xFFFFFFFF → x.landSweep = false →
          ∃ r, exec (.landingReset j) s = .next r ∧ (job r.dev j).landSweep = true)
        ∧ (x.landBusy = false → exec (.landingReset j) s = .next s)
        ∧ (x.landBusy = true → landInFlight d j = true → exec (.landingReset j) s = .next s))

/-- CONTEXT_SAVE and CONTEXT_RESTORE (R158 to R162, R482): a quiet core of a job that is being preempted is saved when its record fits its stride and
its region translates, and fails the preemption otherwise; a core that is not yet stopped or quiet, or has been saved, is left as it is. A record that
holds for a stopped core of its job is restored, and the failure of one that does not is recorded. -/
def Obligations.CoreContexts : Prop :=
  ∀ (u j a len : Nat) (s : State), let d := s.dev; let c := core d u
    u < 864 → c.job = some j →
      (quietRec c = true → (job d j).st = 4 → c.saved = false → (c.st = .atSafept ∨ c.st = .atEnd ∨ c.st = .idle) →
        let c1 : Core := { c with stop := if c.st = .atSafept then 0 else if c.st = .atEnd then 1 else 2 }
        let d1 := setCore d u c1; let rec_ := ctxRecord d1 u; let g := d.plan.maps.globalOf u
        let out := unitWrite d1 j (ctxRegion d1 j + g * ctxStride d1 j) rec_ u
        (∀ d2, recordLen c1 ≤ ctxStride d1 j → out = .ok d2 →
          ∃ r, exec (.contextSave u) s = .next r ∧ (core r.dev u).saved = true ∧ d2.plan.maps.globalOf u ∈ (job r.dev j).saved
            ∧ (core r.dev u).pc = (core d2 u).pc)
        ∧ (∀ d2 code, recordLen c1 ≤ ctxStride d1 j → out = .error (code, d2) → exec (.contextSave u) s = .next { s with dev := saveFault d2 j code })
        ∧ (ctxStride d1 j < recordLen c1 → exec (.contextSave u) s = .next { s with dev := saveFault d1 j 4 }))
      ∧ ((quietRec c = false ∨ (job d j).st ≠ 4 ∨ c.saved = true ∨ ¬(c.st = .atSafept ∨ c.st = .atEnd ∨ c.st = .idle)) →
        exec (.contextSave u) s = .next s)
      ∧ (quietCtx c = true → c.st ≠ .running → c.st ≠ .swait → c.st ≠ .tcfg1 →
        (∀ d2, restoreCore d u j c.imgAddr a len = .ok d2 → exec (.contextRestore u a len) s = .next { s with dev := d2 })
        ∧ (∀ d2 code, restoreCore d u j c.imgAddr a len = .error (code, d2) →
          exec (.contextRestore u a len) s = .next { s with dev := recordErr d2 (corePage u) code a }))

/-- The signal store (R316 to R319, R322, R342): up to the given number of waiting operations is applied, sets first; a set through the window of a
hall that holds words writes COUNT and OVF of one word after every operation received before it, and is ignored in a hall that holds none; a polled
SWAIT whose word has reached its target goes on, one whose word has not waits on, and a polled gate whose word has reached its target is satisfied. -/
def Obligations.SignalStore : Prop :=
  (∀ (h n : Nat) (s : State), h < 18 → n ≤ 4 → exec (.sigStoreApply h n) s = .next { s with dev := applyCycle s.dev h n })
  ∧ (∀ (h i v : Nat) (s : State), h < 18 → v < 2 ^ 48 → (sigStore s.dev h).ops = [.set i v] → (sigStore s.dev h).mons = [] →
      ∃ r, exec (.sigStoreApply h 1) s = .next r ∧ (sigWord r.dev h i).count = v ∧ (sigWord r.dev h i).ovf = false
        ∧ (sigWord r.dev h i).owner = (sigWord s.dev h i).owner ∧ (sigStore r.dev h).ops = []
        ∧ ∀ k, k ≠ i → sigWord r.dev h k = sigWord s.dev h k)
  ∧ (∀ (src h i : Nat) (v : Word) (s : State), src < 3 → h < 18 → i < 512 → let a := flushStore s.dev h
      (backed s.dev h = true → ∃ r, exec (.sigWindowSet src h i v) s = .next r ∧ (sigWord r.dev h i).count = v.toNat % 2 ^ 48
        ∧ (sigWord r.dev h i).ovf = bit v.toNat 56 ∧ (sigWord r.dev h i).owner = (sigWord a h i).owner
        ∧ ∀ k, k ≠ i → sigWord r.dev h k = sigWord a h k)
      ∧ (backed s.dev h = false → exec (.sigWindowSet src h i v) s = .next s))
  ∧ (∀ (u h i : Nat) (b : Binding) (s : State), u < 864 → (core s.dev u).swait = some b → b.mon = false → wordHome s.dev b.word = some (h, i) →
      (sigStore s.dev h).ops = [] → (core s.dev u).st = .swait →
      (b.target ≤ (sigWord s.dev h i).count → ∃ r, exec (.sigPoll u 0) s = .next r ∧ (core r.dev u).swait = none ∧ (core r.dev u).st = .running
        ∧ (core r.dev u).pc = (core s.dev u).pc)
      ∧ ((sigWord s.dev h i).count < b.target → exec (.sigPoll u 0) s = .next { s with dev := readOp s.dev h }))
  ∧ (∀ (u g h i : Nat) (b : Binding) (s : State), u < 864 → g < 16 → g ≠ 0 → (core s.dev u).gates = [(g, b)] → (core s.dev u).win = [] →
      b.mon = false → b.seen = false → wordHome s.dev b.word = some (h, i) → (sigStore s.dev h).ops = [] →
      ∃ r, exec (.sigPoll u g) s = .next r
        ∧ (core r.dev u).gates = [(g, if b.target ≤ (sigWord s.dev h i).count then { b with seen := true } else b)])

/-- Stack memory (R267, R270 to R276): a command that reads answers the bytes with their poison and the module after the read, and taints the job on
whose behalf poison is read; a write of a clean byte into a stack that is not fenced is read back and leaves every other byte alone, and one of any
bytes answers the module after it; in a fenced stack a read and a write change nothing; a refresh takes the rate that DERATED selects, but in
self-refresh none; a temperature sample is held in its register. -/
def Obligations.StackCommands : Prop :=
  (∀ (a n : Nat) (jo : Option Nat) (s : State), a + n ≤ 2 ^ 39 → jo.all (· < 16) = true →
      let r := stackRead s.dev a n
      (fenced s.dev a = false → (0 < n → r.1 = s.dev.stack.readP a n)
        ∧ ((jo = none ∨ r.1.any Prod.snd = false) → exec (.stackRead a n jo) s = .next { s with dev := r.2 })
        ∧ (∀ j, jo = some j → r.1.any Prod.snd = true → exec (.stackRead a n jo) s = .next { s with dev := taint r.2 j 0 10 }))
      ∧ (fenced s.dev a = true → exec (.stackRead a n jo) s = .next s))
  ∧ (∀ (a : Nat) (v : Byte) (s : State), a < 2 ^ 39 → fenced s.dev a = false →
      ∃ r, exec (.stackWriteAccept a [v] []) s = .next r ∧ r.dev.stack.get a = v ∧ r.dev.stack.isBad a = false
        ∧ ∀ b, b ≠ a → r.dev.stack.get b = s.dev.stack.get b ∧ r.dev.stack.isBad b = s.dev.stack.isBad b)
  ∧ (∀ (a : Nat) (data : List Byte) (poisoned : List Nat) (s : State), a + data.length ≤ 2 ^ 39 →
      (fenced s.dev a = false → exec (.stackWriteAccept a data poisoned) s
        = .next { s with dev := stackWrite s.dev a (data.zipIdx.map (fun b => (b.1, poisoned.contains b.2))) })
      ∧ (fenced s.dev a = true → exec (.stackWriteAccept a data poisoned) s = .next s))
  ∧ (∀ (k : Nat) (s : State), k < 16 →
      (fld (getR s.dev (scPage k + 0x100)) 3 3 = 0 →
        ∃ r, exec (.stackRefresh k) s = .next r ∧ (k ∈ r.dev.refresh2 ↔ fld (getR s.dev (scPage k + 0x100)) 1 1 = 1)
          ∧ r.dev.stack = s.dev.stack ∧ r.dev.regs = s.dev.regs)
      ∧ (fld (getR s.dev (scPage k + 0x100)) 3 3 = 1 → exec (.stackRefresh k) s = .next s))
  ∧ (∀ (k ms : Nat) (t : BitVec 16) (s : State), k < 16 → ∃ r, exec (.stackTempSample k t ms) s = .next r
      ∧ getR r.dev (scPage k + 0x104) = t.toNat ∧ r.dev.stack = s.dev.stack)

/-- The invalidations of translation caches (R290): with none under way one starts with its scope, with one under way none does; it ends, every matching
entry gone, when no access in flight uses a page that it covers, and goes on otherwise. The run-ahead fetches the predicted next transfer of a followed
descriptor (R293 to R297), and nothing of one without a prediction or of a job without a share. -/
def Obligations.InvalidationsAndRunAhead : Prop :=
  (∀ (j : Nat) (s : State), s.dev.xinv = none →
      exec .xinvAllJobs s = .next { s with dev := { s.dev with xinv := some ⟨true, false, 0, 0, 0⟩ } }
      ∧ (j < 16 → exec (.xinvJob j) s = .next { s with dev := { s.dev with xinv := some ⟨false, false, j, 0, 0⟩ } })
      ∧ (j < 16 → exec (.xinvRange j) s = .next { s with dev := { s.dev with xinv := some ⟨false, true, j,
          get64 s.dev (devPage 1 + 0x208) % 2 ^ 48 / 2097152, getR s.dev (devPage 1 + 0x210)⟩ } }))
  ∧ (∀ (j : Nat) (s : State), s.dev.xinv ≠ none →
      exec .xinvAllJobs s = .next s ∧ (j < 16 → exec (.xinvJob j) s = .next s ∧ exec (.xinvRange j) s = .next s))
  ∧ (∀ (x : Xinv) (s : State), s.dev.xinv = some x →
      (xinvUsed s.dev x = false → ∃ r, exec .xinvComplete s = .next r ∧ r.dev.xinv = none ∧ r.dev.stack = s.dev.stack
        ∧ (∀ l ∈ r.dev.xcache, ∀ e ∈ l.2, (e.big = false → x.covers e.job e.key = false)
          ∧ (e.big = true → ∀ i, i < 32 → x.covers e.job (e.key * 32 + i) = false))
        ∧ (∀ l ∈ r.dev.xptr, ∀ e ∈ l.2, x.covers e.job (e.key * 32) = false))
      ∧ (xinvUsed s.dev x = true → exec .xinvComplete s = .next s))
  ∧ (∀ (u k j : Nat) (q : RaDesc) (s : State), u < 864 → k < 4 → (core s.dev u).ra[k]? = some q → (core s.dev u).job = some j → coreOn s.dev u = true →
      (∀ p, q.prev = some p → p ≠ q.last → raUnits s.dev (u / 48) j ≠ 0 →
        let next := (q.last + q.last + 2 ^ 48 - p) % 2 ^ 48; let before := (core s.dev u).copies.map (·.at_)
        let got := (raBlocks q next).foldl (fun d b => raRequest d u j q before (b.1 * 256) b.2) s.dev
        exec (.runaheadFetch u k) s = .next { s with dev := settleWatch got (u / 48) })
      ∧ ((q.prev = none ∨ q.prev = some q.last ∨ raUnits s.dev (u / 48) j = 0) → exec (.runaheadFetch u k) s = .next s))

/-- Packets that are accepted (R291, R330 to R334, R350, R362, R375): a WRITE whose page translates with the peer's permission stores its payload and
counts its bytes as delivered, one whose page does not is answered by a WRITE_ERR; a WRITE_ERR is counted and its report kept when none is held; a
SIGNAL is held until its tally is met; a ready one goes to its word. A NULL unit, and a packet in a block that is not the link's next, change nothing. -/
def Obligations.HarlonReception : Prop :=
  (∀ (rx : Rx) (pg : Tab Nat) (d2 : Device) (s : State), let h := rx.hdr.toNat; let p := rx.port
      accepts s.dev rx 1 = true → rx.payload.length = hLen h →
      translate (arrived s.dev rx) noHall (hJob h) true true (pagesOf (hAddr h) (hLen h)) = .ok (pg, d2) →
      let stored := writeVirt d2 pg (hAddr h) (rx.payload.map (fun b => (b, false)))
      exec (.writeRx rx) s = .next { s with dev := delivered (freeUnits stored p rx.link (hCls h) (units (hLen h))) p (hCls h) (hLen h) })
  ∧ (∀ (rx : Rx) (f : XFault) (pg : Nat) (s : State), let h := rx.hdr.toNat; let p := rx.port; let a := arrived s.dev rx
      accepts s.dev rx 1 = true → rx.payload.length = hLen h →
      translate a noHall (hJob h) true true (pagesOf (hAddr h) (hLen h)) = .error (f, pg) →
      let d1 := recordXFault a (hJob h) (max (hAddr h) (pg * 65536)) f true true 0xFFFF
      let d2 := taint (jobEv d1 (hJob h) 0x52 f.code (hAddr h) (toLE 4 (getR d1 (devPage 1 + 0x220)))) (hJob h) 6 f.code
      let d3 := queuePkt d2 p { hdr := mkHdr 4 (hCls h) (fld h 43 40) 0 (hTag h) (hAddr h + f.cause * 2 ^ 48), job := hJob h }
      exec (.writeRx rx) s = .next { s with dev := delivered (freeUnits d3 p rx.link (hCls h) (units (hLen h))) p (hCls h) (hLen h) })
  ∧ (∀ (rx : Rx) (s : State), rx.wf = true → (rx.hdr.toNat = 0 ∨ blockNext (link s.dev rx.port rx.link) rx.seq = false) →
      exec (.writeRx rx) s = .next s ∧ exec (.writeErrRx rx) s = .next s ∧ exec (.signalRx rx) s = .next s)
  ∧ (∀ (rx : Rx) (s : State), let h := rx.hdr.toNat; let p := rx.port; let a := arrived s.dev rx
      accepts s.dev rx 4 = true → ∃ r, exec (.writeErrRx rx) s = .next r
        ∧ getR r.dev (portPage p + 0x12C) = min (getR a (portPage p + 0x12C) + 1) 0xFFFFFFFF
        ∧ getR r.dev (portPage p + 0x120) = (if fld (getR a (portPage p + 0x120)) 31 31 = 1 then getR a (portPage p + 0x120)
          else fld h 114 112 + fld h 43 40 * 8 + fld h 47 44 * 128 + fld h 53 48 * 2048 + 2 ^ 31))
  ∧ (∀ (rx : Rx) (s : State), let h := rx.hdr.toNat; let p := rx.port
      accepts s.dev rx 2 = true →
      let a := freeUnits (arrived s.dev rx) p rx.link (hCls h) (units 0); let x := port a p
      exec (.signalRx rx) s = .next { s with dev := promote (setPort a p { x with
        held := x.held ++ [⟨hCls h, fld h 52 40, hJob h, hAddr h, fld h 127 112⟩] }) p })
  ∧ (∀ (p cls i : Nat) (q : Held) (s : State), let x := port s.dev p
      p < 6 → cls < 4 → lfind (fun k => k.cls == cls) x.ready = some i → x.ready[i]? = some q →
      let a := freeSignal (setPort s.dev p { x with ready := ldel x.ready i }) p cls
      exec (.remoteSignalRelease p cls) s = .next { s with dev := arriveUnit a q.job q.word q.add (some p) })

/-- The link layer (R350, R356 to R365): an acknowledgement on an active link drops the blocks up to it from those that wait for one; a NAK does so and
the rest of them are sent again, and the eighth for one block takes the link out; a bad block is counted, a LINK packet asks for what follows the last
good one, and blocks are ignored from then on. A Harlon port with packets to send again assigns the first of them whose class has credit, otherwise
the first packet of the class in turn, and with none to assign what waits on its links is sent; the Foyer link assigns a packet to be sent again first.
A link that hears no acknowledgement, or loses a lane's lock, leaves service. -/
def Obligations.LinkLayer : Prop :=
  (∀ (p l : Nat) (hd : BitVec 128) (s : State), let h := hd.toNat; let x := link s.dev p l; let ack := fld h 75 64
      let rest := (x.unacked.dropWhile (fun b => b.block.seq != ack)).drop 1
      ((p < 6 ∧ l < 4) ∨ (p = 6 ∧ l = 0)) → x.st = 0 → hType h = 5 → badHeader h = false → (p = 6 → fld h 39 34 = 0) → bit h 77 = true →
      x.draining = false → x.unacked.any (fun b => b.block.seq == ack) = true →
      (bit h 76 = false → ∃ r, exec (.linkPacketRx p l hd) s = .next r
        ∧ (link r.dev p l).unacked = rest ∧ (link r.dev p l).st = 0
        ∧ (link r.dev p l).nakRun = 0 ∧ (link r.dev p l).rxSeq = x.rxSeq ∧ r.dev.stack = s.dev.stack ∧ r.dev.cores = s.dev.cores)
      ∧ (bit h 76 = true → x.nakRun < 7 → ∃ r, exec (.linkPacketRx p l hd) s = .next r
        ∧ (link r.dev p l).unacked = rest ∧ (link r.dev p l).tx = rest.map Sent.block ∧ (link r.dev p l).st = 0
        ∧ (link r.dev p l).nakRun = (if x.nakRun ≠ 0 ∧ x.nakSeq = (ack + 1) % 4096 then x.nakRun + 1 else 1)
        ∧ (p < 6 → getR r.dev (linkPage p l + 0x120) = min (getR s.dev (linkPage p l + 0x120) + 1) 0xFFFFFFFF)
        ∧ r.dev.stack = s.dev.stack ∧ r.dev.cores = s.dev.cores))
  ∧ (∀ (p l : Nat) (unc : Bool) (s : State), let x := link s.dev p l
      let cs := match creditsDue s.dev p l with
        | [] => [0]
        | cs => cs
      (p < 6 → l < 4 → x.st = 0 → ∃ r, exec (.badBlock p l unc) s = .next r
        ∧ link r.dev p l = { x with ignoring := true, told := x.freed, rxCount := 0
                                    tx := [mkBlock 1 0 0 (cs.flatMap (fun c => packetBytes (linkHdr s.dev p l true c) []))] }
        ∧ getR r.dev (linkPage p l + 0x124) = min (getR s.dev (linkPage p l + 0x124) + 1) 0xFFFFFFFF
        ∧ getR r.dev (linkPage p l + (if unc then 0x118 else 0x11C)) = min (getR s.dev (linkPage p l + (if unc then 0x118 else 0x11C)) + 1) 0xFFFFFFFF)
      ∧ (p = 6 → l = 0 → x.st = 0 → exec (.badBlock p l unc) s = .next { s with dev := sendCtrl (setLink s.dev p l { x with ignoring := true }) p l true })
      ∧ (((p < 6 ∧ l < 4) ∨ (p = 6 ∧ l = 0)) → x.st ≠ 0 → exec (.badBlock p l unc) s = .next s))
  ∧ (∀ (p l : Nat) (k : Pkt) (s : State), p < 7 → againReady s.dev p = some (k, l) →
      exec (.packetSend p) s = .next { s with dev := sendAgain s.dev p k l })
  ∧ (∀ (p l c : Nat) (k : Pkt) (s : State), let x := port s.dev p
      let pick := ([1, 2, 3, 4].map (fun i => (x.rr + i) % 4)).findSome? (fun c => (classReady s.dev p c).map (fun r => (c, r)))
      p < 6 → againReady s.dev p = none →
      (unackedCount s.dev p < 32768 → pick = some (c, k, l) → exec (.packetSend p) s = .next { s with dev := sendNew s.dev p c k l })
      ∧ ((32768 ≤ unackedCount s.dev p ∨ pick = none) → exec (.packetSend p) s = .next { s with dev := sendRest s.dev p }))
  ∧ (∀ (p l : Nat) (s : State), let x := link s.dev p l
      ((p < 6 ∧ l < 4) ∨ (p = 6 ∧ l = 0)) →
      (x.st = 0 → x.unacked ≠ [] → exec (.linkSilenceTimeout p l) s = .next { s with dev := leaveFailed s.dev p l })
      ∧ ((x.st ≠ 0 ∨ x.unacked = []) → exec (.linkSilenceTimeout p l) s = .next s))
  ∧ (∀ (p l lane : Nat) (s : State), let x := link s.dev p l
      let a := setLink s.dev p l { x with laneLock := if bit x.laneLock lane then x.laneLock - 2 ^ lane else x.laneLock, fecLock := false }
      ((p < 6 ∧ l < 4) ∨ (p = 6 ∧ l = 0)) → lane < 4 →
      exec (.laneLockLoss p l lane) s = .next { s with dev := if x.st = 0 then leaveFailed a p l else a })

/-- Training (R367, R369, R636): the steps of a link in state training follow each other, a step that ends in time moves to the next one, one that
times out starts the training again until the third failure, a peer's TRAIN block that has seen ours ends step 4, and a link that is down trains when
its lanes lock again or by RETRAIN; training starts at step 1 with no lane locked. Link tests (R363, R372 to R374): a request on an enabled link that
is not fenced starts the entry into the test, but not on the last active link of its port unless forced; the entry's wait ends with the link in test; a
peer's request is answered when its port allows it, a peer's answer starts the test; a test ends with the link's event, and the link trains again, but
the Porter's own test not by the register; a peer that does not answer is a training failure, in the Porter's test a local loopback follows. -/
def Obligations.LinkTrainingAndTests : Prop :=
  (
    ∀ (p l : Nat) (s : State), let x := link s.dev p l
      ((p < 6 ∧ l < 4) ∨ (p = 6 ∧ l = 0)) →
        (∀ (pol : BitVec 4) (map : BitVec 8), x.st = 5 →
          (x.step = 1 → exec (.trainStepDone p l pol map) s
            = .next { s with dev := setLink s.dev p l { x with step := 2, laneLock := if p = 6 then 3 else 15 } })
          ∧ (x.step = 2 → exec (.trainStepDone p l pol map) s = .next { s with dev := setLink s.dev p l { x with step := 3 } })
          ∧ (x.step = 3 →
            let y : Link := { x with step := 4, fecLock := true, polarity := pol.toNat, laneMap := map.toNat }
            exec (.trainStepDone p l pol map) s = .next { s with dev := sendTrain (setLink s.dev p l y) p l 0 }))
        ∧ (x.st = 5 → let n := min 3 (x.fails + 1); let a := setLink s.dev p l { x with fails := n }
          ((n < 3 ∨ (p = 6 ∧ autoRetrain s.dev 6 = true)) → exec (.trainStepTimeout p l) s = .next { s with dev := trainLink a p l })
          ∧ (¬(n < 3 ∨ (p = 6 ∧ autoRetrain s.dev 6 = true)) →
            let b := moveLink a p l (fun x => { x with st := 6, step := 0 })
            exec (.trainStepTimeout p l) s = .next { s with dev := if p = 6 then b else needTest b (unitLink p l) 0 0 }))
        ∧ (x.st ≠ 5 → exec (.trainStepTimeout p l) s = .next s)
        ∧ ((link (trainLink s.dev p l) p l).st = 5 ∧ (link (trainLink s.dev p l) p l).step = 1 ∧ (link (trainLink s.dev p l) p l).laneLock = 0
          ∧ (link (trainLink s.dev p l) p l).unacked = [] ∧ (link (trainLink s.dev p l) p l).part = [])
        ∧ (∀ b : List Byte, b.length = 640 → trainValid p b = true → let fl := leAt b 0x11 1
          (x.st = 5 → x.step = 4 →
            let a := sendTrain (setLink s.dev p l { x with peerSeen := true }) p l 2
            (bit fl 1 = true → exec (.trainBlockRx p l b) s = .next { s with dev := linkActive a p l b })
            ∧ (bit fl 1 = false → exec (.trainBlockRx p l b) s = .next { s with dev := a }))
          ∧ (p < 6 → x.st = 4 → bit fl 3 = true → x.testRun = false → exec (.trainBlockRx p l b) s = .next { s with dev := runTest s.dev p l false })
          ∧ (p < 6 → x.st = 0 → bit fl 2 = true → bit (getR s.dev (portPage p + 0x104)) 1 = true →
            exec (.trainBlockRx p l b) s = .next { s with dev := beginTest (setLink s.dev p l { x with pattern := fld fl 5 4 }) p l true })
          ∧ (p < 6 → x.st = 0 → bit fl 2 = true → bit (getR s.dev (portPage p + 0x104)) 1 = false → exec (.trainBlockRx p l b) s = .next s))
        ∧ (∀ b : List Byte, b.length = 640 → trainValid p b = false → exec (.trainBlockRx p l b) s = .next s)
        ∧ (x.st = 6 → linkFenced s.dev p l = false → linkOn s.dev p l = true → exec (.laneLockRegained p l) s = .next { s with dev := trainLink s.dev p l })
        ∧ ((x.st ≠ 6 ∨ linkFenced s.dev p l = true ∨ linkOn s.dev p l = false) → exec (.laneLockRegained p l) s = .next s)
        ∧ (p < 6 → linkFenced s.dev p l = false → linkOn s.dev p l = true → exec (.retrain p l) s = .next { s with dev := trainLink s.dev p l })
        ∧ (p < 6 → (linkFenced s.dev p l = true ∨ linkOn s.dev p l = false) → exec (.retrain p l) s = .next s))
  ∧ (
    ∀ (p l : Nat) (v : Reg) (s : State), let x := link s.dev p l; let c := linkPage p l + 0x104
      p < 6 → l < 4 →
        (linkFenced s.dev p l = false → linkOn s.dev p l = true → x.st ≠ 4 → x.draining = false →
          (activeLinks s.dev p ≠ [l] → exec (.testReq p l v) s = .next { s with dev := beginTest (storeLinkCtrl s.dev p l (v.toNat ||| 2)) p l false })
          ∧ (activeLinks s.dev p = [l] → exec (.testReq p l v) s = .next { s with dev := setLink s.dev p l { x with testRefused := true } })
          ∧ exec (.testForce p l v) s = .next { s with dev := beginTest (storeLinkCtrl s.dev p l (v.toNat ||| 2)) p l false })
        ∧ ((linkFenced s.dev p l = true ∨ linkOn s.dev p l = false ∨ x.st = 4 ∨ x.draining = true) →
          exec (.testReq p l v) s = .next s ∧ exec (.testForce p l v) s = .next s)
        ∧ (x.draining = true → ∃ r, exec (.testEntryAckTimeout p l) s = .next r ∧ (link r.dev p l).st = 4 ∧ (link r.dev p l).unacked = []
            ∧ (link r.dev p l).draining = false)
        ∧ (x.draining = false → exec (.testEntryAckTimeout p l) s = .next s)
        ∧ (porterTest s.dev p l = false → x.st = 4 → linkOn s.dev p l = true →
          let a := setEvt (if x.testRun = true then countPrbs s.dev p l else s.dev) (linkPage p l) 17
          exec (.testEnd p l) s = .next { s with dev := trainLink (setR a c (getR a c - b2n (bit (getR a c) 1) * 2)) p l })
        ∧ (porterTest s.dev p l = false → x.st ≠ 4 →
          exec (.testEnd p l) s = .next { s with dev := setR s.dev c (getR s.dev c - b2n (bit (getR s.dev c) 1) * 2) })
        ∧ (porterTest s.dev p l = true → exec (.testEnd p l) s = .next s)
        ∧ (x.st = 4 → x.testRun = false →
          let a := setLink (setR s.dev c (getR s.dev c - b2n (bit (getR s.dev c) 1) * 2)) p l { x with testRefused := true }
          (porterTest s.dev p l = false → exec (.testAnswerTimeout p l) s = .next { s with dev := trainFail a p l })
          ∧ (porterTest s.dev p l = true → exec (.testAnswerTimeout p l) s = .next { s with dev := runTest s.dev p l true }))
        ∧ ((x.st ≠ 4 ∨ x.testRun = true) → exec (.testAnswerTimeout p l) s = .next s))

/-- Loading and unloading of an Arcade context (R382, R383): a descriptor that reads clean, passes the checks and whose bucket table reads is held
under its RJID and CTX_RESULT is zero, and what fails is refused with its code; an idle context of the port is dropped; a command with OP 3 is refused
with DESC_BOUNDS. -/
def Obligations.ArcadeContexts : Prop :=
  ∀ (p r j : Nat) (s : State), let d := s.dev
    p < 6 → r < 64 → j < 16 →
      (∀ f d1, unitRead d j (get64 d (arcPage p + 0x104)) 64 0xFFFF = .error (f, d1) → exec (.ctxLoad p r j) s = .next { s with dev := ctxResult d1 p (some f) })
      ∧ (∀ d1 bs, unitRead d j (get64 d (arcPage p + 0x104)) 64 0xFFFF = .ok (bs, d1) → bs.any Prod.snd = true →
        exec (.ctxLoad p r j) s = .next { s with dev := ctxResult (poisonSeen d1 (arcPage p) none) p (some 10) })
      ∧ (∀ d1 bs, unitRead d j (get64 d (arcPage p + 0x104)) 64 0xFFFF = .ok (bs, d1) → bs.any Prod.snd = false →
        let b := bs.map Prod.fst
        (∀ f, ctxLoadCheck d1 p r j b = some f → exec (.ctxLoad p r j) s = .next { s with dev := ctxResult d1 p (some f) })
        ∧ (∀ f d2, ctxLoadCheck d1 p r j b = none → readTable d1 j (leAt b 0x20 8) (leAt b 0x18 2) = .error (f, d2) →
          exec (.ctxLoad p r j) s = .next { s with dev := ctxResult (if f = 10 then poisonSeen d2 (arcPage p) none else d2) p (some f) })
        ∧ (∀ d2 es, ctxLoadCheck d1 p r j b = none → readTable d1 j (leAt b 0x20 8) (leAt b 0x18 2) = .ok (es, d2) →
          ∃ t, exec (.ctxLoad p r j) s = .next t ∧ getR t.dev (arcPage p + 0x110) = 0
            ∧ ctxOf t.dev r = some { desc := b, table := es, job := j, inPort := p, outPort := fld (leAt b 8 1) 6 4 }))
      ∧ (∀ c, ctxOf d r = some c → c.inPort = p → c.active = false →
        ∃ t, exec (.ctxUnload p r) s = .next t ∧ getR t.dev (arcPage p + 0x110) = 0 ∧ ctxOf t.dev r = none)
      ∧ ((∀ c, ctxOf d r = some c → (c.inPort ≠ p ∨ c.active = true)) →
        exec (.ctxUnload p r) s = .next { s with dev := setR d (arcPage p + 0x110) (2 + 14 * 65536) })
      ∧ (exec (.ctxCmdReserved p) s = .next { s with dev := setR d (arcPage p + 0x110) (2 + 4 * 65536) })

/-- REDUCE packets (R391, R392, R397 to R404, R417 to R422, R637): a well-formed and new packet of its active context's step and attempt counts its
payload and goes to what its kind does; READY from downstream lets the packets held for it go. One without a context is counted with an event, one of
another step or attempt, or of the one that has ended, is counted as stale, and one for a context that is not yet active is held. -/
def Obligations.ReduceReception : Prop :=
  ∀ (x : Rx) (s : State), let h := x.hdr.toNat; let a := arrived s.dev x
    let b := bump64 a (portPage x.port + 0x148) (hLen h)
    accepts s.dev x 3 = true → lenOk x = true → reduceBad s.dev x.port h x.payload = false →
      (∀ c, ctxFor a x.port h = some c → c.active = true → rStep h = c.step % 4096 → rAttempt h = c.attempt % 16 →
        (rKind h = 0 → exec (.partialRx x) s = .next { s with dev := partialArrive b x c })
        ∧ (rKind h = 1 → exec (.gatherRx x) s = .next { s with dev := gatherArrive b x c })
        ∧ (rKind h = 2 → exec (.normRx x) s = .next { s with dev := normArrive b x c })
        ∧ (rKind h = 3 → rBucket h < c.nb →
          ∃ t k, exec (.readyRx x) s = .next t ∧ ctxOf t.dev (rRjid h) = some k ∧ (bkt k (rBucket h)).readyRx = true ∧ (bkt k (rBucket h)).outq = []))
      ∧ (∀ cmd ∈ [(0, Instr.partialRx x), (1, .gatherRx x), (2, .normRx x), (3, .readyRx x)], rKind h = cmd.1 →
        let ev : Ev := { type := 0x60, job := hJob h, detail := [BitVec.ofNat 8 (rRjid h), 0] }
        (ctxFor a x.port h = none → exec cmd.2 s = .next { s with dev := pushEv (bump (freeRx a x) (arcPage x.port + 0x120) 1) ev })
        ∧ (∀ c, ctxFor a x.port h = some c → let same := rStep h = c.step % 4096 ∧ rAttempt h = c.attempt % 16
          ((c.active = true ∧ ¬same ∨ c.active = false ∧ c.was = true ∧ same) →
            exec cmd.2 s = .next { s with dev := bump (freeRx a x) (arcPage x.port + 0x124) 1 })
          ∧ (c.active = false → ¬(c.was = true ∧ same) → exec cmd.2 s = .next { s with dev := { a with reduceHeld := a.reduceHeld ++ [x] } })))

/-- A context's own work in a step (R386, R394, R403 to R411, R416 to R422): readiness of a bucket, the start of chains, what waits end by in SERVICE
and in DEADLINE mode, the norm trailer and the gather, each under the condition that the spec gives it, and what the context originates in its turn. -/
def Obligations.ArcadeSteps : Prop :=
  ∀ (r n : Nat) (c : Ctx) (s : State), let d := s.dev; let k := bkt c n; let e := c.entry n
    r < 64 → n < 256 → ctxOf d r = some c → n < c.nb →
      (c.active = true → k.ready = false → reached d (eReadySig e) (eTarget e) = true →
        (∀ d1 es, readTable d c.job (c.tableAt + 64 * n) 1 = .ok (es, d1) →
          let e1 := es.headD e; let c1 : Ctx := { c with table := lset c.table n e1 }; let up := c.ring != 1 && !k.closed
          let d2 := mapClear (setBkt d1 r c1 n { k with ready := true, readyTx := up, held := [] }) c.job e1
          let d3 := if up then queuePkt d2 c.inPort (reducePkt c1 r 3 n 0 0 0 0 []) else d2
          exec (.bucketReady r n) s = .next { s with dev := doneCheck (k.held.foldl (heldTake r) d3) r n })
        ∧ (∀ f d1, readTable d c.job (c.tableAt + 64 * n) 1 = .error (f, d1) →
          exec (.bucketReady r n) s = .next { s with dev := ctxTaint (if f = 10 then poisonSeen d1 (arcPage c.inPort) (some c.job) else d1) r f }))
      ∧ (∀ b l, chainTodo c n = b :: l → inTurn d r c = true →
        let a := startBlocks (takeTurn d r c) r n ((b :: l).take 15)
        (packBlks c.s16 16 a.2 = [] → exec (.chainStart r n b) s = .next { s with dev := doneCheck a.1 r n })
        ∧ (packBlks c.s16 16 a.2 ≠ [] → exec (.chainStart r n b) s
          = .next { s with dev := doneCheck (sendPartials a.1 r n ((packBlks c.s16 16 a.2).map (partialPkt c r n e))) r n }))
      ∧ (∀ b, ((chainTodo c n).head? ≠ some b ∨ inTurn d r c = false) → exec (.chainStart r n b) s = .next s)
      ∧ (c.deadlineMode = false → c.deadline ≠ 0 →
        (∀ w, w < 5 → (w = 0 ∧ waitsReady c n = true ∨ w = 1 ∧ waitsPartial c n = true ∨ w = 2 ∧ waitsCredit d r c (fun h => rKind h != 2 && rBucket h == n) = true
          ∨ w = 3 ∧ waitsGather c n = true ∨ w = 4 ∧ waitsNorm c = true) → exec (.deadlineTaint r w n) s = .next { s with dev := ctxTaint d r 13 })
        ∧ (∀ m, m < 256 → c.nb ≤ m → waitsCredit d r c (fun h => rKind h == 2) = true →
          exec (.deadlineTaint r 2 m) s = .next { s with dev := ctxTaint d r 13 }))
      ∧ (∀ w, w < 5 → (c.deadlineMode = true ∨ c.deadline = 0) → exec (.deadlineTaint r w n) s = .next s)
      ∧ (c.deadlineMode = true → waitsReady c n = true →
        let a := setBkt d r c n { k with pushed := true, outq := [] }
        exec (.pushedSend r n) s = .next { s with dev := k.outq.foldl (fun d q => queuePkt d c.outPort (pushMark q)) a })
      ∧ ((c.deadlineMode = false ∨ waitsReady c n = false) → exec (.pushedSend r n) s = .next s)
      ∧ (c.deadlineMode = true → waitsPartial c n = true →
        let todo := awaited c n; let own := todo.filter (ownBlocks c e).contains; let rest := todo.filter (fun i => !(ownBlocks c e).contains i)
        let a := ctxBump (setBkt d r { c with late := true } n { k with upClosed := true }) r 0x1A4 todo.length
        let b := startBlocks (own.foldl (ownRestart r n e) a) r n rest
        let ks := (List.range c.ring).flatMap (fun q => packBlks c.s16 1048576 (b.2.filter (fun y => y.i / shardSize c e == q)))
        exec (.upstreamRestart r n) s = .next { s with dev := doneCheck (sendPartials b.1 r n (ks.map (partialPkt c r n e))) r n })
      ∧ ((c.deadlineMode = false ∨ waitsPartial c n = false) → exec (.upstreamRestart r n) s = .next s)
      ∧ (c.active = true → c.deadlineMode = true → k.closed = true → (ownBlocks c e).filter (fun i => !k.marked.contains i) ≠ [] →
        let todo := (ownBlocks c e).filter (fun i => !k.marked.contains i)
        let a := ctxBump (setCtx d r { c with late := true }) r 0x1AC todo.length
        let b := todo.foldl (fun d i => ownWrite d r n i ⟨List.replicate 32 Sys2Proof.Machine.Num.zero, false, false, false, 0⟩) a
        exec (.emptyBlockWrite r n) s = .next { s with dev := doneCheck b r n })
      ∧ (normTodo c = true → inTurn d r c = true →
        let vals := (List.range c.nb).flatMap (fun m => (ownBlocks c (c.entry m)).flatMap (fun i => tget [] (bkt c m).own i))
        let sum := vals.foldl (fun a w => fAdd a (fMul (ofF32 w) (ofF32 w))) Sys2Proof.Machine.Num.zero
        let pay := toLE 4 (toF32 sum) ++ toLE 2 c.pos ++ toLE 1 (b2n c.nf + b2n c.late * 2) ++ toLE 1 0 ++ toLE 4 c.wide ++ toLE 4 0
        let a := setCtx (takeTurn d r c) r { c with normSent := true, norm := tset c.norm c.pos pay }
        let b := if c.ring = 1 then a else queuePkt a c.outPort (reducePkt c r 2 0 0 0 0 0 pay)
        exec (.normSend r) s = .next { s with dev := restCheck (normRecord b r) r })
      ∧ ((normTodo c = false ∨ inTurn d r c = false) → exec (.normSend r) s = .next s)
      ∧ (gatherTodo d c n = false → exec (.gatherSend r n) s = .next s)
      ∧ (gatherTodo d c n = true →
        let own := ownBlocks c e; let is := (own.drop k.gTx).take (if c.wBytes = 4 then 3 else 7)
        (c.ring = 1 → exec (.gatherSend r n) s = .next { s with dev := gatherCheck (setBkt d r c n { k with gTx := own.length }) r n })
        ∧ (c.ring ≠ 1 → is = [] → exec (.gatherSend r n) s = .next { s with dev := gatherCheck d r n })
        ∧ (c.ring ≠ 1 → is ≠ [] → inTurn d r c = false → exec (.gatherSend r n) s = .next s)
        ∧ (c.ring ≠ 1 → is ≠ [] → inTurn d r c = true → let d0 := takeTurn d r c
          let wr := unitRead d0 c.job (eW e + is.headD 0 * 32 * c.wBytes) (is.length * 32 * c.wBytes) 0xFFFF
          (∀ f d1, wr = .error (f, d1) → exec (.gatherSend r n) s = .next { s with dev := ctxTaint d1 r f })
          ∧ (∀ w d1 f d2, wr = .ok (w, d1) → unitRead d1 c.job (eH e + is.headD 0) is.length 0xFFFF = .error (f, d2) →
            exec (.gatherSend r n) s = .next { s with dev := ctxTaint d2 r f })
          ∧ (∀ w d1 q d2, wr = .ok (w, d1) → unitRead d1 c.job (eH e + is.headD 0) is.length 0xFFFF = .ok (q, d2) →
            let g := gatherBytes c.wfmt (is.length * 32) w; let d3 := bump d2 (devPage 2 + 0x110) g.2
            let d4 := arcPoison (if g.2 = 0 then d3 else setJob d3 c.job { job d3 c.job with repair := true }) c ((w ++ q).any Prod.snd)
            let d5 := queuePkt d4 c.outPort (reducePkt c r 1 n (is.headD 0) is.length 0 0 (g.1 ++ q.map Prod.fst))
            ∀ c2, ctxOf d5 r = some c2 → exec (.gatherSend r n) s
              = .next { s with dev := gatherCheck (setBkt d5 r c2 n { bkt c2 n with gTx := k.gTx + is.length }) r n })))

/-- The update contexts, the statistics, the grant, the step sizes and the application of a bucket (R440 to R450): each takes effect when what it
waits for has come, and leaves the module as it is until then; what a load finds wrong stands in UCTX_RESULT, and a step size that is not finite taints
the attempt. -/
def Obligations.UpdateEngine : Prop :=
  ∀ (j n : Nat) (s : State), let d := s.dev; let x := job d j
    j < 16 → n < 256 →
      (∀ f d1, uread d j (get64 d (updWin j)) 64 = .error (f, d1) → exec (.uctxLoad j) s = .next { s with dev := uctxResult d1 j (some f.code) })
      ∧ (∀ b d1, uread d j (get64 d (updWin j)) 64 = .ok (b, d1) →
        let own := (ctxOf d1 { desc := b : UCtx }.rjid).filter (fun c => c.job == j)
        (uctxBad b = true → exec (.uctxLoad j) s = .next { s with dev := uctxResult d1 j (some 4) })
        ∧ (uctxBad b = false → (own = none ∨ leAt b 6 1 ≠ j ∨ (job d1 j).phase ≠ 0) →
          exec (.uctxLoad j) s = .next { s with dev := uctxResult d1 j (some 14) })
        ∧ (∀ c, uctxBad b = false → leAt b 6 1 = j → own = some c → (job d1 j).phase = 0 →
          (∀ f d2, ulatch d1 j c { desc := b } = .error (f, d2) → exec (.uctxLoad j) s = .next { s with dev := uctxResult d2 j (some f.code) })
          ∧ (∀ u d2, ulatch d1 j c { desc := b } = .ok (u, d2) →
            (statsShort d2 j c u = true → exec (.uctxLoad j) s = .next { s with dev := uctxResult d2 j (some 14) })
            ∧ (statsShort d2 j c u = false →
              ∃ t, exec (.uctxLoad j) s = .next t ∧ uctxOf t.dev j = some u ∧ getR t.dev (updWin j + 0x0C) = 0 ∧ t.dev.cores = d2.cores
                ∧ t.dev.stack = d2.stack))))
      ∧ (x.phase = 0 → ∃ t, exec (.uctxUnload j) s = .next t ∧ uctxOf t.dev j = none ∧ getR t.dev (updWin j + 0x0C) = 0 ∧ t.dev.stack = d.stack)
      ∧ (x.phase ≠ 0 → exec (.uctxUnload j) s = .next { s with dev := uctxResult d j (some 14) })
      ∧ (exec (.uctxCmdReserved j) s = .next { s with dev := uctxResult d j (some 4) })
      ∧ (bucketDone d j n = none → exec (.statsPass j n) s = .next s ∧ exec (.applyBucket j n) s = .next s)
      ∧ (∀ u c, bucketDone d j n = some (u, c) → n ∈ u.stats → exec (.statsPass j n) s = .next s)
      ∧ (∀ u c v, bucketDone d j n = some (u, c) → n ∉ u.stats → uctxOf ((slabs d c u n).foldl (slabStats j n c) d) j = some v →
        ∃ t, exec (.statsPass j n) s = .next t ∧ ∃ w, uctxOf t.dev j = some w ∧ n ∈ w.stats ∧ w.next = v.next ∧ w.sums = v.sums)
      ∧ ((x.phase ≠ 4 ∨ x.kept = false ∨ x.taint ≠ 0 ∨ ckptHolds x = true ∨ ¬(x.st = 2 ∨ x.st = 4) ∨ normsAgree d x (ctxsOf d j) = none) →
        exec (.applyGrant j) s = .next s)
      ∧ (∀ d1, x.phase = 4 → x.kept = true → x.taint = 0 → ckptHolds x = false → (x.st = 2 ∨ x.st = 4) → normsAgree d x (ctxsOf d j) = some d1 →
        let d2 := setJob d1 j { job d1 j with phase := 5 }
        (uctxOf d2 j = none → exec (.applyGrant j) s = .next { s with dev := d2 })
        ∧ (∀ u, uctxOf d2 j = some u → (ctxOf d2 u.rjid).bind (fun c => normAgrees d2 c x) = none → exec (.applyGrant j) s = .next { s with dev := d2 })
        ∧ (∀ u v b, uctxOf d2 j = some u → (ctxOf d2 u.rjid).bind (fun c => normAgrees d2 c x) = some (v, b) →
          ∃ t, exec (.applyGrant j) s = .next t ∧ (job t.dev j).phase = 5 ∧ (uctxOf t.dev j).map UCtx.norm = some v))
      ∧ (∀ h waited, h < 18 → uctxOf d j = none → exec (.etaLatch j h waited) s = .next s)
      ∧ (∀ h waited u, h < 18 → uctxOf d j = some u →
        let w := updWin j + 0x10 + 8 * (x.step % 2)
        let due := x.phase ≠ 0 ∧ x.st ≠ 5 ∧ h ∈ engines d ∧ h ∉ tkeys u.etas ∧ (2 * j + x.step % 2) ∉ d.etaBad ∧ getR d (w + 4) = x.step
        (¬due → exec (.etaLatch j h waited) s = .next s)
        ∧ (due → (ofF32 (getR d w)).isFinite = true →
          ∃ t, exec (.etaLatch j h waited) s = .next t
            ∧ (uctxOf t.dev j).map (fun w => tget 0 w.etas h) = some (BitVec.ofNat 32 (getR d w))
            ∧ ((engines d).all (fun k => (tkeys u.etas).contains k || k == h) = true → getR t.dev (updWin j + 0x20) = x.step))
        ∧ (due → (ofF32 (getR d w)).isFinite = false →
          let d1 := bump d (updPage h + 0x114) waited
          let d2 := taint (causeEv { d1 with etaBad := nins d1.etaBad (2 * j + x.step % 2) } j 0x80 13 0) j 7 13
          exec (.etaLatch j h waited) s
            = .next { s with dev := if (job d2 j).phase = 5 then setJob d2 j { job d2 j with phase := 3, kept := false } else d2 }))
      ∧ (∀ src odd hi, src < 3 →
        ∃ t, exec (.etaWordWrite src j odd hi) s = .next t ∧ getR t.dev (updWin j + 0x10 + 8 * b2n odd + 4) = hi.toNat
          ∧ (2 * j + b2n odd) ∉ t.dev.etaBad)
      ∧ (∀ u c, bucketDone d j n = some (u, c) →
        let due := x.phase = 5 ∧ u.next = n ∧ (n ∈ u.stats ∨ ∀ q ∈ slabs d c u n, cSecond q.c ≠ 1) ∧ ∀ q ∈ slabs d c u n, q.hall ∈ tkeys u.etas
        let a := (slabs d c u n).foldl (applySlab j c u (c.entry n)) d
        (¬due → exec (.applyBucket j n) s = .next s)
        ∧ (∀ v, due → uctxOf a j = some v →
          exec (.applyBucket j n) s = .next { s with dev := arriveUnit (setUctx a j { v with next := n + 1 }) j (eApplySig (c.entry n)) 1 none }))

/-- FOYER_WR_RX, FOYER_RD_RX and FOYER_CPL_RX (R461, R462, R574): a write or read of stack memory that RUNNING and SPACE2_EN allow reaches it, a
request of job memory is translated first, what is refused is answered with STATUS 1 or counted, and a completion ends its request. A NULL unit changes
nothing, and a malformed packet makes the link train again. -/
def Obligations.FoyerPackets : Prop :=
  ∀ (hd : BitVec 128) (b : List Byte) (s : State), let h := hd.toNat; let a := fAddr h; let n := hLen h
    let skipped (type : Nat) : Prop := (link s.dev 6 0).st ≠ 0 ∨ h = 0 ∨ (hType h ≠ type ∧ hType h ∈ [1, 2, 3, 5])
    let broken (type len : Nat) : Prop := (link s.dev 6 0).st = 0 ∧ h ≠ 0 ∧ (hType h = type ∨ hType h ∉ [1, 2, 3, 5])
      ∧ (foyerBad h = true ∨ (type ≠ 2 ∧ len ≠ n))
    let bad : State := { s with dev := malformed (wake (takeBlock s.dev 6 0 (((link s.dev 6 0).rxSeq + 1) % 4096)) 1) 6 }
    (skipped 1 → exec (.foyerWrRx hd b) s = .next s) ∧ (skipped 2 → exec (.foyerRdRx hd) s = .next s) ∧ (skipped 3 → exec (.foyerCplRx hd b) s = .next s)
    ∧ (broken 1 b.length → exec (.foyerWrRx hd b) s = .next bad) ∧ (broken 2 0 → exec (.foyerRdRx hd) s = .next bad)
    ∧ (broken 3 b.length → exec (.foyerCplRx hd b) s = .next bad)
    ∧ (foyerAccepts s.dev 1 hd b.length = true → let d := foyerArrived s.dev hd b.length
      (fSpace h = 0 → space0Ok d true (fVc h) a b.length = true → exec (.foyerWrRx hd b) s
        = .next { s with dev := (List.range (b.length / 4)).foldl (fun d i => writeBy 0 (a - cfgBase + 4 * i) (leAt b (4 * i) 4) d) d })
      ∧ (fSpace h = 0 → space0Ok d true (fVc h) a b.length = false → exec (.foyerWrRx hd b) s = .next { s with dev := foyerRefuse d true 0xFF 0 a })
      ∧ (fSpace h = 2 → spaceOk d 2 a b.length = true → exec (.foyerWrRx hd b) s = .next { s with dev := stackWrite d a (clean b) })
      ∧ (∀ d1, fSpace h = 1 → spaceOk d 1 a b.length = true → unitWrite d (hJob h) a (clean b) 0xFFFF = .ok d1 →
        exec (.foyerWrRx hd b) s = .next { s with dev := d1 })
      ∧ (∀ f d1, fSpace h = 1 → spaceOk d 1 a b.length = true → unitWrite d (hJob h) a (clean b) 0xFFFF = .error (f, d1) →
        exec (.foyerWrRx hd b) s = .next { s with dev := foyerRefuse d1 true (hJob h) f a })
      ∧ ((fSpace h = 1 ∨ fSpace h = 2) → spaceOk d (fSpace h) a b.length = false → ∃ t, exec (.foyerWrRx hd b) s = .next t
        ∧ getR t.dev (foyPage + 0x10C) = min (getR d (foyPage + 0x10C) + 1) 0xFFFFFFFF ∧ t.dev.stack = d.stack ∧ t.dev.jobs = d.jobs))
    ∧ (foyerAccepts s.dev 2 hd 0 = true → let d := foyerArrived s.dev hd 0
      (fSpace h = 0 → space0Ok d false (fVc h) a n = true →
        let x := readRange (a - cfgBase) (n / 4) d
        exec (.foyerRdRx hd) s = .next { s with dev := complete x.2 h 0 x.1 })
      ∧ (fSpace h = 0 → space0Ok d false (fVc h) a n = false →
        exec (.foyerRdRx hd) s = .next { s with dev := complete (foyerRefuse d false 0xFF 0 a) h 1 [] })
      ∧ (fSpace h = 2 → spaceOk d 2 a n = true → exec (.foyerRdRx hd) s = .next { s with dev := completeRead h (stackRead d a n) })
      ∧ (∀ x, fSpace h = 1 → spaceOk d 1 a n = true → unitRead d (hJob h) a n 0xFFFF = .ok x →
        exec (.foyerRdRx hd) s = .next { s with dev := completeRead h x })
      ∧ (∀ f d1, fSpace h = 1 → spaceOk d 1 a n = true → unitRead d (hJob h) a n 0xFFFF = .error (f, d1) →
        exec (.foyerRdRx hd) s = .next { s with dev := complete (foyerRefuse d1 false (hJob h) f a) h 2 [] })
      ∧ ((fSpace h = 1 ∨ fSpace h = 2) → spaceOk d (fSpace h) a n = false → ∃ t k, exec (.foyerRdRx hd) s = .next t
        ∧ (port t.dev 6).q = (port d 6).q ++ [k] ∧ fTag k.hdr = fTag h ∧ fld k.hdr 71 64 = 1 ∧ k.payload = [] ∧ t.dev.stack = d.stack))
    ∧ (foyerAccepts s.dev 3 hd b.length = true → let d := foyerArrived s.dev hd b.length; let st := fld h 71 64
      let req := d.rdOut.find? (fun e => e.1 == fTag h); let d1 : Device := { d with rdOut := tdrop (· == fTag h) d.rdOut }
      (req = none → exec (.foyerCplRx hd b) s = .next { s with dev := d })
      ∧ (∀ k r, req = some (k, r) → st = 0 → b.length ≠ r.len → exec (.foyerCplRx hd b) s = .next { s with dev := malformed d 6 })
      ∧ (∀ k r, req = some (k, r) → ¬(st = 0 ∧ b.length ≠ r.len) →
        (16 ≤ r.job → exec (.foyerCplRx hd b) s = .next { s with dev := d1 })
        ∧ (r.job < 16 → r.kind = 2 → exec (.foyerCplRx hd b) s = .next { s with dev := cplCkpt d1 r st b })
        ∧ (r.job < 16 → r.kind ≠ 2 → stepOf d1 r.job r.n = none → exec (.foyerCplRx hd b) s = .next { s with dev := d1 })
        ∧ (∀ q, r.job < 16 → stepOf d1 r.job r.n = some q →
          (r.kind = 1 → q.batch = 2 → exec (.foyerCplRx hd b) s = .next { s with dev := cplBatch d1 r q st b })
          ∧ (r.kind = 1 → q.batch ≠ 2 → exec (.foyerCplRx hd b) s = .next { s with dev := d1 })
          ∧ (r.kind ≠ 1 → r.kind ≠ 2 → q.batch = 1 → exec (.foyerCplRx hd b) s = .next { s with dev := cplList d1 r q st b })
          ∧ (r.kind ≠ 1 → r.kind ≠ 2 → q.batch ≠ 1 → exec (.foyerCplRx hd b) s = .next { s with dev := d1 }))))

/-- DOORBELL and the writes of RING_SIZE (R466, R467): a tail that leaves no more entries than the ring holds is taken, one that leaves more sets ERR
and is not; a size that is a power of two from 16 to 65,536 is taken while no entry waits. Other rings are unchanged. Entries that fail (R466 to
R468): a well-read entry with an opcode that its ring does not have, or with a reserved bit set, is consumed with CMD_FAULT DESC_BOUNDS, and so is an
entry that cannot be read, with the fault of its read; a command of a job that does not run is consumed with CONFIG. A row whose command is not at the
head of its ring changes nothing. -/
def Obligations.CommandRings : Prop :=
  (
    ∀ (r : Nat) (v : Reg) (s : State), r < 17 →
      (let d := wake s.dev 1; let n := (v.toNat + 2 ^ 32 - ringHead d r) % 2 ^ 32
        (n ≤ ringSize d r → ∃ t, exec (.doorbell r v) s = .next t ∧ (n ≠ 0 → ringTail t.dev r = v.toNat) ∧ ringHead t.dev r = ringHead d r
          ∧ ∀ k, k < 17 → k ≠ r → ringTail t.dev k = ringTail d k ∧ ringSize t.dev k = ringSize d k)
        ∧ (ringSize d r < n → ∃ t, exec (.doorbell r v) s = .next t ∧ fld (getR t.dev (ringReg r + 8)) 31 31 = 1
          ∧ ringTail t.dev r = ringTail d r ∧ ringHead t.dev r = ringHead d r))
      ∧ (ringLoad s.dev r = 0 → ringSizeOk 16 (v.toNat % 2 ^ 17) = true → ∃ t, exec (.ringSizeWrite r v) s = .next t
          ∧ ringSize t.dev r = v.toNat % 2 ^ 17 ∧ ringTail t.dev r = ringTail s.dev r
          ∧ ∀ k, k < 17 → k ≠ r → ringTail t.dev k = ringTail s.dev k ∧ ringSize t.dev k = ringSize s.dev k)
      ∧ (ringLoad s.dev r ≠ 0 → exec (.ringSizeWrite r v) s = .next s)
      ∧ (ringLoad s.dev r = 0 → ringSizeOk 16 (v.toNat % 2 ^ 17) = false → ∃ t, exec (.ringSizeWrite r v) s = .next t ∧ t.dev.jobs = s.dev.jobs
          ∧ ∀ k, k < 17 → ringTail t.dev k = ringTail s.dev k ∧ ringSize t.dev k = ringSize s.dev k))
  ∧ (
    ∀ (r : Nat) (e : List Byte) (d1 : Device) (s : State), let d := s.dev
      (ringHas d 16 = false → ∀ c ∈ [Instr.jobStart, .jobEnd, .preemptBoundary, .preemptSafept, .resume, .cmdReserved 16], exec c s = .next s)
      ∧ (r < 16 → ringHas d r = false → ∀ c ∈ [Instr.stepCmd r, .checkpoint r, .reimage r, .cmdReserved r], exec c s = .next s)
      ∧ (r < 17 → ringHas d r = true →
        (∀ code, ringEntry d r = .error (code, d1) → exec (.cmdReserved r) s = .next { s with dev := cmdFault (ringPop d1 r) (ringJob r) 0 code })
        ∧ (ringEntry d r = .ok (e, d1) → let op := leAt e 0 1
          let bad : State := { s with dev := cmdFault (ringPop d1 r) (entryJob r e) (entryTag e) 4 }
          (op ∉ ringOps r → exec (.cmdReserved r) s = .next bad)
          ∧ (op ∈ ringOps r → exec (.cmdReserved r) s = .next s)
          ∧ (r = 16 → (op ≠ 1 → exec .jobStart s = .next s) ∧ (op ≠ 2 → exec .jobEnd s = .next s) ∧ (op ≠ 4 → exec .resume s = .next s)
            ∧ ((op ≠ 3 ∨ leAt e 8 1 % 2 = 1) → exec .preemptBoundary s = .next s)
            ∧ ((op ≠ 3 ∨ leAt e 8 1 % 2 = 0) → exec .preemptSafept s = .next s))
          ∧ (r < 16 → (op ≠ 0x10 → exec (.stepCmd r) s = .next s) ∧ (op ≠ 0x11 → exec (.checkpoint r) s = .next s)
            ∧ (op ≠ 0x12 → exec (.reimage r) s = .next s))
          ∧ (entryOk e = false →
            (r = 16 → op = 1 → exec .jobStart s = .next bad) ∧ (r = 16 → op = 2 → exec .jobEnd s = .next bad)
            ∧ (r = 16 → op = 3 → leAt e 8 1 % 2 = 0 → exec .preemptBoundary s = .next bad)
            ∧ (r = 16 → op = 3 → leAt e 8 1 % 2 = 1 → exec .preemptSafept s = .next bad)
            ∧ (r = 16 → op = 4 → exec .resume s = .next bad) ∧ (r < 16 → op = 0x11 → exec (.checkpoint r) s = .next bad)
            ∧ (r < 16 → op = 0x12 → exec (.reimage r) s = .next bad)
            ∧ (r < 16 → op = 0x10 → (job d r).queue.length < 2 → exec (.stepCmd r) s = .next bad))
          ∧ (entryOk e = true → r < 16 → jobRunning (ringPop d1 r) r = false →
            let idle : State := { s with dev := cmdFault (ringPop d1 r) r (entryTag e) 14 }
            (op = 0x11 → exec (.checkpoint r) s = .next idle) ∧ (op = 0x12 → exec (.reimage r) s = .next idle)
            ∧ (op = 0x10 → (job d r).queue.length < 2 → exec (.stepCmd r) s = .next idle)))))

/-- JOB_START and JOB_END (R470, R471): a free job whose descriptor passes its checks and whose words and partitions are free starts; a job that is
not free ends, and every core, word and request of it is given up. A start of a job that is not free, or of a module at fault, and an end of a job that is
free, fail with CONFIG; a start that fails a check of its descriptor, its words or its partitions sends the fault of that check and starts nothing. -/
def Obligations.JobStartAndEnd : Prop :=
  ∀ (e : List Byte) (d1 : Device) (s : State), let j := entryJob 16 e; let p := ringPop d1 16
    (takes s.dev 16 1 e d1 → (job p j).st = 0 → p.boot.moduleFault = false →
      (∀ b imgs d2, descCheckJob p j (leAt e 8 8) true = .ok (b, imgs, d2) →
        (∀ d3, jobBegin d2 j (entryTag e) b imgs = .ok d3 →
          ∃ t, exec .jobStart s = .next t ∧ (job t.dev j).st = 2 ∧ (job t.dev j).desc = b ∧ (job t.dev j).images = imgs ∧ (job t.dev j).phase = 0
            ∧ t.dev.boot.locked = true ∧ t.dev.cores = d3.cores ∧ t.dev.stack = d2.stack)
        ∧ (∀ d3, jobBegin d2 j (entryTag e) b imgs = .error (0, d3) →
          exec .jobStart s = .next { s with dev := d3 } ∧ d3.jobs = d2.jobs ∧ d3.sigs = d2.sigs ∧ d3.cores = d2.cores))
      ∧ (∀ f d2, descCheckJob p j (leAt e 8 8) true = .error (f, d2) → f ≠ 0 → exec .jobStart s = .next { s with dev := cmdFault d2 j (entryTag e) f }))
    ∧ (takes s.dev 16 1 e d1 → ((job p j).st ≠ 0 ∨ p.boot.moduleFault = true) → exec .jobStart s = .next { s with dev := cmdFault p j (entryTag e) 14 })
    ∧ (takes s.dev 16 2 e d1 → (job p j).st ≠ 0 → ∃ t, exec .jobEnd s = .next t ∧ (job t.dev j).st = 0 ∧ (job t.dev j).desc = []
        ∧ (∀ k, k ≠ j → (job t.dev k).desc = (job p k).desc) ∧ ((job p j).landBusy = false → t.dev.stack = p.stack))
    ∧ (takes s.dev 16 2 e d1 → (job p j).st = 0 → exec .jobEnd s = .next { s with dev := cmdFault p j (entryTag e) 14 })

/-- STEP, CHECKPOINT and REIMAGE of a running job (R468, R472, R473, R481): a step of 1 to 64 micro-batches is queued while fewer than two wait, a
checkpoint is held, a reimage waits for the step boundary. A step of another number of micro-batches, and a reimage whose descriptor fails a check, send
their fault and change nothing else of the job. -/
def Obligations.JobCommands : Prop :=
  ∀ (j : Nat) (e : List Byte) (d1 : Device) (s : State), let p := ringPop d1 j; let x := job p j
    j < 16 →
      (takes s.dev j 0x10 e d1 → (job s.dev j).queue.length < 2 → 1 ≤ leAt e 0xC 1 → leAt e 0xC 1 ≤ 64 →
        ∃ t, exec (.stepCmd j) s = .next t ∧ (job t.dev j).queue = x.queue ++ [{ n := leAt e 8 4, nmicro := leAt e 0xC 1, list := leAt e 0x10 8
                                                                                 nbatch := leAt e 0x18 4, tag := entryTag e }]
          ∧ (job t.dev j).cur = x.cur ∧ (∀ k, k ≠ j → job t.dev k = job p k) ∧ t.dev.cores = p.cores ∧ t.dev.stack = p.stack)
      ∧ (takes s.dev j 0x10 e d1 → (job s.dev j).queue.length < 2 → (leAt e 0xC 1 = 0 ∨ 64 < leAt e 0xC 1) →
        exec (.stepCmd j) s = .next { s with dev := cmdFault p j (entryTag e) 4 })
      ∧ (takes s.dev j 0x10 e d1 → 2 ≤ (job s.dev j).queue.length → exec (.stepCmd j) s = .next s)
      ∧ (takes s.dev j 0x11 e d1 →
        ∃ t, exec (.checkpoint j) s = .next t
          ∧ (job t.dev j).ckpts.map (fun c => (c.atStep, c.list, c.nreg, c.tag, c.notify)) = x.ckpts.map (fun c => (c.atStep, c.list, c.nreg, c.tag, c.notify))
            ++ [(leAt e 8 4, leAt e 0x10 8, leAt e 0x18 4, entryTag e, entryNotify e)]
          ∧ t.dev.stack = p.stack ∧ t.dev.cores = p.cores ∧ ∀ i, i ≠ j → job t.dev i = job p i)
      ∧ (takes s.dev j 0x12 e d1 →
        (∀ f d2, descCheckJob p j (leAt e 8 8) false = .error (f, d2) → f ≠ 0 →
          exec (.reimage j) s = .next { s with dev := cmdFault d2 j (entryTag e) f })
        ∧ (∀ b imgs d2, descCheckJob p j (leAt e 8 8) false = .ok (b, imgs, d2) →
          (atBoundary (job d2 j) = false →
            ∃ t, exec (.reimage j) s = .next t ∧ (job t.dev j).reimage = some (b, imgs, entryTag e, entryNotify e)
              ∧ (job t.dev j).images = (job d2 j).images ∧ t.dev.cores = d2.cores)
          ∧ (atBoundary (job d2 j) = true →
            ∃ t, exec (.reimage j) s = .next t ∧ (job t.dev j).reimage = none ∧ (job t.dev j).images = imgs ∧ (job t.dev j).desc = b)))

/-- PREEMPT, PREEMPTED and RESUME (R482 to R484): MODE 0 waits for the commit of a step in progress, MODE 1 preempts at once; a job whose every core
is saved and that no update runs for is preempted, with its words saved and given up where SIGCTX_SAVE is set; a resumed job returns to the state it
left. A job in another state fails the command with CONFIG, and a resume that cannot restore the job leaves it preempted. -/
def Obligations.Preemption : Prop :=
  ∀ (e : List Byte) (d1 : Device) (s : State), let j := entryJob 16 e; let p := ringPop d1 16; let x := job p j
    (takes s.dev 16 3 e d1 → (x.st = 2 ∨ x.st = 3) → x.preempt = none →
      let q := setJob p j { x with preempt := some (leAt e 8 1 % 2, entryTag e, entryNotify e) }
      (leAt e 8 1 = 0 → exec .preemptBoundary s = .next { s with dev := if x.phase = 0 then preemptBegin q j else q })
      ∧ (leAt e 8 1 = 1 → exec .preemptSafept s = .next { s with dev := preemptBegin q j }))
    ∧ (takes s.dev 16 3 e d1 → (¬(x.st = 2 ∨ x.st = 3) ∨ x.preempt ≠ none) →
      (leAt e 8 1 = 0 → exec .preemptBoundary s = .next { s with dev := cmdFault p j (entryTag e) 14 })
      ∧ (leAt e 8 1 = 1 → exec .preemptSafept s = .next { s with dev := cmdFault p j (entryTag e) 14 }))
    ∧ (∀ k, k < 16 →
      let ready := (job s.dev k).st = 4 ∧ applying s.dev k = false ∧ (loadedCores s.dev k).all (fun u => (core s.dev u).saved) = true
      (ready → getR s.dev (sigJob k) % 2 = 0 →
        ∃ t, exec (.preempted k) s = .next t ∧ (job t.dev k).st = 5 ∧ (job t.dev k).preempt = none ∧ t.dev.stack = s.dev.stack
          ∧ t.dev.cores = s.dev.cores ∧ ∀ i, i ≠ k → job t.dev i = job s.dev i)
      ∧ (ready → getR s.dev (sigJob k) % 2 = 1 → let d0 := (ownedWords s.dev k).foldl (fun d hi => flushStore d hi.1) s.dev
        (∀ d2, unitWrite d0 k (sigRecAt d0 k) (clean (signalRecord d0 k)) 0xFFFF = .ok d2 →
          ∃ t, exec (.preempted k) s = .next t ∧ (job t.dev k).st = 5 ∧ (job t.dev k).sigSaved = true ∧ t.dev.stack = d2.stack
            ∧ t.dev.sigs = (releaseWords d2 k).sigs)
        ∧ (∀ f d2, unitWrite d0 k (sigRecAt d0 k) (clean (signalRecord d0 k)) 0xFFFF = .error (f, d2) →
          exec (.preempted k) s = .next { s with dev := saveFault d2 k f }))
      ∧ (¬ready → exec (.preempted k) s = .next s))
    ∧ (takes s.dev 16 4 e d1 → x.st = 5 →
      (∀ w c, resumeWords p j = .ok w → resumeCores j (if x.verdict = 0 then x.saved else []) w = .ok c →
        ∃ t, exec .resume s = .next t ∧ (job t.dev j).st = x.resumeSt ∧ (job t.dev j).saved = [] ∧ t.dev.cores = c.cores ∧ t.dev.stack = c.stack)
      ∧ (∀ f w, resumeWords p j = .error (f, w) → f ≠ 0 → ∃ t, exec .resume s = .next t ∧ t.dev.cores = p.cores ∧ t.dev.sigs = p.sigs)
      ∧ (∀ f w c, resumeWords p j = .ok w → resumeCores j (if x.verdict = 0 then x.saved else []) w = .error (f, c) → f ≠ 0 →
        ∃ t, exec .resume s = .next t ∧ t.dev.cores = p.cores ∧ t.dev.sigs = p.sigs))
    ∧ (takes s.dev 16 4 e d1 → x.st ≠ 5 → exec .resume s = .next { s with dev := cmdFault p j (entryTag e) 14 })

/-- The step of a job (R473 to R475): its batch is fetched, an attempt starts, each micro-batch starts with its cores loaded and ends when they all
have ended. A landing reset precedes a repeat and every micro-batch (R254). Until then nothing changes. -/
def Obligations.StepAttempts : Prop :=
  ∀ (j : Nat) (s : State), let d := s.dev; let x := job d j
    j < 16 →
      (let due := ((x.cur.toList ++ x.queue).take 2).find? (fun q => q.batch == 0);
        ((due = none ∨ x.st = 0) → exec (.batchFetch j) s = .next s)
        ∧ (∀ q, due = some q → x.st ≠ 0 → q.nbatch = 0 →
          exec (.batchFetch j) s = .next { s with dev := mapStep d j q.n (fun q => { q with batch := 3 }) })
        ∧ (∀ q, due = some q → x.st ≠ 0 → q.nbatch ≠ 0 →
          ∃ t, exec (.batchFetch j) s = .next t ∧ t.dev.rdTodo = d.rdTodo ++ [⟨0, j, q.n, q.list, 0, 32 * q.nbatch⟩] ∧ t.dev.cores = d.cores
            ∧ t.dev.stack = d.stack))
      ∧ (let open_ := x.st = 2 ∧ x.stuck = false ∧ awake d = true ∧ hallTested d j = false ∧ changeDue d j = false;
        let free := x.phase = 0 ∧ x.verdict = 0 ∧ fld (getR d (devPage 2 + 0x118)) j j = 0;
        (¬open_ → exec (.attemptStart j) s = .next s)
        ∧ (open_ → x.phase ≠ 0 → x.verdict = 2 → abandonDone d j = false → exec (.attemptStart j) s = .next s)
        ∧ (open_ → x.phase ≠ 0 → x.verdict = 2 → abandonDone d j = true →
          let r := landReset (restoreWords d j) j
          let c := (loadedCores r j).foldl clearCore r
          exec (.attemptStart j) s = .next { s with dev := attemptBegin (setJob c j { job c j with attempt := (x.attempt + 1) % 16 }) j })
        ∧ (open_ → ¬(x.phase ≠ 0 ∧ x.verdict = 2) → ¬free → exec (.attemptStart j) s = .next s)
        ∧ (∀ q, open_ → free → x.cur = some q → exec (.attemptStart j) s = .next { s with dev := attemptBegin d j })
        ∧ (∀ q r, open_ → free → x.cur = none → x.queue = q :: r → q.batch = 3 →
          exec (.attemptStart j) s
            = .next { s with dev := attemptBegin (setJob d j { x with cur := some q, queue := r, step := q.n, attempt := 0, latched := false }) j })
        ∧ (open_ → free → x.cur = none → (∀ q ∈ x.queue.head?, q.batch ≠ 3) → exec (.attemptStart j) s = .next s))
      ∧ (let open_ := x.st = 2 ∧ x.stuck = false ∧ x.phase = 1 ∧ x.verdict = 0 ∧ landInFlight d j = false;
        (open_ →
          let a := landReset d j
          let b := setJob a j { job a j with phase := 2, mStart := controlCycles a, mFirst := none, mLast := [] }
          exec (.microBatchStart j) s = .next { s with dev := (jobCores b j).foldl (coreBegin j) b })
        ∧ (¬open_ → exec (.microBatchStart j) s = .next s))
      ∧ (let open_ := x.st = 2 ∧ x.phase = 2 ∧ x.verdict = 0 ∧ ∀ e ∈ jobCores d j, (core d e.2).job = some j ∧ (core d e.2).st = .atEnd;
        (∀ q, open_ → x.cur = some q →
          let a := paceBarrier d j
          exec (.microBatchDone j) s = .next { s with dev := setJob a j (if q.nmicro ≤ x.micro + 1 then { job a j with phase := 3 }
            else { job a j with phase := 1, micro := x.micro + 1 }) })
        ∧ (¬open_ → exec (.microBatchDone j) s = .next s))

/-- STEP_READY, the verdicts and STEP_COMMIT (R474, R476 to R479): a clean attempt waits at step 4 for its verdict, and one that is tainted is reported
and held, abandoned or left to its verdict; APPLY keeps a clean one and falls to the taint of another, REPEAT and SKIP abandon it, a verdict that fits no
attempt is counted as stale; the step commits once its update is done, or a SKIP has ended its work, and waits until then. A commit (R474 step 6): the
job's STEP counter and the module's step count rise by one, and the job has no step and no taint of it left. -/
def Obligations.VerdictsAndCommit : Prop :=
  (
    ∀ (src j a : Nat) (s : State), let d := s.dev; let x := job d j
      src < 3 → j < 16 → a < 16 →
        (x.st = 2 → x.verdict = 0 → x.phase = 3 → x.taint = 0 → x.hold = 0 → normReady d j = true → (ctxsOf d j).all (fun r => !(ctxOf d r).any Ctx.broken) = true →
          ∃ t, exec (.stepReady j) s = .next t ∧ (job t.dev j).phase = 4 ∧ (job t.dev j).st = 2
            ∧ (job t.dev j).kept = (x.kept || dLocal x.desc))
        ∧ (let due := x.st = 2 ∧ x.verdict = 0 ∧ x.phase ≠ 0 ∧ x.phase < 4 ∧ (x.taint ≠ 0 ∨ (x.phase = 3 ∧ normReady d j = true));
          let n := normDetail d j; let d1 := jobEv (setJob n.2 j { x with phase := 4 }) j 0x10 0 0 (toLE 4 x.taint ++ n.1); let code := holdCode d1 j;
          (¬due → exec (.stepReady j) s = .next s)
          ∧ (due → code ≠ 0 → exec (.stepReady j) s = .next { s with dev := holdJob d1 j code })
          ∧ (due → code = 0 → dLocal x.desc = true → x.taint = 0 →
            exec (.stepReady j) s = .next { s with dev := setJob d1 j { job d1 j with kept := true } })
          ∧ (due → code = 0 → dLocal x.desc = true → x.taint ≠ 0 →
            exec (.stepReady j) s = .next { s with dev := abandon d1 j (if x.taint = 16 then 3 else 2) })
          ∧ (due → code = 0 → dLocal x.desc = false → x.kept = true → x.taint ≠ 0 →
            exec (.stepReady j) s = .next { s with dev := taintEv (setJob d1 j { job d1 j with kept := false }) j 0x14 0 })
          ∧ (due → code = 0 → dLocal x.desc = false → (x.kept = false ∨ x.taint = 0) → exec (.stepReady j) s = .next { s with dev := d1 }))
        ∧ (let v (dec : Nat) : Device := commitPair d src (jobWin j + 8) 0xFFFFFFFF 0x3F (a + 16 * dec);
          let fits (dec : Nat) : Bool := verdictFits x (getR (v dec) (jobWin j + 8)) a;
          let stale (c : Instr) (dec : Nat) : Prop := ∃ t, exec c s = .next t
            ∧ getR t.dev (jobWin j + 0x18) = min (getR (v dec) (jobWin j + 0x18) + 1) 0xFFFFFFFF ∧ t.dev.jobs = d.jobs ∧ t.dev.cores = d.cores;
          let ended (c : Instr) (dec : Nat) : Prop := ∃ t, exec c s = .next t ∧ (job t.dev j).hold = 0
            ∧ (job t.dev j).verdict = (if dec = 3 then 3 else 0) ∧ (job t.dev j).st = (if x.st = 3 then 2 else x.st) ∧ t.dev.cores = d.cores;
          stale (.verdictNone src j a) 0
          ∧ (fits 1 = false → stale (.verdictApply src j a) 1) ∧ (fits 2 = false → stale (.verdictRepeat src j a) 2)
          ∧ (fits 3 = false → stale (.verdictSkip src j a) 3)
          ∧ (fits 1 = true → heldJob x = false → x.taint = 0 →
            exec (.verdictApply src j a) s = .next { s with dev := setJob (v 1) j { x with kept := true } })
          ∧ (fits 1 = true → (heldJob x = true ∨ x.taint ≠ 0) →
            exec (.verdictApply src j a) s = .next { s with dev := taintEv (setJob (v 1) j { x with kept := false }) j 0x14 0 })
          ∧ (fits 2 = true → x.phase = 0 → ended (.verdictRepeat src j a) 2) ∧ (fits 3 = true → x.phase = 0 → ended (.verdictSkip src j a) 3)
          ∧ (fits 2 = true → x.phase ≠ 0 → exec (.verdictRepeat src j a) s = .next { s with dev := abandon (v 2) j 2 })
          ∧ (fits 3 = true → x.phase ≠ 0 → exec (.verdictSkip src j a) s = .next { s with dev := abandon (v 3) j 3 }))
        ∧ (let grant := x.phase = 5 ∧ (x.st = 2 ∨ x.st = 4) ∧ gatherDone d j = true ∧ applying d j = false
          let skip := x.st = 2 ∧ abandonDone d j = true
          (x.verdict ≠ 3 → grant → exec (.stepCommit j) s = .next { s with dev := commitStep d j })
          ∧ (x.verdict ≠ 3 → ¬grant → exec (.stepCommit j) s = .next s)
          ∧ (x.verdict = 3 → skip → exec (.stepCommit j) s = .next { s with dev := commitStep (if x.phase = 0 then d else restoreWords d j) j })
          ∧ (x.verdict = 3 → ¬skip → exec (.stepCommit j) s = .next s)))
  ∧ (
    ∀ (j : Nat) (s : State), let d := s.dev; let x := job d j
      j < 16 → x.verdict ≠ 3 → x.phase = 5 → x.st = 2 → x.preempt = none → x.reimage = none → x.ckpts = [] → gatherDone d j = true → applying d j = false →
        ∃ t, exec (.stepCommit j) s = .next t ∧ (job t.dev j).phase = 0 ∧ (job t.dev j).cur = none ∧ (job t.dev j).lastDone = some x.step
          ∧ getR t.dev (jobWin j + 0x14) = min (getR d (jobWin j + 0x14) + 1) 0xFFFFFFFF
          ∧ moduleSteps t.dev = (moduleSteps d + 1) % 2 ^ 64 ∧ ∀ k, k ≠ j → (job t.dev k).phase = (job d k).phase)

/-- The event ring (R465, R485): the writes of EVT_BASE and an accepted EVT_SIZE restart it, EVT_HEAD frees space, and the oldest record held is
written at the tail with the next SEQ when the link is up and the ring has space; a size out of range changes nothing of it. Records that were lost are reported first, and with no record or no space nothing is written. A checkpoint ends when
its last write has been sent (R481), and not before. -/
def Obligations.EventRing : Prop :=
  (∀ (v : Word) (s : State), ∃ t, exec (.evtBaseWrite v) s = .next t ∧ get64 t.dev (foyPage + 0x110) = v.toNat / 64 * 64 ∧ evtTail t.dev = 0
      ∧ evtHead t.dev = 0 ∧ t.dev.evBaseSet = true ∧ t.dev.evQ = s.dev.evQ ∧ t.dev.evSeq = s.dev.evSeq)
  ∧ (∀ (v : Reg) (s : State), ringSizeOk 64 (v.toNat % 2 ^ 17) = true → ∃ t, exec (.evtSizeWrite v) s = .next t ∧ evtSize t.dev = v.toNat % 2 ^ 17
      ∧ evtTail t.dev = 0 ∧ evtHead t.dev = 0 ∧ t.dev.evSizeSet = true ∧ t.dev.evQ = s.dev.evQ ∧ t.dev.evSeq = s.dev.evSeq)
  ∧ (∀ (v : Reg) (s : State), ringSizeOk 64 (v.toNat % 2 ^ 17) = false → ∃ t, exec (.evtSizeWrite v) s = .next t ∧ evtSize t.dev = evtSize s.dev
      ∧ evtTail t.dev = evtTail s.dev ∧ evtHead t.dev = evtHead s.dev)
  ∧ (∀ (v : Reg) (s : State), ∃ t, exec (.evtHeadWrite v) s = .next t ∧ evtHead t.dev = v.toNat ∧ evtTail t.dev = evtTail s.dev ∧ t.dev.evQ = s.dev.evQ)
  ∧ (∀ (s : State) (e : Ev) (q : List Ev), portUp s.dev 6 = true → s.dev.evBaseSet = true → s.dev.evSizeSet = true →
      (evtTail s.dev + 2 ^ 32 - evtHead s.dev) % 2 ^ 32 < evtSize s.dev → s.dev.evLost = 0 → s.dev.evQ = e :: q →
      ∃ t k, exec .eventRecordWrite s = .next t ∧ t.dev.evQ = q ∧ t.dev.evSeq = s.dev.evSeq % (2 ^ 32 - 1) + 1
        ∧ evtTail t.dev = (evtTail s.dev + 1) % 2 ^ 32 ∧ (port t.dev 6).q = (port s.dev 6).q ++ [k]
        ∧ k.payload = eventBytes (s.dev.evSeq % (2 ^ 32 - 1) + 1) e
        ∧ fAddr k.hdr = (get64 s.dev (foyPage + 0x110) + 64 * (evtTail s.dev % evtSize s.dev)) % 2 ^ 64 ∧ t.dev.jobs = s.dev.jobs)
  ∧ (∀ s : State, (portUp s.dev 6 = false ∨ s.dev.evBaseSet = false ∨ s.dev.evSizeSet = false
      ∨ evtSize s.dev ≤ (evtTail s.dev + 2 ^ 32 - evtHead s.dev) % 2 ^ 32 ∨ (s.dev.evLost = 0 ∧ s.dev.evQ = [])) → exec .eventRecordWrite s = .next s)
  ∧ (∀ s : State, portUp s.dev 6 = true → s.dev.evBaseSet = true → s.dev.evSizeSet = true →
      (evtTail s.dev + 2 ^ 32 - evtHead s.dev) % 2 ^ 32 < evtSize s.dev → 0 < s.dev.evLost →
      ∃ t k, exec .eventRecordWrite s = .next t ∧ t.dev.evQ = s.dev.evQ ∧ t.dev.evLost = 0
        ∧ evtTail t.dev = (evtTail s.dev + 1) % 2 ^ 32 ∧ (port t.dev 6).q = (port s.dev 6).q ++ [k]
        ∧ k.payload = eventBytes (s.dev.evSeq % (2 ^ 32 - 1) + 1) { type := 0xF0, detail := toLE 4 s.dev.evLost })
  ∧ (∀ (j : Nat) (s : State), j < 16 → let x := job s.dev j
      let sent := (port s.dev 6).q.all (fun p => !(p.job == j && hType p.hdr == 1 && fVc p.hdr == 1));
      (x.ckpts = [] → exec (.ckptDone j) s = .next s)
      ∧ (∀ k r, x.ckpts = k :: r → (k.phase ≠ 3 ∨ sent = false) → exec (.ckptDone j) s = .next s)
      ∧ (∀ k r, x.ckpts = k :: r → k.phase = 3 → sent = true → exec (.ckptDone j) s
        = .next { s with dev := ckptDrop (cmdDone (pushEv s.dev { type := 0xA2, job := j, attempt := x.attempt, step := x.step, tag := k.tag }) j k.tag k.notify) j }))
  ∧ (∀ (j : Nat) (k : Ckpt) (s : State), j < 16 → (job s.dev j).ckpts = [k] → k.phase = 3 →
      (port s.dev 6).q.all (fun p => !(p.job == j && hType p.hdr == 1 && fVc p.hdr == 1)) = true →
      ∃ t, exec (.ckptDone j) s = .next t ∧ (job t.dev j).ckpts = [] ∧ t.dev.stack = s.dev.stack ∧ t.dev.cores = s.dev.cores)

/-- Reads and writes of configuration registers by a source that reaches the page (R574 to R577, R593): every form of a write goes through the one
write path, and a read answers the value and keeps it for its source; a source that does not reach the page changes nothing by a write. The debug
window (R597, R598): with DBG_EN set and a target outside the DBG page, a read puts the target's value into DBG_DATA and a write writes DBG_DATA to
it, and DBG_STAT shows the end; otherwise the command is refused. A register that is no half of a pair has no half's write, the debugger does not reach its
own page, and a page that the Porter does not reach reads as zero. -/
def Obligations.RegisterAccess : Prop :=
  (
    ∀ (src off : Nat) (v : Reg) (s : State), let page := off / 0x1000
      src < 3 → off < 2 ^ 24 → off % 4 = 0 →
        (reaches s.dev src page = true → (src = 1 → page ≠ dbgPage / 0x1000) →
          let d := wake s.dev (if src = 2 then 4 else 1)
          let w : State := { s with dev := if off = dbgPage + 0x10C then dbgCmd v.toNat d else cfgWrite src off v.toNat d }
          ((src = 0 → s.dev.boot.running = true ∨ earlyPage page = true) → exec (.registerWrite src off v) s = .next w
            ∧ (isLo off = true → exec (.reg64LoWrite src off v) s = .next w) ∧ (isHi off = true → exec (.reg64HiCommit src off v) s = .next w))
          ∧ (src = 0 → s.dev.boot.running = false → earlyPage page = false → exec (.registerWrite src off v) s = .next s)
          ∧ ∃ t, exec (.rcRead src off) s = .next t ∧ tget 0 t.dev.readOut src = BitVec.ofNat 32 (cfgRead src off d).1 ∧ t.dev.stack = d.stack
            ∧ t.dev.cores = d.cores ∧ t.dev.jobs = d.jobs)
        ∧ (src = 0 → s.dev.boot.running = false → earlyPage page = false →
          exec (.reg64LoWrite src off v) s = .next s ∧ exec (.reg64HiCommit src off v) s = .next s)
        ∧ (isLo off = false → exec (.reg64LoWrite src off v) s = .next s) ∧ (isHi off = false → exec (.reg64HiCommit src off v) s = .next s)
        ∧ ((reaches s.dev src page = false ∨ (src = 1 ∧ page = dbgPage / 0x1000)) → exec (.registerWrite src off v) s = .next s
          ∧ exec (.reg64LoWrite src off v) s = .next s ∧ exec (.reg64HiCommit src off v) s = .next s)
        ∧ (src = 1 → page = dbgPage / 0x1000 → exec (.rcRead src off) s = .next s)
        ∧ (reaches s.dev src page = false → (src ≠ 2 ∨ s.dev.boot.porterReady = false) → exec (.rcRead src off) s = .next s)
        ∧ (reaches s.dev src page = false → src = 2 → s.dev.boot.porterReady = true →
          exec (.rcRead src off) s = .next { s with dev := { s.dev with readOut := tset s.dev.readOut 2 0 } }))
  ∧ (
    ∀ (s : State), let d := s.dev; let a := getR d (dbgPage + 0x104)
      (fld (getR d (dbgPage + 0x100)) 0 0 = 1 → a / 0x1000 ≠ dbgPage / 0x1000 →
        (∃ t, exec .dbgRead s = .next t ∧ getR t.dev (dbgPage + 0x108) = (cfgRead 1 a d).1 % 2 ^ 32 ∧ getR t.dev (dbgPage + 0x110) = 2 ∧ t.dev.stack = d.stack)
        ∧ ∃ t, exec .dbgWrite s = .next t ∧ t.dev = setR (cfgWrite 1 a (getR d (dbgPage + 0x108)) d) (dbgPage + 0x110) 2)
      ∧ ((fld (getR d (dbgPage + 0x100)) 0 0 = 0 ∨ a / 0x1000 = dbgPage / 0x1000) →
        exec .dbgRead s = .next { s with dev := setR d (dbgPage + 0x110) 4 } ∧ exec .dbgWrite s = .next { s with dev := setR d (dbgPage + 0x110) 4 }))

/-- A register of plain storage (R576): a write of a source that reaches it keeps the bits that its mask has, and every other register keeps its
value; the LO half of a 64-bit pair is held for its source and no register changes (R593). A counter that clears when read (R8, R10, R118): the read
answers its value and leaves zero. -/
def Obligations.PlainRegistersAndCounters : Prop :=
  (
    ∀ (src off : Nat) (v : Reg) (s : State), let page := off / 0x1000; let r := off % 0x1000
      src < 3 → off < 2 ^ 24 → off % 4 = 0 → 0x10000 ≤ off → sigWindowHall off = none → (pageInfo page).isSome = true → 0x100 ≤ r → off ≠ dbgPage + 0x10C →
        reaches s.dev src page = true → (src = 1 → page ≠ dbgPage / 0x1000) → (src = 0 → s.dev.boot.running = true ∨ earlyPage page = true) →
        (pairLo page r = false → pairHi page r = false → rwMask page r ≠ 0 →
          ∃ t, exec (.registerWrite src off v) s = .next t ∧ getR t.dev off = v.toNat &&& rwMask page r ∧ (∀ o, o ≠ off → getR t.dev o = getR s.dev o)
            ∧ t.dev.hdrs = s.dev.hdrs ∧ t.dev.stack = s.dev.stack ∧ t.dev.cores = s.dev.cores)
        ∧ (pairLo page r = true → (pairMask page r).isSome = true →
          ∃ t, exec (.reg64LoWrite src off v) s = .next t ∧ t.dev.regs = s.dev.regs
            ∧ (hdr t.dev page).hold.find? (fun e => e.1 == src) = some (src, ⟨off, v⟩) ∧ ∀ q, q ≠ page → hdr t.dev q = hdr s.dev q))
  ∧ (
    ∀ (src off : Nat) (s : State), let page := off / 0x1000; let r := off % 0x1000
      src < 3 → off < 2 ^ 24 → off % 4 = 0 → 0x10000 ≤ off → sigWindowHall off = none → 0x100 ≤ r → isRC page r = true → pairLo page r = false →
        pairHi page r = false → blockView s.dev page r = none → reaches s.dev src page = true → s.dev.boot.stage = 0 →
        s.dev.boot.pm = 0 →
        ∃ t, exec (.rcRead src off) s = .next t ∧ tget 0 t.dev.readOut src = BitVec.ofNat 32 (getR s.dev off) ∧ getR t.dev off = 0
          ∧ ∀ o, o ≠ off → getR t.dev o = getR s.dev o)

/-- The header's controls (R583 to R589): ENABLE of a page whose unit no job uses, SOFT_RESET and its end, FENCE, LOCK, and the clear of ERROR. A
control of a page in use is refused with CONFIG recorded, a locked page binds the Foyer and the debugger, and a control that the page does not have does
nothing. -/
def Obligations.HeaderControls : Prop :=
  ∀ (src page : Nat) (s : State), let d := s.dev; let h := hdr d page
    src < 3 → page < 4096 →
      (∀ on, enableCap (pageType page) = true → bound d src page = false → (on = true ∨ pageInUse d page = false) → h.enable ≠ on →
        let a := setHdr d page { h with enable := on }
        exec (.blkEnable src page on) s = .next { s with dev := (pageLinks page).foldl (fun d e =>
          if linkFenced d e.1 e.2 = true ∨ d.boot.logicReady = false then d
          else if on then (if linkOn d e.1 e.2 then trainLink d e.1 e.2 else d)
          else leaveIdle d e.1 e.2 false ((pageLinks page).length != 1)) a })
      ∧ (∀ on, (enableCap (pageType page) = false ∨ bound d src page = true ∨ h.enable = on) → exec (.blkEnable src page on) s = .next s)
      ∧ (enableCap (pageType page) = true → bound d src page = false → h.enable = true → pageInUse d page = true →
        exec (.blkEnable src page false) s = .next { s with dev := configErr d page })
      ∧ (resetCap (pageType page) = true → pageInUse d page = false → pageType page ≠ 8 → pageType page ≠ 9 →
        ∃ t, exec (.softReset src page) s = .next t ∧ (hdr t.dev page).lock = h.lock ∧ (hdr t.dev page).scratch = h.scratch
          ∧ (hdr t.dev page).errCount = h.errCount ∧ (hdr t.dev page).enable = true ∧ (hdr t.dev page).resetting = true ∧ t.dev.stack = d.stack)
      ∧ ((pageType page = 8 ∨ pageType page = 9) → pageInUse d page = false →
        let a := setHdr { d with regs := tdrop (fun o => o / 0x1000 == page) d.regs } page
          { lock := h.lock, resetting := true, errCount := h.errCount, scratch := h.scratch, genAck := d.plan.changes }
        exec (.softReset src page) s = .next { s with dev := resetBlock a page })
      ∧ (resetCap (pageType page) = false → exec (.softReset src page) s = .next s)
      ∧ (resetCap (pageType page) = true → pageInUse d page = true → exec (.softReset src page) s = .next { s with dev := configErr d page })
      ∧ (let training := pageType page = 9 ∧ ∃ e ∈ pageLinks page, (link d e.1 e.2).st = 5
        (h.resetting = true → ¬training → exec (.softResetDone page) s = .next { s with dev := setHdr d page { h with resetting := false } })
        ∧ ((h.resetting = false ∨ training) → exec (.softResetDone page) s = .next s))
      ∧ (∀ r, fenceCap (pageType page) = true → bound d src page = false → pageUnit page = some r →
        exec (.blkFence src page true) s = .next { s with dev := requestFence d r 4 0 } ∧ exec (.blkFence src page false) s = .next s)
      ∧ ((fenceCap (pageType page) = false ∨ bound d src page = true ∨ pageUnit page = none) → ∀ on, exec (.blkFence src page on) s = .next s)
      ∧ ((pageInfo page).isSome = false → exec (.lockPage src page) s = .next s ∧ exec (.errorClear src page) s = .next s)
      ∧ ((pageInfo page).isSome = true → exec (.lockPage src page) s = .next { s with dev := setHdr d page { h with lock := true } })
      ∧ ((pageInfo page).isSome = true → ∃ t, exec (.errorClear src page) s = .next t ∧ (hdr t.dev page).errCode = 0 ∧ (hdr t.dev page).errAddr = 0
        ∧ (hdr t.dev page).evt = h.evt &&& 0xFFFFFFFE ∧ (hdr t.dev page).errCount = h.errCount ∧ t.dev.regs = d.regs
        ∧ ∀ q, q ≠ page → hdr t.dev q = hdr d q)

/-- The responses of the Porter's two transports (R540, R541): the sideband holds the response for the next read, and the mailbox has it in MBX_RESP
with BUSY clear and DONE set; the memories, the cores and the jobs are unchanged. Refusals of every message of the set (R518, R526, R539):
a wrong length answers BAD_LEN, a Porter that restarts, or that has a request waiting, answers BUSY on the sideband, recovery refuses all but GET_STATUS
and the FW_ messages, and a transport without power answers nothing. -/
def Obligations.PorterResponses : Prop :=
  (
    ∀ (d : Device) (cmd status : Nat) (payload : List Byte),
      (respond d .sideband cmd status payload = { d with porter := { d.porter with side := some (status, cmd, payload) } })
      ∧ (payload.length ≤ 1276 → cmd < 256 → status < 256 → let e := respond d .mailbox cmd status payload
        regRead e (porterPage + 0x900) (4 + payload.length) = toLE 1 status ++ toLE 1 cmd ++ toLE 2 payload.length ++ payload
        ∧ e.porter.mbxBusy = false ∧ e.porter.mbxDone = true ∧ e.stack = d.stack ∧ e.cores = d.cores ∧ e.jobs = d.jobs
        ∧ ∀ o, (o < porterPage + 0x900 ∨ porterPage + 0xE00 ≤ o) → getR e o = getR d o))
  ∧ (
    ∀ (t : Transport) (p : List Byte) (fresh : Option (BitVec 16)) (s : State), let d := listening s.dev t
      ∀ row ∈ [(Instr.getStatus t p, 1, 0, 0), (.alertAck t p, 2, 4, 4), (.readSensor t p fresh, 3, 2, 2), (.setChassisTemp t p, 4, 4, 4),
          (.readLog t p, 5, 5, 5), (.wakeMsg t p, 6, 0, 0), (.resetModule t p, 7, 1, 1), (.setRtc t p, 8, 8, 8), (.setAlarm t p, 9, 8, 8),
          (.fwBegin t p, 0x10, 5, 5), (.fwData t p, 0x11, 4, if t = .sideband then 255 else 1028), (.fwVerify t p, 0x12, 0, 0),
          (.fwActivate t p, 0x13, 0, 0), (.fwCommit t p, 0x14, 1, 1), (.getIdentity t p, 0x20, 4, 4), (.attestReq t p, 0x21, 48, 48),
          (.attestRead t p, 0x22, 4, 4), (.fenceUnit t p, 0x30, 5, 5), (.releaseUnit t p, 0x31, 5, 5), (.selfTest t p, 0x32, 5, 5)],
        let c := row.1; let cmd := row.2.1
        (heard s.dev t cmd p = true → (p.length < row.2.2.1 ∨ row.2.2.2 < p.length) → exec c s = .next { s with dev := respond d t cmd 2 [] })
        ∧ (t = .sideband → (s.dev.boot.vin = false ∨ s.dev.boot.pm = 4) → exec c s = .next s)
        ∧ (t = .sideband → s.dev.boot.vin = true → s.dev.boot.pm ≠ 4 →
          let busy := s.dev.porter.waits.any (fun w => w.1 == t) || (!d.boot.porterReady && !d.boot.recovery)
          (busy = true → exec c s = .next { s with dev := respond d t cmd 1 [] })
          ∧ (busy = false → d.boot.recovery = true → cmd ≠ 1 → (cmd < 0x10 ∨ 0x14 < cmd) → exec c s = .next { s with dev := respond d t cmd 4 [] }))
        ∧ (t = .mailbox → heard s.dev t cmd p = false → exec c s = .next s))

/-- The messages that read (R534, R542, R545, R546): status, the log, the identity, a report that is ready, a sensor's last sample, each in the
answer's layout; WAKE acts as the transport's wake cause. Attestation (R546): a request holds the report over its nonce, signed twice, and the report
is ready when it has been formed; a module that sleeps refuses it. An argument out of range answers BAD_ARG. A sensor that has no sample answers an open value
(the model's choice, DEDUCED, notes/assumptions/52.md). -/
def Obligations.PorterQueries : Prop :=
  (
    ∀ (t : Transport) (p : List Byte) (s : State), let d := listening s.dev t
      (heard s.dev t 1 p = true → p = [] →
        let w := powerByte d; let h := hottest w.2
        exec (.getStatus t p) s = .next { s with dev := respond h.2 t 1 0 (toLE 1 w.1 ++ toLE 1 (coolClass d) ++ toLE 1 (b2n d.boot.recovery)
          ++ toLE 1 (b2n d.boot.porterReady) ++ toLE 4 d.plan.gen ++ toLE 4 (getR d (porterPage + 0x108)) ++ toLE 2 (getR d (pwrPage 0 + 0x11C))
          ++ toLE 2 h.1) })
      ∧ (heard s.dev t 5 p = true → p.length = 5 → 1 ≤ leAt p 4 1 → leAt p 4 1 ≤ (if t = .sideband then 3 else 16) →
        exec (.readLog t p) s = .next { s with dev := respond d t 5 0 (((d.logRing ++ d.logFront).filter
          (fun r => (r.seq + 2 ^ 32 - leAt p 0 4) % 2 ^ 32 < leAt p 4 1)).map recordBytes).flatten })
      ∧ (heard s.dev t 5 p = true → p.length = 5 → (leAt p 4 1 = 0 ∨ (if t = .sideband then 3 else 16) < leAt p 4 1) →
        exec (.readLog t p) s = .next { s with dev := respond d t 5 3 [] })
      ∧ (heard s.dev t 0x20 p = true → p.length = 4 → 17120 ≤ ofLE p → exec (.getIdentity t p) s = .next { s with dev := respond d t 0x20 3 [] })
      ∧ (heard s.dev t 0x22 p = true → p.length = 4 → asleep d = false → d.porter.attest = 2 → 16928 ≤ ofLE p →
        exec (.attestRead t p) s = .next { s with dev := respond d t 0x22 3 [] })
      ∧ (heard s.dev t 0x20 p = true → p.length = 4 → ofLE p < 17120 →
        exec (.getIdentity t p) s = .next { s with dev := respond d t 0x20 0 (((Config.identity.take 17120).drop (ofLE p)).take (replyMax t)) })
      ∧ (heard s.dev t 0x22 p = true → p.length = 4 → asleep d = false → d.porter.attest = 2 → ofLE p < 16928 →
        exec (.attestRead t p) s = .next { s with dev := respond d t 0x22 0 (((d.porter.report.take 16928).drop (ofLE p)).take (replyMax t)) })
      ∧ (heard s.dev t 3 p = true → p.length = 2 → ∃ r, exec (.readSensor t p none) s = .next r
        ∧ (sensorDesc (ofLE p) = none → r.dev = respond d t 3 3 [])
        ∧ (∀ x k v, sensorDesc (ofLE p) = some x → d.porter.samples.find? (fun e => e.1 == ofLE p) = some (k, v) →
          r.dev = respond d t 3 0 (toLE 2 v.1 ++ toLE 4 (min (porterTicks d - v.2) 0xFFFFFFFF)
            ++ toLE 1 (1 + 4 * b2n (pastLimit x x.warn v.1) + 8 * b2n (pastLimit x x.trip v.1))))
        ∧ (∀ x, sensorDesc (ofLE p) = some x → d.porter.samples.find? (fun e => e.1 == ofLE p) = none →
          r.dev = respond (freeVal d).2 t 3 0 (toLE 2 (freeVal d).1.toNat ++ toLE 4 ((freeVal d).1.toNat / 65536) ++ [0])))
      ∧ (∀ v : BitVec 16, heard s.dev t 3 p = true → p.length = 2 →
        (sensorDesc (ofLE p) = none → exec (.readSensor t p (some v)) s = .next { s with dev := respond d t 3 3 [] })
        ∧ (∀ x, sensorDesc (ofLE p) = some x → (x.locKind = 1 ∨ 5 ≤ x.locKind ∨ d.boot.oscReady = false ∨ asleep d = true) →
          exec (.readSensor t p (some v)) s = .next { s with dev := finish t 3 (sensorReply d (ofLE p) x false) }))
      ∧ (∀ v : BitVec 16, heard s.dev t 3 p = true → p.length = 2 → d.boot.oscReady = true → asleep d = false →
        ∃ r, exec (.readSensor t p (some v)) s = .next r ∧ (∀ x, sensorDesc (ofLE p) = some x → x.locKind ≠ 1 → x.locKind < 5 →
          r.dev = finish t 3 (sensorReply (sensorSample d (ofLE p) v.toNat) (ofLE p) x true)))
      ∧ (heard s.dev t 6 p = true → p = [] →
        exec (.wakeMsg t p) s = .next { s with dev := finish t 6 (answer (wake d (if t = .sideband then 3 else 4)) 0 [] true) }))
  ∧ (
    ∀ (t : Transport) (p : List Byte) (s : State), let d := listening s.dev t
      (heard s.dev t 0x21 p = true → p.length = 48 → asleep d = false →
        ∃ r, exec (.attestReq t p) s = .next r ∧ r.dev.porter.attest = 1 ∧ r.dev.porter.nonce = p
          ∧ r.dev.porter.report = reportHead d p ++ Config.rsaSign (reportHead d p) ++ Config.slhSign (reportHead d p) ∧ r.dev.stack = d.stack)
      ∧ (asleep d = true → p.length = 48 → heard s.dev t 0x21 p = true → exec (.attestReq t p) s = .next { s with dev := respond d t 0x21 4 [] })
      ∧ (asleep d = true → p.length = 4 → heard s.dev t 0x22 p = true → exec (.attestRead t p) s = .next { s with dev := respond d t 0x22 4 [] })
      ∧ (s.dev.porter.attest ≠ 1 → exec .attestReady s = .next s)
      ∧ (s.dev.porter.attest = 1 → exec .attestReady s = .next { s with dev := { s.dev with porter := { s.dev.porter with attest := 2 } } })
      ∧ (heard s.dev t 0x22 p = true → p.length = 4 → asleep d = false → d.porter.attest = 0 → exec (.attestRead t p) s = .next { s with dev := respond d t 0x22 7 [] })
      ∧ (heard s.dev t 0x22 p = true → p.length = 4 → asleep d = false → d.porter.attest = 1 → exec (.attestRead t p) s = .next { s with dev := respond d t 0x22 1 [] }))

/-- The messages that control (R534, R537, R542 to R544, R624): the RTC and its alarm, the alert causes, the chassis temperatures, fences, releases
and tests of units, and the module's reset. A unit that does not exist answers BAD_ARG, and a command that the set does not list answers UNKNOWN_CMD. -/
def Obligations.PorterControls : Prop :=
  ∀ (t : Transport) (p : List Byte) (s : State), let d := listening s.dev t
    (heard s.dev t 2 p = true → p.length = 4 →
      exec (.alertAck t p) s = .next { s with dev := finish t 2 (answer (alertClear d (ofLE p)) 0 (toLE 4 (getR d (porterPage + 0x108))) true) })
    ∧ (heard s.dev t 4 p = true → p.length = 4 → t = .sideband →
      exec (.setChassisTemp t p) s = .next { s with dev := finish t 4 (answer (chassisTemp (chassisTemp d 4 (leAt p 0 2)) 5 (leAt p 2 2)) 0 [] true) })
    ∧ (heard s.dev t 4 p = true → p.length = 4 → t = .mailbox → exec (.setChassisTemp t p) s = .next { s with dev := respond d t 4 4 [] })
    ∧ (∀ x : Byte, heard s.dev t 7 p = true → p = [x] → x ≠ 0xA5 → exec (.resetModule t p) s = .next { s with dev := respond d t 7 3 [] })
    ∧ (p.length = 5 → unitOf p = none →
      (heard s.dev t 0x30 p = true → exec (.fenceUnit t p) s = .next { s with dev := respond d t 0x30 3 [] })
      ∧ (heard s.dev t 0x31 p = true → exec (.releaseUnit t p) s = .next { s with dev := respond d t 0x31 3 [] })
      ∧ (heard s.dev t 0x32 p = true → exec (.selfTest t p) s = .next { s with dev := respond d t 0x32 3 [] }))
    ∧ (heard s.dev t 8 p = true → p.length = 8 → ∃ r, exec (.setRtc t p) s = .next r ∧ get64 r.dev (porterPage + 0x118) = ofLE p ∧ r.dev.stack = d.stack)
    ∧ (heard s.dev t 9 p = true → p.length = 8 → ∃ r, exec (.setAlarm t p) s = .next r ∧ r.dev.porter.alarm = ofLE p ∧ r.dev.stack = d.stack)
    ∧ (heard s.dev t 7 p = true → p = [0xA5] →
      exec (.resetModule t p) s = .next { s with dev := moduleReset (if t = .sideband then log d 11 0 (toLE 1 7 ++ toLE 1 0) else d) 2 })
    ∧ (∀ r, heard s.dev t 0x30 p = true → p.length = 5 → unitOf p = some r →
      exec (.fenceUnit t p) s = .next { s with dev := finish t 0x30 (answer (requestFence d r 4 0) 0 [] true) })
    ∧ (∀ r, heard s.dev t 0x31 p = true → p.length = 5 → unitOf p = some r →
      ((∀ f ∈ d.plan.maps.fences, f.unit ≠ r) → exec (.releaseUnit t p) s = .next { s with dev := finish t 0x31 (askTest t 0x31 2 r d) })
      ∧ (∀ f, d.plan.maps.fences.find? (fun f => f.unit == r) = some f → f.reason ≠ 0 →
        exec (.releaseUnit t p) s = .next { s with dev := finish t 0x31 (askTest t 0x31 1 r d) })
      ∧ (∀ f, d.plan.maps.fences.find? (fun f => f.unit == r) = some f → f.reason = 0 →
        exec (.releaseUnit t p) s = .next { s with dev := respond d t 0x31 4 [] }))
    ∧ (∀ r, heard s.dev t 0x32 p = true → p.length = 5 → unitOf p = some r →
      exec (.selfTest t p) s = .next { s with dev := finish t 0x32 (askTest t 0x32 2 r d) })
    ∧ (∀ cmd : Byte, cmd.toNat ∈ messageSet → exec (.unknownCmd t cmd p) s = .next s)
    ∧ (∀ cmd : Byte, cmd.toNat ∉ messageSet →
      (t = .sideband → (s.dev.boot.vin = false ∨ s.dev.boot.pm = 4) → exec (.unknownCmd t cmd p) s = .next s) ∧
      (t = .sideband → s.dev.boot.vin = true → s.dev.boot.pm ≠ 4 →
        (s.dev.porter.waits.any (fun w => w.1 == t) = true ∨ (s.dev.boot.porterReady = false ∧ s.dev.boot.recovery = false)) →
        exec (.unknownCmd t cmd p) s = .next { s with dev := respond d t cmd.toNat 1 [] }) ∧
      (t = .mailbox → heard s.dev t cmd.toNat p = false → exec (.unknownCmd t cmd p) s = .next s) ∧
      (t = .sideband → s.dev.boot.vin = true → s.dev.boot.pm ≠ 4 → s.dev.porter.waits.any (fun w => w.1 == t) = false →
        (s.dev.boot.porterReady = true ∨ s.dev.boot.recovery = true) →
        exec (.unknownCmd t cmd p) s = .next { s with dev := respond d t cmd.toNat 6 [] })
      ∧ (t = .mailbox → heard s.dev t cmd.toNat p = true → exec (.unknownCmd t cmd p) s = .next { s with dev := respond d t cmd.toNat 6 [] }))

/-- Firmware update (R524, R526 to R532): a session opens over a slot erased, takes bytes, verifies an image by every check, activates it in TRIAL
with TRIES 0, and a commit raises the fused counter; a session that times out leaves no valid image; an image that fails is rejected. A message of the
other transport, after a fuse failure, without a session or out of its turn is refused, and an argument out of range answers BAD_ARG. -/
def Obligations.FirmwareUpdate : Prop :=
  (∀ (t : Transport) (p : List Byte) (s : State), let d := listening s.dev t; let shut := fwRefused d t = true
    let no (cmd st : Nat) : State := { s with dev := respond d t cmd st [] }
    (heard s.dev t 0x10 p = true → p.length = 5 →
      let kind := leAt p 0 1; let barred := shut ∨ (d.boot.recovery = true ∧ kind = 2)
      (barred → exec (.fwBegin t p) s = .next (no 0x10 4))
      ∧ (¬barred → ((kind ≠ 1 ∧ kind ≠ 2) ∨ slotSize kind < leAt p 1 4) → exec (.fwBegin t p) s = .next (no 0x10 3)))
    ∧ (heard s.dev t 0x11 p = true → 4 ≤ p.length → p.length ≤ (if t = .sideband then 255 else 1028) →
      ((shut ∨ d.porter.session = none) → exec (.fwData t p) s = .next (no 0x11 4))
      ∧ (∀ x, ¬shut → d.porter.session = some x → x.len < leAt p 0 4 + (p.length - 4) → exec (.fwData t p) s = .next (no 0x11 3)))
    ∧ (heard s.dev t 0x12 p = true → p = [] → (shut ∨ d.porter.session = none ∨ asleep d = true) → exec (.fwVerify t p) s = .next (no 0x12 4))
    ∧ (heard s.dev t 0x13 p = true → p = [] → (shut ∨ asleep d = true ∨ ∀ x ∈ d.porter.session, x.verified = false) →
      exec (.fwActivate t p) s = .next (no 0x13 4))
    ∧ (heard s.dev t 0x14 p = true → p.length = 1 →
      let kind := leAt p 0 1
      ((shut ∨ asleep d = true) → exec (.fwCommit t p) s = .next (no 0x14 4))
      ∧ (¬shut → asleep d = false → kind ≠ 1 → kind ≠ 2 → exec (.fwCommit t p) s = .next (no 0x14 3))
      ∧ ((kind = 1 ∨ kind = 2) → (inTrial d kind = true ∨ (d.boot.recovery = true ∧ kind = 2)) → exec (.fwCommit t p) s = .next (no 0x14 4)))
    ∧ (s.dev.boot.vin = false → exec .fwSessionTimeout s = .next s)
    ∧ (s.dev.porter.session = none → exec .fwSessionTimeout s = .next s))
  ∧ (∀ (t : Transport) (p : List Byte) (s : State), let d := listening s.dev t
    fwRefused d t = false →
    (heard s.dev t 0x10 p = true → p.length = 5 → (leAt p 0 1 = 1 ∨ leAt p 0 1 = 2 ∧ d.boot.recovery = false) → leAt p 1 4 ≤ slotSize (leAt p 0 1) →
      ∃ r, exec (.fwBegin t p) s = .next r ∧ r.dev.porter.session = some { via := t, kind := leAt p 0 1, len := leAt p 1 4 }
        ∧ tget {} r.dev.porter.slots (2 * leAt p 0 1 + (1 - activeSlot d (leAt p 0 1))) = { shipped := false, len := leAt p 1 4 }
        ∧ r.dev.porter.act = d.porter.act ∧ r.dev.porter.svn = d.porter.svn)
    ∧ (∀ x, heard s.dev t 0x11 p = true → 4 ≤ p.length → p.length ≤ (if t = .sideband then 255 else 1028) → d.porter.session = some x →
      leAt p 0 4 + (p.length - 4) ≤ x.len →
      ∃ r, exec (.fwData t p) s = .next r ∧ r.dev.porter.session = some { x with verified := false } ∧ r.dev.porter.svn = d.porter.svn
        ∧ ∀ i, i < p.length - 4 → tget 0xFF (tget {} r.dev.porter.slots (2 * x.kind + (1 - activeSlot d x.kind))).bytes (leAt p 0 4 + i) = p.getD (4 + i) 0)
    ∧ (∀ x, heard s.dev t 0x12 p = true → p = [] → d.porter.session = some x → asleep d = false →
      ∃ r, exec (.fwVerify t p) s = .next r ∧ r.dev.porter.session = some { x with verified := imageOk d x.kind (1 - activeSlot d x.kind) }
        ∧ r.dev.porter.slots = d.porter.slots ∧ r.dev.porter.act = d.porter.act)
    ∧ (∀ x, heard s.dev t 0x13 p = true → p = [] → d.porter.session = some x → asleep d = false → x.verified = true →
      ∃ r, exec (.fwActivate t p) s = .next r ∧ r.dev.porter.session = none ∧ activeSlot r.dev x.kind = 1 - activeSlot d x.kind
        ∧ inTrial r.dev x.kind = true ∧ tget 9 r.dev.porter.tries x.kind = 0 ∧ r.dev.porter.svn = d.porter.svn
        ∧ (x.kind = 1 → r.dev.boot.porterReady = false))
    ∧ (∀ kind, heard s.dev t 0x14 p = true → p = [BitVec.ofNat 8 kind] → (kind = 1 ∨ kind = 2 ∧ d.boot.recovery = false) → asleep d = false →
      inTrial d kind = false →
      ∃ r, exec (.fwCommit t p) s = .next r ∧ fusedSvn r.dev kind = max (fusedSvn d kind) (min 64 (imageSvn d kind (activeSlot d kind)))
        ∧ (∀ k, k ≠ kind → fusedSvn r.dev k = fusedSvn d k) ∧ r.dev.porter.slots = d.porter.slots)
    ∧ (∀ x, s.dev.boot.vin = true → s.dev.porter.session = some x →
      ∃ r, exec .fwSessionTimeout s = .next r ∧ r.dev.porter.session = none
        ∧ tget {} r.dev.porter.slots (2 * x.kind + (1 - activeSlot s.dev x.kind)) = { shipped := false } ∧ r.dev.regs = s.dev.regs))

/-- Voltage and frequency (R492 to R496): a request settles the hall's target at the lowest of the requests that count, a step in progress ends and
the next one toward the target starts, the clock is never above what its voltage allows for the confirmed step, and an override is taken, deferred or
refused. A hall's change of frequency (R494): the clock rises only when the voltage is at least the fused minimum for the new frequency, and the
voltage falls only when the clock has reached its target. Before the clocks have locked a request is only kept, and no step ends where none is in progress. -/
def Obligations.VoltageAndFrequency : Prop :=
  (
    ∀ (h : Nat) (s : State), let d := s.dev; let x := dvfs d h
      h < 18 →
        (∀ (who : Nat) (v : Reg), who < 4 → d.boot.oscReady = true → ∃ t, exec (.dvfsRequest h who v) s = .next t
          ∧ getR t.dev (dvfsWin h + 4 * who) = v.toNat % 4096 ∧ (∀ k, k < 4 → effReq t.dev h k ≠ 0 → (dvfs t.dev h).target ≤ effReq t.dev h k)
          ∧ (dvfs t.dev h).target ≤ maxArith d ∧ (∀ g, g ≠ h → dvfs t.dev g = dvfs d g) ∧ t.dev.stack = d.stack)
        ∧ (∀ (who : Nat) (v : Reg), who < 4 → d.boot.oscReady = false →
          exec (.dvfsRequest h who v) s = .next { s with dev := setR d (dvfsWin h + 4 * who) (v.toNat % 4096) })
        ∧ (x.phase = 0 → exec (.dvfsStepDone h) s = .next s)
        ∧ (x.phase ≠ 0 →
          let y := nextStep h (if x.phase = 1 ∨ x.phase = 4 then clockAt h x.goal x else { x with volt := x.vGoal })
          ∃ t, exec (.dvfsStepDone h) s = .next t ∧ dvfs t.dev h = y ∧ (∀ g, g ≠ h → dvfs t.dev g = dvfs d g)
            ∧ (y.phase = 0 → getR t.dev (dvfsWin h + 0x1C) = min (getR d (dvfsWin h + 0x1C) + 1) 0xFFFFFFFF))
        ∧ (∀ v : Reg, let n := v.toNat % 4096
          let e : Device :=
            if n = 0 then setDvfs d h (ovrApply h { x with ovr := 0, ovrWait := 0 })
            else if minV h x.cur ≤ n ∧ minV h x.target ≤ n then setDvfs d h (ovrApply h { x with ovr := n, ovrWait := 0 })
            else if minV h x.target ≤ n ∧ x.target < x.cur then setDvfs d h { x with ovrWait := n }
            else recordErr d (pwrPage 1) 15 h
          exec (.voltOvrWrite h v) s = .next { s with dev := e }))
  ∧ (
    ∀ (h : Nat) (x : Dvfs), let y := nextStep h x
      (y.phase = 4 → x.cur < y.goal ∧ minV h y.goal ≤ x.volt) ∧ (y.phase = 1 → y.goal < x.cur) ∧ (y.phase = 2 → x.cur = x.target ∧ y.vGoal < x.volt)
      ∧ y.cur = x.cur ∧ y.volt = x.volt ∧ y.target = x.target
      ∧ (x.cur = x.target → x.volt = targetVolt h x → y.phase = 0))

/-- The loops and the trip (R499 to R503): THERM_TARGET takes 85.0 °C to 100.0 °C and no other value, the thermal loop acts on every active hall, the
power loop lowers every active hall's request above the ceiling, the limiter starts at one edge in 8, and a sensor at its trip point removes the
rails. A loop that does not run, a limiter without clocks, and a sample below its trip point change nothing. -/
def Obligations.LoopsAndTrip : Prop :=
  ∀ (s : State), let d := s.dev
    (∀ v : Reg, (340 ≤ v.toNat % 65536 → v.toNat % 65536 ≤ 400 →
        exec (.thermTargetWrite v) s = .next { s with dev := setR d (pwrPage 0 + 0x120) (v.toNat % 65536) })
      ∧ ((v.toNat % 65536 < 340 ∨ 400 < v.toNat % 65536) → exec (.thermTargetWrite v) s = .next s))
    ∧ (loopsRun d = false → exec .thermalLoop s = .next s ∧ ∀ w, w < 65536 → exec (.powerLoop w) s = .next s)
    ∧ (∀ w, loopsRun d = true → w < 65536 → d.porter.rails ≠ [] →
      exec (.powerLoop w) s = .next { s with dev := setR { d with boot := { d.boot with limSeen := getR d (pwrPage 0 + 0x124) != 0 } } (pwrPage 0 + 0x11C) w })
    ∧ (loopsRun d = true → let a : Device := { d with porter := { d.porter with hot := hotStacks d } }
      exec .thermalLoop s = .next { s with dev := (activeHalls a).foldl thermalHall a })
    ∧ (∀ w, loopsRun d = true → w < 65536 → d.porter.rails = [] →
      let b : Boot := { d.boot with limSeen := getR d (pwrPage 0 + 0x124) != 0 }
      let a := setR { d with boot := b } (pwrPage 0 + 0x11C) w
      (ceiling a < w → exec (.powerLoop w) s
        = .next { s with dev := (activeHalls a).foldl (fun d h => dvfsReq d h 3 (lowered d h 3 (if s.dev.boot.limSeen then 50 else 25))) a })
      ∧ (w * 100 < ceiling a * 95 → exec (.powerLoop w) s = .next { s with dev := (activeHalls a).foldl (fun d h =>
        if getR d (dvfsWin h + 0xC) = 0 then d else dvfsReq d h 3 (raised d h 3)) a })
      ∧ (w ≤ ceiling a → ceiling a * 95 ≤ w * 100 → exec (.powerLoop w) s = .next { s with dev := a }))
    ∧ (∀ w, w < 65536 → d.boot.oscReady = true → d.boot.tripped = false → ceiling d * 110 < w * 100 → getR d (pwrPage 0 + 0x124) = 0 →
      ∃ t, exec (.currentLimiterCheck w) s = .next t ∧ getR t.dev (pwrPage 0 + 0x124) = 1
        ∧ getR t.dev (pwrPage 0 + 0x128) = min (getR d (pwrPage 0 + 0x128) + 1) 0xFFFFFFFF ∧ t.dev.dvfs = d.dvfs ∧ t.dev.stack = d.stack)
    ∧ (∀ w, w < 65536 → d.boot.oscReady = true → d.boot.tripped = false → let r := pwrPage 0 + 0x124; let k := getR d r; let b := d.boot
      let still : Device := { d with boot := { b with limHigh := 0, limLow := 0 } }
      (ceiling d * 110 < w * 100 → k ≠ 0 → b.limHigh < 3 →
        exec (.currentLimiterCheck w) s = .next { s with dev := limCount { d with boot := { b with limHigh := b.limHigh + 1, limLow := 0 } } })
      ∧ (ceiling d * 110 < w * 100 → k ≠ 0 → 3 ≤ b.limHigh →
        exec (.currentLimiterCheck w) s = .next { s with dev := limCount (setR still r (min 4 (k + 1))) })
      ∧ (w * 100 ≤ ceiling d * 110 → w < ceiling d → k ≠ 0 → b.limLow < 39 →
        exec (.currentLimiterCheck w) s = .next { s with dev := limCount { d with boot := { b with limHigh := 0, limLow := b.limLow + 1 } } })
      ∧ (w * 100 ≤ ceiling d * 110 → w < ceiling d → k ≠ 0 → 39 ≤ b.limLow →
        exec (.currentLimiterCheck w) s = .next { s with dev := limCount (setR still r (k - 1)) })
      ∧ (w * 100 ≤ ceiling d * 110 → (ceiling d ≤ w ∨ k = 0) → exec (.currentLimiterCheck w) s = .next { s with dev := limCount still }))
    ∧ (∀ w, w < 65536 → (d.boot.oscReady = false ∨ d.boot.tripped = true) → exec (.currentLimiterCheck w) s = .next s)
    ∧ (∀ (n : Nat) (v : BitVec 16), n < 38 → (d.boot.vin = false ∨ d.boot.tripped = true ∨ d.boot.pm = 4
      ∨ signed 16 v.toNat < (if n < 22 then 460 else 440)) → exec (.thermalTrip n v) s = .next s)
    ∧ (∀ (n : Nat) (v : BitVec 16), n < 22 → d.boot.vin = true → d.boot.tripped = false → d.boot.pm ≠ 4 → 460 ≤ signed 16 v.toNat →
      ∃ t, exec (.thermalTrip n v) s = .next t ∧ t.dev.boot.tripped = true ∧ t.dev.boot.vrPgood = false ∧ t.dev.boot.running = false ∧ t.dev.cores = []
        ∧ t.dev.jobs = [] ∧ fld (getR t.dev (porterPage + 0x108)) 2 2 = 1)
    ∧ (∀ (n : Nat) (v : BitVec 16), 22 ≤ n → n < 38 → d.boot.vin = true → d.boot.tripped = false → d.boot.pm ≠ 4 → 440 ≤ signed 16 v.toNat →
      ∃ t, exec (.thermalTrip n v) s = .next t ∧ t.dev.boot.tripped = true ∧ t.dev.boot.vrPgood = false ∧ t.dev.cores = [] ∧ t.dev.jobs = [])

/-- Power states (R504 to R510): a quiescent module starts the entry into the deepest allowed state, each stage of it follows the one before or the
entry is abandoned for a wake, a wake source starts the exit, and the exit's last step returns to RUN; two exits that time out hold the module in
SLEEP. Where there is no entry or exit under way, or an entry is not due, nothing changes. -/
def Obligations.PowerStates : Prop :=
  ∀ (s : State), let d := s.dev; let b := d.boot
    ((b.accepting = false ∨ b.pwrEn = false ∨ b.heldOff = true ∨ b.stage ≠ 0 ∨ b.exit ≠ 0 ∨ quiescent d = false ∨ pmTarget d ≤ b.pm) →
      exec .pmEntryStart s = .next s)
    ∧ ((b.stage = 0 ∨ ∃ e ∈ d.dvfs, e.2.phase ≠ 0) → exec .pmStageDone s = .next s)
    ∧ (b.exit = 0 → exec .pmExitStep s = .next s ∧ exec .pmExitTimeout s = .next s)
    ∧ (b.accepting = true → b.pwrEn = true → b.heldOff = false → b.stage = 0 → b.exit = 0 → quiescent d = true → b.pm < pmTarget d →
      ∃ t, exec .pmEntryStart s = .next t ∧ t.dev.boot.target = pmTarget d ∧ t.dev.boot.stage = depthStages b.pm + 1 ∧ t.dev.boot.pm = b.pm
        ∧ getR t.dev (pwrPage 0 + 0x114) = min (getR d (pwrPage 0 + 0x114) + 1) 0xFFFFFFFF ∧ t.dev.cores = d.cores)
    ∧ (1 ≤ b.stage → b.stage < 6 → b.stage < depthStages b.target → b.wake = 0 → d.dvfs.all (fun e => e.2.phase == 0) = true →
      ∃ t, exec .pmStageDone s = .next t ∧ t.dev.boot.stage = b.stage + 1 ∧ t.dev.boot.done = b.stage ∧ t.dev.stack = d.stack)
    ∧ (1 ≤ b.stage → b.stage ≠ 6 → b.wake ≠ 0 → d.dvfs.all (fun e => e.2.phase == 0) = true →
      let e := stageEffect d b.stage
      exec .pmStageDone s = .next { s with dev := abandonEntry { e with boot := { e.boot with stage := 0, done := b.stage } } b.stage })
    ∧ (1 ≤ b.stage → (6 ≤ b.stage ∨ depthStages b.target ≤ b.stage) → d.dvfs.all (fun e => e.2.phase == 0) = true →
      let e := stageEffect d b.stage
      let r : Device := { e with boot := { e.boot with stage := 0, done := b.stage } }
      (b.wake = 0 → exec .pmStageDone s = .next { s with dev := r })
      ∧ (b.wake ≠ 0 → b.stage = 6 → exec .pmStageDone s = .next { s with dev := { r with boot := startExit r.boot } }))
    ∧ (∀ c, 1 ≤ c → c ≤ 6 → exec (.pmWake c) s = .next { s with dev := wake d c })
    ∧ (b.exit = 1 → exec .pmExitStep s = .next { s with dev := { d with boot := { b with exit := 2, vrPgood := true } } })
    ∧ (b.exit = 2 → exec .pmExitStep s = .next { s with dev := { d with boot := { b with exit := 3 } } })
    ∧ (b.exit = 3 → ∃ t, exec .pmExitStep s = .next t ∧ t.dev.boot.exit = 4 ∧ t.dev.boot.memReady = true ∧ t.dev.stack = d.stack)
    ∧ (4 ≤ b.exit → b.done < 4 → ∃ t, exec .pmExitStep s = .next t ∧ t.dev.boot.exit = 0 ∧ t.dev.boot.pm = 0 ∧ t.dev.boot.logicReady = true
        ∧ t.dev.stack = d.stack ∧ t.dev.cores = d.cores)
    ∧ (4 ≤ b.exit → 4 ≤ b.done → exec .pmExitStep s = .next { s with dev := trainPorts (trainLink (powerRecord { d with boot :=
        { b with exit := 0, exitRetried := false, pm := 0, done := 0, target := 0, logicReady := true } } 0) 6 0) })
    ∧ (b.exit ≠ 0 → b.exitRetried = false → ∃ t, exec .pmExitTimeout s = .next t ∧ t.dev.boot.exit = 1 ∧ t.dev.boot.exitRetried = true)
    ∧ (b.exit ≠ 0 → b.exitRetried = true → ∃ t, exec .pmExitTimeout s = .next t ∧ t.dev.boot.pm = 3 ∧ t.dev.boot.heldOff = true ∧ t.dev.boot.exit = 0)

/-- The PACE page and the sensors (R516, R533, R535): a write of PACE_JOB names the job and clears the page's record; a conversion of a hub sensor is
kept with its tick and checked against its limits. The log and the alarm (R504, R536, R538, R544): a flush moves the records held to the ring, which
loses its oldest 1,024 when it is full; an alarm that the RTC has reached is cleared, raises its alert and drives ALERT_N low. A Porter
that does not run converts and flushes nothing. -/
def Obligations.SensorsLogAndAlarm : Prop :=
  (
    (∀ (h : Nat) (v : Reg) (s : State), h < 18 → ∃ t, exec (.paceJobWrite h v) s = .next t ∧ getR t.dev (pacePage h + 0x100) = v.toNat % 16
        ∧ (∀ o ∈ [0x104, 0x108, 0x10C, 0x110, 0x114, 0x118], getR t.dev (pacePage h + o) = 0)
        ∧ (∀ o, (o < pacePage h + 0x100 ∨ pacePage h + 0x11C ≤ o) → getR t.dev o = getR s.dev o) ∧ t.dev.jobs = s.dev.jobs)
    ∧ (∀ (i : Nat) (v : BitVec 16) (s : State), i < 256 → s.dev.boot.porterReady = true → ∃ t, exec (.sensorConversion i v) s = .next t
        ∧ t.dev.stack = s.dev.stack ∧ t.dev.cores = s.dev.cores ∧ (sensorDesc i = none → t = s)
        ∧ (∀ x, sensorDesc i = some x → x.locKind ≠ 1 → x.locKind < 5 → tget (0, 0) t.dev.porter.samples i = (v.toNat, porterTicks s.dev)
          ∧ (pastLimit x x.warn v.toNat = true → i ∉ s.dev.porter.overWarn → i ∈ t.dev.porter.overWarn ∧ fld (getR t.dev (porterPage + 0x108)) 0 0 = 1))))
  ∧ (∀ (i : Nat) (v : BitVec 16) (s : State), i < 256 → (s.dev.boot.porterReady = false ∨ ∃ x, sensorDesc i = some x ∧ (x.locKind = 1 ∨ 5 ≤ x.locKind)) →
      exec (.sensorConversion i v) s = .next s)
  ∧ (
    ∀ (s : State), let d := s.dev
      (d.boot.porterReady = false → exec .logFlush s = .next s) ∧ ((d.porter.alarm = 0 ∨ d.boot.vin = false) → exec .rtcAlarm s = .next s) ∧
      (d.boot.porterReady = true → (d.logRing ++ d.logFront).length ≤ 1048576 →
        exec .logFlush s = .next { s with dev := { d with logRing := d.logRing ++ d.logFront, logFront := [] } })
      ∧ (d.boot.porterReady = true → 1048576 < (d.logRing ++ d.logFront).length → ∃ t, exec .logFlush s = .next t ∧ t.dev.logFront = []
        ∧ t.dev.logRing = (d.logRing ++ d.logFront).drop 1024 ∧ getR t.dev (porterPage + 0x124) = min (getR d (porterPage + 0x124) + 1024) 0xFFFFFFFF)
      ∧ (d.porter.alarm ≠ 0 → d.boot.vin = true → d.porter.alarm ≤ get64 d (porterPage + 0x118) → ∃ t, exec .rtcAlarm s = .next t ∧ t.dev.porter.alarm = 0
        ∧ fld (getR t.dev (porterPage + 0x108)) 3 3 = 1 ∧ alertLow t.dev = true ∧ t.dev.stack = d.stack ∧ t.dev.cores = d.cores)
      ∧ (get64 d (porterPage + 0x118) < d.porter.alarm → exec .rtcAlarm s = .next s))

/-- Input power and the pins (R607 to R615): applied power samples the straps, its loss, the overvoltage shutdown and the open protection leave the
flash and the fuses alone, PWR_EN enables and removes the rails, and a module reset and WAKE_N act when the module has power. A module reset (R491,
R538, R624): the rails are removed and the Porter restarts; the log, the fuses, the flash and the RTC are kept, the trip clears. A module without input power has none to lose, and power is not applied twice. -/
def Obligations.PowerAndPins : Prop :=
  (
    ∀ (s : State), let d := s.dev; let b := d.boot
      (∀ (cool : BitVec 2) (slot : BitVec 6), b.vin = false → b.protOpen = false → ∃ t, exec (.powerApply cool slot) s = .next t ∧ t.dev.boot.vin = true
          ∧ t.dev.boot.cool = cool.toNat ∧ t.dev.boot.slot = slot.toNat ∧ t.dev.boot.pwrEn = b.pwrEn ∧ t.dev.porter.slots = d.porter.slots
          ∧ t.dev.porter.svn = d.porter.svn ∧ t.dev.logRing = d.logRing ∧ t.dev.stack = {} ∧ t.dev.cores = [] ∧ t.dev.regs = [])
      ∧ (∀ (cool : BitVec 2) (slot : BitVec 6), (b.vin = true ∨ b.protOpen = true) → exec (.powerApply cool slot) s = .next s)
      ∧ (b.vin = false → exec .overvoltageShutdown s = .next s ∧ exec .inputProtectionOpen s = .next s ∧ exec .modResetN s = .next s)
      ∧ (∃ t, exec .powerLoss s = .next t ∧ t.dev.boot.vin = false ∧ t.dev.boot.protOpen = false ∧ t.dev.porter.svn = d.porter.svn
          ∧ t.dev.logRing = d.logRing ∧ t.dev.regs = [] ∧ t.dev.stack = {} ∧ t.dev.porter.session = none)
      ∧ (b.vin = true → ∃ t, exec .overvoltageShutdown s = .next t ∧ t.dev.boot.vin = false ∧ t.dev.boot.protOpen = b.protOpen ∧ t.dev.regs = [])
      ∧ (b.vin = true → ∃ t, exec .inputProtectionOpen s = .next t ∧ t.dev.boot.vin = false ∧ t.dev.boot.protOpen = true ∧ t.dev.regs = [])
      ∧ (exec .pwrEnRise s = .next { s with dev := { d with boot := { b with pwrEn := true } } })
      ∧ (b.pwrEn = true → b.vin = true → b.tripped = false → b.pm ≠ 4 → (b.vrPgood = true ∨ b.pm = 3 ∨ b.exit ≠ 0) → ∃ t, exec .pwrEnFall s = .next t ∧ t.dev.boot.pwrEn = false
          ∧ t.dev.boot.vrPgood = false ∧ t.dev.boot.vin = true ∧ t.dev.cores = [] ∧ t.dev.boot.porterReady = b.porterReady)
      ∧ (b.pwrEn = true → b.vin = true → b.tripped = false → b.pm = 4 → exec .pwrEnFall s = .next { s with dev := { d with boot :=
          { b with pwrEn := false, pm := 0, done := 0, target := 0, cause := 4, entry := true } } })
      ∧ (b.pwrEn = false → exec .pwrEnFall s = .next s)
      ∧ (b.pwrEn = true → (b.tripped = true ∨ b.vin = false ∨ (b.pm ≠ 4 ∧ b.vrPgood = false ∧ b.pm ≠ 3 ∧ b.exit = 0)) → exec .pwrEnFall s = .next { s with dev := { d with boot := { b with pwrEn := false } } })
      ∧ (b.vin = true → exec .modResetN s = .next { s with dev := moduleReset d 1 })
      ∧ (exec .wakeN s = .next { s with dev := wake d 6 }))
  ∧ (
    ∀ (s : State), let d := s.dev
      d.boot.vin = true → d.porter.session = none →
        ∃ t, exec .modResetN s = .next t ∧ t.dev.boot.tripped = false ∧ t.dev.boot.porterReady = false ∧ t.dev.boot.vrPgood = false ∧ t.dev.boot.vin = true
          ∧ t.dev.boot.entry = true ∧ t.dev.cores = [] ∧ t.dev.jobs = [] ∧ t.dev.stack = {} ∧ t.dev.porter.svn = d.porter.svn
          ∧ t.dev.porter.slots = d.porter.slots ∧ get64 t.dev (porterPage + 0x118) = get64 d (porterPage + 0x118))

/-- The Porter's boot (R518, R525, R526, R532): with good fuses and an accepted image in the active slot the Porter is ready and its slot measured;
with no accepted image, failed fuses or no PORTER_READY in time it is in recovery, and its watchdog restarts a running Porter. A slot in TRIAL counts its try, and a Porter that
runs, is in recovery or has no power does not boot. -/
def Obligations.PorterBoots : Prop :=
  ∀ (s : State), let d := s.dev
    (porterDown d = true → inTrial d 1 = false → ∃ t, exec (.porterBoot true) s = .next t ∧ t.dev.porter.mRom = Config.romHash
        ∧ (imageOk d 1 (activeSlot d 1) = true → t.dev.boot.porterReady = true ∧ t.dev.boot.recovery = false
          ∧ tget 9 t.dev.porter.runSlot 1 = activeSlot d 1 ∧ t.dev.porter.mPorter = Config.sha384 (imageBody d 1 (activeSlot d 1)))
        ∧ (imageOk d 1 (activeSlot d 1) = false → imageOk d 1 (1 - activeSlot d 1) = false → t.dev.boot.recovery = true ∧ t.dev.boot.porterReady = false))
    ∧ (porterDown d = true → let r := selectSlot { d with porter := { d.porter with mRom := Config.romHash } } 1
      (r.1 = none → exec (.porterBoot true) s = .next { s with dev := recover r.2.2 false })
      ∧ (∀ k, r.1 = some k → exec (.porterBoot true) s = .next { s with dev := porterUp (runImage r.2.2 1 k) }))
    ∧ (d.boot.porterReady = false → porterDown d = true → let r := selectSlot d 1
      (r.1 = none → exec .watchdogRestart s = .next { s with dev := recover r.2.2 false })
      ∧ (∀ k, r.1 = some k → exec .watchdogRestart s = .next { s with dev := porterRestart r.2.2 1 }))
    ∧ (porterDown d = false → (∀ ok, exec (.porterBoot ok) s = .next s) ∧ exec .porterReadyTimeout s = .next s
      ∧ (d.boot.porterReady = false → exec .watchdogRestart s = .next s))
    ∧ (porterDown d = true → ∃ t, exec (.porterBoot false) s = .next t ∧ t.dev.boot.recovery = true ∧ t.dev.boot.fuseErr = true ∧ t.dev.boot.porterReady = false)
    ∧ (porterDown d = true → exec .porterReadyTimeout s = .next { s with dev := recover d false })
    ∧ (d.boot.porterReady = true → ∃ t, exec .watchdogRestart s = .next t ∧ t.dev.boot.porterReady = false ∧ t.dev.boot.restart = 2
        ∧ t.dev.logFront = [] ∧ t.dev.transients = [] ∧ t.dev.stack = d.stack ∧ t.dev.cores = d.cores)

/-- The stages of bring-up (R622, R625 to R632): each stage that runs sets its ready indication in its order, and a stage that is not due changes
nothing. -/
def Obligations.BringUpStages : Prop :=
  (∀ (s : State) (c : Instr), stagesRun s.dev = false →
    (c ∈ [Instr.mainRails, .oscStart, .seqImageLoad, .logicRelease, .floorPlanBuild, .seqInit, .commandsAccepted]
      ∨ (∃ k ok, k < 16 ∧ c = .stackTrain k ok) ∨ (∃ fs f, fs.all UnitRef.wf = true ∧ c = .powerOnSelfTest fs f)) → exec c s = .next s)
  ∧ (∀ (s : State), let d := s.dev; let b := d.boot
    stagesRun d = true →
      (b.vrPgood = true → exec .mainRails s = .next s) ∧ ((b.vrPgood = false ∨ b.oscReady = true) → exec .oscStart s = .next s)
      ∧ (∀ k ok, k < 16 → (b.oscReady = false ∨ b.memReady = true ∨ trained d k = true ∨ stackOut d k = true) → exec (.stackTrain k ok) s = .next s)
      ∧ ((b.oscReady = false ∨ b.seqReady = true) → exec .seqImageLoad s = .next s)
      ∧ ((b.memReady = false ∨ b.logicReady = true) → exec .logicRelease s = .next s)
      ∧ (∀ fs f, fs.all UnitRef.wf = true → (b.logicReady = false ∨ b.tested = true) → exec (.powerOnSelfTest fs f) s = .next s)
      ∧ ((b.tested = false ∨ d.plan.built = true) → exec .floorPlanBuild s = .next s)
      ∧ ((d.plan.built = false ∨ b.seqReady = false ∨ b.running = true) → exec .seqInit s = .next s)
      ∧ (b.running = false → exec .commandsAccepted s = .next s)
      ∧ (b.oscReady = true → b.seqReady = false → let r := selectSlot d 2
        (r.1 = none → exec .seqImageLoad s = .next { s with dev := holdOff r.2.2 6 })
        ∧ (∀ k, r.1 = some k → r.2.1 = true → r.2.2.boot.seqRetried = false →
          ∃ t, exec .seqImageLoad s = .next t ∧ t.dev.boot.seqRetried = true ∧ t.dev.boot.vrPgood = false ∧ t.dev.boot.seqReady = false)
        ∧ (∀ k, r.1 = some k → (r.2.1 = false ∨ r.2.2.boot.seqRetried = true) →
          ∃ t, exec .seqImageLoad s = .next t ∧ t.dev.boot.seqReady = true ∧ tget 9 t.dev.porter.runSlot 2 = k))
      ∧ (b.logicReady = true → b.tested = false → ∀ fs f, fs.all UnitRef.wf = true → let m := d.plan.maps
        ∃ t, exec (.powerOnSelfTest fs f) s = .next t ∧ t.dev.boot.tested = true ∧ t.dev.boot.moduleFault = (b.moduleFault || f)
          ∧ t.dev.plan.pendF = ((fs.filter (bootTested m)).foldl bootFence d).plan.pendF ∧ t.dev.plan.pendR = d.plan.pendR ++ bootReturns m fs))
  ∧ (∀ (s : State), let d := s.dev; let b := d.boot
    stagesRun d = true →
      (b.vrPgood = false → exec .mainRails s = .next { s with dev := { d with boot := { b with vrPgood := true } } })
      ∧ (b.vrPgood = true → b.oscReady = false → ∃ t, exec .oscStart s = .next t ∧ t.dev.boot.oscReady = true ∧ t.dev.stack = d.stack)
      ∧ (∀ k, k < 16 → b.oscReady = true → b.memReady = false → trained d k = false → stackOut d k = false →
        ∃ t, exec (.stackTrain k true) s = .next t ∧ trained t.dev k = true ∧ t.dev.stack = d.stack
          ∧ t.dev.boot.memReady = (List.range 16).all (fun i => i == k || trained d i || stackOut d i))
      ∧ (∀ k, k < 16 → b.oscReady = true → b.memReady = false → trained d k = false → tget 0 b.tries k < 2 → stackOut d k = false →
        ∃ t, exec (.stackTrain k false) s = .next t ∧ tget 0 t.dev.boot.tries k = tget 0 b.tries k + 1 ∧ t.dev.plan.pendF = d.plan.pendF)
      ∧ (∀ k, k < 16 → b.oscReady = true → b.memReady = false → trained d k = false → tget 0 b.tries k = 2 → stackOut d k = false →
        ∃ t, exec (.stackTrain k false) s = .next t ∧ (t.dev.boot.heldOff = false → tget 0 t.dev.boot.tries k = 3 ∧ stackOut t.dev k = true))
      ∧ (b.oscReady = true → b.seqReady = false → inTrial d 2 = false → ∃ t, exec .seqImageLoad s = .next t
        ∧ (imageOk d 2 (activeSlot d 2) = true → t.dev.boot.seqReady = true ∧ tget 9 t.dev.porter.runSlot 2 = activeSlot d 2
          ∧ t.dev.porter.mSeq = Config.sha384 (imageBody d 2 (activeSlot d 2)) ∧ t.dev.stack = d.stack)
        ∧ (imageOk d 2 (activeSlot d 2) = false → imageOk d 2 (1 - activeSlot d 2) = false → t.dev.boot.heldOff = true ∧ t.dev.boot.vrPgood = false))
      ∧ (b.memReady = true → b.logicReady = false →
        let a := trainPorts (trainLink { d with boot := { b with logicReady := true } } 6 0)
        exec .logicRelease s = .next { s with dev := alert a 6 })
      ∧ (b.logicReady = true → b.tested = false → ∃ t, exec (.powerOnSelfTest [] false) s = .next t ∧ t.dev.boot.tested = true
        ∧ t.dev.boot.moduleFault = b.moduleFault ∧ t.dev.plan.pendF = d.plan.pendF ∧ t.dev.stack = d.stack)
      ∧ (b.logicReady = true → b.tested = false → ∀ fs, fs.all UnitRef.wf = true → ∃ t, exec (.powerOnSelfTest fs true) s = .next t
        ∧ t.dev.boot.moduleFault = true ∧ t.dev.boot.tested = true)
      ∧ (b.tested = true → d.plan.built = false → ∃ t, exec .floorPlanBuild s = .next t ∧ t.dev.plan.built = true ∧ t.dev.plan.gen = d.porter.genRec + 1
        ∧ t.dev.porter.genRec = d.porter.genRec + 1 ∧ t.dev.plan.body = (fpEntries t.dev t.dev.plan.maps).flatten)
      ∧ (d.plan.built = true → b.seqReady = true → b.running = false → ∃ t, exec .seqInit s = .next t ∧ t.dev.boot.running = true ∧ inTrial t.dev 2 = false
        ∧ t.dev.stack = d.stack ∧ t.dev.cores = d.cores)
      ∧ (b.running = true → exec .commandsAccepted s = .next { s with dev := { d with boot := { b with accepting := true } } }))

/-- Failures of bring-up (R629, R633): a stage's first failure runs the stages again from B3 with the rails removed, its second holds the module off
with BOOT_FAIL; a sequencer slot in TRIAL that does not run rolls back once. A failure of a stage that is not in progress, and a timeout of a sequencer that
is not awaited, change nothing. -/
def Obligations.BringUpFailures : Prop :=
  ∀ (k : Nat) (s : State), let d := s.dev; let b := d.boot
    let at_ := if b.vrPgood = false then 3 else if b.oscReady = false then 4 else if b.memReady = true ∧ b.logicReady = false then 7 else 0
    (3 ≤ k → k ≤ 7 → (stagesRun d = false ∨ k ≠ at_) → exec (.stageFailure k) s = .next s)
    ∧ ((stagesRun d = false ∨ b.seqReady = false ∨ b.running = true) → exec .seqRunningTimeout s = .next s)
    ∧ (stagesRun d = true →
      (k = (if b.vrPgood = false then 3 else if b.oscReady = false then 4 else 7) → (k = 7 → b.memReady = true ∧ b.logicReady = false) →
        (b.retried = false → ∃ t, exec (.stageFailure k) s = .next t ∧ t.dev.boot.retried = true ∧ t.dev.boot.vrPgood = false ∧ t.dev.boot.heldOff = false
          ∧ t.dev.cores = [] ∧ t.dev.stack = {})
        ∧ (b.retried = true → ∃ t, exec (.stageFailure k) s = .next t ∧ t.dev.boot.heldOff = true ∧ t.dev.boot.vrPgood = false
          ∧ fld (getR t.dev (porterPage + 0x108)) 5 5 = 1))
      ∧ (b.seqReady = true → b.running = false → inTrial d 2 = true → ∃ t, exec .seqRunningTimeout s = .next t
        ∧ activeSlot t.dev 2 = 1 - activeSlot d 2 ∧ inTrial t.dev 2 = false ∧ t.dev.boot.vrPgood = false ∧ t.dev.boot.seqRetried = true
        ∧ t.dev.boot.heldOff = false)
      ∧ (b.seqReady = true → b.running = false → inTrial d 2 = false → ∃ t, exec .seqRunningTimeout s = .next t ∧ t.dev.boot.heldOff = true
        ∧ t.dev.boot.vrPgood = false))

/-- Self-tests (R563 to R567): the first pending test that can start runs, its end classes the result and answers the messages that wait, and the
third transient of a unit within 10,000 module steps is a lasting fault that fences the unit. A unit whose test is not next, or has not started, is left
alone. -/
def Obligations.SelfTests : Prop :=
  (∀ (i : Nat) (x : Test) (s : State), let d := s.dev
    lfind (testCan d) d.tests = some i → d.tests[i]? = some x → x.unit.wf = true → d.boot.porterReady = true → d.boot.logicReady = true →
      exec (.selfTestStart x.unit) s = .next { s with dev := testHold { d with tests := lset d.tests i { x with running := true } } x.unit })
  ∧ (∀ (r : UnitRef) (res : TestResult) (s : State), let d := s.dev
    r.wf = true →
      (lfind (testCan d) d.tests = none → exec (.selfTestStart r) s = .next s)
      ∧ (∀ i x, lfind (testCan d) d.tests = some i → d.tests[i]? = some x → (x.unit ≠ r ∨ d.boot.porterReady = false ∨ d.boot.logicReady = false) →
        exec (.selfTestStart r) s = .next s)
      ∧ (lfind (fun t => t.unit == r && t.running) d.tests = none → exec (.selfTestEnd r res) s = .next s))
  ∧ (∀ (i : Nat) (x : Test) (r : UnitRef) (res : TestResult) (s : State), let d := s.dev
    r.wf = true → lfind (fun t => t.unit == r && t.running) d.tests = some i → d.tests[i]? = some x →
      let f := testFails d r res
      let pass := !f.1 && !f.2
      let v := freeVal { d with tests := ldel d.tests i }
      let a := log (bump v.2 (devPage 2 + 0x10C) 1) 9 (if pass then 0 else 2) (toLE 1 r.kind ++ toLE 4 (unitNum r) ++ [Config.resultByte pass]
        ++ toLE 4 v.1.toNat)
      let b := testLeave (testVerdict a x res) r (pass && x.why != 1)
      exec (.selfTestEnd r res) s = .next { s with dev := standbyTests (answerTests b r pass) })
  ∧ (∀ (d : Device) (r : UnitRef) (code : Nat), let now := moduleSteps d
    let old := ((d.transients.find? (fun t => t.unit == r)).elim [] Transient.steps).filter (fun n => now - n ≤ 10000)
    (old.length < 2 → getR (transient d r code) (devPage 2 + 0x104) = min (getR d (devPage 2 + 0x104) + 1) 0xFFFFFFFF
      ∧ (transient d r code).transients = d.transients.filter (fun t => t.unit != r) ++ [{ unit := r, steps := old ++ [now] }]
      ∧ (transient d r code).plan = d.plan)
    ∧ (2 ≤ old.length → ∃ e, transient d r code = requestFence e r 2 code ∧ e.plan = d.plan
      ∧ e.transients = d.transients.filter (fun t => t.unit != r) ∧ getR e (devPage 2 + 0x104) = min (getR d (devPage 2 + 0x104) + 1) 0xFFFFFFFF
      ∧ getR e (devPage 2 + 0x108) = min (getR d (devPage 2 + 0x108) + 1) 0xFFFFFFFF))

/-- Fences and the Floor Plan (R28, R39 to R41, R570): a unit that is not fenced joins the next change, a change is published as the next generation
once the standby units it uses have passed their tests, and waits otherwise. -/
def Obligations.FloorPlanChanges : Prop :=
  ∀ (s : State), let d := s.dev; let now := d.plan.pendF.filter (fun f => !fenceWaits d f)
    (d.plan.built = true → (now ≠ [] ∨ d.plan.pendR ≠ [] ∨ d.plan.dirty = true) → (standbysUsed d.plan.maps now).all d.plan.sbOk.contains = true →
      ∃ t, exec .floorPlanChange s = .next t ∧ t.dev.plan.gen = max d.plan.gen d.porter.genRec + 1 ∧ t.dev.porter.genRec = max d.plan.gen d.porter.genRec + 1
        ∧ t.dev.plan.changes = d.plan.changes + 1 ∧ t.dev.plan.built = true ∧ t.dev.plan.dirty = false)
    ∧ (d.plan.built = true → (standbysUsed d.plan.maps now).all d.plan.sbOk.contains = false → exec .floorPlanChange s = .next s)
    ∧ (d.plan.built = false → exec .floorPlanChange s = .next s)
    ∧ (now = [] → d.plan.pendR = [] → d.plan.dirty = false → exec .floorPlanChange s = .next s)

/-- The restore copy and REPAIR_HOLD (R560, R561): an accepted copy is busy with its packets at the port until the last is accepted, one that cannot
start ends at once with its fault, its end sends the signal it names, and a write of 1 clears a job's hold. A copy is not started while another is under
way, and poisoned bytes are sent and reported at its end. -/
def Obligations.RepairSupport : Prop :=
  (∀ (v : Reg) (s : State), (fld v.toNat 0 0 = 0 ∨ s.dev.restore ≠ none) → exec (.restoreCopy v) s = .next s)
  ∧ (∀ s : State, s.dev.restore = none → exec .restoreCopyDone s = .next s)
  ∧ (∀ (v : Reg) (s : State), let d := s.dev; let w := v.toNat; let src := get64 d (devPage 2 + 0x120); let len := getR d (devPage 2 + 0x128)
    fld w 0 0 = 1 → d.restore = none →
      (∀ b d1, ringPort d (fld w 3 1) = true → src % 64 = 0 → len % 64 = 0 → src + len ≤ 2 ^ 48 →
        (if len = 0 then .ok ([], d) else unitRead d (fld w 7 4) src len 0xFFFF) = .ok (b, d1) →
        ∃ t, exec (.restoreCopy v) s = .next t ∧ getR t.dev (devPage 2 + 0x134) = 1 ∧ t.dev.stack = d1.stack
          ∧ (∃ r, t.dev.restore = some r ∧ r.port = fld w 3 1 ∧ r.cls = fld w 13 12 ∧ r.peer = fld w 11 8
            ∧ r.fail = if b.any Prod.snd then 10 else 0))
      ∧ (∀ f d1, ringPort d (fld w 3 1) = true → src % 64 = 0 → len % 64 = 0 → src + len ≤ 2 ^ 48 → len ≠ 0 →
        unitRead d (fld w 7 4) src len 0xFFFF = .error (f, d1) →
        exec (.restoreCopy v) s = .next { s with dev := setR d1 (devPage 2 + 0x134) (rstStat false f) })
      ∧ ((ringPort d (fld w 3 1) = false ∨ src % 64 ≠ 0 ∨ len % 64 ≠ 0 ∨ 2 ^ 48 < src + len) →
        exec (.restoreCopy v) s = .next { s with dev := setR d (devPage 2 + 0x134) (2 + 4 * 65536) }))
  ∧ (∀ (r : Restore) (s : State), s.dev.restore = some r → let d : Device := { s.dev with restore := none }
      (r.sig = none → exec .restoreCopyDone s = .next { s with dev := setR d (devPage 2 + 0x134) (rstStat false r.fail) })
      ∧ (∀ w, r.sig = some w → exec .restoreCopyDone s
        = .next { s with dev := setR (sendSignal d r.port r.cls w r.peer 1 r.job) (devPage 2 + 0x134) (rstStat false r.fail) }))
  ∧ (∀ (v : Reg) (s : State), ∃ t, exec (.repairHoldClear v) s = .next t
      ∧ (∀ k, k < 32 → bit (getR t.dev (devPage 2 + 0x118)) k = (bit (getR s.dev (devPage 2 + 0x118)) k && !bit v.toNat k))
      ∧ (∀ o, o ≠ devPage 2 + 0x118 → getR t.dev o = getR s.dev o) ∧ t.dev.jobs = s.dev.jobs)
end

