-- ==== Sys2Proof/Laws/Issue.lean ====
section
/-!
SUPPORT. What `run`, `issue`, `reading` and `enter` answer when their conditions hold.
-/
namespace Sys2Proof.Machine

/-- A well-formed command answers the next state of its effect. -/
theorem run_wf {c : Instr} (f : Device → Device) (s : State) (h : c.wf = true) : run c f s = .next { s with dev := f s.dev } := by
  simp [run, h]

/-- A command that names no unit stops. -/
theorem run_ill {c : Instr} (f : Device → Device) (s : State) (h : c.wf = false) : run c f s = .fault .noSuchUnit := by
  simp [run, h]

/-- A next state of a command has the effect's module and the same queue. -/
theorem run_next {c : Instr} {f : Device → Device} {s t : State} (h : run c f s = .next t) :
    t.dev = f s.dev ∧ t.pending = s.pending := by
  unfold run at h; split at h
  · cases h; exact ⟨rfl, rfl⟩
  · cases h

theorem cleanRegs_iff {c : Core} {rs : List Nat} :
    cleanRegs c rs = true ↔ ∀ r ∈ rs, r = 0 ∨ (r ∉ c.xups ∧ r ∉ c.xbad) := by
  simp [cleanRegs]

/-- Clean registers are read without effect. -/
theorem reading_clean (d : Device) (u : Nat) (c : Core) (rs : List Nat) (k : Device) (h : cleanRegs c rs = true) :
    reading d u c rs k = k := by
  rw [cleanRegs_iff] at h
  have h1 : rs.any (fun r => r != 0 && c.xups.contains r) = false := by
    simp only [List.any_eq_false]
    intro r hr; rcases h r hr with h0 | h0
    · simp [h0]
    · simp [h0.1]
  have h2 : rs.any (fun r => r != 0 && c.xbad.contains r) = false := by
    simp only [List.any_eq_false]
    intro r hr; rcases h r hr with h0 | h0
    · simp [h0]
    · simp [h0.2]
  simp only [reading, h1, h2]; simp

theorem issues_lt {d : Device} {u op : Nat} (h : issues d u op = true) : u < 864 := by
  simp only [issues, Bool.and_eq_true, decide_eq_true_eq] at h; exact h.1.1.1.1.1

/-- A core that is not in phase 1 of a TCFG is left as it is. -/
theorem phase1End_of_ne {d : Device} {u : Nat} (h : (core d u).st ≠ .tcfg1) : phase1End d u = d := by
  simp [phase1End, h]

/-- The instruction at the program counter is carried out. -/
theorem issue_run {d : Device} {u op : Nat} (f : Core → Nat → Device → Device) (hop : opDefined op = true) (h : issues d u op = true) :
    issue u op f d = f (core d u) (wordAt d u) d := by
  simp only [issues, Bool.and_eq_true, beq_iff_eq, decide_eq_true_eq] at h
  obtain ⟨⟨⟨⟨⟨h1, h2⟩, h3⟩, h4⟩, h5⟩, h6⟩ := h
  have h0 : phase1End d u = d := phase1End_of_ne (by rw [h2]; decide)
  simp only [issue, h0, h2, h3, h5, wordAt] at *
  simp [Nat.not_le.2 h4, h6, hop]

/-- A windowed instruction enters the window. -/
theorem enter_run {d : Device} {u op a n : Nat} {rs : List Nat} {resv : Nat → Bool} {ra rb : Nat → Option Nat} {mem : Core → Nat → Nat × Nat}
    (hop : opDefined op = true) (h : entersWindow d u op rs a n = true) (hr : resv (wordAt d u) = false)
    (hs : (ra (wordAt d u)).toList ++ (rb (wordAt d u)).toList = rs) (hm : mem (core d u) (wordAt d u) = (a, n)) :
    enter u op resv ra rb mem d
      = windowed d u (((ra (wordAt d u)).map (xr (core d u))).getD 0) (((rb (wordAt d u)).map (xr (core d u))).getD 0) a n := by
  simp only [entersWindow, Bool.and_eq_true, beq_iff_eq, decide_eq_true_eq] at h
  obtain ⟨⟨⟨⟨h1, h2⟩, h3⟩, h4⟩, h5⟩ := h
  obtain ⟨g, hg⟩ := Option.isSome_iff_exists.1 h3
  subst hs
  simp only [enter, issue_run _ hop h1, hr, hg, hm, reading_clean _ _ _ _ _ h4, h5, windowed, Nat.not_le.2 h2]
  simp

end Sys2Proof.Machine
end

