-- ==== Sys2Proof/Laws/Tab.lean ====
section
/-!
SUPPORT. Reading a table after writing it, and the rising form of tables and sets.
-/
namespace Sys2Proof.Machine

@[simp] theorem tget_nil {α : Type} (d : α) (k : Nat) : tget d [] k = d := rfl

/-- A table read where it was written gives the value written. -/
@[simp] theorem tget_tset_self {α : Type} (d : α) (t : Tab α) (k : Nat) (v : α) : tget d (tset t k v) k = v := by
  induction t with
  | nil => simp [tset, tget]
  | cons e t ih =>
    obtain ⟨k', v'⟩ := e
    simp only [tset]
    split
    · simp [tget]
    · split
      · simp [tget]
      · next h1 h2 => simp only [tget]; rw [if_neg (Ne.symm h2)]; exact ih

/-- A write leaves every other number of a table alone. -/
theorem tget_tset_ne {α : Type} (d : α) (t : Tab α) (k k2 : Nat) (v : α) (h : k2 ≠ k) : tget d (tset t k v) k2 = tget d t k2 := by
  induction t with
  | nil => simp only [tset, tget]; rw [if_neg (Ne.symm h)]
  | cons e t ih =>
    obtain ⟨k', v'⟩ := e
    simp only [tset]
    split
    · simp only [tget]; rw [if_neg (Ne.symm h)]
    · split
      · next hk => subst hk; simp only [tget]; rw [if_neg (Ne.symm h), if_neg (Ne.symm h)]
      · simp only [tget, ih]

/-- A table read after a write. -/
theorem tget_tset {α : Type} (d : α) (t : Tab α) (k k2 : Nat) (v : α) : tget d (tset t k v) k2 = if k2 = k then v else tget d t k2 := by
  split
  · next h => subst h; simp
  · next h => exact tget_tset_ne d t k k2 v h

/-- Membership in a set of numbers with one added. -/
theorem mem_nins {x k : Nat} {l : List Nat} : x ∈ nins l k ↔ x = k ∨ x ∈ l := by
  induction l with
  | nil => simp [nins]
  | cons y t ih =>
    simp only [nins]; split
    · simp
    · split
      · next h => subst h; simp
      · simp only [List.mem_cons, ih]
        constructor
        · rintro (h | h | h)
          · exact .inr (.inl h)
          · exact .inl h
          · exact .inr (.inr h)
        · rintro (h | h | h)
          · exact .inr (.inl h)
          · exact .inl h
          · exact .inr (.inr h)

theorem mem_ndel {x k : Nat} {l : List Nat} : x ∈ ndel l k ↔ x ∈ l ∧ x ≠ k := by simp [ndel, bne_iff_ne]

/-- The entries of a table after a write are the written one and old ones. -/
theorem mem_tset {α : Type} {t : Tab α} {k : Nat} {v : α} {e : Nat × α} (h : e ∈ tset t k v) : e = (k, v) ∨ e ∈ t := by
  induction t with
  | nil => simp [tset] at h; exact .inl h
  | cons x t ih =>
    obtain ⟨k', v'⟩ := x
    simp only [tset] at h; split at h
    · rcases List.mem_cons.1 h with h | h
      · exact .inl h
      · exact .inr h
    · split at h
      · rcases List.mem_cons.1 h with h | h
        · exact .inl h
        · exact .inr (List.mem_cons_of_mem _ h)
      · rcases List.mem_cons.1 h with h | h
        · exact .inr (h ▸ List.mem_cons_self)
        · exact (ih h).imp id (List.mem_cons_of_mem _)

theorem mem_tdrop {α : Type} {p : Nat → Bool} {t : Tab α} {e : Nat × α} (h : e ∈ tdrop p t) : e ∈ t := (List.mem_filter.1 h).1

end Sys2Proof.Machine
end

