-- ==== Sys2Proof/Laws/Memory.lean ====
section
/-!
SUPPORT. The memories: every operation keeps the canonical form, a byte written is read back, and every other byte keeps its value.
-/
namespace Sys2Proof.Machine

/-! ### Rising lists -/

theorem rising_iff {l : List Nat} : rising l = true ↔ l.Pairwise (· < ·) := by
  induction l with
  | nil => simp [rising]
  | cons x t ih => simp [rising, ih]

theorem nins_pairwise {l : List Nat} (k : Nat) (h : l.Pairwise (· < ·)) : (nins l k).Pairwise (· < ·) := by
  induction l with
  | nil => simp [nins]
  | cons x t ih =>
    rw [List.pairwise_cons] at h
    simp only [nins]; split
    · next hk => exact List.pairwise_cons.2 ⟨fun y hy => (List.mem_cons.1 hy).elim (· ▸ hk) (fun hy => Nat.lt_trans hk (h.1 y hy)), List.pairwise_cons.2 h⟩
    · split
      · exact List.pairwise_cons.2 h
      · refine List.pairwise_cons.2 ⟨fun y hy => ?_, ih h.2⟩
        rcases mem_nins.1 hy with rfl | hy
        · omega
        · exact h.1 y hy

theorem ndel_pairwise {l : List Nat} (k : Nat) (h : l.Pairwise (· < ·)) : (ndel l k).Pairwise (· < ·) := h.filter _

/-! ### The canonical form -/

/-- The canonical form of a memory, in parts. -/
theorem Mem.wf_iff {m : Mem} : m.wf = true ↔
    (tkeys m.cells).Pairwise (· < ·) ∧ (∀ c ∈ m.cells, c.2 ≠ 0) ∧ m.bad.Pairwise (· < ·) ∧ m.ups.Pairwise (· < ·) := by
  simp only [Mem.wf, Bool.and_eq_true, rising_iff, List.all_eq_true, bne_iff_ne, ne_eq]
  exact ⟨fun h => ⟨h.1.1.1, h.1.1.2, h.1.2, h.2⟩, fun h => ⟨⟨⟨h.1, h.2.1⟩, h.2.2.1⟩, h.2.2.2⟩⟩

theorem Mem.wf_empty : Mem.wf {} = true := rfl

theorem mem_cellPut {l : List Host.Cell} {a : Nat} {v : Byte} {c : Host.Cell} (h : c ∈ cellPut l a v) : (c = (a, v) ∧ v ≠ 0) ∨ c ∈ l := by
  induction l with
  | nil => simp only [cellPut] at h; split at h <;> simp_all
  | cons e t ih =>
    obtain ⟨b, w⟩ := e
    simp only [cellPut] at h
    split at h
    · split at h
      · exact .inr h
      · rcases List.mem_cons.1 h with h | h
        · exact .inl ⟨h, ‹_›⟩
        · exact .inr h
    · split at h
      · split at h
        · exact .inr (List.mem_cons_of_mem _ h)
        · rcases List.mem_cons.1 h with h | h
          · exact .inl ⟨h, ‹_›⟩
          · exact .inr (List.mem_cons_of_mem _ h)
      · rcases List.mem_cons.1 h with h | h
        · exact .inr (h ▸ List.mem_cons_self)
        · exact (ih h).imp id (List.mem_cons_of_mem _)

theorem cellPut_pairwise {l : List Host.Cell} (a : Nat) (v : Byte) (h : (tkeys l).Pairwise (· < ·)) : (tkeys (cellPut l a v)).Pairwise (· < ·) := by
  induction l with
  | nil => simp only [cellPut]; split <;> simp [tkeys]
  | cons e t ih =>
    obtain ⟨b, w⟩ := e
    have h0 := h
    simp only [tkeys, List.map_cons, List.pairwise_cons] at h
    simp only [cellPut]
    split
    · next hk =>
      split
      · exact h0
      · refine List.pairwise_cons.2 ⟨fun y hy => ?_, h0⟩
        rcases List.mem_cons.1 hy with rfl | hy
        · exact hk
        · exact Nat.lt_trans hk (h.1 y hy)
    · split
      · next hk =>
        subst hk
        split
        · exact h.2
        · exact List.pairwise_cons.2 h
      · refine List.pairwise_cons.2 ⟨fun y hy => ?_, ih h.2⟩
        obtain ⟨c, hc, rfl⟩ := List.mem_map.1 hy
        rcases mem_cellPut hc with ⟨rfl, -⟩ | hc
        · show b < a; omega
        · exact h.1 _ (List.mem_map_of_mem hc)

theorem Mem.put_wf {m : Mem} (a : Nat) (v : Byte) (h : m.wf = true) : (m.put a v).wf = true := by
  rw [Mem.wf_iff] at *
  refine ⟨cellPut_pairwise a v h.1, fun c hc => ?_, ndel_pairwise a h.2.2.1, ndel_pairwise a h.2.2.2⟩
  rcases mem_cellPut hc with ⟨rfl, hv⟩ | hc
  · exact hv
  · exact h.2.1 c hc

theorem Mem.putBad_wf {m : Mem} (a : Nat) (v : Byte) (h : m.wf = true) : (m.putBad a v).wf = true := by
  rw [Mem.wf_iff] at *
  refine ⟨cellPut_pairwise a v h.1, fun c hc => ?_, nins_pairwise a h.2.2.1, ndel_pairwise a h.2.2.2⟩
  rcases mem_cellPut hc with ⟨rfl, hv⟩ | hc
  · exact hv
  · exact h.2.1 c hc

theorem Mem.write_wf {m : Mem} (a : Nat) (bs : List Byte) (h : m.wf = true) : (m.write a bs).wf = true := by
  induction bs generalizing m a with
  | nil => exact h
  | cons v t ih => exact ih _ (Mem.put_wf a v h)

theorem Mem.writeP_wf {m : Mem} (a : Nat) (bs : List (Byte × Bool)) (h : m.wf = true) : (m.writeP a bs).wf = true := by
  induction bs generalizing m a with
  | nil => exact h
  | cons e t ih =>
    obtain ⟨v, b⟩ := e
    refine ih _ ?_
    split
    · exact Mem.putBad_wf a v h
    · exact Mem.put_wf a v h

theorem Mem.ofBytes_wf (bs : List Byte) : (Mem.ofBytes bs).wf = true := Mem.write_wf 0 bs Mem.wf_empty

/-- The part of a memory that a test of addresses keeps. -/
theorem Mem.filter_wf {m : Mem} (p : Nat → Bool) (h : m.wf = true) :
    Mem.wf { cells := m.cells.filter (fun c => p c.1), bad := m.bad.filter p, ups := m.ups.filter p } = true := by
  rw [Mem.wf_iff] at *
  refine ⟨?_, fun c hc => h.2.1 c (List.mem_filter.1 hc).1, h.2.2.1.filter _, h.2.2.2.filter _⟩
  have : tkeys (m.cells.filter (fun c => p c.1)) = (tkeys m.cells).filter p := by
    simp [tkeys, List.filter_map, Function.comp_def]
  rw [this]; exact h.1.filter _

theorem Mem.zero_wf {m : Mem} (a n : Nat) (h : m.wf = true) : (m.zero a n).wf = true := Mem.filter_wf (fun c => !(a ≤ c && c < a + n)) h

theorem Mem.cut_wf {m : Mem} (a n : Nat) (h : m.wf = true) : (m.cut a n).wf = true := Mem.filter_wf (fun c => a ≤ c && c < a + n) h

theorem Mem.strike_wf {m : Mem} (a : Nat) (h : m.wf = true) : (m.strike a).wf = true := by
  rw [Mem.wf_iff] at *
  exact ⟨h.1, h.2.1, nins_pairwise a h.2.2.1, nins_pairwise a h.2.2.2⟩

/-- A byte struck in stack memory, which has no third list. -/
theorem Mem.strikeBad_wf {m : Mem} (a : Nat) (h : m.wf = true) : Mem.wf { m with bad := nins m.bad a } = true := by
  rw [Mem.wf_iff] at *
  exact ⟨h.1, h.2.1, nins_pairwise a h.2.2.1, h.2.2.2⟩

/-! ### Reading after writing -/

theorem tget_eq_default {α : Type} (d : α) {t : Tab α} {k : Nat} (h : k ∉ tkeys t) : tget d t k = d := by
  induction t with
  | nil => rfl
  | cons e t ih =>
    simp only [tkeys, List.map_cons, List.mem_cons, not_or] at h
    simp only [tget]; rw [if_neg (Ne.symm h.1)]; exact ih h.2

theorem tget_cellPut {l : List Host.Cell} (h : (tkeys l).Pairwise (· < ·)) (a b : Nat) (v : Byte) :
    tget 0 (cellPut l a v) b = if b = a then v else tget 0 l b := by
  induction l with
  | nil =>
    simp only [cellPut]
    split
    · next hv => subst hv; simp [tget]
    · simp only [tget, eq_comm]
  | cons e t ih =>
    obtain ⟨c, w⟩ := e
    have h0 := h
    simp only [tkeys, List.map_cons, List.pairwise_cons] at h
    simp only [cellPut]
    split
    · next hk =>
      have hn : a ∉ tkeys ((c, w) :: t) := by
        intro hm
        rcases List.mem_cons.1 hm with rfl | hm
        · exact Nat.lt_irrefl _ hk
        · exact Nat.lt_asymm hk (h.1 a hm)
      split
      · next hv =>
        subst hv
        split
        · next hb => subst hb; exact tget_eq_default 0 hn
        · rfl
      · show (if a = b then v else tget 0 ((c, w) :: t) b) = _; simp only [eq_comm]
    · split
      · next hk =>
        subst hk
        have hn : a ∉ tkeys t := fun hm => Nat.lt_irrefl _ (h.1 a hm)
        split
        · next hv =>
          subst hv
          split
          · next hb => subst hb; exact tget_eq_default 0 hn
          · next hb => simp only [tget]; rw [if_neg (Ne.symm hb)]
        · show (if a = b then v else tget 0 t b) = if b = a then v else (if a = b then w else tget 0 t b)
          by_cases hb : a = b
          · rw [if_pos hb, if_pos hb.symm]
          · rw [if_neg hb, if_neg (Ne.symm hb), if_neg hb]
      · next hk =>
        show (if c = b then w else tget 0 (cellPut t a v) b) = if b = a then v else (if c = b then w else tget 0 t b)
        rw [ih h.2]
        by_cases hc : c = b
        · rw [if_pos hc, if_pos hc, if_neg (by omega)]
        · rw [if_neg hc, if_neg hc]

/-- A byte written is read back, and every other byte keeps its value. -/
theorem Mem.get_put {m : Mem} (h : m.wf = true) (a b : Nat) (v : Byte) : (m.put a v).get b = if b = a then v else m.get b :=
  tget_cellPut (Mem.wf_iff.1 h).1 a b v

theorem Mem.get_putBad {m : Mem} (h : m.wf = true) (a b : Nat) (v : Byte) : (m.putBad a v).get b = if b = a then v else m.get b :=
  tget_cellPut (Mem.wf_iff.1 h).1 a b v

theorem Mem.isBad_put (m : Mem) (a b : Nat) (v : Byte) : (m.put a v).isBad b = (m.isBad b && b != a) := by
  simp only [Mem.isBad, Mem.put, ndel, List.contains_eq_any_beq, List.any_filter]
  rw [Bool.eq_iff_iff]
  simp only [List.any_eq_true, Bool.and_eq_true, bne_iff_ne, beq_iff_eq]
  exact ⟨fun ⟨x, hx, hn, hb⟩ => ⟨⟨x, hx, hb⟩, hb ▸ hn⟩, fun ⟨⟨x, hx, hb⟩, hn⟩ => ⟨x, hx, hb ▸ hn, hb⟩⟩

/-- A run of bytes written is read back, and every byte outside it keeps its value. -/
theorem Mem.get_write {m : Mem} (h : m.wf = true) (a b : Nat) (bs : List Byte) :
    (m.write a bs).get b = if a ≤ b ∧ b < a + bs.length then bs.getD (b - a) 0 else m.get b := by
  induction bs generalizing m a with
  | nil => rw [if_neg (by simp)]; rfl
  | cons v t ih =>
    rw [Mem.write, ih (Mem.put_wf a v h), Mem.get_put h]
    simp only [List.length_cons]
    by_cases h1 : b = a
    · subst h1; rw [if_neg (by omega), if_pos rfl, if_pos (by omega)]; simp
    · by_cases h2 : a + 1 ≤ b ∧ b < a + 1 + t.length
      · have h3 : a ≤ b ∧ b < a + (t.length + 1) := by omega
        have h4 : b - a = (b - (a + 1)) + 1 := by omega
        rw [if_pos h2, if_pos h3, h4, List.getD_cons_succ]
      · have h3 : ¬(a ≤ b ∧ b < a + (t.length + 1)) := by omega
        rw [if_neg h2, if_neg h3, if_neg h1]

theorem Mem.get_writeP {m : Mem} (h : m.wf = true) (a b : Nat) (bs : List (Byte × Bool)) :
    (m.writeP a bs).get b = if a ≤ b ∧ b < a + bs.length then (bs.getD (b - a) (0, false)).1 else m.get b := by
  induction bs generalizing m a with
  | nil => rw [if_neg (by simp)]; rfl
  | cons e t ih =>
    obtain ⟨v, c⟩ := e
    have hw : (if c = true then m.putBad a v else m.put a v).wf = true := by
      split
      · exact Mem.putBad_wf a v h
      · exact Mem.put_wf a v h
    have hg : (if c = true then m.putBad a v else m.put a v).get b = if b = a then v else m.get b := by
      split
      · exact Mem.get_putBad h a b v
      · exact Mem.get_put h a b v
    rw [Mem.writeP, ih hw, hg]
    simp only [List.length_cons]
    by_cases h1 : b = a
    · subst h1; rw [if_neg (by omega), if_pos rfl, if_pos (by omega)]; simp
    · by_cases h2 : a + 1 ≤ b ∧ b < a + 1 + t.length
      · have h3 : a ≤ b ∧ b < a + (t.length + 1) := by omega
        have h4 : b - a = (b - (a + 1)) + 1 := by omega
        rw [if_pos h2, if_pos h3, h4, List.getD_cons_succ]
      · have h3 : ¬(a ≤ b ∧ b < a + (t.length + 1)) := by omega
        rw [if_neg h2, if_neg h3, if_neg h1]

/-- The bytes of a range have its length. -/
@[simp] theorem Mem.length_read (m : Mem) (a n : Nat) : (m.read a n).length = n := by
  induction n generalizing a with
  | zero => rfl
  | succ n ih => simp [Mem.read, ih]

@[simp] theorem Mem.length_readP (m : Mem) (a n : Nat) : (m.readP a n).length = n := by simp [Mem.readP]

end Sys2Proof.Machine
end

