-- ==== Sys2Proof/Laws/PerInstr.lean ====
section
/-!
SUPPORT. One family of statements about the commands, one lemma for each: no row of the table is shut out by well-formedness.
-/
namespace Sys2Proof.Laws.Commandable

/-- Some command of the same row is well formed. -/
def Statement (c : Instr) : Prop := ∃ j : Instr, j.ctorIdx = c.ctorIdx ∧ j.wf = true

theorem alu (u : Nat) : Statement (.alu u) := ⟨.alu 0, rfl, rfl⟩
theorem alui (u : Nat) : Statement (.alui u) := ⟨.alui 0, rfl, rfl⟩
theorem li (u : Nat) : Statement (.li u) := ⟨.li 0, rfl, rfl⟩
theorem ld (u : Nat) : Statement (.ld u) := ⟨.ld 0, rfl, rfl⟩
theorem st (u : Nat) : Statement (.st u) := ⟨.st 0, rfl, rfl⟩
theorem br (u : Nat) : Statement (.br u) := ⟨.br 0, rfl, rfl⟩
theorem jal (u : Nat) : Statement (.jal u) := ⟨.jal 0, rfl, rfl⟩
theorem jalr (u : Nat) : Statement (.jalr u) := ⟨.jalr 0, rfl, rfl⟩
theorem csrr (u : Nat) : Statement (.csrr u) := ⟨.csrr 0, rfl, rfl⟩
theorem fence (u : Nat) : Statement (.fence u) := ⟨.fence 0, rfl, rfl⟩
theorem safept (u : Nat) : Statement (.safept u) := ⟨.safept 0, rfl, rfl⟩
theorem endProg (u : Nat) : Statement (.endProg u) := ⟨.endProg 0, rfl, rfl⟩
theorem nop (u : Nat) : Statement (.nop u) := ⟨.nop 0, rfl, rfl⟩
theorem tcfg (u : Nat) : Statement (.tcfg u) := ⟨.tcfg 0, rfl, rfl⟩
theorem tcfgApply (u : Nat) : Statement (.tcfgApply u) := ⟨.tcfgApply 0, rfl, rfl⟩
theorem tclr (u : Nat) : Statement (.tclr u) := ⟨.tclr 0, rfl, rfl⟩
theorem tdead (u : Nat) : Statement (.tdead u) := ⟨.tdead 0, rfl, rfl⟩
theorem wld (u : Nat) : Statement (.wld u) := ⟨.wld 0, rfl, rfl⟩
theorem wldStart (u : Nat) (mode : Nat) (waited : Nat) : Statement (.wldStart u mode waited) := ⟨.wldStart 0 0 0, rfl, rfl⟩
theorem wldReady (u : Nat) (mode : Nat) : Statement (.wldReady u mode) := ⟨.wldReady 0 0, rfl, rfl⟩
theorem mma (u : Nat) : Statement (.mma u) := ⟨.mma 0, rfl, rfl⟩
theorem bankSwap (u : Nat) (mode : Nat) (waited : Nat) : Statement (.bankSwap u mode waited) := ⟨.bankSwap 0 0 0, rfl, rfl⟩
theorem passComplete (u : Nat) (mode : Nat) : Statement (.passComplete u mode) := ⟨.passComplete 0 0, rfl, rfl⟩
theorem accdrain (u : Nat) : Statement (.accdrain u) := ⟨.accdrain 0, rfl, rfl⟩
theorem drainComplete (u : Nat) : Statement (.drainComplete u) := ⟨.drainComplete 0, rfl, rfl⟩
theorem accClearDone (u : Nat) : Statement (.accClearDone u) := ⟨.accClearDone 0, rfl, rfl⟩
theorem vbin (u : Nat) : Statement (.vbin u) := ⟨.vbin 0, rfl, rfl⟩
theorem vfma (u : Nat) : Statement (.vfma u) := ⟨.vfma 0, rfl, rfl⟩
theorem vun (u : Nat) : Statement (.vun u) := ⟨.vun 0, rfl, rfl⟩
theorem vscal (u : Nat) : Statement (.vscal u) := ⟨.vscal 0, rfl, rfl⟩
theorem vfn (u : Nat) : Statement (.vfn u) := ⟨.vfn 0, rfl, rfl⟩
theorem vdfn (u : Nat) : Statement (.vdfn u) := ⟨.vdfn 0, rfl, rfl⟩
theorem vred (u : Nat) : Statement (.vred u) := ⟨.vred 0, rfl, rfl⟩
theorem vste (u : Nat) : Statement (.vste u) := ⟨.vste 0, rfl, rfl⟩
theorem vectorComplete (u : Nat) : Statement (.vectorComplete u) := ⟨.vectorComplete 0, rfl, rfl⟩
theorem ftld (u : Nat) : Statement (.ftld u) := ⟨.ftld 0, rfl, rfl⟩
theorem ftinv (u : Nat) : Statement (.ftinv u) := ⟨.ftinv 0, rfl, rfl⟩
theorem sxfer (u : Nat) : Statement (.sxfer u) := ⟨.sxfer 0, rfl, rfl⟩
theorem sarr (u : Nat) : Statement (.sarr u) := ⟨.sarr 0, rfl, rfl⟩
theorem sset (u : Nat) : Statement (.sset u) := ⟨.sset 0, rfl, rfl⟩
theorem swait (u : Nat) : Statement (.swait u) := ⟨.swait 0, rfl, rfl⟩
theorem sgate (u : Nat) : Statement (.sgate u) := ⟨.sgate 0, rfl, rfl⟩
theorem sread (u : Nat) : Statement (.sread u) := ⟨.sread 0, rfl, rfl⟩
theorem instrFire (u : Nat) (i : Nat) : Statement (.instrFire u i) := ⟨.instrFire 0 0, rfl, rfl⟩
theorem xferComplete (u : Nat) (i : Nat) : Statement (.xferComplete u i) := ⟨.xferComplete 0 0, rfl, rfl⟩
theorem landingPlace (u : Nat) (i : Nat) (waited : Nat) : Statement (.landingPlace u i waited) := ⟨.landingPlace 0 0 0, rfl, rfl⟩
theorem landCtrlReset (j : Nat) : Statement (.landCtrlReset j) := ⟨.landCtrlReset 0, rfl, rfl⟩
theorem landingReset (j : Nat) : Statement (.landingReset j) := ⟨.landingReset 0, rfl, rfl⟩
theorem contextSave (u : Nat) : Statement (.contextSave u) := ⟨.contextSave 0, rfl, rfl⟩
theorem contextRestore (u : Nat) (addr : Nat) (len : Nat) : Statement (.contextRestore u addr len) := ⟨.contextRestore 0 0 0, rfl, rfl⟩
theorem arrSteerWrite (u : Nat) (v : Reg) : Statement (.arrSteerWrite u v) := ⟨.arrSteerWrite 0 0, rfl, rfl⟩
theorem steerApply (u : Nat) : Statement (.steerApply u) := ⟨.steerApply 0, rfl, rfl⟩
theorem stackRead (a : Nat) (len : Nat) (job : Option Nat) : Statement (.stackRead a len job) := ⟨.stackRead 0 0 none, rfl, rfl⟩
theorem stackWriteAccept (a : Nat) (data : List Byte) (poisoned : List Nat) : Statement (.stackWriteAccept a data poisoned) := ⟨.stackWriteAccept 0 [] [], rfl, rfl⟩
theorem stackRefresh (stk : Nat) : Statement (.stackRefresh stk) := ⟨.stackRefresh 0, rfl, rfl⟩
theorem stackTempSample (stk : Nat) (temp : BitVec 16) (ms : Nat) : Statement (.stackTempSample stk temp ms) := ⟨.stackTempSample 0 0 0, rfl, rfl⟩
theorem runaheadFetch (u : Nat) (k : Nat) : Statement (.runaheadFetch u k) := ⟨.runaheadFetch 0 0, rfl, rfl⟩
theorem xinvAllJobs : Statement (.xinvAllJobs) := ⟨.xinvAllJobs, rfl, rfl⟩
theorem xinvJob (j : Nat) : Statement (.xinvJob j) := ⟨.xinvJob 0, rfl, rfl⟩
theorem xinvRange (j : Nat) : Statement (.xinvRange j) := ⟨.xinvRange 0, rfl, rfl⟩
theorem xinvComplete : Statement (.xinvComplete) := ⟨.xinvComplete, rfl, rfl⟩
theorem sigStoreApply (h : Nat) (n : Nat) : Statement (.sigStoreApply h n) := ⟨.sigStoreApply 0 0, rfl, rfl⟩
theorem sigPoll (u : Nat) (g : Nat) : Statement (.sigPoll u g) := ⟨.sigPoll 0 0, rfl, rfl⟩
theorem sigWindowSet (src : Nat) (h : Nat) (i : Nat) (v : Word) : Statement (.sigWindowSet src h i v) := ⟨.sigWindowSet 0 0 0 0, rfl, rfl⟩
theorem signalRx (rx : Rx) : Statement (.signalRx rx) := ⟨.signalRx ⟨0, 0, 0, 0, []⟩, rfl, rfl⟩
theorem remoteSignalRelease (p : Nat) (cls : Nat) : Statement (.remoteSignalRelease p cls) := ⟨.remoteSignalRelease 0 0, rfl, rfl⟩
theorem writeRx (rx : Rx) : Statement (.writeRx rx) := ⟨.writeRx ⟨0, 0, 0, 0, []⟩, rfl, rfl⟩
theorem writeErrRx (rx : Rx) : Statement (.writeErrRx rx) := ⟨.writeErrRx ⟨0, 0, 0, 0, []⟩, rfl, rfl⟩
theorem linkPacketRx (p : Nat) (l : Nat) (hdr : BitVec 128) : Statement (.linkPacketRx p l hdr) := ⟨.linkPacketRx 0 0 0, rfl, rfl⟩
theorem badBlock (p : Nat) (l : Nat) (uncorrectable : Bool) : Statement (.badBlock p l uncorrectable) := ⟨.badBlock 0 0 false, rfl, rfl⟩
theorem packetSend (p : Nat) : Statement (.packetSend p) := ⟨.packetSend 0, rfl, rfl⟩
theorem trainBlockRx (p : Nat) (l : Nat) (block : List Byte) : Statement (.trainBlockRx p l block) :=
  ⟨.trainBlockRx 0 0 (List.replicate 640 0), rfl, by rw [Instr.wf, List.length_replicate]; rfl⟩
theorem trainStepTimeout (p : Nat) (l : Nat) : Statement (.trainStepTimeout p l) := ⟨.trainStepTimeout 0 0, rfl, rfl⟩
theorem linkSilenceTimeout (p : Nat) (l : Nat) : Statement (.linkSilenceTimeout p l) := ⟨.linkSilenceTimeout 0 0, rfl, rfl⟩
theorem laneLockLoss (p : Nat) (l : Nat) (lane : Nat) : Statement (.laneLockLoss p l lane) := ⟨.laneLockLoss 0 0 0, rfl, rfl⟩
theorem laneLockRegained (p : Nat) (l : Nat) : Statement (.laneLockRegained p l) := ⟨.laneLockRegained 0 0, rfl, rfl⟩
theorem retrain (p : Nat) (l : Nat) : Statement (.retrain p l) := ⟨.retrain 0 0, rfl, rfl⟩
theorem testReq (p : Nat) (l : Nat) (v : Reg) : Statement (.testReq p l v) := ⟨.testReq 0 0 0, rfl, rfl⟩
theorem testForce (p : Nat) (l : Nat) (v : Reg) : Statement (.testForce p l v) := ⟨.testForce 0 0 0, rfl, rfl⟩
theorem testEnd (p : Nat) (l : Nat) : Statement (.testEnd p l) := ⟨.testEnd 0 0, rfl, rfl⟩
theorem testAnswerTimeout (p : Nat) (l : Nat) : Statement (.testAnswerTimeout p l) := ⟨.testAnswerTimeout 0 0, rfl, rfl⟩
theorem ctxLoad (p : Nat) (rjid : Nat) (job : Nat) : Statement (.ctxLoad p rjid job) := ⟨.ctxLoad 0 0 0, rfl, rfl⟩
theorem ctxUnload (p : Nat) (rjid : Nat) : Statement (.ctxUnload p rjid) := ⟨.ctxUnload 0 0, rfl, rfl⟩
theorem ctxCmdReserved (p : Nat) : Statement (.ctxCmdReserved p) := ⟨.ctxCmdReserved 0, rfl, rfl⟩
theorem bucketReady (rjid : Nat) (n : Nat) : Statement (.bucketReady rjid n) := ⟨.bucketReady 0 0, rfl, rfl⟩
theorem readyRx (rx : Rx) : Statement (.readyRx rx) := ⟨.readyRx ⟨0, 0, 0, 0, []⟩, rfl, rfl⟩
theorem chainStart (rjid : Nat) (n : Nat) (b : Nat) : Statement (.chainStart rjid n b) := ⟨.chainStart 0 0 0, rfl, rfl⟩
theorem partialRx (rx : Rx) : Statement (.partialRx rx) := ⟨.partialRx ⟨0, 0, 0, 0, []⟩, rfl, rfl⟩
theorem deadlineTaint (rjid : Nat) (wait : Nat) (n : Nat) : Statement (.deadlineTaint rjid wait n) := ⟨.deadlineTaint 0 0 0, rfl, rfl⟩
theorem pushedSend (rjid : Nat) (n : Nat) : Statement (.pushedSend rjid n) := ⟨.pushedSend 0 0, rfl, rfl⟩
theorem upstreamRestart (rjid : Nat) (n : Nat) : Statement (.upstreamRestart rjid n) := ⟨.upstreamRestart 0 0, rfl, rfl⟩
theorem emptyBlockWrite (rjid : Nat) (n : Nat) : Statement (.emptyBlockWrite rjid n) := ⟨.emptyBlockWrite 0 0, rfl, rfl⟩
theorem normSend (rjid : Nat) : Statement (.normSend rjid) := ⟨.normSend 0, rfl, rfl⟩
theorem normRx (rx : Rx) : Statement (.normRx rx) := ⟨.normRx ⟨0, 0, 0, 0, []⟩, rfl, rfl⟩
theorem gatherSend (rjid : Nat) (n : Nat) : Statement (.gatherSend rjid n) := ⟨.gatherSend 0 0, rfl, rfl⟩
theorem gatherRx (rx : Rx) : Statement (.gatherRx rx) := ⟨.gatherRx ⟨0, 0, 0, 0, []⟩, rfl, rfl⟩
theorem uctxLoad (j : Nat) : Statement (.uctxLoad j) := ⟨.uctxLoad 0, rfl, rfl⟩
theorem uctxUnload (j : Nat) : Statement (.uctxUnload j) := ⟨.uctxUnload 0, rfl, rfl⟩
theorem uctxCmdReserved (j : Nat) : Statement (.uctxCmdReserved j) := ⟨.uctxCmdReserved 0, rfl, rfl⟩
theorem statsPass (j : Nat) (n : Nat) : Statement (.statsPass j n) := ⟨.statsPass 0 0, rfl, rfl⟩
theorem applyGrant (j : Nat) : Statement (.applyGrant j) := ⟨.applyGrant 0, rfl, rfl⟩
theorem etaLatch (j : Nat) (h : Nat) (waited : Nat) : Statement (.etaLatch j h waited) := ⟨.etaLatch 0 0 0, rfl, rfl⟩
theorem etaWordWrite (src : Nat) (j : Nat) (odd : Bool) (hi : Reg) : Statement (.etaWordWrite src j odd hi) := ⟨.etaWordWrite 0 0 false 0, rfl, rfl⟩
theorem applyBucket (j : Nat) (n : Nat) : Statement (.applyBucket j n) := ⟨.applyBucket 0 0, rfl, rfl⟩
theorem foyerWrRx (hdr : BitVec 128) (payload : List Byte) : Statement (.foyerWrRx hdr payload) := ⟨.foyerWrRx 0 [], rfl, rfl⟩
theorem foyerRdRx (hdr : BitVec 128) : Statement (.foyerRdRx hdr) := ⟨.foyerRdRx 0, rfl, rfl⟩
theorem foyerCplRx (hdr : BitVec 128) (payload : List Byte) : Statement (.foyerCplRx hdr payload) := ⟨.foyerCplRx 0 [], rfl, rfl⟩
theorem doorbell (r : Nat) (tail : Reg) : Statement (.doorbell r tail) := ⟨.doorbell 0 0, rfl, rfl⟩
theorem jobStart : Statement (.jobStart) := ⟨.jobStart, rfl, rfl⟩
theorem jobEnd : Statement (.jobEnd) := ⟨.jobEnd, rfl, rfl⟩
theorem preemptBoundary : Statement (.preemptBoundary) := ⟨.preemptBoundary, rfl, rfl⟩
theorem preemptSafept : Statement (.preemptSafept) := ⟨.preemptSafept, rfl, rfl⟩
theorem preempted (j : Nat) : Statement (.preempted j) := ⟨.preempted 0, rfl, rfl⟩
theorem resume : Statement (.resume) := ⟨.resume, rfl, rfl⟩
theorem stepCmd (j : Nat) : Statement (.stepCmd j) := ⟨.stepCmd 0, rfl, rfl⟩
theorem checkpoint (j : Nat) : Statement (.checkpoint j) := ⟨.checkpoint 0, rfl, rfl⟩
theorem ckptDone (j : Nat) : Statement (.ckptDone j) := ⟨.ckptDone 0, rfl, rfl⟩
theorem reimage (j : Nat) : Statement (.reimage j) := ⟨.reimage 0, rfl, rfl⟩
theorem cmdReserved (r : Nat) : Statement (.cmdReserved r) := ⟨.cmdReserved 0, rfl, rfl⟩
theorem batchFetch (j : Nat) : Statement (.batchFetch j) := ⟨.batchFetch 0, rfl, rfl⟩
theorem attemptStart (j : Nat) : Statement (.attemptStart j) := ⟨.attemptStart 0, rfl, rfl⟩
theorem microBatchStart (j : Nat) : Statement (.microBatchStart j) := ⟨.microBatchStart 0, rfl, rfl⟩
theorem microBatchDone (j : Nat) : Statement (.microBatchDone j) := ⟨.microBatchDone 0, rfl, rfl⟩
theorem stepReady (j : Nat) : Statement (.stepReady j) := ⟨.stepReady 0, rfl, rfl⟩
theorem verdictApply (src : Nat) (j : Nat) (attempt : Nat) : Statement (.verdictApply src j attempt) := ⟨.verdictApply 0 0 0, rfl, rfl⟩
theorem verdictRepeat (src : Nat) (j : Nat) (attempt : Nat) : Statement (.verdictRepeat src j attempt) := ⟨.verdictRepeat 0 0 0, rfl, rfl⟩
theorem verdictSkip (src : Nat) (j : Nat) (attempt : Nat) : Statement (.verdictSkip src j attempt) := ⟨.verdictSkip 0 0 0, rfl, rfl⟩
theorem verdictNone (src : Nat) (j : Nat) (attempt : Nat) : Statement (.verdictNone src j attempt) := ⟨.verdictNone 0 0 0, rfl, rfl⟩
theorem stepCommit (j : Nat) : Statement (.stepCommit j) := ⟨.stepCommit 0, rfl, rfl⟩
theorem eventRecordWrite : Statement (.eventRecordWrite) := ⟨.eventRecordWrite, rfl, rfl⟩
theorem evtBaseWrite (v : Word) : Statement (.evtBaseWrite v) := ⟨.evtBaseWrite 0, rfl, rfl⟩
theorem evtSizeWrite (v : Reg) : Statement (.evtSizeWrite v) := ⟨.evtSizeWrite 0, rfl, rfl⟩
theorem evtHeadWrite (v : Reg) : Statement (.evtHeadWrite v) := ⟨.evtHeadWrite 0, rfl, rfl⟩
theorem ringSizeWrite (r : Nat) (v : Reg) : Statement (.ringSizeWrite r v) := ⟨.ringSizeWrite 0 0, rfl, rfl⟩
theorem dvfsRequest (h : Nat) (who : Nat) (v : Reg) : Statement (.dvfsRequest h who v) := ⟨.dvfsRequest 0 0 0, rfl, rfl⟩
theorem dvfsStepDone (h : Nat) : Statement (.dvfsStepDone h) := ⟨.dvfsStepDone 0, rfl, rfl⟩
theorem voltOvrWrite (h : Nat) (v : Reg) : Statement (.voltOvrWrite h v) := ⟨.voltOvrWrite 0 0, rfl, rfl⟩
theorem thermTargetWrite (v : Reg) : Statement (.thermTargetWrite v) := ⟨.thermTargetWrite 0, rfl, rfl⟩
theorem thermalLoop : Statement (.thermalLoop) := ⟨.thermalLoop, rfl, rfl⟩
theorem powerLoop (watts : Nat) : Statement (.powerLoop watts) := ⟨.powerLoop 0, rfl, rfl⟩
theorem currentLimiterCheck (watts : Nat) : Statement (.currentLimiterCheck watts) := ⟨.currentLimiterCheck 0, rfl, rfl⟩
theorem thermalTrip (sensor : Nat) (value : BitVec 16) : Statement (.thermalTrip sensor value) := ⟨.thermalTrip 0 0, rfl, rfl⟩
theorem pmEntryStart : Statement (.pmEntryStart) := ⟨.pmEntryStart, rfl, rfl⟩
theorem pmStageDone : Statement (.pmStageDone) := ⟨.pmStageDone, rfl, rfl⟩
theorem pmWake (cause : Nat) : Statement (.pmWake cause) := ⟨.pmWake 1, rfl, rfl⟩
theorem pmExitStep : Statement (.pmExitStep) := ⟨.pmExitStep, rfl, rfl⟩
theorem pmExitTimeout : Statement (.pmExitTimeout) := ⟨.pmExitTimeout, rfl, rfl⟩
theorem paceJobWrite (h : Nat) (v : Reg) : Statement (.paceJobWrite h v) := ⟨.paceJobWrite 0 0, rfl, rfl⟩
theorem watchdogRestart : Statement (.watchdogRestart) := ⟨.watchdogRestart, rfl, rfl⟩
theorem porterReadyTimeout : Statement (.porterReadyTimeout) := ⟨.porterReadyTimeout, rfl, rfl⟩
theorem getStatus (t : Transport) (payload : List Byte) : Statement (.getStatus t payload) := ⟨.getStatus .sideband [], rfl, rfl⟩
theorem alertAck (t : Transport) (payload : List Byte) : Statement (.alertAck t payload) := ⟨.alertAck .sideband [], rfl, rfl⟩
theorem readSensor (t : Transport) (payload : List Byte) (fresh : Option (BitVec 16)) : Statement (.readSensor t payload fresh) := ⟨.readSensor .sideband [] none, rfl, rfl⟩
theorem setChassisTemp (t : Transport) (payload : List Byte) : Statement (.setChassisTemp t payload) := ⟨.setChassisTemp .sideband [], rfl, rfl⟩
theorem readLog (t : Transport) (payload : List Byte) : Statement (.readLog t payload) := ⟨.readLog .sideband [], rfl, rfl⟩
theorem wakeMsg (t : Transport) (payload : List Byte) : Statement (.wakeMsg t payload) := ⟨.wakeMsg .sideband [], rfl, rfl⟩
theorem resetModule (t : Transport) (payload : List Byte) : Statement (.resetModule t payload) := ⟨.resetModule .sideband [], rfl, rfl⟩
theorem setRtc (t : Transport) (payload : List Byte) : Statement (.setRtc t payload) := ⟨.setRtc .sideband [], rfl, rfl⟩
theorem setAlarm (t : Transport) (payload : List Byte) : Statement (.setAlarm t payload) := ⟨.setAlarm .sideband [], rfl, rfl⟩
theorem fwBegin (t : Transport) (payload : List Byte) : Statement (.fwBegin t payload) := ⟨.fwBegin .sideband [], rfl, rfl⟩
theorem fwData (t : Transport) (payload : List Byte) : Statement (.fwData t payload) := ⟨.fwData .sideband [], rfl, rfl⟩
theorem fwVerify (t : Transport) (payload : List Byte) : Statement (.fwVerify t payload) := ⟨.fwVerify .sideband [], rfl, rfl⟩
theorem fwActivate (t : Transport) (payload : List Byte) : Statement (.fwActivate t payload) := ⟨.fwActivate .sideband [], rfl, rfl⟩
theorem fwCommit (t : Transport) (payload : List Byte) : Statement (.fwCommit t payload) := ⟨.fwCommit .sideband [], rfl, rfl⟩
theorem fwSessionTimeout : Statement (.fwSessionTimeout) := ⟨.fwSessionTimeout, rfl, rfl⟩
theorem getIdentity (t : Transport) (payload : List Byte) : Statement (.getIdentity t payload) := ⟨.getIdentity .sideband [], rfl, rfl⟩
theorem attestReq (t : Transport) (payload : List Byte) : Statement (.attestReq t payload) := ⟨.attestReq .sideband [], rfl, rfl⟩
theorem attestReady : Statement (.attestReady) := ⟨.attestReady, rfl, rfl⟩
theorem attestRead (t : Transport) (payload : List Byte) : Statement (.attestRead t payload) := ⟨.attestRead .sideband [], rfl, rfl⟩
theorem fenceUnit (t : Transport) (payload : List Byte) : Statement (.fenceUnit t payload) := ⟨.fenceUnit .sideband [], rfl, rfl⟩
theorem releaseUnit (t : Transport) (payload : List Byte) : Statement (.releaseUnit t payload) := ⟨.releaseUnit .sideband [], rfl, rfl⟩
theorem selfTest (t : Transport) (payload : List Byte) : Statement (.selfTest t payload) := ⟨.selfTest .sideband [], rfl, rfl⟩
theorem unknownCmd (t : Transport) (cmd : Byte) (payload : List Byte) : Statement (.unknownCmd t cmd payload) := ⟨.unknownCmd .sideband 0 [], rfl, rfl⟩
theorem sensorConversion (i : Nat) (v : BitVec 16) : Statement (.sensorConversion i v) := ⟨.sensorConversion 0 0, rfl, rfl⟩
theorem logFlush : Statement (.logFlush) := ⟨.logFlush, rfl, rfl⟩
theorem rtcAlarm : Statement (.rtcAlarm) := ⟨.rtcAlarm, rfl, rfl⟩
theorem selfTestStart (unit : UnitRef) : Statement (.selfTestStart unit) := ⟨.selfTestStart ⟨0, 0, 0, 0, 0⟩, rfl, rfl⟩
theorem selfTestEnd (unit : UnitRef) (res : TestResult) : Statement (.selfTestEnd unit res) := ⟨.selfTestEnd ⟨0, 0, 0, 0, 0⟩ ⟨false, [], false, false⟩, rfl, rfl⟩
theorem floorPlanChange : Statement (.floorPlanChange) := ⟨.floorPlanChange, rfl, rfl⟩
theorem restoreCopy (v : Reg) : Statement (.restoreCopy v) := ⟨.restoreCopy 0, rfl, rfl⟩
theorem restoreCopyDone : Statement (.restoreCopyDone) := ⟨.restoreCopyDone, rfl, rfl⟩
theorem repairHoldClear (v : Reg) : Statement (.repairHoldClear v) := ⟨.repairHoldClear 0, rfl, rfl⟩
theorem blkEnable (src : Nat) (page : Nat) (on : Bool) : Statement (.blkEnable src page on) := ⟨.blkEnable 0 0 false, rfl, rfl⟩
theorem softReset (src : Nat) (page : Nat) : Statement (.softReset src page) := ⟨.softReset 0 0, rfl, rfl⟩
theorem softResetDone (page : Nat) : Statement (.softResetDone page) := ⟨.softResetDone 0, rfl, rfl⟩
theorem blkFence (src : Nat) (page : Nat) (on : Bool) : Statement (.blkFence src page on) := ⟨.blkFence 0 0 false, rfl, rfl⟩
theorem lockPage (src : Nat) (page : Nat) : Statement (.lockPage src page) := ⟨.lockPage 0 0, rfl, rfl⟩
theorem errorClear (src : Nat) (page : Nat) : Statement (.errorClear src page) := ⟨.errorClear 0 0, rfl, rfl⟩
theorem reg64LoWrite (src : Nat) (off : Nat) (v : Reg) : Statement (.reg64LoWrite src off v) := ⟨.reg64LoWrite 0 0 0, rfl, rfl⟩
theorem reg64HiCommit (src : Nat) (off : Nat) (v : Reg) : Statement (.reg64HiCommit src off v) := ⟨.reg64HiCommit 0 0 0, rfl, rfl⟩
theorem dbgRead : Statement (.dbgRead) := ⟨.dbgRead, rfl, rfl⟩
theorem dbgWrite : Statement (.dbgWrite) := ⟨.dbgWrite, rfl, rfl⟩
theorem registerWrite (src : Nat) (off : Nat) (v : Reg) : Statement (.registerWrite src off v) := ⟨.registerWrite 0 0 0, rfl, rfl⟩
theorem powerApply (cool : BitVec 2) (slot : BitVec 6) : Statement (.powerApply cool slot) := ⟨.powerApply 0 0, rfl, rfl⟩
theorem powerLoss : Statement (.powerLoss) := ⟨.powerLoss, rfl, rfl⟩
theorem overvoltageShutdown : Statement (.overvoltageShutdown) := ⟨.overvoltageShutdown, rfl, rfl⟩
theorem inputProtectionOpen : Statement (.inputProtectionOpen) := ⟨.inputProtectionOpen, rfl, rfl⟩
theorem pwrEnRise : Statement (.pwrEnRise) := ⟨.pwrEnRise, rfl, rfl⟩
theorem pwrEnFall : Statement (.pwrEnFall) := ⟨.pwrEnFall, rfl, rfl⟩
theorem modResetN : Statement (.modResetN) := ⟨.modResetN, rfl, rfl⟩
theorem wakeN : Statement (.wakeN) := ⟨.wakeN, rfl, rfl⟩
theorem porterBoot (fusesOk : Bool) : Statement (.porterBoot fusesOk) := ⟨.porterBoot false, rfl, rfl⟩
theorem mainRails : Statement (.mainRails) := ⟨.mainRails, rfl, rfl⟩
theorem oscStart : Statement (.oscStart) := ⟨.oscStart, rfl, rfl⟩
theorem stackTrain (stk : Nat) (ok : Bool) : Statement (.stackTrain stk ok) := ⟨.stackTrain 0 false, rfl, rfl⟩
theorem seqImageLoad : Statement (.seqImageLoad) := ⟨.seqImageLoad, rfl, rfl⟩
theorem logicRelease : Statement (.logicRelease) := ⟨.logicRelease, rfl, rfl⟩
theorem powerOnSelfTest (fails : List UnitRef) (fixedFail : Bool) : Statement (.powerOnSelfTest fails fixedFail) := ⟨.powerOnSelfTest [] false, rfl, rfl⟩
theorem floorPlanBuild : Statement (.floorPlanBuild) := ⟨.floorPlanBuild, rfl, rfl⟩
theorem seqInit : Statement (.seqInit) := ⟨.seqInit, rfl, rfl⟩
theorem commandsAccepted : Statement (.commandsAccepted) := ⟨.commandsAccepted, rfl, rfl⟩
theorem seqRunningTimeout : Statement (.seqRunningTimeout) := ⟨.seqRunningTimeout, rfl, rfl⟩
theorem stageFailure (stage : Nat) : Statement (.stageFailure stage) := ⟨.stageFailure 3, rfl, rfl⟩
theorem trainStepDone (p : Nat) (l : Nat) (polarity : BitVec 4) (laneMap : BitVec 8) : Statement (.trainStepDone p l polarity laneMap) := ⟨.trainStepDone 0 0 0 0, rfl, rfl⟩
theorem testEntryAckTimeout (p : Nat) (l : Nat) : Statement (.testEntryAckTimeout p l) := ⟨.testEntryAckTimeout 0 0, rfl, rfl⟩
theorem rcRead (src : Nat) (off : Nat) : Statement (.rcRead src off) := ⟨.rcRead 0 0, rfl, rfl⟩

end Sys2Proof.Laws.Commandable
end

