-- ==== Sys2Proof/Laws/SoundBase.lean ====
section
/-!
SUPPORT. What every operation of the module keeps (`Sound`): the words in which it is said of results that may fail.
-/
namespace Sys2Proof.Machine

/-- Both outcomes of an operation that may fail. -/
def OkE {ε α : Type} (P : ε → Prop) (Q : α → Prop) : Except ε α → Prop
  | .error e => P e
  | .ok a => Q a

def OkO {α : Type} (Q : α → Prop) : Option α → Prop
  | some a => Q a
  | none => True

theorem okE_error {ε α : Type} {P : ε → Prop} {Q : α → Prop} {e : ε} (h : P e) : OkE P Q (.error e) := h
theorem okE_ok {ε α : Type} {P : ε → Prop} {Q : α → Prop} {a : α} (h : Q a) : OkE P Q (.ok a) := h
theorem okO_some {α : Type} {Q : α → Prop} {a : α} (h : Q a) : OkO Q (some a) := h
theorem okO_none {α : Type} {Q : α → Prop} : OkO Q none := trivial
theorem OkE.err {ε α : Type} {P : ε → Prop} {Q : α → Prop} {x : Except ε α} {e : ε} (h : OkE P Q x) (he : x = .error e) : P e := by
  rw [he] at h; exact h
theorem OkE.ok {ε α : Type} {P : ε → Prop} {Q : α → Prop} {x : Except ε α} {a : α} (h : OkE P Q x) (he : x = .ok a) : Q a := by
  rw [he] at h; exact h
theorem OkO.some {α : Type} {Q : α → Prop} {x : Option α} {a : α} (h : OkO Q x) (he : x = .some a) : Q a := by
  rw [he] at h; exact h

variable {bdd : Nat → Nat}

theorem sound_ite {c : Prop} [Decidable c] {x y : Device} (hx : Sound bd x) (hy : Sound bd y) : Sound bd (if c then x else y) := by
  split <;> assumption

theorem okE_ite {ε α : Type} {P : ε → Prop} {Q : α → Prop} {c : Prop} [Decidable c] {x y : Except ε α} (hx : OkE P Q x) (hy : OkE P Q y) :
    OkE P Q (if c then x else y) := by
  split <;> assumption

theorem okO_ite {α : Type} {Q : α → Prop} {c : Prop} [Decidable c] {x y : Option α} (hx : OkO Q x) (hy : OkO Q y) :
    OkO Q (if c then x else y) := by
  split <;> assumption

/-- What a fold over a list keeps. -/
theorem sound_fold {α : Type} {g : Device → α → Device} {l : List α} {d : Device} (hg : ∀ d x, Sound bd d → Sound bd (g d x)) (h : Sound bd d) :
    Sound bd (l.foldl g d) := by
  induction l generalizing d with
  | nil => exact h
  | cons x t ih => exact ih (hg d x h)

theorem sound_fold2 {α β : Type} {g : β × Device → α → β × Device} {l : List α} {p : β × Device} (hg : ∀ q x, Sound bd q.2 → Sound bd (g q x).2)
    (h : Sound bd p.2) : Sound bd (l.foldl g p).2 := by
  induction l generalizing p with
  | nil => exact h
  | cons x t ih => exact ih (hg p x h)

theorem sound_fold1 {α β : Type} {g : Device × β → α → Device × β} {l : List α} {p : Device × β} (hg : ∀ q x, Sound bd q.1 → Sound bd (g q x).1)
    (h : Sound bd p.1) : Sound bd (l.foldl g p).1 := by
  induction l generalizing p with
  | nil => exact h
  | cons x t ih => exact ih (hg p x h)

theorem sound_ite2 {β : Type} {c : Prop} [Decidable c] {x y : β × Device} (hx : Sound bd x.2) (hy : Sound bd y.2) : Sound bd (if c then x else y).2 := by
  split <;> assumption

theorem sound_ite1 {β : Type} {c : Prop} [Decidable c] {x y : Device × β} (hx : Sound bd x.1) (hy : Sound bd y.1) : Sound bd (if c then x else y).1 := by
  split <;> assumption

/-- Only the memories, the event queue, the log and the fused counters matter. -/
theorem sound_of {d e : Device} (h1 : d.stack = e.stack) (h2 : d.hmem = e.hmem) (h3 : d.evQ = e.evQ) (h4 : d.logFront = e.logFront)
    (h5 : d.logRing = e.logRing) (h6 : d.porter.svn = e.porter.svn) (h : Sound bd e) : Sound bd d := by
  unfold Sound fusedSvn at *; rw [h1, h2, h3, h4, h5, h6]; exact h

/-- The same, of a module written out. -/
theorem sound_mk {e : Device}
    {v0} {v1} {v2} {v3} {v4} {v5} {v6} {v7} {v8} {v9} {v10} {v11} {v12} {v13} {v14} {v15} {v16} {v17} {v18} {v19} {v20} {v21} {v22} {v23} {v24} {v25} {v26} {v27} {v28} {v29} {v30} {v31} {v32} {v33} {v34} {v35} {v36} {v37} {v38} {v39}
    (h1 : v3 = e.stack) (h2 : v4 = e.hmem) (h3 : v9 = e.evQ) (h4 : v31 = e.logFront) (h5 : v32 = e.logRing) (h6 : v36.svn = e.porter.svn)
    (h : Sound bd e) : Sound bd ⟨v0, v1, v2, v3, v4, v5, v6, v7, v8, v9, v10, v11, v12, v13, v14, v15, v16, v17, v18, v19, v20, v21, v22, v23, v24, v25, v26, v27, v28, v29, v30, v31, v32, v33, v34, v35, v36, v37, v38, v39⟩ := sound_of h1 h2 h3 h4 h5 h6 h

theorem sound_stack {d : Device} {m : Mem} (h : Sound bd d) (hm : m.wf = true) : Sound bd { d with stack := m } := ⟨hm, h.2⟩

theorem tget_all {α : Type} {P : α → Prop} {dv : α} {t : Tab α} (h : ∀ e ∈ t, P e.2) (hd : P dv) (k : Nat) : P (tget dv t k) := by
  induction t with
  | nil => exact hd
  | cons a t ih =>
    simp only [tget]; split
    · exact h a List.mem_cons_self
    · exact ih (fun e he => h e (List.mem_cons_of_mem _ he))

/-- The queue and the log, rewritten within their bounds. -/
theorem sound_evQ {d : Device} {q : List Ev} (h : Sound bd d) (hq : q.length ≤ 256) : Sound bd { d with evQ := q } := ⟨h.1, h.2.1, hq, h.2.2.2⟩

theorem sound_log {d : Device} {f r : List LogRec} (h : Sound bd d) (hf : f.length < 256) (hr : r.length ≤ 1048576) :
    Sound bd { d with logFront := f, logRing := r } := ⟨h.1, h.2.1, h.2.2.1, hf, hr, h.2.2.2.2.2⟩

theorem sound_hmem {d : Device} {t : Tab Mem} (h : Sound bd d) (ht : ∀ e ∈ t, e.2.wf = true) : Sound bd { d with hmem := t } := ⟨h.1, ht, h.2.2⟩

theorem Sound.hmem {d : Device} (h : Sound bd d) (k : Nat) : (hmem d k).wf = true := tget_all (P := fun m : Mem => m.wf = true) h.2.1 Mem.wf_empty k

theorem okE_fold {ε α β : Type} {P : ε → Prop} {Q : α → Prop} {g : Except ε α → β → Except ε α} {l : List β} {a : Except ε α}
    (hg : ∀ a x, OkE P Q a → OkE P Q (g a x)) (h : OkE P Q a) : OkE P Q (l.foldl g a) := by
  induction l generalizing a with
  | nil => exact h
  | cons x t ih => exact ih (hg a x h)

theorem sE_err {α γ : Type} {Q : α → Prop} {c : γ} {d : Device} (h : OkE (fun e : γ × Device => Sound bd e.2) Q (.error (c, d))) : Sound bd d := h
theorem sE_errW {α γ : Type} {Q : α → Prop} {e : γ × Device} (h : OkE (fun e : γ × Device => Sound bd e.2) Q (.error e)) : Sound bd e.2 := h
theorem sE_ok {ε : Type} {P : ε → Prop} {d : Device} (h : OkE P (fun a => Sound bd a) (.ok d)) : Sound bd d := h
theorem sE_ok2 {ε γ : Type} {P : ε → Prop} {c : γ} {d : Device} (h : OkE P (fun e : γ × Device => Sound bd e.2) (.ok (c, d))) : Sound bd d := h
theorem sX_err2 {β γ : Type} {x : Except (γ × Device) (β × Device)} {c : γ} {d : Device} (he : x = .error (c, d))
    (h : OkE (fun e => Sound bd e.2) (fun a => Sound bd a.2) x) : Sound bd d := by rw [he] at h; exact h
theorem sX_err2W {β γ : Type} {x : Except (γ × Device) (β × Device)} {e : γ × Device} (he : x = .error e)
    (h : OkE (fun e => Sound bd e.2) (fun a => Sound bd a.2) x) : Sound bd e.2 := by rw [he] at h; exact h
theorem sX_ok2 {β γ : Type} {x : Except (γ × Device) (β × Device)} {c : β} {d : Device} (he : x = .ok (c, d))
    (h : OkE (fun e => Sound bd e.2) (fun a => Sound bd a.2) x) : Sound bd d := by rw [he] at h; exact h
theorem sX_err {γ : Type} {x : Except (γ × Device) Device} {c : γ} {d : Device} (he : x = .error (c, d))
    (h : OkE (fun e => Sound bd e.2) (fun a => Sound bd a) x) : Sound bd d := by rw [he] at h; exact h
theorem sX_errW {γ : Type} {x : Except (γ × Device) Device} {e : γ × Device} (he : x = .error e)
    (h : OkE (fun e => Sound bd e.2) (fun a => Sound bd a) x) : Sound bd e.2 := by rw [he] at h; exact h
theorem sX_ok {γ : Type} {x : Except (γ × Device) Device} {d : Device} (he : x = .ok d)
    (h : OkE (fun e => Sound bd e.2) (fun a => Sound bd a) x) : Sound bd d := by rw [he] at h; exact h
theorem sX_some {x : Option Device} {d : Device} (he : x = some d) (h : OkO (fun a => Sound bd a) x) : Sound bd d := by rw [he] at h; exact h
theorem sX_some2 {β : Type} {x : Option (β × Device)} {c : β} {d : Device} (he : x = some (c, d)) (h : OkO (fun a => Sound bd a.2) x) : Sound bd d := by
  rw [he] at h; exact h
theorem sX_pair {β : Type} {x : β × Device} {c : β} {d : Device} (he : x = (c, d)) (h : Sound bd x.2) : Sound bd d := by rw [he] at h; exact h

theorem Sound.stack {d : Device} (h : Sound bd d) : d.stack.wf = true := h.1

end Sys2Proof.Machine
end

