-- ==== Sys2Proof/Laws/SoundOps.lean ====
section
/-!
SUPPORT. The shared operations, the signal stores, the clocks, the sensors and the links keep the module sound. Each lemma is named after the operation and says that it keeps `Sound` with any bounds.
-/
namespace Sys2Proof.Machine

variable {bd : Nat → Nat}


/-! ### Ops -/

theorem setR_sound {d : Device} {off v : Nat} (h_d : Sound bd d) : Sound bd (setR d off v) := by
  unfold setR
  repeat' (first | with_reducible assumption | (fail_if_no_progress with_reducible refine sound_mk rfl rfl rfl rfl rfl rfl ?_))

theorem set64_sound {d : Device} {off v : Nat} (h_d : Sound bd d) : Sound bd (set64 d off v) := by
  unfold set64
  repeat' (with_reducible (first | assumption | apply setR_sound))

theorem bump_sound {d : Device} {off n : Nat} (h_d : Sound bd d) : Sound bd (bump d off n) := by
  unfold bump
  repeat' (with_reducible (first | assumption | apply sound_ite | apply setR_sound))

theorem bump64_sound {d : Device} {off n : Nat} (h_d : Sound bd d) : Sound bd (bump64 d off n) := by
  unfold bump64
  repeat' (with_reducible (first | assumption | apply sound_ite | apply set64_sound))

theorem setHdr_sound {d : Device} {page : Nat} {h : Hdr} (h_d : Sound bd d) : Sound bd (setHdr d page h) := by
  unfold setHdr
  repeat' (first | with_reducible assumption | (fail_if_no_progress with_reducible refine sound_mk rfl rfl rfl rfl rfl rfl ?_))

theorem setEvt_sound {d : Device} {off n : Nat} (h_d : Sound bd d) : Sound bd (setEvt d off n) := by
  unfold setEvt
  dsimp only
  repeat' (with_reducible (first | assumption | apply setHdr_sound))

theorem recordErr_sound {d : Device} {off code addr : Nat} (h_d : Sound bd d) : Sound bd (recordErr d off code addr) := by
  unfold recordErr
  dsimp only
  repeat' (with_reducible (first | assumption | apply sound_ite | apply setHdr_sound))

theorem setCore_sound {d : Device} {u : Nat} {c : Core} (h_d : Sound bd d) : Sound bd (setCore d u c) := by
  unfold setCore
  repeat' (first | with_reducible assumption | (fail_if_no_progress with_reducible refine sound_mk rfl rfl rfl rfl rfl rfl ?_))

theorem setSig_sound {d : Device} {h : Nat} {s : SigStore} (h_d : Sound bd d) : Sound bd (setSig d h s) := by
  unfold setSig
  repeat' (first | with_reducible assumption | (fail_if_no_progress with_reducible refine sound_mk rfl rfl rfl rfl rfl rfl ?_))

theorem setJob_sound {d : Device} {j : Nat} {x : Job} (h_d : Sound bd d) : Sound bd (setJob d j x) := by
  unfold setJob
  repeat' (first | with_reducible assumption | (fail_if_no_progress with_reducible refine sound_mk rfl rfl rfl rfl rfl rfl ?_))

theorem setHmem_sound {d : Device} {h : Nat} {m : Mem} (h_d : Sound bd d) (hm : m.wf = true) : Sound bd (setHmem d h m) :=
  sound_hmem h_d (fun _ he => (mem_tset he).elim (fun e => by rw [e]; exact hm) (h_d.2.1 _))

theorem freeVal_sound {d : Device} (h_d : Sound bd d) : Sound bd (freeVal d).2 := by
  unfold freeVal
  dsimp only
  repeat' (first | with_reducible assumption | (fail_if_no_progress with_reducible refine sound_mk rfl rfl rfl rfl rfl rfl ?_))

theorem pushEv_sound {d : Device} {e : Ev} (h_d : Sound bd d) : Sound bd (pushEv d e) := by
  unfold pushEv; split
  · next hl => exact sound_evQ h_d (by simp only [List.length_append, List.length_cons, List.length_nil]; omega)
  · exact bump_sound (sound_of rfl rfl rfl rfl rfl rfl h_d)

theorem jobEv_sound {d : Device} {j type code addr : Nat} {detail : List Byte} (h_d : Sound bd d) : Sound bd (jobEv d j type code addr detail) := by
  unfold jobEv
  repeat' (with_reducible (first | assumption | apply pushEv_sound))

theorem taint_sound {d : Device} {j n code : Nat} (h_d : Sound bd d) : Sound bd (taint d j n code) := by
  unfold taint
  dsimp only
  repeat' (with_reducible (first | assumption | apply sound_ite | apply setJob_sound | apply jobEv_sound))

theorem taintAll_sound {d : Device} {js : List Nat} {n code : Nat} (h_d : Sound bd d) : Sound bd (taintAll d js n code) := by
  unfold taintAll
  repeat' (first | with_reducible assumption | (intro _) | with_reducible (first | apply sound_fold | apply taint_sound))

/-- Moving the front to the ring needs no bound but the ring's own: at most 256 records of the front, one more than it may hold. -/
theorem flushLog_keeps {d : Device} (h : d.stack.wf = true ∧ (∀ e ∈ d.hmem, e.2.wf = true) ∧ d.evQ.length ≤ 256
    ∧ d.logFront.length ≤ 256 ∧ d.logRing.length ≤ 1048576 ∧ ∀ k, bd k ≤ fusedSvn d k) : Sound bd (flushLog d) := by
  obtain ⟨h1, h2, h3, h4, h5, h6⟩ := h
  have hs : ∀ (e : Device) (r : List LogRec), e.stack = d.stack → e.hmem = d.hmem → e.evQ = d.evQ → e.porter.svn = d.porter.svn →
      r.length ≤ 1048576 → Sound bd { e with logFront := [], logRing := r } := by
    intro e r ha hb hc hd hr
    unfold Sound fusedSvn at *
    simp only [ha, hb, hc, hd]
    exact ⟨h1, h2, h3, by decide, hr, h6⟩
  unfold flushLog
  dsimp only
  split
  · next hl => exact hs d _ rfl rfl rfl rfl hl
  · refine hs (bump d (porterPage + 0x124) 1024) _ rfl rfl rfl rfl ?_
    simp only [List.length_drop, List.length_append]; omega

theorem flushLog_sound {d : Device} (h_d : Sound bd d) : Sound bd (flushLog d) :=
  flushLog_keeps ⟨h_d.1, h_d.2.1, h_d.2.2.1, Nat.le_of_lt h_d.2.2.2.1, h_d.2.2.2.2.1, h_d.2.2.2.2.2⟩

theorem log_sound {d : Device} {type severity : Nat} {payload : List Byte} (h_d : Sound bd d) : Sound bd (log d type severity payload) := by
  obtain ⟨h1, h2, h3, h4, h5, h6⟩ := h_d
  unfold log; dsimp only
  split
  · refine flushLog_keeps ⟨h1, h2, h3, ?_, h5, h6⟩
    simp only [setR, List.length_append, List.length_cons, List.length_nil]; omega
  · next hl => exact ⟨h1, h2, h3, by simp only [setR] at hl ⊢; omega, h5, h6⟩

theorem needTest_sound {d : Device} {r : UnitRef} {code addr : Nat} (h_d : Sound bd d) : Sound bd (needTest d r code addr) := by
  unfold needTest
  repeat' (first | with_reducible assumption | (fail_if_no_progress with_reducible refine sound_mk rfl rfl rfl rfl rfl rfl ?_) | split)

theorem parityLog_sound {d : Device} {addr : Nat} {r : UnitRef} (h_d : Sound bd d) : Sound bd (parityLog d addr r) := by
  unfold parityLog
  repeat' (with_reducible (first | assumption | apply log_sound | apply needTest_sound))

theorem parityErr_sound {d : Device} {off addr : Nat} {r : UnitRef} (h_d : Sound bd d) : Sound bd (parityErr d off addr r) := by
  unfold parityErr
  repeat' (with_reducible (first | assumption | apply recordErr_sound | apply parityLog_sound))

theorem coreParity_sound {d : Device} {u : Nat} {locs : List Nat} (h_d : Sound bd d) : Sound bd (coreParity d u locs) := by
  unfold coreParity
  repeat' (first | with_reducible assumption | (intro _) | with_reducible (first | apply sound_fold | apply parityErr_sound))

theorem hallParity_sound {d : Device} {h a n : Nat} (h_d : Sound bd d) : Sound bd (hallParity d h a n) := by
  unfold hallParity
  dsimp only
  repeat' (first | with_reducible assumption | (intro _) | with_reducible (first | apply sound_ite | apply sound_fold | apply parityErr_sound))

theorem poisonSeen_sound {d : Device} {off : Nat} {j : Option Nat} (h_d : Sound bd d) : Sound bd (poisonSeen d off j) := by
  unfold poisonSeen
  dsimp only
  repeat' (first | with_reducible (first | assumption | apply recordErr_sound | apply freeVal_sound | apply taint_sound) | split)

theorem coreFault_sound {d : Device} {u pc code : Nat} (h_d : Sound bd d) : Sound bd (coreFault d u pc code) := by
  unfold coreFault
  dsimp only
  repeat' (first
    | with_reducible (first
      | assumption | apply sound_ite | apply setEvt_sound | apply recordErr_sound | apply setCore_sound | apply pushEv_sound | apply taint_sound)
    | split)

theorem coreStop_sound {d : Device} {u pc flaw : Nat} (h_d : Sound bd d) : Sound bd (coreStop d u pc flaw) := by
  unfold coreStop
  repeat' (with_reducible (first | assumption | apply sound_ite | apply parityLog_sound | apply coreFault_sound))

theorem dropCopies_sound {d : Device} {h blk : Nat} (h_d : Sound bd d) : Sound bd (dropCopies d h blk) := by
  unfold dropCopies
  dsimp only
  repeat' (first
    | with_reducible assumption
    | (intro _)
    | with_reducible (first | apply sound_ite | apply sound_fold | apply bump_sound | apply setCore_sound))

theorem settleWatch_sound {d : Device} {h : Nat} (h_d : Sound bd d) : Sound bd (settleWatch d h) := by
  unfold settleWatch
  dsimp only
  repeat' (first | with_reducible assumption | (fail_if_no_progress with_reducible refine sound_mk rfl rfl rfl rfl rfl rfl ?_))

theorem watchInvalidate_sound {d : Device} {blk : Nat} (h_d : Sound bd d) : Sound bd (watchInvalidate d blk) := by
  unfold watchInvalidate
  dsimp only
  repeat' (first
    | with_reducible assumption
    | (intro _)
    | with_reducible (first | apply sound_ite | apply sound_fold | apply bump_sound | apply dropCopies_sound)
    | (fail_if_no_progress with_reducible refine sound_mk rfl rfl rfl rfl rfl rfl ?_))

theorem sectorParity_sound {d : Device} {sec : Nat} (h_d : Sound bd d) : Sound bd (sectorParity d sec) := by
  unfold sectorParity
  dsimp only
  repeat' (with_reducible (first | assumption | apply sound_ite | apply bump_sound | apply parityErr_sound))

theorem sectorWrite_sound {d : Device} {sec a : Nat} {bs : List (Byte × Bool)} (h_d : Sound bd d) : Sound bd (sectorWrite d sec a bs) := by
  have key : ∀ e : Device, Sound bd e → ∀ (x : List (Byte × Bool)) (y : Nat) (z : List Byte),
      Sound bd { e with stack := (e.stack.write y z).writeP (sec * 64) x } :=
    fun e he x y z => sound_stack he (Mem.writeP_wf _ _ (Mem.write_wf _ _ he.1))
  unfold sectorWrite; dsimp only
  split
  · exact key _ (sound_ite (bump_sound (sectorParity_sound h_d)) h_d) _ _ _
  · exact sound_stack h_d (Mem.write_wf _ _ h_d.1)

theorem stackWrite_sound {d : Device} {a : Nat} {bs : List (Byte × Bool)} (h_d : Sound bd d) : Sound bd (stackWrite d a bs) := by
  unfold stackWrite
  dsimp only
  repeat' (first
    | with_reducible assumption
    | (intro _)
    | with_reducible (first | apply sound_ite | apply sound_fold | apply bump64_sound | apply watchInvalidate_sound | apply sectorWrite_sound))

theorem sectorRead_sound {d : Device} {sec : Nat} (h_d : Sound bd d) : Sound bd (sectorRead d sec) := by
  unfold sectorRead
  repeat' (with_reducible (first | assumption | apply bump64_sound | apply sectorParity_sound))

theorem readPeak_sound {d : Device} {s : Nat} (h_d : Sound bd d) : Sound bd (readPeak d s) := by
  unfold readPeak
  dsimp only
  repeat' (with_reducible (first | assumption | apply setR_sound | apply freeVal_sound))

theorem stackRead_sound {d : Device} {a n : Nat} (h_d : Sound bd d) : Sound bd (stackRead d a n).2 := by
  unfold stackRead
  repeat' (first
    | with_reducible assumption
    | (intro _)
    | with_reducible (first | apply sound_fold | apply sound_ite2 | apply sectorRead_sound | apply readPeak_sound))

theorem tableReads_sound {d : Device} {rs : List Nat} (h_d : Sound bd d) : Sound bd (tableReads d rs) := by
  unfold tableReads
  repeat' (first | with_reducible assumption | (intro _) | with_reducible (first | apply sound_fold | apply stackRead_sound))

theorem recordXFault_sound {d : Device} {j va : Nat} {f : XFault} {peer wr : Bool} {who : Nat} (h_d : Sound bd d) : Sound bd
    (recordXFault d j va f peer wr who) := by
  unfold recordXFault
  dsimp only
  repeat' (first
    | with_reducible (first | assumption | apply sound_ite | apply setR_sound | apply set64_sound | apply bump_sound | apply tableReads_sound)
    | (fail_if_no_progress with_reducible refine sound_mk rfl rfl rfl rfl rfl rfl ?_))

theorem cacheWalk_sound {d : Device} {hall j page : Nat} {w : Walked} (h_d : Sound bd d) : Sound bd (cacheWalk d hall j page w) := by
  unfold cacheWalk
  dsimp only
  repeat' (first
    | with_reducible (first | assumption | apply sound_ite)
    | (fail_if_no_progress with_reducible refine sound_mk rfl rfl rfl rfl rfl rfl ?_)
    | split)

theorem markLeaf_sound {d : Device} {hall j : Nat} {wr : Bool} {l : Nat × Walked × Bool} (h_d : Sound bd d) : Sound bd (markLeaf d hall j wr l) :=
    by
  unfold markLeaf
  dsimp only
  repeat' (first
    | with_reducible (first | assumption | apply sound_ite | apply stackWrite_sound | apply cacheWalk_sound)
    | (fail_if_no_progress with_reducible refine sound_mk rfl rfl rfl rfl rfl rfl ?_))

theorem translate_sound {d : Device} {hall j : Nat} {wr peer : Bool} {pages : List Nat} (h_d : Sound bd d) : OkE (fun e => True)
    (fun a => Sound bd a.2) (translate d hall j wr peer pages) := by
  unfold translate
  dsimp only
  repeat' (first
    | with_reducible (first | assumption | exact True.intro)
    | (intro _)
    | with_reducible (first | apply sound_fold | apply tableReads_sound | apply markLeaf_sound)
    | (fail_if_no_progress with_reducible refine sound_mk rfl rfl rfl rfl rfl rfl ?_)
    | with_reducible (first | refine okE_error ?_ | refine okE_ok ?_)
    | split)

theorem translate_ok {d : Device} {hall j : Nat} {wr peer : Bool} {pages : List Nat} {q0 : Tab Nat} {d1 : Device}
    (he : translate d hall j wr peer pages = .ok (q0, d1)) (h_d : Sound bd d) : Sound bd d1 :=
    (translate_sound h_d : OkE (fun e => True) (fun a => Sound bd a.2) (translate d hall j wr peer pages)).ok he

theorem readVirt_sound {d : Device} {pages : Tab Nat} {a n : Nat} (h_d : Sound bd d) : Sound bd (readVirt d pages a n).2 := by
  unfold readVirt
  dsimp only
  repeat' (first | with_reducible assumption | (intro _) | with_reducible (first | apply sound_fold2 | apply stackRead_sound))

theorem writeVirt_sound {d : Device} {pages : Tab Nat} {a : Nat} {bs : List (Byte × Bool)} (h_d : Sound bd d) : Sound bd (writeVirt d pages a bs) :=
    by
  unfold writeVirt
  repeat' (first | with_reducible assumption | (intro _) | with_reducible (first | apply sound_fold | apply stackWrite_sound))

theorem unitRead_sound {d : Device} {j a n who : Nat} (h_d : Sound bd d) : OkE (fun e => Sound bd e.2) (fun a => Sound bd a.2)
    (unitRead d j a n who) := by
  unfold unitRead
  repeat' (first
    | with_reducible (first
      | assumption | apply recordXFault_sound | refine translate_ok (by with_reducible assumption) ?_ | apply readVirt_sound | refine okE_error ?_
      | refine okE_ok ?_)
    | split)

theorem unitRead_err {d : Device} {j a n who q0 : Nat} {d1 : Device} (he : unitRead d j a n who = .error (q0, d1)) (h_d : Sound bd d) : Sound bd d1 :=
    (unitRead_sound h_d : OkE (fun e => Sound bd e.2) (fun a => Sound bd a.2) (unitRead d j a n who)).err he

theorem unitRead_ok {d : Device} {j a n who : Nat} {q0 : List (Byte × Bool)} {d1 : Device} (he : unitRead d j a n who = .ok (q0, d1))
    (h_d : Sound bd d) : Sound bd d1 := (unitRead_sound h_d : OkE (fun e => Sound bd e.2) (fun a => Sound bd a.2) (unitRead d j a n who)).ok he

theorem unitWrite_sound {d : Device} {j a : Nat} {bs : List (Byte × Bool)} {who : Nat} (h_d : Sound bd d) : OkE (fun e => Sound bd e.2)
    (fun a => Sound bd a) (unitWrite d j a bs who) := by
  unfold unitWrite
  repeat' (first
    | with_reducible (first
      | assumption | apply recordXFault_sound | refine translate_ok (by with_reducible assumption) ?_ | apply writeVirt_sound | refine okE_error ?_
      | refine okE_ok ?_)
    | split)

theorem unitWrite_err {d : Device} {j a : Nat} {bs : List (Byte × Bool)} {who q0 : Nat} {d1 : Device}
    (he : unitWrite d j a bs who = .error (q0, d1)) (h_d : Sound bd d) : Sound bd d1 :=
    (unitWrite_sound h_d : OkE (fun e => Sound bd e.2) (fun a => Sound bd a) (unitWrite d j a bs who)).err he

theorem unitWrite_ok {d : Device} {j a : Nat} {bs : List (Byte × Bool)} {who : Nat} {d1 : Device} (he : unitWrite d j a bs who = .ok d1)
    (h_d : Sound bd d) : Sound bd d1 := (unitWrite_sound h_d : OkE (fun e => Sound bd e.2) (fun a => Sound bd a) (unitWrite d j a bs who)).ok he

/-! ### Signals -/

theorem setWord_sound {d : Device} {h i : Nat} {w : SigWord} (h_d : Sound bd d) : Sound bd (setWord d h i w) := by
  unfold setWord
  dsimp only
  repeat' (with_reducible (first | assumption | apply setSig_sound))

theorem causeEv_sound {d : Device} {j type code addr : Nat} (h_d : Sound bd d) : Sound bd (causeEv d j type code addr) := by
  unfold causeEv
  dsimp only
  repeat' (with_reducible (first | assumption | apply sound_ite | apply freeVal_sound | apply pushEv_sound | apply jobEv_sound))

theorem wakeWaiter_sound {d : Device} {u g : Nat} (h_d : Sound bd d) : Sound bd (wakeWaiter d u g) := by
  unfold wakeWaiter
  dsimp only
  repeat' (with_reducible (first | assumption | apply sound_ite | apply setCore_sound))

theorem monitorCheck_sound {d : Device} {h i : Nat} (h_d : Sound bd d) : Sound bd (monitorCheck d h i) := by
  unfold monitorCheck
  dsimp only
  repeat' (first | with_reducible assumption | (intro _) | with_reducible (first | apply sound_fold | apply setSig_sound | apply wakeWaiter_sound))

theorem rejectArrival_sound {d : Device} {j w code counter : Nat} (h_d : Sound bd d) : Sound bd (rejectArrival d j w code counter) := by
  unfold rejectArrival
  repeat' (with_reducible (first | assumption | apply bump_sound | apply taint_sound | apply causeEv_sound))

theorem arriveOwned_sound {d : Device} {h i n : Nat} {w : SigWord} (h_d : Sound bd d) : Sound bd (applyOp.arriveOwned d h i n w) := by
  unfold applyOp.arriveOwned
  dsimp only
  repeat' (first
    | with_reducible (first
      | assumption | apply sound_ite | apply taint_sound | apply causeEv_sound | apply bump_sound | apply setEvt_sound | apply recordErr_sound
      | apply monitorCheck_sound | apply setWord_sound))

theorem applyOp_sound {d : Device} {h : Nat} {op : SigOp} (h_d : Sound bd d) : Sound bd (applyOp d h op) := by
  unfold applyOp
  dsimp only
  repeat' (first
    | with_reducible (first
      | assumption | apply sound_ite | apply arriveOwned_sound | apply rejectArrival_sound | apply bump64_sound | apply setEvt_sound
      | apply monitorCheck_sound | apply setWord_sound)
    | split)

theorem applyCycle_sound {d : Device} {h n : Nat} (h_d : Sound bd d) : Sound bd (applyCycle d h n) := by
  unfold applyCycle
  dsimp only
  repeat' (first | with_reducible assumption | (intro _) | with_reducible (first | apply sound_fold | apply setSig_sound | apply applyOp_sound))

theorem flushStore_sound {d : Device} {h : Nat} (h_d : Sound bd d) : Sound bd (flushStore d h) := by
  unfold flushStore
  dsimp only
  repeat' (first | with_reducible assumption | (intro _) | with_reducible (first | apply sound_fold | apply setSig_sound | apply applyOp_sound))

theorem seqSet_sound {d : Device} {h i : Nat} {w : SigWord} (h_d : Sound bd d) : Sound bd (seqSet d h i w) := by
  unfold seqSet
  dsimp only
  repeat' (with_reducible (first | assumption | apply bump64_sound | apply setWord_sound | apply flushStore_sound))

theorem readOp_sound {d : Device} {h : Nat} (h_d : Sound bd d) : Sound bd (readOp d h) := by
  unfold readOp
  repeat' (with_reducible (first | assumption | apply bump64_sound | apply flushStore_sound))

theorem sendOp_sound {d : Device} {h : Nat} {op : SigOp} (h_d : Sound bd d) : Sound bd (sendOp d h op) := by
  unfold sendOp
  dsimp only
  repeat' (with_reducible (first | assumption | apply setSig_sound))

theorem arriveProgram_sound {d : Device} {w n : Nat} (h_d : Sound bd d) : Sound bd (arriveProgram d w n) := by
  unfold arriveProgram
  repeat' (first | with_reducible (first | assumption | apply sendOp_sound) | split)

theorem arriveUnit_sound {d : Device} {j w n : Nat} {p : Option Nat} (h_d : Sound bd d) : Sound bd (arriveUnit d j w n p) := by
  unfold arriveUnit
  repeat' (first | with_reducible (first | assumption | apply rejectArrival_sound | apply sendOp_sound) | split)

theorem readWord_sound {d : Device} {w : Nat} (h_d : Sound bd d) : OkO (fun a => Sound bd a.2) (readWord d w) := by
  unfold readWord
  cases wordHome d w with
  | none => exact okO_none
  | some hi => exact bump64_sound (flushStore_sound h_d)

theorem readWord_some {d : Device} {w q0 : Nat} {d1 : Device} (he : readWord d w = some (q0, d1)) (h_d : Sound bd d) : Sound bd d1 :=
    (readWord_sound h_d : OkO (fun a => Sound bd a.2) (readWord d w)).some he

theorem startWait_sound {d : Device} {u g w t : Nat} {mon : Bool} (h_d : Sound bd d) : Sound bd (startWait d u g w t mon).2 := by
  unfold startWait
  dsimp only
  repeat' (first | with_reducible (first | assumption | apply sound_ite2 | apply bump_sound | apply setSig_sound | apply readOp_sound) | split)

theorem dropMonitor_sound {d : Device} {u g : Nat} (h_d : Sound bd d) : Sound bd (dropMonitor d u g) := by
  unfold dropMonitor
  dsimp only
  repeat' (first | with_reducible assumption | (fail_if_no_progress with_reducible refine sound_mk rfl rfl rfl rfl rfl rfl ?_))

theorem dropMonitors_sound {d : Device} {u : Nat} (h_d : Sound bd d) : Sound bd (dropMonitors d u) := by
  unfold dropMonitors
  dsimp only
  repeat' (first | with_reducible assumption | (fail_if_no_progress with_reducible refine sound_mk rfl rfl rfl rfl rfl rfl ?_))

theorem releaseWords_sound {d : Device} {j : Nat} (h_d : Sound bd d) : Sound bd (releaseWords d j) := by
  unfold releaseWords
  dsimp only
  repeat' (first
    | with_reducible assumption
    | (intro _)
    | with_reducible (first | apply sound_fold | apply setSig_sound | apply flushStore_sound | apply seqSet_sound))

theorem sigStoreApply_sound {h n : Nat} {d : Device} (h_d : Sound bd d) : Sound bd (sigStoreApply h n d) := by
  unfold sigStoreApply
  repeat' (with_reducible (first | assumption | apply applyCycle_sound))

theorem readWord_getD_sound {d : Device} {w : Nat} (h_d : Sound bd d) : Sound bd ((Option.map Prod.snd (readWord d w)).getD d) := by
  have := readWord_sound (w := w) h_d
  cases h : readWord d w with
  | none => exact h_d
  | some r => rw [h] at this; exact this

theorem sigPoll_sound {u g : Nat} {d : Device} (h_d : Sound bd d) : Sound bd (sigPoll u g d) := by
  unfold sigPoll
  dsimp only
  repeat' (first
    | with_reducible assumption
    | (intro _)
    | with_reducible (first
      | apply sound_ite | apply sound_fold | apply readWord_getD_sound | apply setCore_sound
      | refine readWord_some (by with_reducible assumption) ?_)
    | split)

theorem sigWindowSet_sound {src h i : Nat} {v : Word} {d : Device} (h_d : Sound bd d) : Sound bd (sigWindowSet src h i v d) := by
  unfold sigWindowSet
  dsimp only
  repeat' (first
    | with_reducible (first
      | assumption | apply sound_ite | apply bump_sound | apply bump64_sound | apply log_sound | apply setWord_sound | apply monitorCheck_sound
      | apply flushStore_sound))

/-! ### Dvfs -/

theorem setDvfs_sound {d : Device} {h : Nat} {x : Dvfs} (h_d : Sound bd d) : Sound bd (setDvfs d h x) := by
  unfold setDvfs
  repeat' (first | with_reducible assumption | (fail_if_no_progress with_reducible refine sound_mk rfl rfl rfl rfl rfl rfl ?_))

theorem stopSlew_sound {d : Device} {h : Nat} {x : Dvfs} (h_d : Sound bd d) : Sound bd (stopSlew d h x) := by
  unfold stopSlew
  dsimp only
  repeat' (with_reducible (first | assumption | apply freeVal_sound | apply setDvfs_sound))

theorem dvfsSettle_sound {d : Device} {h : Nat} (h_d : Sound bd d) : Sound bd (dvfsSettle d h) := by
  unfold dvfsSettle
  dsimp only
  repeat' (with_reducible (first | assumption | apply sound_ite | apply freeVal_sound | apply setDvfs_sound | apply stopSlew_sound))

theorem dvfsSettleAll_sound {d : Device} (h_d : Sound bd d) : Sound bd (dvfsSettleAll d) := by
  unfold dvfsSettleAll
  repeat' (first | with_reducible assumption | (intro _) | with_reducible (first | apply sound_fold | apply dvfsSettle_sound))

theorem dvfsReq_sound {d : Device} {h who v : Nat} (h_d : Sound bd d) : Sound bd (dvfsReq d h who v) := by
  unfold dvfsReq
  repeat' (with_reducible (first | assumption | apply setR_sound | apply dvfsSettle_sound))

theorem dvfsRequest_sound {h who : Nat} {v : Reg} {d : Device} (h_d : Sound bd d) : Sound bd (dvfsRequest h who v d) := by
  unfold dvfsRequest
  repeat' (with_reducible (first | assumption | apply dvfsReq_sound))

theorem dvfsStepDone_sound {h : Nat} {d : Device} (h_d : Sound bd d) : Sound bd (dvfsStepDone h d) := by
  unfold dvfsStepDone
  dsimp only
  repeat' (with_reducible (first | assumption | apply sound_ite | apply bump_sound | apply setDvfs_sound))

theorem voltOvrWrite_sound {h : Nat} {v : Reg} {d : Device} (h_d : Sound bd d) : Sound bd (voltOvrWrite h v d) := by
  unfold voltOvrWrite
  dsimp only
  repeat' (with_reducible (first | assumption | apply sound_ite | apply recordErr_sound | apply setDvfs_sound))

theorem clocksLock_sound {d : Device} (h_d : Sound bd d) : Sound bd (clocksLock d) := by
  unfold clocksLock
  dsimp only
  repeat' (first
    | with_reducible assumption
    | (intro _)
    | with_reducible (first | apply sound_fold | apply setDvfs_sound | apply dvfsSettle_sound)
    | (fail_if_no_progress with_reducible refine sound_mk rfl rfl rfl rfl rfl rfl ?_))

/-! ### Sensors -/

theorem alert_sound {d : Device} {n : Nat} (h_d : Sound bd d) : Sound bd (alert d n) := by
  unfold alert
  repeat' (with_reducible (first | assumption | apply setR_sound))

theorem putBit_sound {d : Device} {off n : Nat} {on : Bool} (h_d : Sound bd d) : Sound bd (putBit d off n on) := by
  unfold putBit
  dsimp only
  repeat' (with_reducible (first | assumption | apply setR_sound))

theorem warnCheck_sound {d : Device} {i v : Nat} {s : SensorDesc} (h_d : Sound bd d) : Sound bd (warnCheck d i v s) := by
  unfold warnCheck
  dsimp only
  repeat' (first
    | with_reducible (first | assumption | apply sound_ite | apply pushEv_sound | apply log_sound | apply alert_sound)
    | (fail_if_no_progress with_reducible refine sound_mk rfl rfl rfl rfl rfl rfl ?_))

theorem tripCheck_sound {d : Device} {i v : Nat} {s : SensorDesc} (h_d : Sound bd d) : Sound bd (tripCheck d i v s) := by
  unfold tripCheck
  dsimp only
  repeat' (first
    | with_reducible assumption
    | (intro _)
    | with_reducible (first | apply sound_ite | apply sound_fold | apply pushEv_sound | apply dvfsReq_sound | apply alert_sound)
    | (fail_if_no_progress with_reducible refine sound_mk rfl rfl rfl rfl rfl rfl ?_))

theorem limitCheck_sound {d : Device} {i v : Nat} (h_d : Sound bd d) : Sound bd (limitCheck d i v) := by
  unfold limitCheck
  dsimp only
  repeat' (first
    | with_reducible (first | assumption | apply sound_ite | apply warnCheck_sound | apply tripCheck_sound)
    | (fail_if_no_progress with_reducible refine sound_mk rfl rfl rfl rfl rfl rfl ?_)
    | split)

theorem sensorSample_sound {d : Device} {i v : Nat} (h_d : Sound bd d) : Sound bd (sensorSample d i v) := by
  unfold sensorSample
  dsimp only
  repeat' (first
    | with_reducible (first | assumption | apply limitCheck_sound)
    | (fail_if_no_progress with_reducible refine sound_mk rfl rfl rfl rfl rfl rfl ?_))

theorem stackSensors_sound {d : Device} {s : Nat} {v : BitVec 16} (h_d : Sound bd d) : Sound bd (stackSensors d s v) := by
  unfold stackSensors
  dsimp only
  repeat' (first
    | with_reducible assumption
    | (intro _)
    | with_reducible (first | apply sound_ite | apply sound_fold | apply sensorSample_sound)
    | (fail_if_no_progress with_reducible refine sound_mk rfl rfl rfl rfl rfl rfl ?_)
    | split)

theorem sensorConversion_sound {i : Nat} {v : BitVec 16} {d : Device} (h_d : Sound bd d) : Sound bd (sensorConversion i v d) := by
  unfold sensorConversion
  repeat' (first | with_reducible (first | assumption | apply sound_ite | apply sensorSample_sound) | split)

theorem wake_sound {d : Device} {c : Nat} (h_d : Sound bd d) : Sound bd (wake d c) := by
  unfold wake
  dsimp only
  repeat' (first
    | with_reducible (first | assumption | apply sound_ite)
    | (fail_if_no_progress with_reducible refine sound_mk rfl rfl rfl rfl rfl rfl ?_))

/-! ### Harlon -/

theorem setLink_sound {d : Device} {p l : Nat} {x : Link} (h_d : Sound bd d) : Sound bd (setLink d p l x) := by
  unfold setLink
  repeat' (first | with_reducible assumption | (fail_if_no_progress with_reducible refine sound_mk rfl rfl rfl rfl rfl rfl ?_))

theorem setPort_sound {d : Device} {p : Nat} {x : Port} (h_d : Sound bd d) : Sound bd (setPort d p x) := by
  unfold setPort
  repeat' (first | with_reducible assumption | (fail_if_no_progress with_reducible refine sound_mk rfl rfl rfl rfl rfl rfl ?_))

theorem linkCtr_sound {d : Device} {p l off n : Nat} (h_d : Sound bd d) : Sound bd (linkCtr d p l off n) := by
  unfold linkCtr
  repeat' (with_reducible (first | assumption | apply sound_ite | apply bump_sound))

theorem sendCtrl_sound {d : Device} {p l : Nat} {nak : Bool} (h_d : Sound bd d) : Sound bd (sendCtrl d p l nak) := by
  unfold sendCtrl
  dsimp only
  repeat' (with_reducible (first | assumption | apply sound_ite | apply setLink_sound | apply setPort_sound))

theorem breakRing_sound {d : Device} {rjid : Nat} (h_d : Sound bd d) : Sound bd (breakRing d rjid) := by
  unfold breakRing
  dsimp only
  repeat' (first
    | with_reducible (first | assumption | apply sound_ite | apply setEvt_sound | apply jobEv_sound | apply taint_sound)
    | (fail_if_no_progress with_reducible refine sound_mk rfl rfl rfl rfl rfl rfl ?_)
    | split)

theorem degradeRings_sound {d : Device} {p : Nat} (h_d : Sound bd d) : Sound bd (degradeRings d p) := by
  unfold degradeRings
  dsimp only
  repeat' (first
    | with_reducible assumption
    | (intro _)
    | with_reducible (first | apply sound_fold | apply jobEv_sound)
    | (fail_if_no_progress with_reducible refine sound_mk rfl rfl rfl rfl rfl rfl ?_)
    | split)

theorem portDown_sound {d : Device} {p : Nat} (h_d : Sound bd d) : Sound bd (portDown d p) := by
  unfold portDown
  dsimp only
  repeat' (first
    | with_reducible assumption
    | (intro _)
    | with_reducible (first
      | apply sound_ite | apply sound_fold | apply bump_sound | apply jobEv_sound | apply taint_sound | apply setPort_sound | apply breakRing_sound))

theorem afterLink_sound {d : Device} {p l old portWas : Nat} {whole : Bool} (h_d : Sound bd d) : Sound bd (afterLink d p l old portWas whole) := by
  unfold afterLink
  dsimp only
  repeat' (first
    | with_reducible (first
      | assumption | apply sound_ite | apply setEvt_sound | apply pushEv_sound | apply alert_sound | apply putBit_sound | apply degradeRings_sound
      | apply portDown_sound)
    | (fail_if_no_progress with_reducible refine sound_mk rfl rfl rfl rfl rfl rfl ?_))

theorem moveLink_sound {d : Device} {p l : Nat} {f : Link → Link} {whole : Bool} (h_d : Sound bd d) : Sound bd (moveLink d p l f whole) := by
  unfold moveLink
  dsimp only
  repeat' (with_reducible (first | assumption | apply setLink_sound | apply setPort_sound | apply afterLink_sound))

theorem trainLink_sound {d : Device} {p l : Nat} {whole : Bool} (h_d : Sound bd d) : Sound bd (trainLink d p l whole) := by
  unfold trainLink
  repeat' (with_reducible (first | assumption | apply moveLink_sound))

theorem leaveFailed_sound {d : Device} {p l : Nat} (h_d : Sound bd d) : Sound bd (leaveFailed d p l) := by
  unfold leaveFailed
  dsimp only
  repeat' (with_reducible (first | assumption | apply sound_ite | apply needTest_sound | apply moveLink_sound | apply trainLink_sound))

theorem leaveIdle_sound {d : Device} {p l : Nat} {fencedNow whole : Bool} (h_d : Sound bd d) : Sound bd (leaveIdle d p l fencedNow whole) := by
  unfold leaveIdle
  repeat' (with_reducible (first | assumption | apply moveLink_sound))

theorem takeDown_sound {d : Device} {p : Nat} {train : Bool} (h_d : Sound bd d) : Sound bd (takeDown d p train) := by
  unfold takeDown
  repeat' (first
    | with_reducible assumption
    | (intro _)
    | with_reducible (first | apply sound_ite | apply sound_fold | apply moveLink_sound | apply trainLink_sound | apply leaveIdle_sound))

theorem malformed_sound {d : Device} {p : Nat} (h_d : Sound bd d) : Sound bd (malformed d p) := by
  unfold malformed
  repeat' (with_reducible (first | assumption | apply sound_ite | apply bump_sound | apply takeDown_sound))

theorem holdUnits_sound {d : Device} {p l cls n : Nat} (h_d : Sound bd d) : Sound bd (holdUnits d p l cls n) := by
  unfold holdUnits
  dsimp only
  repeat' (with_reducible (first | assumption | apply setLink_sound))

theorem freeUnits_sound {d : Device} {p l cls n : Nat} (h_d : Sound bd d) : Sound bd (freeUnits d p l cls n) := by
  unfold freeUnits
  dsimp only
  repeat' (with_reducible (first | assumption | apply setLink_sound | apply sendCtrl_sound))

theorem freeSignal_sound {d : Device} {p cls : Nat} (h_d : Sound bd d) : Sound bd (freeSignal d p cls) := by
  unfold freeSignal
  dsimp only
  repeat' (first | with_reducible (first | assumption | apply setPort_sound | apply sendCtrl_sound) | split)

theorem takeBlock_sound {d : Device} {p l seq : Nat} (h_d : Sound bd d) : Sound bd (takeBlock d p l seq) := by
  unfold takeBlock
  dsimp only
  repeat' (with_reducible (first | assumption | apply sound_ite | apply setLink_sound | apply sendCtrl_sound))

theorem blockOk_sound {d : Device} {rx : Rx} (h_d : Sound bd d) : OkO (fun a => Sound bd a) (blockOk d rx) := by
  unfold blockOk
  repeat' (with_reducible (first | assumption | apply okO_ite | apply takeBlock_sound | refine okO_some ?_ | exact okO_none))

theorem blockOk_some {d : Device} {rx : Rx} {d1 : Device} (he : blockOk d rx = some d1) (h_d : Sound bd d) : Sound bd d1 :=
    (blockOk_sound h_d : OkO (fun a => Sound bd a) (blockOk d rx)).some he

theorem receive_sound {type : Nat} {rx : Rx} {extra : Nat → List Byte → Bool} {f : Device → Device} {d : Device}
    (h_f : ∀ y0, Sound bd y0 → Sound bd (f y0)) (h_d : Sound bd d) : Sound bd (receive type rx extra f d) := by
  unfold receive
  dsimp only
  repeat' (first
    | with_reducible (first
      | assumption | apply sound_ite | apply bump_sound | apply wake_sound | apply setPort_sound | apply malformed_sound | apply holdUnits_sound
      | apply freeUnits_sound | apply freeSignal_sound | refine blockOk_some (by with_reducible assumption) ?_)
    | (apply h_f)
    | split)

theorem promote_sound {d : Device} {p : Nat} (h_d : Sound bd d) : Sound bd (promote d p) := by
  unfold promote
  dsimp only
  repeat' (with_reducible (first | assumption | apply sound_ite | apply setPort_sound))

theorem delivered_sound {d : Device} {p cls n : Nat} (h_d : Sound bd d) : Sound bd (delivered d p cls n) := by
  unfold delivered
  dsimp only
  repeat' (with_reducible (first | assumption | apply set64_sound | apply bump64_sound | apply promote_sound))

theorem queuePkt_sound {d : Device} {p : Nat} {k : Pkt} (h_d : Sound bd d) : Sound bd (queuePkt d p k) := by
  unfold queuePkt
  dsimp only
  repeat' (with_reducible (first | assumption | apply setPort_sound))

theorem sendSignal_sound {d : Device} {p cls word peerJob add job : Nat} (h_d : Sound bd d) : Sound bd (sendSignal d p cls word peerJob add job) :=
    by
  unfold sendSignal
  dsimp only
  repeat' (with_reducible (first | assumption | apply sound_ite | apply bump_sound | apply jobEv_sound | apply taint_sound | apply queuePkt_sound))

theorem emit_sound {d : Device} {p l : Nat} {k : Pkt} (h_d : Sound bd d) : Sound bd (emit d p l k) := by
  unfold emit
  dsimp only
  repeat' (with_reducible (first | assumption | apply setLink_sound))

theorem flushLink_sound {d : Device} {p l : Nat} (h_d : Sound bd d) : Sound bd (flushLink d p l) := by
  unfold flushLink
  dsimp only
  repeat' (with_reducible (first | assumption | apply sound_ite | apply setLink_sound | apply sendCtrl_sound))

theorem sendNew_sound {d : Device} {p cls : Nat} {k : Pkt} {l : Nat} (h_d : Sound bd d) : Sound bd (sendNew d p cls k l) := by
  unfold sendNew
  dsimp only
  repeat' (first
    | with_reducible (first
      | assumption | apply sound_ite | apply set64_sound | apply bump_sound | apply bump64_sound | apply setPort_sound | apply emit_sound))

theorem sendAgain_sound {d : Device} {p : Nat} {k : Pkt} {l : Nat} (h_d : Sound bd d) : Sound bd (sendAgain d p k l) := by
  unfold sendAgain
  dsimp only
  repeat' (with_reducible (first | assumption | apply setPort_sound | apply emit_sound))

theorem sendRest_sound {d : Device} {p : Nat} (h_d : Sound bd d) : Sound bd (sendRest d p) := by
  unfold sendRest
  repeat' (first | with_reducible assumption | (intro _) | with_reducible (first | apply sound_fold | apply flushLink_sound))

theorem harlonSend_sound {d : Device} {p : Nat} (h_d : Sound bd d) : Sound bd (harlonSend d p) := by
  unfold harlonSend
  repeat' (first
    | with_reducible (first | assumption | apply sound_ite | apply sendNew_sound | apply sendAgain_sound | apply sendRest_sound)
    | split)

theorem writeRx_sound {rx : Rx} {d : Device} (h_d : Sound bd d) : Sound bd (writeRx rx d) := by
  unfold writeRx
  dsimp only
  repeat' (first
    | with_reducible assumption
    | (intro _)
    | with_reducible (first
      | apply sound_ite | apply jobEv_sound | apply taint_sound | apply recordXFault_sound | refine translate_ok (by with_reducible assumption) ?_
      | apply writeVirt_sound | apply freeUnits_sound | apply receive_sound | apply delivered_sound | apply queuePkt_sound)
    | split)

theorem writeErrRx_sound {rx : Rx} {d : Device} (h_d : Sound bd d) : Sound bd (writeErrRx rx d) := by
  unfold writeErrRx
  dsimp only
  repeat' (first
    | with_reducible assumption
    | (intro _)
    | with_reducible (first
      | apply sound_ite | apply setR_sound | apply set64_sound | apply bump_sound | apply setEvt_sound | apply jobEv_sound | apply taint_sound
      | apply freeUnits_sound | apply receive_sound))

theorem signalRx_sound {rx : Rx} {d : Device} (h_d : Sound bd d) : Sound bd (signalRx rx d) := by
  unfold signalRx
  dsimp only
  repeat' (first
    | with_reducible assumption
    | (intro _)
    | with_reducible (first | apply setPort_sound | apply freeUnits_sound | apply receive_sound | apply promote_sound))

theorem remoteSignalRelease_sound {p cls : Nat} {d : Device} (h_d : Sound bd d) : Sound bd (remoteSignalRelease p cls d) := by
  unfold remoteSignalRelease
  dsimp only
  repeat' (first | with_reducible (first | assumption | apply arriveUnit_sound | apply setPort_sound | apply freeSignal_sound) | split)

theorem sendTrain_sound {d : Device} {p l flags : Nat} (h_d : Sound bd d) : Sound bd (sendTrain d p l flags) := by
  unfold sendTrain
  dsimp only
  repeat' (with_reducible (first | assumption | apply setLink_sound))

theorem runTest_sound {d : Device} {p l : Nat} {loop : Bool} (h_d : Sound bd d) : Sound bd (runTest d p l loop) := by
  unfold runTest
  dsimp only
  repeat' (with_reducible (first | assumption | apply freeVal_sound | apply setLink_sound))

theorem enterTest_sound {d : Device} {p l : Nat} (h_d : Sound bd d) : Sound bd (enterTest d p l) := by
  unfold enterTest
  dsimp only
  repeat' (with_reducible (first | assumption | apply sound_ite | apply moveLink_sound | apply sendTrain_sound | apply runTest_sound))

theorem beginTest_sound {d : Device} {p l : Nat} {peer : Bool} (h_d : Sound bd d) : Sound bd (beginTest d p l peer) := by
  unfold beginTest
  dsimp only
  repeat' (with_reducible (first | assumption | apply sound_ite | apply setLink_sound | apply flushLink_sound | apply enterTest_sound))

theorem linkPacketRx_sound {p l : Nat} {hd : BitVec 128} {d : Device} (h_d : Sound bd d) : Sound bd (linkPacketRx p l hd d) := by
  unfold linkPacketRx
  dsimp only
  repeat' (first
    | with_reducible (first
      | assumption | apply sound_ite | apply setLink_sound | apply setPort_sound | apply linkCtr_sound | apply leaveFailed_sound
      | apply malformed_sound | apply enterTest_sound))

theorem badBlock_sound {p l : Nat} {unc : Bool} {d : Device} (h_d : Sound bd d) : Sound bd (badBlock p l unc d) := by
  unfold badBlock
  dsimp only
  repeat' (with_reducible (first | assumption | apply sound_ite | apply setLink_sound | apply linkCtr_sound | apply sendCtrl_sound))

theorem trainFail_sound {d : Device} {p l : Nat} (h_d : Sound bd d) : Sound bd (trainFail d p l) := by
  unfold trainFail
  dsimp only
  repeat' (first
    | with_reducible (first
      | assumption | apply sound_ite | apply needTest_sound | apply setLink_sound | apply moveLink_sound | apply trainLink_sound))

theorem trainStepTimeout_sound {p l : Nat} {d : Device} (h_d : Sound bd d) : Sound bd (trainStepTimeout p l d) := by
  unfold trainStepTimeout
  repeat' (with_reducible (first | assumption | apply sound_ite | apply trainFail_sound))

theorem trainStepDone_sound {p l : Nat} {pol : BitVec 4} {map : BitVec 8} {d : Device} (h_d : Sound bd d) : Sound bd (trainStepDone p l pol map d) :=
    by
  unfold trainStepDone
  dsimp only
  repeat' (first | with_reducible (first | assumption | apply sound_ite | apply setLink_sound | apply sendTrain_sound) | split)

theorem trainPort_sound {d : Device} {p : Nat} (h_d : Sound bd d) : Sound bd (trainPort d p) := by
  unfold trainPort
  dsimp only
  repeat' (first
    | with_reducible assumption
    | (intro _)
    | with_reducible (first | apply sound_ite | apply sound_fold | apply set64_sound | apply setPort_sound))

theorem linkActive_sound {d : Device} {p l : Nat} {b : List Byte} (h_d : Sound bd d) : Sound bd (linkActive d p l b) := by
  unfold linkActive
  dsimp only
  repeat' (first
    | with_reducible (first
      | assumption | apply sound_ite | apply setR_sound | apply set64_sound | apply bump_sound | apply setLink_sound | apply afterLink_sound
      | apply takeDown_sound | apply trainPort_sound))

theorem trainBlockRx_sound {p l : Nat} {b : List Byte} {d : Device} (h_d : Sound bd d) : Sound bd (trainBlockRx p l b d) := by
  unfold trainBlockRx
  dsimp only
  repeat' (first
    | with_reducible (first
      | assumption | apply sound_ite | apply setLink_sound | apply sendTrain_sound | apply runTest_sound | apply beginTest_sound
      | apply linkActive_sound))

theorem linkSilenceTimeout_sound {p l : Nat} {d : Device} (h_d : Sound bd d) : Sound bd (linkSilenceTimeout p l d) := by
  unfold linkSilenceTimeout
  repeat' (with_reducible (first | assumption | apply sound_ite | apply leaveFailed_sound))

theorem laneLockLoss_sound {p l lane : Nat} {d : Device} (h_d : Sound bd d) : Sound bd (laneLockLoss p l lane d) := by
  unfold laneLockLoss
  dsimp only
  repeat' (with_reducible (first | assumption | apply sound_ite | apply setLink_sound | apply leaveFailed_sound))

theorem laneLockRegained_sound {p l : Nat} {d : Device} (h_d : Sound bd d) : Sound bd (laneLockRegained p l d) := by
  unfold laneLockRegained
  repeat' (with_reducible (first | assumption | apply sound_ite | apply trainLink_sound))

theorem retrain_sound {p l : Nat} {d : Device} (h_d : Sound bd d) : Sound bd (retrain p l d) := by
  unfold retrain
  repeat' (with_reducible (first | assumption | apply sound_ite | apply trainLink_sound))

theorem storeLinkCtrl_sound {d : Device} {p l v : Nat} (h_d : Sound bd d) : Sound bd (storeLinkCtrl d p l v) := by
  unfold storeLinkCtrl
  dsimp only
  repeat' (with_reducible (first | assumption | apply sound_ite | apply setR_sound))

theorem startTest_sound {p l : Nat} {v : Reg} {force : Bool} {d : Device} (h_d : Sound bd d) : Sound bd (startTest p l v force d) := by
  unfold startTest
  dsimp only
  repeat' (with_reducible (first | assumption | apply sound_ite | apply setLink_sound | apply beginTest_sound | apply storeLinkCtrl_sound))

theorem testReq_sound {p l : Nat} {v : Reg} {d : Device} (h_d : Sound bd d) : Sound bd (testReq p l v d) := by
  unfold testReq
  repeat' (with_reducible (first | assumption | apply startTest_sound))

theorem testForce_sound {p l : Nat} {v : Reg} {d : Device} (h_d : Sound bd d) : Sound bd (testForce p l v d) := by
  unfold testForce
  repeat' (with_reducible (first | assumption | apply startTest_sound))

theorem testEntryAckTimeout_sound {p l : Nat} {d : Device} (h_d : Sound bd d) : Sound bd (testEntryAckTimeout p l d) := by
  unfold testEntryAckTimeout
  repeat' (with_reducible (first | assumption | apply sound_ite | apply enterTest_sound))

theorem countPrbs_sound {d : Device} {p l : Nat} (h_d : Sound bd d) : Sound bd (countPrbs d p l) := by
  unfold countPrbs
  dsimp only
  repeat' (first
    | with_reducible assumption
    | (intro _)
    | with_reducible (first | apply sound_fold | apply bump_sound | apply bump64_sound | apply freeVal_sound | apply runTest_sound))

theorem testEnd_sound {p l : Nat} {d : Device} (h_d : Sound bd d) : Sound bd (testEnd p l d) := by
  unfold testEnd
  dsimp only
  repeat' (first
    | with_reducible (first
      | assumption | apply sound_ite | apply setR_sound | apply setEvt_sound | apply moveLink_sound | apply trainLink_sound | apply countPrbs_sound))

theorem testAnswerTimeout_sound {p l : Nat} {d : Device} (h_d : Sound bd d) : Sound bd (testAnswerTimeout p l d) := by
  unfold testAnswerTimeout
  dsimp only
  repeat' (first
    | with_reducible (first | assumption | apply sound_ite | apply setR_sound | apply setLink_sound | apply runTest_sound | apply trainFail_sound))

end Sys2Proof.Machine
end

