-- ==== Sys2Proof/Laws/SoundArcade.lean ====
section
/-!
SUPPORT. The Arcade, the update engines and the Foyer keep the module sound. Each lemma is named after the operation and says that it keeps `Sound` with any bounds.
-/
namespace Sys2Proof.Machine

variable {bd : Nat → Nat}


/-! ### Arcade -/

theorem setCtx_sound {d : Device} {r : Nat} {c : Ctx} (h_d : Sound bd d) : Sound bd (setCtx d r c) := by
  unfold setCtx
  repeat' (first | with_reducible assumption | (fail_if_no_progress with_reducible refine sound_mk rfl rfl rfl rfl rfl rfl ?_))

theorem setBkt_sound {d : Device} {r : Nat} {c : Ctx} {n : Nat} {b : Bkt} (h_d : Sound bd d) : Sound bd (setBkt d r c n b) := by
  unfold setBkt
  repeat' (with_reducible (first | assumption | apply setCtx_sound))

theorem ctxBump_sound {d : Device} {r off n : Nat} (h_d : Sound bd d) : Sound bd (ctxBump d r off n) := by
  unfold ctxBump
  repeat' (first | with_reducible (first | assumption | apply setCtx_sound) | split)

theorem ctxResult_sound {d : Device} {p : Nat} {code : Option Nat} (h_d : Sound bd d) : Sound bd (ctxResult d p code) := by
  unfold ctxResult
  repeat' (with_reducible (first | assumption | apply setR_sound))

theorem freeRx_sound {d : Device} {x : Rx} (h_d : Sound bd d) : Sound bd (freeRx d x) := by
  unfold freeRx
  repeat' (with_reducible (first | assumption | apply freeUnits_sound))

theorem discardRx_sound {off : Nat} {d : Device} {x : Rx} (h_d : Sound bd d) : Sound bd (discardRx off d x) := by
  unfold discardRx
  repeat' (with_reducible (first | assumption | apply bump_sound | apply freeRx_sound))

theorem dropHeld_sound {d : Device} {r : Nat} (h_d : Sound bd d) : Sound bd (dropHeld d r) := by
  unfold dropHeld
  dsimp only
  repeat' (first
    | with_reducible assumption
    | (intro _)
    | with_reducible (first | apply sound_fold | apply discardRx_sound)
    | (fail_if_no_progress with_reducible refine sound_mk rfl rfl rfl rfl rfl rfl ?_))

theorem readTable_sound {d : Device} {j a nb : Nat} (h_d : Sound bd d) : OkE (fun e => Sound bd e.2) (fun a => Sound bd a.2) (readTable d j a nb) :=
    by
  unfold readTable
  dsimp only
  repeat' (first
    | with_reducible (first
      | assumption | apply okE_ite | refine unitRead_err (by with_reducible assumption) ?_ | refine unitRead_ok (by with_reducible assumption) ?_
      | refine okE_error ?_ | refine okE_ok ?_)
    | split)

theorem readTable_err {d : Device} {j a nb q0 : Nat} {d1 : Device} (he : readTable d j a nb = .error (q0, d1)) (h_d : Sound bd d) : Sound bd d1 :=
    (readTable_sound h_d : OkE (fun e => Sound bd e.2) (fun a => Sound bd a.2) (readTable d j a nb)).err he

theorem readTable_ok {d : Device} {j a nb : Nat} {q0 : List (List Byte)} {d1 : Device} (he : readTable d j a nb = .ok (q0, d1)) (h_d : Sound bd d) :
    Sound bd d1 := (readTable_sound h_d : OkE (fun e => Sound bd e.2) (fun a => Sound bd a.2) (readTable d j a nb)).ok he

theorem ctxLoad_sound {p r j : Nat} {d : Device} (h_d : Sound bd d) : Sound bd (ctxLoad p r j d) := by
  unfold ctxLoad
  dsimp only
  repeat' (first
    | with_reducible (first
      | assumption | apply sound_ite | apply poisonSeen_sound | refine unitRead_err (by with_reducible assumption) ?_
      | refine unitRead_ok (by with_reducible assumption) ?_ | apply dropMonitors_sound | apply setCtx_sound | apply ctxResult_sound
      | apply dropHeld_sound | refine readTable_err (by with_reducible assumption) ?_ | refine readTable_ok (by with_reducible assumption) ?_)
    | split)

theorem dropCtx_sound {d : Device} {r : Nat} (h_d : Sound bd d) : Sound bd (dropCtx d r) := by
  unfold dropCtx
  dsimp only
  repeat' (first
    | with_reducible (first | assumption | apply dropMonitors_sound | apply dropHeld_sound)
    | (fail_if_no_progress with_reducible refine sound_mk rfl rfl rfl rfl rfl rfl ?_))

theorem ctxUnload_sound {p r : Nat} {d : Device} (h_d : Sound bd d) : Sound bd (ctxUnload p r d) := by
  unfold ctxUnload
  repeat' (first | with_reducible (first | assumption | apply sound_ite | apply ctxResult_sound | apply dropCtx_sound) | split)

theorem ctxCmdReserved_sound {p : Nat} {d : Device} (h_d : Sound bd d) : Sound bd (ctxCmdReserved p d) := by
  unfold ctxCmdReserved
  repeat' (with_reducible (first | assumption | apply ctxResult_sound))

theorem arcadeEv_sound {d : Device} {r : Nat} {c : Ctx} {code : Nat} (h_d : Sound bd d) : Sound bd (arcadeEv d r c code) := by
  unfold arcadeEv
  repeat' (with_reducible (first | assumption | apply jobEv_sound))

theorem ctxTaint_sound {d : Device} {r code : Nat} (h_d : Sound bd d) : Sound bd (ctxTaint d r code) := by
  unfold ctxTaint
  dsimp only
  repeat' (first
    | with_reducible (first
      | assumption | apply setEvt_sound | apply taint_sound | apply dropMonitors_sound | apply setCtx_sound | apply arcadeEv_sound)
    | split)

theorem ringErr_sound {d : Device} {r p : Nat} (h_d : Sound bd d) : Sound bd (ringErr d r p) := by
  unfold ringErr
  repeat' (with_reducible (first | assumption | apply bump_sound | apply dropMonitors_sound | apply breakRing_sound))

theorem arcWrite_sound {d : Device} {r a : Nat} {bs : List (Byte × Bool)} (h_d : Sound bd d) : Sound bd (arcWrite d r a bs) := by
  unfold arcWrite
  repeat' (first
    | with_reducible (first
      | assumption | apply sound_ite | refine unitWrite_err (by with_reducible assumption) ?_
      | refine unitWrite_ok (by with_reducible assumption) ?_ | apply ctxTaint_sound)
    | split)

theorem ctxArrive_sound {d : Device} {c : Ctx} {w : Nat} (h_d : Sound bd d) : Sound bd (ctxArrive d c w) := by
  unfold ctxArrive
  repeat' (with_reducible (first | assumption | apply arriveUnit_sound))

theorem sendPartials_sound {d : Device} {r n : Nat} {ks : List Pkt} (h_d : Sound bd d) : Sound bd (sendPartials d r n ks) := by
  unfold sendPartials
  dsimp only
  repeat' (first
    | with_reducible assumption
    | (intro _)
    | with_reducible (first | apply sound_ite | apply sound_fold | apply queuePkt_sound | apply setBkt_sound)
    | split)

theorem mapMark_sound {d : Device} {j : Nat} {e : List Byte} {i : Nat} (h_d : Sound bd d) : Sound bd (mapMark d j e i) := by
  unfold mapMark
  dsimp only
  repeat' (first | with_reducible (first | assumption | apply setHmem_sound | apply Mem.put_wf | apply Sound.hmem (bd := bd)) | split)

theorem mapClear_sound {d : Device} {j : Nat} {e : List Byte} (h_d : Sound bd d) : Sound bd (mapClear d j e) := by
  unfold mapClear
  repeat' (first
    | with_reducible assumption
    | (intro _)
    | with_reducible (first | apply sound_ite | apply sound_fold | apply setHmem_sound | apply Mem.zero_wf | apply Sound.hmem (bd := bd))
    | split)

theorem doneCheck_sound {d : Device} {r n : Nat} (h_d : Sound bd d) : Sound bd (doneCheck d r n) := by
  unfold doneCheck
  dsimp only
  repeat' (first | with_reducible (first | assumption | apply sound_ite | apply setBkt_sound | apply ctxArrive_sound) | split)

theorem markBlk_sound {d : Device} {r n i : Nat} (h_d : Sound bd d) : Sound bd (markBlk d r n i) := by
  unfold markBlk
  dsimp only
  repeat' (first | with_reducible (first | assumption | apply setBkt_sound | apply mapMark_sound) | split)

theorem arcPoison_sound {d : Device} {c : Ctx} {bad : Bool} (h_d : Sound bd d) : Sound bd (arcPoison d c bad) := by
  unfold arcPoison
  repeat' (with_reducible (first | assumption | apply sound_ite | apply poisonSeen_sound))

theorem countLocal_sound {d : Device} {r : Nat} {c : Ctx} {e : List Byte} {i : Nat} {l : Local} (h_d : Sound bd d) : Sound bd
    (countLocal d r c e i l) := by
  unfold countLocal
  dsimp only
  repeat' (first | with_reducible (first | assumption | apply hallParity_sound | apply ctxBump_sound | apply arcPoison_sound) | split)

theorem ownWrite_sound {d : Device} {r n i : Nat} {o : Owned} (h_d : Sound bd d) : Sound bd (ownWrite d r n i o) := by
  unfold ownWrite
  dsimp only
  repeat' (first
    | with_reducible (first | assumption | apply sound_ite | apply setBkt_sound | apply ctxBump_sound | apply arcWrite_sound | apply markBlk_sound)
    | split)

theorem startBlocks_sound {d : Device} {r n : Nat} {is : List Nat} (h_d : Sound bd d) : Sound bd (startBlocks d r n is).1 := by
  unfold startBlocks
  dsimp only
  repeat' (first
    | with_reducible assumption
    | (intro _)
    | with_reducible (first
      | apply sound_fold1 | apply sound_ite1 | refine unitRead_err (by with_reducible assumption) ?_
      | refine unitRead_ok (by with_reducible assumption) ?_ | apply ctxTaint_sound | apply markBlk_sound | apply arcPoison_sound
      | apply countLocal_sound | apply ownWrite_sound)
    | split)

theorem takeTurn_sound {d : Device} {r : Nat} {c : Ctx} (h_d : Sound bd d) : Sound bd (takeTurn d r c) := by
  unfold takeTurn
  dsimp only
  repeat' (with_reducible (first | assumption | apply sound_ite | apply setPort_sound))

theorem chainStart_sound {r n b : Nat} {d : Device} (h_d : Sound bd d) : Sound bd (chainStart r n b d) := by
  unfold chainStart
  dsimp only
  repeat' (first
    | with_reducible (first
      | assumption | apply sound_ite | apply sendPartials_sound | apply doneCheck_sound | apply startBlocks_sound | apply takeTurn_sound)
    | split)

theorem takeBlk_sound {d : Device} {r n : Nat} {own : Bool} {b : Blk} (h_d : Sound bd d) : Sound bd (takeBlk d r n own b).1 := by
  unfold takeBlk
  dsimp only
  repeat' (first
    | with_reducible (first
      | assumption | apply sound_ite1 | apply markBlk_sound | apply arcPoison_sound | apply countLocal_sound | apply ownWrite_sound)
    | split)

theorem partialTake_sound {d : Device} {x : Rx} {c : Ctx} (h_d : Sound bd d) : Sound bd (partialTake d x c) := by
  unfold partialTake
  dsimp only
  repeat' (first
    | with_reducible assumption
    | (intro _)
    | with_reducible (first | apply sound_fold1 | apply sendPartials_sound | apply doneCheck_sound | apply takeBlk_sound))

theorem partialArrive_sound {d : Device} {x : Rx} {c : Ctx} (h_d : Sound bd d) : Sound bd (partialArrive d x c) := by
  unfold partialArrive
  dsimp only
  repeat' (first
    | with_reducible (first
      | assumption | apply sound_ite | apply setBkt_sound | apply ctxBump_sound | apply freeRx_sound | apply ringErr_sound | apply partialTake_sound)
    | split)

theorem readyArrive_sound {d : Device} {x : Rx} {c : Ctx} (h_d : Sound bd d) : Sound bd (readyArrive d x c) := by
  unfold readyArrive
  dsimp only
  repeat' (first
    | with_reducible assumption
    | (intro _)
    | with_reducible (first
      | apply sound_ite | apply sound_fold | apply queuePkt_sound | apply setBkt_sound | apply freeRx_sound | apply ringErr_sound))

theorem normRecord_sound {d : Device} {r : Nat} (h_d : Sound bd d) : Sound bd (normRecord d r) := by
  unfold normRecord
  dsimp only
  repeat' (first
    | with_reducible assumption
    | (intro _)
    | with_reducible (first
      | apply sound_ite | apply sound_fold | apply taint_sound | refine unitWrite_err (by with_reducible assumption) ?_
      | refine unitWrite_ok (by with_reducible assumption) ?_ | apply setCtx_sound | apply ctxTaint_sound | apply ctxArrive_sound)
    | split)

theorem restCheck_sound {d : Device} {r : Nat} (h_d : Sound bd d) : Sound bd (restCheck d r) := by
  unfold restCheck
  repeat' (first | with_reducible (first | assumption | apply sound_ite | apply setCtx_sound) | split)

theorem normArrive_sound {d : Device} {x : Rx} {c : Ctx} (h_d : Sound bd d) : Sound bd (normArrive d x c) := by
  unfold normArrive
  dsimp only
  repeat' (first
    | with_reducible (first
      | assumption | apply sound_ite | apply queuePkt_sound | apply setCtx_sound | apply freeRx_sound | apply ringErr_sound | apply normRecord_sound
      | apply restCheck_sound))

theorem gatherCheck_sound {d : Device} {r n : Nat} (h_d : Sound bd d) : Sound bd (gatherCheck d r n) := by
  unfold gatherCheck
  dsimp only
  repeat' (first
    | with_reducible (first | assumption | apply sound_ite | apply setBkt_sound | apply ctxArrive_sound | apply restCheck_sound)
    | split)

theorem gatherArrive_sound {d : Device} {x : Rx} {c : Ctx} (h_d : Sound bd d) : Sound bd (gatherArrive d x c) := by
  unfold gatherArrive
  dsimp only
  repeat' (first
    | with_reducible (first
      | assumption | apply sound_ite | apply taint_sound | refine unitWrite_err (by with_reducible assumption) ?_
      | refine unitWrite_ok (by with_reducible assumption) ?_ | apply queuePkt_sound | apply setBkt_sound | apply freeRx_sound | apply ringErr_sound
      | apply gatherCheck_sound)
    | split)

theorem arcTake_sound {d : Device} {x : Rx} {c : Ctx} (h_d : Sound bd d) : Sound bd (arcTake d x c) := by
  unfold arcTake
  dsimp only
  repeat' (first
    | with_reducible (first
      | assumption | apply bump64_sound | apply partialArrive_sound | apply readyArrive_sound | apply normArrive_sound | apply gatherArrive_sound)
    | split)

theorem arcRoute_sound {x : Rx} {d : Device} (h_d : Sound bd d) : Sound bd (arcRoute x d) := by
  unfold arcRoute
  dsimp only
  repeat' (first
    | with_reducible (first | assumption | apply sound_ite | apply bump_sound | apply pushEv_sound | apply freeRx_sound | apply arcTake_sound)
    | (fail_if_no_progress with_reducible refine sound_mk rfl rfl rfl rfl rfl rfl ?_)
    | split)

theorem reduceRx_sound {kind : Nat} {x : Rx} {d : Device} (h_d : Sound bd d) : Sound bd (reduceRx kind x d) := by
  unfold reduceRx
  dsimp only
  repeat' (first | with_reducible assumption | (intro _) | with_reducible (first | apply sound_ite | apply receive_sound | apply arcRoute_sound))

theorem readyRx_sound {x : Rx} {d : Device} (h_d : Sound bd d) : Sound bd (readyRx x d) := by
  unfold readyRx
  repeat' (with_reducible (first | assumption | apply reduceRx_sound))

theorem partialRx_sound {x : Rx} {d : Device} (h_d : Sound bd d) : Sound bd (partialRx x d) := by
  unfold partialRx
  repeat' (with_reducible (first | assumption | apply reduceRx_sound))

theorem normRx_sound {x : Rx} {d : Device} (h_d : Sound bd d) : Sound bd (normRx x d) := by
  unfold normRx
  repeat' (with_reducible (first | assumption | apply reduceRx_sound))

theorem gatherRx_sound {x : Rx} {d : Device} (h_d : Sound bd d) : Sound bd (gatherRx x d) := by
  unfold gatherRx
  repeat' (with_reducible (first | assumption | apply reduceRx_sound))

theorem heldTake_sound {r : Nat} {d : Device} {x : Rx} (h_d : Sound bd d) : Sound bd (heldTake r d x) := by
  unfold heldTake
  repeat' (first
    | with_reducible (first | assumption | apply sound_ite | apply freeRx_sound | apply discardRx_sound | apply partialTake_sound)
    | split)

theorem bucketReady_sound {r n : Nat} {d : Device} (h_d : Sound bd d) : Sound bd (bucketReady r n d) := by
  unfold bucketReady
  dsimp only
  repeat' (first
    | with_reducible assumption
    | (intro _)
    | with_reducible (first
      | apply sound_ite | apply sound_fold | apply poisonSeen_sound | apply queuePkt_sound | apply setBkt_sound
      | refine readTable_err (by with_reducible assumption) ?_ | refine readTable_ok (by with_reducible assumption) ?_ | apply ctxTaint_sound
      | apply mapClear_sound | apply doneCheck_sound | apply heldTake_sound)
    | split)

theorem deadlineTaint_sound {r w n : Nat} {d : Device} (h_d : Sound bd d) : Sound bd (deadlineTaint r w n d) := by
  unfold deadlineTaint
  dsimp only
  repeat' (first | with_reducible (first | assumption | apply sound_ite | apply ctxTaint_sound) | split)

theorem pushedSend_sound {r n : Nat} {d : Device} (h_d : Sound bd d) : Sound bd (pushedSend r n d) := by
  unfold pushedSend
  dsimp only
  repeat' (first
    | with_reducible assumption
    | (intro _)
    | with_reducible (first | apply sound_ite | apply sound_fold | apply queuePkt_sound | apply setBkt_sound)
    | split)

theorem ownRestart_sound {r n : Nat} {e : List Byte} {d : Device} {i : Nat} (h_d : Sound bd d) : Sound bd (ownRestart r n e d i) := by
  unfold ownRestart
  dsimp only
  repeat' (first | with_reducible (first | assumption | apply countLocal_sound | apply ownWrite_sound) | split)

theorem upstreamRestart_sound {r n : Nat} {d : Device} (h_d : Sound bd d) : Sound bd (upstreamRestart r n d) := by
  unfold upstreamRestart
  dsimp only
  repeat' (first
    | with_reducible assumption
    | (intro _)
    | with_reducible (first
      | apply sound_ite | apply sound_fold | apply setBkt_sound | apply ctxBump_sound | apply sendPartials_sound | apply doneCheck_sound
      | apply startBlocks_sound | apply ownRestart_sound)
    | split)

theorem emptyBlockWrite_sound {r n : Nat} {d : Device} (h_d : Sound bd d) : Sound bd (emptyBlockWrite r n d) := by
  unfold emptyBlockWrite
  dsimp only
  repeat' (first
    | with_reducible assumption
    | (intro _)
    | with_reducible (first
      | apply sound_ite | apply sound_fold | apply setCtx_sound | apply ctxBump_sound | apply doneCheck_sound | apply ownWrite_sound)
    | split)

theorem normSend_sound {r : Nat} {d : Device} (h_d : Sound bd d) : Sound bd (normSend r d) := by
  unfold normSend
  dsimp only
  repeat' (first
    | with_reducible (first
      | assumption | apply sound_ite | apply queuePkt_sound | apply setCtx_sound | apply takeTurn_sound | apply normRecord_sound
      | apply restCheck_sound)
    | split)

theorem gatherSend_sound {r n : Nat} {d : Device} (h_d : Sound bd d) : Sound bd (gatherSend r n d) := by
  unfold gatherSend
  dsimp only
  repeat' (first
    | with_reducible (first
      | assumption | apply sound_ite | apply bump_sound | apply setJob_sound | refine unitRead_err (by with_reducible assumption) ?_
      | refine unitRead_ok (by with_reducible assumption) ?_ | apply queuePkt_sound | apply setBkt_sound | apply ctxTaint_sound
      | apply arcPoison_sound | apply takeTurn_sound | apply gatherCheck_sound)
    | split)

theorem ctxWait_sound {d : Device} {r w t n : Nat} (h_d : Sound bd d) : Sound bd (ctxWait d r w t n) := by
  unfold ctxWait
  repeat' (with_reducible (first | assumption | apply startWait_sound))

theorem ctxActivate_sound {d : Device} {r step attempt : Nat} (h_d : Sound bd d) : Sound bd (ctxActivate d r step attempt) := by
  unfold ctxActivate
  dsimp only
  repeat' (first
    | with_reducible assumption
    | (intro _)
    | with_reducible (first | apply sound_fold | apply setCtx_sound | apply discardRx_sound | apply arcRoute_sound | apply ctxWait_sound)
    | (fail_if_no_progress with_reducible refine sound_mk rfl rfl rfl rfl rfl rfl ?_)
    | split)

theorem arcadeStart_sound {d : Device} {j step attempt : Nat} (h_d : Sound bd d) : Sound bd (arcadeStart d j step attempt) := by
  unfold arcadeStart
  repeat' (first | with_reducible assumption | (intro _) | with_reducible (first | apply sound_fold | apply ctxActivate_sound))

theorem arcadeStop_sound {d : Device} {j : Nat} (h_d : Sound bd d) : Sound bd (arcadeStop d j) := by
  unfold arcadeStop
  repeat' (first
    | with_reducible assumption
    | (intro _)
    | with_reducible (first | apply sound_fold | apply dropMonitors_sound | apply setCtx_sound)
    | split)

theorem arcadeUnload_sound {d : Device} {j : Nat} (h_d : Sound bd d) : Sound bd (arcadeUnload d j) := by
  unfold arcadeUnload
  repeat' (first | with_reducible assumption | (intro _) | with_reducible (first | apply sound_fold | apply dropCtx_sound))

/-! ### Update -/

theorem commitPair_sound {d : Device} {src off mlo mhi hi : Nat} (h_d : Sound bd d) : Sound bd (commitPair d src off mlo mhi hi) := by
  unfold commitPair
  dsimp only
  repeat' (first | with_reducible (first | assumption | apply setR_sound | apply setHdr_sound) | split)

theorem setUctx_sound {d : Device} {j : Nat} {u : UCtx} (h_d : Sound bd d) : Sound bd (setUctx d j u) := by
  unfold setUctx
  repeat' (first | with_reducible assumption | (fail_if_no_progress with_reducible refine sound_mk rfl rfl rfl rfl rfl rfl ?_))

theorem uread_sound {d : Device} {j a n : Nat} (h_d : Sound bd d) : OkE (fun e => Sound bd e.2) (fun a => Sound bd a.2) (uread d j a n) := by
  unfold uread
  repeat' (first
    | with_reducible (first
      | assumption | apply okE_ite | apply poisonSeen_sound | refine unitRead_err (by with_reducible assumption) ?_
      | refine unitRead_ok (by with_reducible assumption) ?_ | refine okE_error ?_ | refine okE_ok ?_)
    | split)

theorem uread_err {d : Device} {j a n : Nat} {q0 : UFail} {d1 : Device} (he : uread d j a n = .error (q0, d1)) (h_d : Sound bd d) : Sound bd d1 :=
    (uread_sound h_d : OkE (fun e => Sound bd e.2) (fun a => Sound bd a.2) (uread d j a n)).err he

theorem uread_ok {d : Device} {j a n : Nat} {q0 : List Byte} {d1 : Device} (he : uread d j a n = .ok (q0, d1)) (h_d : Sound bd d) : Sound bd d1 :=
    (uread_sound h_d : OkE (fun e => Sound bd e.2) (fun a => Sound bd a.2) (uread d j a n)).ok he

theorem ulatch_sound {d : Device} {j : Nat} {c : Ctx} {u : UCtx} (h_d : Sound bd d) : OkE (fun e => Sound bd e.2) (fun a => Sound bd a.2)
    (ulatch d j c u) := by
  unfold ulatch
  dsimp only
  repeat' (first
    | with_reducible (first
      | assumption | refine uread_err (by with_reducible assumption) ?_ | refine uread_ok (by with_reducible assumption) ?_ | refine okE_error ?_
      | refine okE_ok ?_)
    | split)

theorem ulatch_err {d : Device} {j : Nat} {c : Ctx} {u : UCtx} {q0 : UFail} {d1 : Device} (he : ulatch d j c u = .error (q0, d1))
    (h_d : Sound bd d) : Sound bd d1 := (ulatch_sound h_d : OkE (fun e => Sound bd e.2) (fun a => Sound bd a.2) (ulatch d j c u)).err he

theorem ulatch_ok {d : Device} {j : Nat} {c : Ctx} {u q0 : UCtx} {d1 : Device} (he : ulatch d j c u = .ok (q0, d1)) (h_d : Sound bd d) :
    Sound bd d1 := (ulatch_sound h_d : OkE (fun e => Sound bd e.2) (fun a => Sound bd a.2) (ulatch d j c u)).ok he

theorem uctxResult_sound {d : Device} {j : Nat} {code : Option Nat} (h_d : Sound bd d) : Sound bd (uctxResult d j code) := by
  unfold uctxResult
  repeat' (with_reducible (first | assumption | apply setR_sound))

theorem uctxLoad_sound {j : Nat} {d : Device} (h_d : Sound bd d) : Sound bd (uctxLoad j d) := by
  unfold uctxLoad
  dsimp only
  repeat' (first
    | with_reducible (first
      | assumption | apply sound_ite | apply setUctx_sound | refine uread_err (by with_reducible assumption) ?_
      | refine uread_ok (by with_reducible assumption) ?_ | refine ulatch_err (by with_reducible assumption) ?_
      | refine ulatch_ok (by with_reducible assumption) ?_ | apply uctxResult_sound)
    | split)

theorem dropUctx_sound {d : Device} {j : Nat} (h_d : Sound bd d) : Sound bd (dropUctx d j) := by
  unfold dropUctx
  repeat' (first | with_reducible assumption | (fail_if_no_progress with_reducible refine sound_mk rfl rfl rfl rfl rfl rfl ?_))

theorem uctxUnload_sound {j : Nat} {d : Device} (h_d : Sound bd d) : Sound bd (uctxUnload j d) := by
  unfold uctxUnload
  repeat' (with_reducible (first | assumption | apply sound_ite | apply uctxResult_sound | apply dropUctx_sound))

theorem uctxCmdReserved_sound {j : Nat} {d : Device} (h_d : Sound bd d) : Sound bd (uctxCmdReserved j d) := by
  unfold uctxCmdReserved
  repeat' (with_reducible (first | assumption | apply uctxResult_sound))

theorem updateStart_sound {d : Device} {j : Nat} (h_d : Sound bd d) : OkE (fun e => Sound bd e.2) (fun a => Sound bd a) (updateStart d j) := by
  unfold updateStart
  repeat' (first
    | with_reducible (first
      | assumption | apply okE_ite | apply setUctx_sound | refine ulatch_err (by with_reducible assumption) ?_
      | refine ulatch_ok (by with_reducible assumption) ?_ | refine okE_error ?_ | refine okE_ok ?_)
    | split)

theorem updateStart_err {d : Device} {j : Nat} {q0 : UFail} {d1 : Device} (he : updateStart d j = .error (q0, d1)) (h_d : Sound bd d) : Sound bd d1 :=
    (updateStart_sound h_d : OkE (fun e => Sound bd e.2) (fun a => Sound bd a) (updateStart d j)).err he

theorem updateStart_ok {d : Device} {j : Nat} {d1 : Device} (he : updateStart d j = .ok d1) (h_d : Sound bd d) : Sound bd d1 :=
    (updateStart_sound h_d : OkE (fun e => Sound bd e.2) (fun a => Sound bd a) (updateStart d j)).ok he

theorem updateSkip_sound {d : Device} {j : Nat} (h_d : Sound bd d) : Sound bd (updateSkip d j) := by
  unfold updateSkip
  repeat' (first
    | with_reducible assumption
    | (intro _)
    | with_reducible (first | apply sound_ite | apply sound_fold | apply bump_sound | apply setEvt_sound))

theorem gradients_sound {d : Device} {c : Ctx} {e : List Byte} {lo hi : Nat} (h_d : Sound bd d) : OkE (fun e => Sound bd e.2)
    (fun a => Sound bd a.2) (gradients d c e lo hi) := by
  unfold gradients
  dsimp only
  repeat' (first
    | with_reducible (first
      | assumption | apply okE_ite | refine unitRead_err (by with_reducible assumption) ?_ | refine unitRead_ok (by with_reducible assumption) ?_
      | refine okE_error ?_ | refine okE_ok ?_)
    | split)

theorem gradients_err {d : Device} {c : Ctx} {e : List Byte} {lo hi q0 : Nat} {d1 : Device} (he : gradients d c e lo hi = .error (q0, d1))
    (h_d : Sound bd d) : Sound bd d1 := (gradients_sound h_d : OkE (fun e => Sound bd e.2) (fun a => Sound bd a.2) (gradients d c e lo hi)).err he

theorem gradients_errW {d : Device} {c : Ctx} {e : List Byte} {lo hi : Nat} {ew : Nat × Device} (he : gradients d c e lo hi = .error ew)
    (h_d : Sound bd d) : Sound bd ew.2 := (gradients_sound h_d : OkE (fun e => Sound bd e.2) (fun a => Sound bd a.2) (gradients d c e lo hi)).err he

theorem gradients_ok {d : Device} {c : Ctx} {e : List Byte} {lo hi : Nat} {q0 : List El} {d1 : Device} (he : gradients d c e lo hi = .ok (q0, d1))
    (h_d : Sound bd d) : Sound bd d1 := (gradients_sound h_d : OkE (fun e => Sound bd e.2) (fun a => Sound bd a.2) (gradients d c e lo hi)).ok he

theorem gradients_okW {d : Device} {c : Ctx} {e : List Byte} {lo hi : Nat} {ew : List El × Device} (he : gradients d c e lo hi = .ok ew)
    (h_d : Sound bd d) : Sound bd ew.2 := (gradients_sound h_d : OkE (fun e => Sound bd e.2) (fun a => Sound bd a.2) (gradients d c e lo hi)).ok he

theorem putSums_sound {d : Device} {h j k : Nat} {u : UCtx} {m : Sums} (h_d : Sound bd d) : Sound bd (putSums d h j k u m) := by
  unfold putSums
  dsimp only
  repeat' (first
    | with_reducible (first
      | assumption | apply sound_ite | apply setHmem_sound | apply setUctx_sound | apply Mem.writeP_wf | apply Sound.hmem (bd := bd)))

theorem getSums_sound {d : Device} {m : Sums} (h_d : Sound bd d) : Sound bd (getSums d m).2 := by
  unfold getSums
  repeat' (first | with_reducible (first | assumption | apply hallParity_sound) | split)

theorem engineParity_sound {d : Device} {h j : Nat} {bad : Bool} (h_d : Sound bd d) : Sound bd (engineParity d h j bad) := by
  unfold engineParity
  repeat' (with_reducible (first | assumption | apply sound_ite | apply recordErr_sound | apply taint_sound))

theorem chunkReads_sound {c : Ctx} {e : List Byte} {s : Slab} {z0 : Nat} {z1 : Device} (h_z1 : Sound bd z1) : Sound bd (chunkReads c e s z0 z1) :=
    by
  induction z0 generalizing z1 with
  | zero => exact h_z1
  | succ n ih =>
    unfold chunkReads
    refine ih ?_
    split
    · next he => exact gradients_okW he h_z1
    · next he => exact gradients_errW he h_z1

theorem slabFault_sound {d : Device} {j code : Nat} (h_d : Sound bd d) : Sound bd (slabFault d j code) := by
  unfold slabFault
  repeat' (with_reducible (first | assumption | apply causeEv_sound))

theorem slabStats_sound {j n : Nat} {c : Ctx} {d : Device} {s : Slab} (h_d : Sound bd d) : Sound bd (slabStats j n c d s) := by
  unfold slabStats
  dsimp only
  repeat' (first
    | with_reducible (first
      | assumption | apply sound_ite | apply bump_sound | refine gradients_err (by with_reducible assumption) ?_
      | refine gradients_ok (by with_reducible assumption) ?_ | apply putSums_sound | apply engineParity_sound | apply chunkReads_sound
      | apply slabFault_sound)
    | split)

theorem statsPass_sound {j n : Nat} {d : Device} (h_d : Sound bd d) : Sound bd (statsPass j n d) := by
  unfold statsPass
  dsimp only
  repeat' (first
    | with_reducible assumption
    | (intro _)
    | with_reducible (first | apply sound_ite | apply sound_fold | apply setUctx_sound | apply slabStats_sound)
    | split)

theorem normAgrees_sound {d : Device} {c : Ctx} {x : Job} (h_d : Sound bd d) : OkO (fun a => Sound bd a.2) (normAgrees d c x) := by
  unfold normAgrees
  dsimp only
  repeat' (first
    | with_reducible (first
      | assumption | apply okO_ite | refine unitRead_ok (by with_reducible assumption) ?_ | refine okO_some ?_ | exact okO_none)
    | split)

theorem normAgrees_some {d : Device} {c : Ctx} {x : Job} {q0 : Nat} {d1 : Device} (he : normAgrees d c x = some (q0, d1)) (h_d : Sound bd d) :
    Sound bd d1 := (normAgrees_sound h_d : OkO (fun a => Sound bd a.2) (normAgrees d c x)).some he

theorem normsAgree_sound {d : Device} {x : Job} {z0 : List Nat} (h_d : Sound bd d) : OkO (fun a => Sound bd a) (normsAgree d x z0) := by
  induction z0 generalizing d with
  | nil => exact h_d
  | cons r rs ih =>
    unfold normsAgree
    split
    · exact ih h_d
    · split
      · exact okO_none
      · next he => exact ih (normAgrees_some he h_d)

theorem normsAgree_some {d : Device} {x : Job} {z0 : List Nat} {d1 : Device} (he : normsAgree d x z0 = some d1) (h_d : Sound bd d) : Sound bd d1 :=
    (normsAgree_sound h_d : OkO (fun a => Sound bd a) (normsAgree d x z0)).some he

theorem applyGrant_sound {j : Nat} {d : Device} (h_d : Sound bd d) : Sound bd (applyGrant j d) := by
  unfold applyGrant
  dsimp only
  repeat' (first
    | with_reducible (first
      | assumption | apply sound_ite | apply setJob_sound | apply setUctx_sound | refine normsAgree_some (by with_reducible assumption) ?_)
    | split)

theorem etaLatch_sound {j h waited : Nat} {d : Device} (h_d : Sound bd d) : Sound bd (etaLatch j h waited d) := by
  unfold etaLatch
  dsimp only
  repeat' (first
    | with_reducible (first
      | assumption | apply sound_ite | apply setR_sound | apply bump_sound | apply setJob_sound | apply taint_sound | apply causeEv_sound
      | apply setUctx_sound)
    | (fail_if_no_progress with_reducible refine sound_mk rfl rfl rfl rfl rfl rfl ?_)
    | split)

theorem etaWordWrite_sound {src j : Nat} {odd : Bool} {hi : Reg} {d : Device} (h_d : Sound bd d) : Sound bd (etaWordWrite src j odd hi d) := by
  unfold etaWordWrite
  dsimp only
  repeat' (first
    | with_reducible (first | assumption | apply commitPair_sound)
    | (fail_if_no_progress with_reducible refine sound_mk rfl rfl rfl rfl rfl rfl ?_))

theorem stateRead_sound {d : Device} {j h : Nat} {p : List Byte} {a n : Nat} (h_d : Sound bd d) : OkE (fun e => Sound bd e.2)
    (fun a => Sound bd a.2) (stateRead d j h p a n) := by
  unfold stateRead
  dsimp only
  repeat' (first
    | with_reducible assumption
    | (intro _)
    | with_reducible (first
      | apply okE_ite | apply bump_sound | refine unitRead_err (by with_reducible assumption) ?_
      | refine unitRead_ok (by with_reducible assumption) ?_ | apply okE_fold | exact sE_ok2 (by with_reducible assumption) | refine okE_error ?_
      | refine okE_ok ?_)
    | split)

theorem stateRead_errW {d : Device} {j h : Nat} {p : List Byte} {a n : Nat} {ew : Nat × Device} (he : stateRead d j h p a n = .error ew)
    (h_d : Sound bd d) : Sound bd ew.2 := (stateRead_sound h_d : OkE (fun e => Sound bd e.2) (fun a => Sound bd a.2) (stateRead d j h p a n)).err he

theorem stateRead_ok {d : Device} {j h : Nat} {p : List Byte} {a n : Nat} {q0 : List (Byte × Bool)} {d1 : Device}
    (he : stateRead d j h p a n = .ok (q0, d1)) (h_d : Sound bd d) : Sound bd d1 :=
    (stateRead_sound h_d : OkE (fun e => Sound bd e.2) (fun a => Sound bd a.2) (stateRead d j h p a n)).ok he

theorem stateWrite_sound {d : Device} {j h : Nat} {p : List Byte} {mirrored : Bool} {f a : Nat} {xs : List El} (h_d : Sound bd d) : OkE
    (fun e => Sound bd e.2) (fun a => Sound bd a) (stateWrite d j h p mirrored f a xs) := by
  unfold stateWrite
  dsimp only
  repeat' (first
    | with_reducible (first
      | assumption | apply okE_ite | apply bump_sound | apply unitWrite_sound | refine unitWrite_err (by with_reducible assumption) ?_
      | refine unitWrite_ok (by with_reducible assumption) ?_ | refine okE_error ?_ | refine okE_ok ?_)
    | split)

theorem stateWrite_err {d : Device} {j h : Nat} {p : List Byte} {mirrored : Bool} {f a : Nat} {xs : List El} {q0 : Nat} {d1 : Device}
    (he : stateWrite d j h p mirrored f a xs = .error (q0, d1)) (h_d : Sound bd d) : Sound bd d1 :=
    (stateWrite_sound h_d : OkE (fun e => Sound bd e.2) (fun a => Sound bd a) (stateWrite d j h p mirrored f a xs)).err he

theorem stateWrite_errW {d : Device} {j h : Nat} {p : List Byte} {mirrored : Bool} {f a : Nat} {xs : List El} {ew : Nat × Device}
    (he : stateWrite d j h p mirrored f a xs = .error ew) (h_d : Sound bd d) : Sound bd ew.2 :=
    (stateWrite_sound h_d : OkE (fun e => Sound bd e.2) (fun a => Sound bd a) (stateWrite d j h p mirrored f a xs)).err he

theorem stateWrite_ok {d : Device} {j h : Nat} {p : List Byte} {mirrored : Bool} {f a : Nat} {xs : List El} {d1 : Device}
    (he : stateWrite d j h p mirrored f a xs = .ok d1) (h_d : Sound bd d) : Sound bd d1 :=
    (stateWrite_sound h_d : OkE (fun e => Sound bd e.2) (fun a => Sound bd a) (stateWrite d j h p mirrored f a xs)).ok he

theorem countColoc_sound {d : Device} {j h : Nat} {p : List Byte} {a n : Nat} (h_d : Sound bd d) : Sound bd (countColoc d j h p a n) := by
  unfold countColoc
  dsimp only
  repeat' (first
    | with_reducible assumption
    | (intro _)
    | with_reducible (first | apply sound_ite | apply sound_fold | apply bump_sound | apply causeEv_sound | apply setUctx_sound)
    | split)

theorem statEls_sound {d : Device} {j h : Nat} {p : List Byte} {base : Nat} {z0 : List (List Nat)} (h_d : Sound bd d) : OkE (fun e => Sound bd e.2)
    (fun a => Sound bd a.2) (statEls d j h p base z0) := by
  induction z0 generalizing d with
  | nil => exact h_d
  | cons r rs ih =>
    unfold statEls
    dsimp only
    split
    · next he => exact stateRead_errW he h_d
    · next he =>
      have h1 := stateRead_ok he h_d
      split
      · next hx => exact (ih h1).err hx
      · next hx => exact okE_ok (sX_ok2 hx (ih h1))

theorem statEls_err {d : Device} {j h : Nat} {p : List Byte} {base : Nat} {z0 : List (List Nat)} {q0 : Nat} {d1 : Device}
    (he : statEls d j h p base z0 = .error (q0, d1)) (h_d : Sound bd d) : Sound bd d1 :=
    (statEls_sound h_d : OkE (fun e => Sound bd e.2) (fun a => Sound bd a.2) (statEls d j h p base z0)).err he

theorem statEls_ok {d : Device} {j h : Nat} {p : List Byte} {base : Nat} {z0 : List (List Nat)} {q0 : List El} {d1 : Device}
    (he : statEls d j h p base z0 = .ok (q0, d1)) (h_d : Sound bd d) : Sound bd d1 :=
    (statEls_sound h_d : OkE (fun e => Sound bd e.2) (fun a => Sound bd a.2) (statEls d j h p base z0)).ok he

theorem factored_sound {d : Device} {j : Nat} {s : Slab} {clip : Num} {m : Sums} (h_d : Sound bd d) : OkE (fun e => Sound bd e.2)
    (fun a => Sound bd a.2) (factored d j s clip m) := by
  unfold factored
  dsimp only
  repeat' (first
    | with_reducible (first
      | assumption | refine statEls_err (by with_reducible assumption) ?_ | refine statEls_ok (by with_reducible assumption) ?_
      | refine okE_error ?_ | refine okE_ok ?_)
    | split)

theorem factored_err {d : Device} {j : Nat} {s : Slab} {clip : Num} {m : Sums} {q0 : Nat} {d1 : Device}
    (he : factored d j s clip m = .error (q0, d1)) (h_d : Sound bd d) : Sound bd d1 :=
    (factored_sound h_d : OkE (fun e => Sound bd e.2) (fun a => Sound bd a.2) (factored d j s clip m)).err he

theorem factored_ok {d : Device} {j : Nat} {s : Slab} {clip : Num} {m : Sums} {q0 : Factored} {d1 : Device}
    (he : factored d j s clip m = .ok (q0, d1)) (h_d : Sound bd d) : Sound bd d1 :=
    (factored_sound h_d : OkE (fun e => Sound bd e.2) (fun a => Sound bd a.2) (factored d j s clip m)).ok he

theorem writeStats_sound {d : Device} {j : Nat} {s : Slab} {base : Nat} {z0 : Tab El} (h_d : Sound bd d) : OkE (fun e => Sound bd e.2)
    (fun a => Sound bd a) (writeStats d j s base z0) := by
  induction z0 generalizing d with
  | nil => exact h_d
  | cons r rs ih =>
    unfold writeStats
    split
    · next he => exact stateWrite_errW he h_d
    · next he => exact ih (stateWrite_ok he h_d)

theorem writeStats_err {d : Device} {j : Nat} {s : Slab} {base : Nat} {z0 : Tab El} {q0 : Nat} {d1 : Device}
    (he : writeStats d j s base z0 = .error (q0, d1)) (h_d : Sound bd d) : Sound bd d1 :=
    (writeStats_sound h_d : OkE (fun e => Sound bd e.2) (fun a => Sound bd a) (writeStats d j s base z0)).err he

theorem writeStats_ok {d : Device} {j : Nat} {s : Slab} {base : Nat} {z0 : Tab El} {d1 : Device} (he : writeStats d j s base z0 = .ok d1)
    (h_d : Sound bd d) : Sound bd d1 := (writeStats_sound h_d : OkE (fun e => Sound bd e.2) (fun a => Sound bd a) (writeStats d j s base z0)).ok he

theorem slabRead_sound {d : Device} {j : Nat} {c : Ctx} {u : UCtx} {e : List Byte} {s : Slab} {clip : Num} (h_d : Sound bd d) : OkE
    (fun e => Sound bd e.2) (fun a => Sound bd a.2) (slabRead d j c u e s clip) := by
  unfold slabRead
  dsimp only
  repeat' (first
    | with_reducible (first
      | assumption | apply okE_ite | refine unitRead_err (by with_reducible assumption) ?_ | refine unitRead_ok (by with_reducible assumption) ?_
      | refine gradients_err (by with_reducible assumption) ?_ | refine gradients_ok (by with_reducible assumption) ?_ | apply getSums_sound
      | apply stateRead_sound | refine factored_err (by with_reducible assumption) ?_ | refine factored_ok (by with_reducible assumption) ?_
      | refine okE_error ?_ | refine okE_ok ?_ | refine sX_err2 (by with_reducible assumption) ?_ | refine sX_ok2 (by with_reducible assumption) ?_)
    | split)

theorem slabRead_err {d : Device} {j : Nat} {c : Ctx} {u : UCtx} {e : List Byte} {s : Slab} {clip : Num} {q0 : Nat} {d1 : Device}
    (he : slabRead d j c u e s clip = .error (q0, d1)) (h_d : Sound bd d) : Sound bd d1 :=
    (slabRead_sound h_d : OkE (fun e => Sound bd e.2) (fun a => Sound bd a.2) (slabRead d j c u e s clip)).err he

theorem slabRead_ok {d : Device} {j : Nat} {c : Ctx} {u : UCtx} {e : List Byte} {s : Slab} {clip : Num} {q0 : SlabIn} {d1 : Device}
    (he : slabRead d j c u e s clip = .ok (q0, d1)) (h_d : Sound bd d) : Sound bd d1 :=
    (slabRead_sound h_d : OkE (fun e => Sound bd e.2) (fun a => Sound bd a.2) (slabRead d j c u e s clip)).ok he

theorem slabPoison_sound {d : Device} {j : Nat} {s : Slab} {r : SlabIn} (h_d : Sound bd d) : Sound bd (slabPoison d j s r) := by
  unfold slabPoison
  dsimp only
  repeat' (with_reducible (first | assumption | apply sound_ite | apply poisonSeen_sound | apply engineParity_sound))

theorem slabWrite_sound {d : Device} {j : Nat} {c : Ctx} {e : List Byte} {s : Slab} {f : Factored} {out : List Applied} (h_d : Sound bd d) : OkE
    (fun e => Sound bd e.2) (fun a => Sound bd a) (slabWrite d j c e s f out) := by
  unfold slabWrite
  dsimp only
  repeat' (first
    | with_reducible assumption
    | (intro _)
    | with_reducible (first
      | apply sound_ite | apply sound_fold | refine stateWrite_err (by with_reducible assumption) ?_
      | refine stateWrite_ok (by with_reducible assumption) ?_ | apply countColoc_sound | apply writeStats_sound
      | refine writeStats_err (by with_reducible assumption) ?_ | refine writeStats_ok (by with_reducible assumption) ?_ | refine okE_error ?_)
    | split)

theorem slabWrite_err {d : Device} {j : Nat} {c : Ctx} {e : List Byte} {s : Slab} {f : Factored} {out : List Applied} {q0 : Nat} {d1 : Device}
    (he : slabWrite d j c e s f out = .error (q0, d1)) (h_d : Sound bd d) : Sound bd d1 :=
    (slabWrite_sound h_d : OkE (fun e => Sound bd e.2) (fun a => Sound bd a) (slabWrite d j c e s f out)).err he

theorem slabWrite_ok {d : Device} {j : Nat} {c : Ctx} {e : List Byte} {s : Slab} {f : Factored} {out : List Applied} {d1 : Device}
    (he : slabWrite d j c e s f out = .ok d1) (h_d : Sound bd d) : Sound bd d1 :=
    (slabWrite_sound h_d : OkE (fun e => Sound bd e.2) (fun a => Sound bd a) (slabWrite d j c e s f out)).ok he

theorem applySlab_sound {j : Nat} {c : Ctx} {u : UCtx} {e : List Byte} {d : Device} {s : Slab} (h_d : Sound bd d) : Sound bd
    (applySlab j c u e d s) := by
  unfold applySlab
  dsimp only
  repeat' (first
    | with_reducible (first
      | assumption | apply sound_ite | apply bump64_sound | apply setJob_sound | apply slabFault_sound
      | refine slabRead_err (by with_reducible assumption) ?_ | refine slabRead_ok (by with_reducible assumption) ?_ | apply slabPoison_sound
      | refine slabWrite_err (by with_reducible assumption) ?_ | refine slabWrite_ok (by with_reducible assumption) ?_)
    | split)

theorem applyBucket_sound {j n : Nat} {d : Device} (h_d : Sound bd d) : Sound bd (applyBucket j n d) := by
  unfold applyBucket
  dsimp only
  repeat' (first
    | with_reducible assumption
    | (intro _)
    | with_reducible (first | apply sound_ite | apply sound_fold | apply arriveUnit_sound | apply setUctx_sound | apply applySlab_sound)
    | split)

/-! ### Foyer -/

theorem foyerReceive_sound {type : Nat} {hd : BitVec 128} {n : Nat} {f : Device → Device} {d : Device} (h_f : ∀ y0, Sound bd y0 → Sound bd (f y0))
    (h_d : Sound bd d) : Sound bd (foyerReceive type hd n f d) := by
  unfold foyerReceive
  dsimp only
  repeat' (first
    | with_reducible (first
      | assumption | apply sound_ite | apply wake_sound | apply malformed_sound | apply holdUnits_sound | apply freeUnits_sound
      | apply takeBlock_sound)
    | (apply h_f))

theorem writeEvent_sound {d : Device} {e : Ev} (h_d : Sound bd d) : Sound bd (writeEvent d e) := by
  unfold writeEvent
  dsimp only
  repeat' (first
    | with_reducible (first | assumption | apply setR_sound | apply queuePkt_sound)
    | (fail_if_no_progress with_reducible refine sound_mk rfl rfl rfl rfl rfl rfl ?_))

theorem eventRecordWrite_sound {d : Device} (h_d : Sound bd d) : Sound bd (eventRecordWrite d) := by
  unfold eventRecordWrite
  have hq : ∀ e t, d.evQ = e :: t → Sound bd { d with evQ := t } := fun e t he =>
    sound_evQ h_d (by have := h_d.2.2.1; rw [he] at this; simp only [List.length_cons] at this; omega)
  repeat' (first
    | with_reducible (first | assumption | apply sound_ite)
    | (exact hq _ _ (by with_reducible assumption))
    | with_reducible apply writeEvent_sound
    | (fail_if_no_progress with_reducible refine sound_mk rfl rfl rfl rfl rfl rfl ?_)
    | split)

theorem ringRestart_sound {d : Device} (h_d : Sound bd d) : Sound bd (ringRestart d) := by
  unfold ringRestart
  repeat' (with_reducible (first | assumption | apply setR_sound))

theorem evtBaseWrite_sound {v : Word} {d : Device} (h_d : Sound bd d) : Sound bd (evtBaseWrite v d) := by
  unfold evtBaseWrite
  dsimp only
  repeat' (first
    | with_reducible (first | assumption | apply set64_sound | apply ringRestart_sound)
    | (fail_if_no_progress with_reducible refine sound_mk rfl rfl rfl rfl rfl rfl ?_))

theorem evtSizeWrite_sound {v : Reg} {d : Device} (h_d : Sound bd d) : Sound bd (evtSizeWrite v d) := by
  unfold evtSizeWrite
  dsimp only
  repeat' (first
    | with_reducible (first | assumption | apply sound_ite | apply setR_sound | apply causeEv_sound | apply ringRestart_sound)
    | (fail_if_no_progress with_reducible refine sound_mk rfl rfl rfl rfl rfl rfl ?_))

theorem evtHeadWrite_sound {v : Reg} {d : Device} (h_d : Sound bd d) : Sound bd (evtHeadWrite v d) := by
  unfold evtHeadWrite
  repeat' (with_reducible (first | assumption | apply setR_sound))

theorem cmdFault_sound {d : Device} {j tag code : Nat} (h_d : Sound bd d) : Sound bd (cmdFault d j tag code) := by
  unfold cmdFault
  repeat' (with_reducible (first | assumption | apply sound_ite | apply pushEv_sound))

theorem cmdDone_sound {d : Device} {j tag : Nat} {notify : Bool} (h_d : Sound bd d) : Sound bd (cmdDone d j tag notify) := by
  unfold cmdDone
  repeat' (with_reducible (first | assumption | apply sound_ite | apply pushEv_sound))

theorem doorbell_sound {r : Nat} {tail : Reg} {d : Device} (h_d : Sound bd d) : Sound bd (doorbell r tail d) := by
  unfold doorbell
  dsimp only
  repeat' (with_reducible (first | assumption | apply sound_ite | apply setR_sound | apply wake_sound | apply cmdFault_sound))

theorem ringSizeWrite_sound {r : Nat} {v : Reg} {d : Device} (h_d : Sound bd d) : Sound bd (ringSizeWrite r v d) := by
  unfold ringSizeWrite
  dsimp only
  repeat' (with_reducible (first | assumption | apply sound_ite | apply setR_sound | apply causeEv_sound))

theorem ringEntry_sound {d : Device} {r : Nat} (h_d : Sound bd d) : OkE (fun e => Sound bd e.2) (fun a => Sound bd a.2) (ringEntry d r) := by
  unfold ringEntry
  dsimp only
  repeat' (first
    | with_reducible (first
      | assumption | apply okE_ite | apply poisonSeen_sound | apply stackRead_sound | apply unitRead_sound | refine okE_error ?_ | refine okE_ok ?_
      | refine sX_err2 (by with_reducible assumption) ?_ | refine sX_ok2 (by with_reducible assumption) ?_)
    | split)

theorem ringEntry_err {d : Device} {r q0 : Nat} {d1 : Device} (he : ringEntry d r = .error (q0, d1)) (h_d : Sound bd d) : Sound bd d1 :=
    (ringEntry_sound h_d : OkE (fun e => Sound bd e.2) (fun a => Sound bd a.2) (ringEntry d r)).err he

theorem ringEntry_ok {d : Device} {r : Nat} {q0 : List Byte} {d1 : Device} (he : ringEntry d r = .ok (q0, d1)) (h_d : Sound bd d) : Sound bd d1 :=
    (ringEntry_sound h_d : OkE (fun e => Sound bd e.2) (fun a => Sound bd a.2) (ringEntry d r)).ok he

theorem ringPop_sound {d : Device} {r : Nat} (h_d : Sound bd d) : Sound bd (ringPop d r) := by
  unfold ringPop
  repeat' (with_reducible (first | assumption | apply setR_sound))

theorem command_sound {r op : Nat} {wait : Device → List Byte → Bool} {f : Device → List Byte → Nat → Nat → Bool → Except (Nat × Device) Device}
    {d : Device} (h_f : ∀ y0 y1 y2 y3 y4, Sound bd y0 → OkE (fun e => Sound bd e.2) (fun a => Sound bd a) (f y0 y1 y2 y3 y4)) (h_d : Sound bd d) :
    Sound bd (command r op wait f d) := by
  unfold command
  dsimp only
  repeat' (first
    | with_reducible (first
      | assumption | apply sound_ite | apply cmdFault_sound | refine ringEntry_ok (by with_reducible assumption) ?_ | apply ringPop_sound)
    | (apply h_f)
    | with_reducible (first | refine sX_err (by with_reducible assumption) ?_ | refine sX_ok (by with_reducible assumption) ?_)
    | split)

theorem cmdReserved_sound {r : Nat} {d : Device} (h_d : Sound bd d) : Sound bd (cmdReserved r d) := by
  unfold cmdReserved
  repeat' (first
    | with_reducible (first
      | assumption | apply sound_ite | apply cmdFault_sound | refine ringEntry_err (by with_reducible assumption) ?_
      | refine ringEntry_ok (by with_reducible assumption) ?_ | apply ringPop_sound)
    | split)

theorem mapStep_sound {d : Device} {j n : Nat} {f : StepReq → StepReq} (h_d : Sound bd d) : Sound bd (mapStep d j n f) := by
  unfold mapStep
  dsimp only
  repeat' (with_reducible (first | assumption | apply setJob_sound))

theorem batchFetch_sound {j : Nat} {d : Device} (h_d : Sound bd d) : Sound bd (batchFetch j d) := by
  unfold batchFetch
  dsimp only
  repeat' (first
    | with_reducible (first | assumption | apply sound_ite | apply mapStep_sound)
    | (fail_if_no_progress with_reducible refine sound_mk rfl rfl rfl rfl rfl rfl ?_)
    | split)

theorem batchList_sound {d : Device} {j : Nat} {q : StepReq} (h_d : Sound bd d) : Sound bd (batchList d j q) := by
  unfold batchList
  dsimp only
  repeat' (first
    | with_reducible (first | assumption | apply sound_ite | apply cmdFault_sound | apply mapStep_sound)
    | (fail_if_no_progress with_reducible refine sound_mk rfl rfl rfl rfl rfl rfl ?_))

theorem batchBytes_sound {d : Device} {j n len : Nat} (h_d : Sound bd d) : Sound bd (batchBytes d j n len) := by
  unfold batchBytes
  repeat' (with_reducible (first | assumption | apply mapStep_sound))

theorem mapCkpt_sound {d : Device} {j : Nat} {f : Ckpt → Ckpt} (h_d : Sound bd d) : Sound bd (mapCkpt d j f) := by
  unfold mapCkpt
  dsimp only
  repeat' (with_reducible (first | assumption | apply setJob_sound))

theorem ckptKick_sound {d : Device} {j : Nat} (h_d : Sound bd d) : Sound bd (ckptKick d j) := by
  unfold ckptKick
  dsimp only
  repeat' (first
    | with_reducible (first | assumption | apply sound_ite | apply mapCkpt_sound)
    | (fail_if_no_progress with_reducible refine sound_mk rfl rfl rfl rfl rfl rfl ?_)
    | split)

theorem ckptDrop_sound {d : Device} {j : Nat} (h_d : Sound bd d) : Sound bd (ckptDrop d j) := by
  unfold ckptDrop
  dsimp only
  repeat' (with_reducible (first | assumption | apply setJob_sound | apply ckptKick_sound))

theorem ckptFail_sound {d : Device} {j code : Nat} (h_d : Sound bd d) : Sound bd (ckptFail d j code) := by
  unfold ckptFail
  dsimp only
  repeat' (first
    | with_reducible (first | assumption | apply cmdFault_sound | apply ckptDrop_sound)
    | (fail_if_no_progress with_reducible refine sound_mk rfl rfl rfl rfl rfl rfl ?_)
    | split)

theorem ckptList_sound {d : Device} {j : Nat} {k : Ckpt} (h_d : Sound bd d) : Sound bd (ckptList d j k) := by
  unfold ckptList
  dsimp only
  repeat' (with_reducible (first | assumption | apply sound_ite | apply mapCkpt_sound | apply ckptFail_sound))

theorem ckptSend_sound {d : Device} {j : Nat} (h_d : Sound bd d) : Sound bd (ckptSend d j) := by
  unfold ckptSend
  dsimp only
  repeat' (first
    | with_reducible (first
      | assumption | apply sound_ite | apply poisonSeen_sound | refine unitRead_err (by with_reducible assumption) ?_
      | refine unitRead_ok (by with_reducible assumption) ?_ | apply queuePkt_sound | apply mapCkpt_sound | apply ckptFail_sound)
    | (fail_if_no_progress with_reducible refine sound_mk rfl rfl rfl rfl rfl rfl ?_)
    | split)

theorem ckptDone_sound {j : Nat} {d : Device} (h_d : Sound bd d) : Sound bd (ckptDone j d) := by
  unfold ckptDone
  dsimp only
  repeat' (first | with_reducible (first | assumption | apply sound_ite | apply pushEv_sound | apply cmdDone_sound | apply ckptDrop_sound) | split)

theorem readSend_sound {d : Device} {t : Nat} {r : FoyRd} {rest : List FoyRd} (h_d : Sound bd d) : Sound bd (readSend d t r rest) := by
  unfold readSend
  dsimp only
  repeat' (first
    | with_reducible (first | assumption | apply sound_ite | apply queuePkt_sound)
    | (fail_if_no_progress with_reducible refine sound_mk rfl rfl rfl rfl rfl rfl ?_))

theorem vc1Ckpt_sound {d : Device} (h_d : Sound bd d) : OkO (fun a => Sound bd a) (vc1Ckpt d) := by
  unfold vc1Ckpt
  have : OkO (fun a => Sound bd a) (Option.map (ckptSend d) (ckptJob d)) := by
    cases ckptJob d with
    | none => exact okO_none
    | some x => exact okO_some (ckptSend_sound h_d)
  repeat' (first | with_reducible (first | assumption | apply readSend_sound | refine okO_some ?_) | split)

theorem vc1Batch_sound {d : Device} (h_d : Sound bd d) : OkO (fun a => Sound bd a) (vc1Batch d) := by
  unfold vc1Batch
  repeat' (first | with_reducible (first | assumption | apply readSend_sound | refine okO_some ?_ | exact okO_none) | split)

theorem vc1Ckpt_getD_sound {d : Device} (h_d : Sound bd d) : Sound bd ((vc1Ckpt d).getD d) := by
  have := vc1Ckpt_sound h_d
  cases h : vc1Ckpt d with
  | none => exact h_d
  | some r => rw [h] at this; exact this

theorem vc1Batch_getD_sound {d : Device} (h_d : Sound bd d) : Sound bd ((vc1Batch d).getD d) := by
  have := vc1Batch_sound h_d
  cases h : vc1Batch d with
  | none => exact h_d
  | some r => rw [h] at this; exact this

theorem vc1Fill_sound {d : Device} (h_d : Sound bd d) : Sound bd (vc1Fill d) := by
  unfold vc1Fill
  dsimp only
  repeat' (first
    | with_reducible (first | assumption | apply sound_ite | apply vc1Ckpt_getD_sound | apply vc1Batch_getD_sound)
    | (fail_if_no_progress with_reducible refine sound_mk rfl rfl rfl rfl rfl rfl ?_))

theorem foyerSend_sound {d : Device} (h_d : Sound bd d) : Sound bd (foyerSend d) := by
  unfold foyerSend
  dsimp only
  repeat' (first
    | with_reducible (first
      | assumption | apply sound_ite | apply sendNew_sound | apply sendAgain_sound | apply sendRest_sound | apply vc1Fill_sound)
    | split)

theorem packetSend_sound {p : Nat} {d : Device} (h_d : Sound bd d) : Sound bd (packetSend p d) := by
  unfold packetSend
  repeat' (with_reducible (first | assumption | apply sound_ite | apply harlonSend_sound | apply foyerSend_sound))

theorem cplBatch_sound {d : Device} {r : FoyRd} {q : StepReq} {st : Nat} {b : List Byte} (h_d : Sound bd d) : Sound bd (cplBatch d r q st b) := by
  unfold cplBatch
  dsimp only
  repeat' (first
    | with_reducible (first
      | assumption | apply sound_ite | refine unitWrite_err (by with_reducible assumption) ?_
      | refine unitWrite_ok (by with_reducible assumption) ?_ | apply cmdFault_sound | apply batchBytes_sound)
    | split)

theorem cplList_sound {d : Device} {r : FoyRd} {q : StepReq} {st : Nat} {b : List Byte} (h_d : Sound bd d) : Sound bd (cplList d r q st b) := by
  unfold cplList
  dsimp only
  repeat' (with_reducible (first | assumption | apply sound_ite | apply cmdFault_sound | apply mapStep_sound | apply batchList_sound))

theorem cplCkpt_sound {d : Device} {r : FoyRd} {st : Nat} {b : List Byte} (h_d : Sound bd d) : Sound bd (cplCkpt d r st b) := by
  unfold cplCkpt
  dsimp only
  repeat' (first
    | with_reducible (first | assumption | apply sound_ite | apply mapCkpt_sound | apply ckptFail_sound | apply ckptList_sound)
    | split)

theorem foyerCplRx_sound {hd : BitVec 128} {b : List Byte} {d : Device} (h_d : Sound bd d) : Sound bd (foyerCplRx hd b d) := by
  unfold foyerCplRx
  dsimp only
  repeat' (first
    | with_reducible assumption
    | (intro _)
    | with_reducible (first
      | apply sound_ite | apply malformed_sound | apply foyerReceive_sound | apply cplBatch_sound | apply cplList_sound | apply cplCkpt_sound)
    | (fail_if_no_progress with_reducible refine sound_mk rfl rfl rfl rfl rfl rfl ?_)
    | split)

end Sys2Proof.Machine
end

