-- ==== Sys2Proof/Laws/SoundCores.lean ====
section
/-!
SUPPORT. What the cores do keeps the module sound. Each lemma is named after the operation and says that it keeps `Sound` with any bounds.
-/
namespace Sys2Proof.Machine

variable {bd : Nat → Nat}


/-! ### Scalar -/

theorem phase1End_sound {d : Device} {u : Nat} (h_d : Sound bd d) : Sound bd (phase1End d u) := by
  unfold phase1End
  dsimp only
  repeat' (with_reducible (first | assumption | apply sound_ite | apply setCore_sound))

theorem issue_sound {u op : Nat} {f : Core → Nat → Device → Device} {d : Device} (h_f : ∀ y0 y1 y2, Sound bd y2 → Sound bd (f y0 y1 y2))
    (h_d : Sound bd d) : Sound bd (issue u op f d) := by
  unfold issue
  dsimp only
  repeat' (first
    | with_reducible (first | assumption | apply sound_ite | apply coreFault_sound | apply coreStop_sound | apply phase1End_sound)
    | (apply h_f))

theorem adv_sound {d : Device} {u : Nat} {c : Core} (h_d : Sound bd d) : Sound bd (adv d u c) := by
  unfold adv
  repeat' (with_reducible (first | assumption | apply setCore_sound))

theorem reading_sound {d : Device} {u : Nat} {c : Core} {rs : List Nat} {k : Device} (h_d : Sound bd d) (h_k : Sound bd k) : Sound bd
    (reading d u c rs k) := by
  unfold reading
  repeat' (with_reducible (first | assumption | apply sound_ite | apply coreFault_sound | apply coreStop_sound))

theorem aluInstr_sound {u : Nat} {d : Device} (h_d : Sound bd d) : Sound bd (aluInstr u d) := by
  unfold aluInstr
  repeat' (first
    | with_reducible assumption
    | (intro _)
    | with_reducible (first | apply sound_ite | apply coreFault_sound | apply issue_sound | apply adv_sound | apply reading_sound)
    | split)

theorem aluiInstr_sound {u : Nat} {d : Device} (h_d : Sound bd d) : Sound bd (aluiInstr u d) := by
  unfold aluiInstr
  repeat' (first
    | with_reducible assumption
    | (intro _)
    | with_reducible (first | apply sound_ite | apply coreFault_sound | apply issue_sound | apply adv_sound | apply reading_sound)
    | split)

theorem liInstr_sound {u : Nat} {d : Device} (h_d : Sound bd d) : Sound bd (liInstr u d) := by
  unfold liInstr
  dsimp only
  repeat' (first
    | with_reducible assumption
    | (intro _)
    | with_reducible (first | apply sound_ite | apply coreFault_sound | apply issue_sound | apply adv_sound | apply reading_sound))

theorem ldInstr_sound {u : Nat} {d : Device} (h_d : Sound bd d) : Sound bd (ldInstr u d) := by
  unfold ldInstr
  dsimp only
  repeat' (first
    | with_reducible assumption
    | (intro _)
    | with_reducible (first
      | apply sound_ite | apply coreFault_sound | apply coreStop_sound | apply issue_sound | apply adv_sound | apply reading_sound))

theorem stInstr_sound {u : Nat} {d : Device} (h_d : Sound bd d) : Sound bd (stInstr u d) := by
  unfold stInstr
  dsimp only
  repeat' (first
    | with_reducible assumption
    | (intro _)
    | with_reducible (first | apply sound_ite | apply coreFault_sound | apply issue_sound | apply adv_sound | apply reading_sound))

theorem jumpTo_sound {d : Device} {u pc : Nat} {c : Core} {t : Nat} (h_d : Sound bd d) : Sound bd (jumpTo d u pc c t) := by
  unfold jumpTo
  repeat' (with_reducible (first | assumption | apply sound_ite | apply setCore_sound | apply coreFault_sound))

theorem brInstr_sound {u : Nat} {d : Device} (h_d : Sound bd d) : Sound bd (brInstr u d) := by
  unfold brInstr
  repeat' (first
    | with_reducible assumption
    | (intro _)
    | with_reducible (first
      | apply sound_ite | apply coreFault_sound | apply issue_sound | apply adv_sound | apply reading_sound | apply jumpTo_sound)
    | split)

theorem jalInstr_sound {u : Nat} {d : Device} (h_d : Sound bd d) : Sound bd (jalInstr u d) := by
  unfold jalInstr
  repeat' (first
    | with_reducible assumption
    | (intro _)
    | with_reducible (first | apply sound_ite | apply coreFault_sound | apply issue_sound | apply jumpTo_sound))

theorem jalrInstr_sound {u : Nat} {d : Device} (h_d : Sound bd d) : Sound bd (jalrInstr u d) := by
  unfold jalrInstr
  repeat' (first
    | with_reducible assumption
    | (intro _)
    | with_reducible (first | apply sound_ite | apply coreFault_sound | apply issue_sound | apply reading_sound | apply jumpTo_sound))

theorem csrrInstr_sound {u : Nat} {d : Device} (h_d : Sound bd d) : Sound bd (csrrInstr u d) := by
  unfold csrrInstr
  repeat' (first
    | with_reducible assumption
    | (intro _)
    | with_reducible (first | apply sound_ite | apply coreFault_sound | apply issue_sound | apply adv_sound)
    | split)

theorem fenceInstr_sound {u : Nat} {d : Device} (h_d : Sound bd d) : Sound bd (fenceInstr u d) := by
  unfold fenceInstr
  repeat' (first
    | with_reducible assumption
    | (intro _)
    | with_reducible (first | apply sound_ite | apply coreFault_sound | apply issue_sound | apply adv_sound))

theorem safeptInstr_sound {u : Nat} {d : Device} (h_d : Sound bd d) : Sound bd (safeptInstr u d) := by
  unfold safeptInstr
  repeat' (first
    | with_reducible assumption
    | (intro _)
    | with_reducible (first | apply sound_ite | apply coreFault_sound | apply issue_sound | apply adv_sound))

theorem noteEnd_sound {d : Device} {u : Nat} (h_d : Sound bd d) : Sound bd (noteEnd d u) := by
  unfold noteEnd
  dsimp only
  repeat' (first | with_reducible (first | assumption | apply setJob_sound) | split)

theorem endInstr_sound {u : Nat} {d : Device} (h_d : Sound bd d) : Sound bd (endInstr u d) := by
  unfold endInstr
  repeat' (first
    | with_reducible assumption
    | (intro _)
    | with_reducible (first | apply sound_ite | apply coreFault_sound | apply issue_sound | apply adv_sound | apply noteEnd_sound))

theorem nopInstr_sound {u : Nat} {d : Device} (h_d : Sound bd d) : Sound bd (nopInstr u d) := by
  unfold nopInstr
  repeat' (first
    | with_reducible assumption
    | (intro _)
    | with_reducible (first | apply sound_ite | apply coreFault_sound | apply issue_sound | apply adv_sound))

theorem swaitInstr_sound {u : Nat} {d : Device} (h_d : Sound bd d) : Sound bd (swaitInstr u d) := by
  unfold swaitInstr
  dsimp only
  repeat' (first
    | with_reducible assumption
    | (intro _)
    | with_reducible (first
      | apply sound_ite | apply coreFault_sound | apply startWait_sound | apply issue_sound | apply adv_sound | apply reading_sound)
    | split)

theorem sgateInstr_sound {u : Nat} {d : Device} (h_d : Sound bd d) : Sound bd (sgateInstr u d) := by
  unfold sgateInstr
  dsimp only
  repeat' (first
    | with_reducible assumption
    | (intro _)
    | with_reducible (first
      | apply sound_ite | apply setCore_sound | apply coreFault_sound | apply startWait_sound | apply dropMonitor_sound | apply issue_sound
      | apply adv_sound | apply reading_sound)
    | split)

theorem sreadInstr_sound {u : Nat} {d : Device} (h_d : Sound bd d) : Sound bd (sreadInstr u d) := by
  unfold sreadInstr
  dsimp only
  repeat' (first
    | with_reducible assumption
    | (intro _)
    | with_reducible (first
      | apply sound_ite | apply coreFault_sound | refine readWord_some (by with_reducible assumption) ?_ | apply issue_sound | apply adv_sound
      | apply reading_sound)
    | split)

/-! ### Window -/

theorem enter_sound {u op : Nat} {resv : Nat → Bool} {ra rb : Nat → Option Nat} {mem : Core → Nat → Nat × Nat} {d : Device} (h_d : Sound bd d) :
    Sound bd (enter u op resv ra rb mem d) := by
  unfold enter
  dsimp only
  repeat' (first
    | with_reducible assumption
    | (intro _)
    | with_reducible (first
      | apply sound_ite | apply coreFault_sound | apply coreStop_sound | apply issue_sound | apply adv_sound | apply reading_sound)
    | split)

theorem tilePoison_sound {d : Device} {u : Nat} {bad : Bool} (h_d : Sound bd d) : Sound bd (tilePoison d u bad) := by
  unfold tilePoison
  repeat' (with_reducible (first | assumption | apply sound_ite | apply poisonSeen_sound))

/-! ### Array -/

theorem wldInstr_sound {u : Nat} {d : Device} (h_d : Sound bd d) : Sound bd (wldInstr u d) := by
  unfold wldInstr
  repeat' (with_reducible (first | assumption | apply enter_sound))

theorem mmaInstr_sound {u : Nat} {d : Device} (h_d : Sound bd d) : Sound bd (mmaInstr u d) := by
  unfold mmaInstr
  repeat' (with_reducible (first | assumption | apply enter_sound))

theorem accdrainInstr_sound {u : Nat} {d : Device} (h_d : Sound bd d) : Sound bd (accdrainInstr u d) := by
  unfold accdrainInstr
  repeat' (with_reducible (first | assumption | apply enter_sound))

theorem wldStart_sound {u mode waited : Nat} {d : Device} (h_d : Sound bd d) : Sound bd (wldStart u mode waited d) := by
  unfold wldStart
  dsimp only
  repeat' (first
    | with_reducible (first
      | assumption | apply sound_ite | apply bump_sound | apply setCore_sound | apply coreParity_sound | apply tilePoison_sound)
    | split)

theorem wldReady_sound {u mode : Nat} {d : Device} (h_d : Sound bd d) : Sound bd (wldReady u mode d) := by
  unfold wldReady
  dsimp only
  repeat' (first | with_reducible (first | assumption | apply sound_ite | apply setCore_sound) | split)

theorem bankSwap_sound {u mode waited : Nat} {d : Device} (h_d : Sound bd d) : Sound bd (bankSwap u mode waited d) := by
  unfold bankSwap
  dsimp only
  repeat' (first | with_reducible (first | assumption | apply sound_ite | apply bump_sound | apply setCore_sound) | split)

theorem passComplete_sound {u mode : Nat} {d : Device} (h_d : Sound bd d) : Sound bd (passComplete u mode d) := by
  unfold passComplete
  dsimp only
  repeat' (first
    | with_reducible (first
      | assumption | apply sound_ite | apply bump64_sound | apply setCore_sound | apply coreParity_sound | apply tilePoison_sound)
    | split)

theorem accClearDone_sound {u : Nat} {d : Device} (h_d : Sound bd d) : Sound bd (accClearDone u d) := by
  unfold accClearDone
  dsimp only
  repeat' (with_reducible (first | assumption | apply sound_ite | apply setCore_sound))

theorem arrSteerWrite_sound {u : Nat} {v : Reg} {d : Device} (h_d : Sound bd d) : Sound bd (arrSteerWrite u v d) := by
  unfold arrSteerWrite
  dsimp only
  repeat' (with_reducible (first | assumption | apply setCore_sound))

theorem steerApply_sound {u : Nat} {d : Device} (h_d : Sound bd d) : Sound bd (steerApply u d) := by
  unfold steerApply
  dsimp only
  repeat' (with_reducible (first | assumption | apply sound_ite | apply setCore_sound))

/-! ### Vector -/

theorem vbinInstr_sound {u : Nat} {d : Device} (h_d : Sound bd d) : Sound bd (vbinInstr u d) := by
  unfold vbinInstr
  repeat' (with_reducible (first | assumption | apply enter_sound))

theorem vfmaInstr_sound {u : Nat} {d : Device} (h_d : Sound bd d) : Sound bd (vfmaInstr u d) := by
  unfold vfmaInstr
  repeat' (with_reducible (first | assumption | apply enter_sound))

theorem vunInstr_sound {u : Nat} {d : Device} (h_d : Sound bd d) : Sound bd (vunInstr u d) := by
  unfold vunInstr
  repeat' (with_reducible (first | assumption | apply enter_sound))

theorem vscalInstr_sound {u : Nat} {d : Device} (h_d : Sound bd d) : Sound bd (vscalInstr u d) := by
  unfold vscalInstr
  repeat' (with_reducible (first | assumption | apply enter_sound))

theorem vfnInstr_sound {u : Nat} {d : Device} (h_d : Sound bd d) : Sound bd (vfnInstr u d) := by
  unfold vfnInstr
  repeat' (with_reducible (first | assumption | apply enter_sound))

theorem vdfnInstr_sound {u : Nat} {d : Device} (h_d : Sound bd d) : Sound bd (vdfnInstr u d) := by
  unfold vdfnInstr
  repeat' (with_reducible (first | assumption | apply enter_sound))

theorem vredInstr_sound {u : Nat} {d : Device} (h_d : Sound bd d) : Sound bd (vredInstr u d) := by
  unfold vredInstr
  repeat' (with_reducible (first | assumption | apply enter_sound))

theorem vsteInstr_sound {u : Nat} {d : Device} (h_d : Sound bd d) : Sound bd (vsteInstr u d) := by
  unfold vsteInstr
  repeat' (with_reducible (first | assumption | apply enter_sound))

theorem vectorComplete_sound {u : Nat} {d : Device} (h_d : Sound bd d) : Sound bd (vectorComplete u d) := by
  unfold vectorComplete
  dsimp only
  repeat' (first
    | with_reducible (first
      | assumption | apply sound_ite | apply bump_sound | apply setCore_sound | apply coreParity_sound | apply tilePoison_sound)
    | split)

theorem drainComplete_sound {u : Nat} {d : Device} (h_d : Sound bd d) : Sound bd (drainComplete u d) := by
  unfold drainComplete
  dsimp only
  repeat' (first
    | with_reducible (first
      | assumption | apply sound_ite | apply bump_sound | apply setCore_sound | apply coreParity_sound | apply tilePoison_sound)
    | split)

/-! ### Stream -/

theorem ftldInstr_sound {u : Nat} {d : Device} (h_d : Sound bd d) : Sound bd (ftldInstr u d) := by
  unfold ftldInstr
  repeat' (with_reducible (first | assumption | apply enter_sound))

theorem ftinvInstr_sound {u : Nat} {d : Device} (h_d : Sound bd d) : Sound bd (ftinvInstr u d) := by
  unfold ftinvInstr
  repeat' (with_reducible (first | assumption | apply enter_sound))

theorem sxferInstr_sound {u : Nat} {d : Device} (h_d : Sound bd d) : Sound bd (sxferInstr u d) := by
  unfold sxferInstr
  repeat' (with_reducible (first | assumption | apply enter_sound))

theorem sarrInstr_sound {u : Nat} {d : Device} (h_d : Sound bd d) : Sound bd (sarrInstr u d) := by
  unfold sarrInstr
  repeat' (with_reducible (first | assumption | apply enter_sound))

theorem ssetInstr_sound {u : Nat} {d : Device} (h_d : Sound bd d) : Sound bd (ssetInstr u d) := by
  unfold ssetInstr
  repeat' (with_reducible (first | assumption | apply enter_sound))

theorem translateBoth_sound {d : Device} {hall j : Nat} {rd wr : List Nat} (h_d : Sound bd d) : OkE (fun e => True) (fun a => Sound bd a.2.2)
    (translateBoth d hall j rd wr) := by
  unfold translateBoth
  dsimp only
  repeat' (first
    | with_reducible (first | assumption | exact True.intro)
    | (intro _)
    | with_reducible (first | apply sound_fold | apply tableReads_sound | apply markLeaf_sound)
    | (fail_if_no_progress with_reducible refine sound_mk rfl rfl rfl rfl rfl rfl ?_)
    | with_reducible (first | refine okE_error ?_ | refine okE_ok ?_)
    | split)

theorem translateBoth_ok {d : Device} {hall j : Nat} {rd wr : List Nat} {q0 q1 : Tab Nat} {d1 : Device}
    (he : translateBoth d hall j rd wr = .ok (q0, q1, d1)) (h_d : Sound bd d) : Sound bd d1 :=
    (translateBoth_sound h_d : OkE (fun e => True) (fun a => Sound bd a.2.2) (translateBoth d hall j rd wr)).ok he

theorem fetchSectors_sound {d : Device} {u : Nat} {pages : Tab Nat} {rs : List (Nat × Nat)} (h_d : Sound bd d) : Sound bd
    (fetchSectors d u pages rs) := by
  unfold fetchSectors
  dsimp only
  repeat' (first
    | with_reducible assumption
    | (intro _)
    | with_reducible (first
      | apply sound_ite | apply sound_fold | apply bump_sound | apply setCore_sound | apply settleWatch_sound | apply sectorRead_sound
      | apply readPeak_sound))

theorem streamRead_sound {d : Device} {u : Nat} {pages : Tab Nat} {a n : Nat} (h_d : Sound bd d) : Sound bd (streamRead d u pages a n).2 := by
  unfold streamRead
  dsimp only
  repeat' (with_reducible (first | assumption | apply fetchSectors_sound))

theorem sideRead_sound {d : Device} {u kind : Nat} {pages : Tab Nat} {a n : Nat} (h_d : Sound bd d) : Sound bd (sideRead d u kind pages a n).2 := by
  unfold sideRead
  dsimp only
  repeat' (with_reducible (first | assumption | apply sound_ite2 | apply hallParity_sound | apply streamRead_sound))

theorem sideWrite_sound {d : Device} {u kind : Nat} {pages : Tab Nat} {a : Nat} {bs : List (Byte × Bool)} (h_d : Sound bd d) : Sound bd
    (sideWrite d u kind pages a bs) := by
  unfold sideWrite
  dsimp only
  repeat' (first
    | with_reducible (first
      | assumption | apply sound_ite | apply setHmem_sound | apply writeVirt_sound | apply Mem.writeP_wf | apply Sound.hmem (bd := bd)))

theorem sidePeer_sound {d : Device} {u : Nat} {x : Desc} {a : Nat} {bs : List (Byte × Bool)} (h_d : Sound bd d) : Sound bd (sidePeer d u x a bs) :=
    by
  unfold sidePeer
  repeat' (first | with_reducible assumption | (intro _) | with_reducible (first | apply sound_fold | apply queuePkt_sound))

theorem sideOut_sound {d : Device} {u : Nat} {x : Desc} {kind : Nat} {pages : Tab Nat} {a : Nat} {bs : List (Byte × Bool)} (h_d : Sound bd d) :
    Sound bd (sideOut d u x kind pages a bs) := by
  unfold sideOut
  repeat' (with_reducible (first | assumption | apply sound_ite | apply sideWrite_sound | apply sidePeer_sound))

theorem vecCodes_sound {d : Device} {u : Nat} {pages : Tab Nat} {a n cnt : Nat} (h_d : Sound bd d) : Sound bd (vecCodes d u pages a n cnt).2 := by
  unfold vecCodes
  dsimp only
  repeat' (with_reducible (first | assumption | apply streamRead_sound))

theorem transferVecs_sound {d : Device} {u : Nat} {x : Desc} {pages : Tab Nat} (h_d : Sound bd d) : Sound bd (transferVecs d u x pages).2.2 := by
  unfold transferVecs
  dsimp only
  repeat' (with_reducible (first | assumption | apply sound_ite2 | apply vecCodes_sound))

theorem countConv_sound {d : Device} {u : Nat} {grad : Bool} {sats nans : Nat} (h_d : Sound bd d) : Sound bd (countConv d u grad sats nans) := by
  unfold countConv
  dsimp only
  repeat' (with_reducible (first | assumption | apply bump_sound))

theorem readRows_sound {d : Device} {u : Nat} {x : Desc} {s : Side} {pages : Tab Nat} (h_d : Sound bd d) : Sound bd (readRows d u x s pages).2 := by
  unfold readRows
  dsimp only
  repeat' (first
    | with_reducible assumption
    | (intro _)
    | with_reducible (first | apply sound_ite | apply sound_fold | apply hallParity_sound | apply fetchSectors_sound))

theorem loadTile_sound {d : Device} {u : Nat} {x : Desc} {e : Ins} (h_d : Sound bd d) : Sound bd (loadTile d u x e) := by
  unfold loadTile
  dsimp only
  repeat' (first
    | with_reducible (first
      | assumption | apply sound_ite | apply bump_sound | apply setCore_sound | apply tilePoison_sound | apply transferVecs_sound
      | apply countConv_sound | apply readRows_sound))

theorem storeRows_sound {d : Device} {u : Nat} {x : Desc} {e : Ins} {rows : List (List El)} (h_d : Sound bd d) : Sound bd (storeRows d u x e rows) :=
    by
  unfold storeRows
  dsimp only
  repeat' (first
    | with_reducible assumption
    | (intro _)
    | with_reducible (first
      | apply sound_fold1 | apply bump_sound | apply tilePoison_sound | apply sideOut_sound | apply transferVecs_sound | apply countConv_sound))

theorem storeTile_sound {d : Device} {u : Nat} {x : Desc} {e : Ins} (h_d : Sound bd d) : Sound bd (storeTile d u x e) := by
  unfold storeTile
  dsimp only
  repeat' (first
    | with_reducible assumption
    | (intro _)
    | with_reducible (first
      | apply sound_ite | apply sound_fold | apply setCore_sound | apply coreParity_sound | apply tilePoison_sound | apply sideOut_sound
      | apply storeRows_sound))

theorem copyMem_sound {d : Device} {u : Nat} {x : Desc} {e : Ins} (h_d : Sound bd d) : Sound bd (copyMem d u x e) := by
  unfold copyMem
  dsimp only
  repeat' (with_reducible (first | assumption | apply tilePoison_sound | apply sideRead_sound | apply sideOut_sound))

theorem transferSignal_sound {d : Device} {u : Nat} {x : Desc} (h_d : Sound bd d) : Sound bd (transferSignal d u x) := by
  unfold transferSignal
  repeat' (with_reducible (first | assumption | apply sound_ite | apply arriveProgram_sound | apply sendSignal_sound))

theorem firedFault_sound {d : Device} {u : Nat} {e : Ins} {code : Nat} (h_d : Sound bd d) : Sound bd (firedFault d u e code) := by
  unfold firedFault
  repeat' (with_reducible (first | assumption | apply setCore_sound | apply coreFault_sound))

theorem ftldComplete_sound {d : Device} {u : Nat} {e : Ins} (h_d : Sound bd d) : Sound bd (ftldComplete d u e) := by
  unfold ftldComplete
  dsimp only
  repeat' (with_reducible (first | assumption | apply sound_ite | apply setCore_sound | apply streamRead_sound | apply firedFault_sound))

theorem transferMove_sound {d : Device} {u : Nat} {x : Desc} {e : Ins} (h_d : Sound bd d) : Sound bd (transferMove d u x e) := by
  unfold transferMove
  dsimp only
  repeat' (first
    | with_reducible (first
      | assumption | apply sound_ite | apply bump_sound | apply setCore_sound | apply loadTile_sound | apply storeRows_sound | apply storeTile_sound
      | apply copyMem_sound))

theorem xferComplete_sound {u i : Nat} {d : Device} (h_d : Sound bd d) : Sound bd (xferComplete u i d) := by
  unfold xferComplete
  dsimp only
  repeat' (first
    | with_reducible (first
      | assumption | apply sound_ite | apply setCore_sound | apply transferSignal_sound | apply ftldComplete_sound | apply transferMove_sound)
    | split)

/-! ### Landing -/

theorem landFault_sound {d : Device} {u : Nat} {e : Ins} {code : Nat} (h_d : Sound bd d) : Sound bd (landFault d u e code) := by
  unfold landFault
  repeat' (with_reducible (first | assumption | apply firedFault_sound))

theorem xferFault_sound {d : Device} {u : Nat} {e : Ins} {f : XFault} {va : Nat} {wr : Bool} (h_d : Sound bd d) : Sound bd
    (xferFault d u e f va wr) := by
  unfold xferFault
  repeat' (with_reducible (first | assumption | apply recordXFault_sound | apply firedFault_sound))

theorem recCache_sound {d : Device} {j n : Nat} {rec_ : List Byte} (h_d : Sound bd d) : Sound bd (recCache d j n rec_) := by
  unfold recCache
  dsimp only
  repeat' (with_reducible (first | assumption | apply setJob_sound))

theorem recWrite_sound {d : Device} {u j n a : Nat} {rec_ : List Byte} {parts : List (Nat × List Byte)} (h_d : Sound bd d) : OkE (fun e => True)
    (fun a => Sound bd a) (recWrite d u j n a rec_ parts) := by
  unfold recWrite
  dsimp only
  repeat' (first
    | with_reducible (first | assumption | exact True.intro)
    | (intro _)
    | with_reducible (first
      | apply sound_fold | refine translate_ok (by with_reducible assumption) ?_ | apply writeVirt_sound | apply recCache_sound
      | refine okE_error ?_ | refine okE_ok ?_)
    | split)

theorem recWrite_ok {d : Device} {u j n a : Nat} {rec_ : List Byte} {parts : List (Nat × List Byte)} {d1 : Device}
    (he : recWrite d u j n a rec_ parts = .ok d1) (h_d : Sound bd d) : Sound bd d1 :=
    (recWrite_sound h_d : OkE (fun e => True) (fun a => Sound bd a) (recWrite d u j n a rec_ parts)).ok he

theorem landDrop_sound {d : Device} {j n : Nat} {r : LandRec} (h_d : Sound bd d) : Sound bd (landDrop d j n r) := by
  unfold landDrop
  dsimp only
  repeat' (first
    | with_reducible (first | assumption | apply sound_ite | apply bump_sound | apply setJob_sound | apply jobEv_sound | apply arriveUnit_sound))

theorem landReady_sound {d : Device} {u : Nat} {e : Ins} {r : LandRec} {offset : Nat} (h_d : Sound bd d) : Sound bd (landReady d u e r offset) := by
  unfold landReady
  dsimp only
  repeat' (first
    | with_reducible (first | assumption | apply setCore_sound | refine translateBoth_ok (by with_reducible assumption) ?_ | apply xferFault_sound)
    | split)

theorem landPlace_sound {d : Device} {u : Nat} {e : Ins} {n a : Nat} {rec_ : List Byte} {r : LandRec} (h_d : Sound bd d) : Sound bd
    (landPlace d u e n a rec_ r) := by
  unfold landPlace
  dsimp only
  repeat' (first
    | with_reducible (first
      | assumption | apply set64_sound | apply xferFault_sound | refine recWrite_ok (by with_reducible assumption) ?_ | apply landReady_sound)
    | split)

theorem landLookup_sound {d : Device} {u : Nat} {e : Ins} {n a : Nat} {rec_ : List Byte} (h_d : Sound bd d) : Sound bd (landLookup d u e n a rec_) :=
    by
  unfold landLookup
  dsimp only
  repeat' (first
    | with_reducible (first
      | assumption | apply sound_ite | apply bump_sound | apply setCore_sound | apply taint_sound | apply landFault_sound | apply xferFault_sound
      | refine recWrite_ok (by with_reducible assumption) ?_ | apply landDrop_sound | apply landReady_sound | apply landPlace_sound)
    | split)

theorem recRead_sound {d : Device} {u j n a : Nat} (h_d : Sound bd d) : OkE (fun e => True) (fun a => Sound bd a.2) (recRead d u j n a) := by
  unfold recRead
  dsimp only
  repeat' (first
    | with_reducible (first
      | assumption | exact True.intro | apply okE_ite | refine translate_ok (by with_reducible assumption) ?_ | apply readVirt_sound
      | apply recCache_sound | refine okE_error ?_ | refine okE_ok ?_)
    | split)

theorem recRead_ok {d : Device} {u j n a : Nat} {q0 : Option (List Byte)} {d1 : Device} (he : recRead d u j n a = .ok (q0, d1)) (h_d : Sound bd d) :
    Sound bd d1 := (recRead_sound h_d : OkE (fun e => True) (fun a => Sound bd a.2) (recRead d u j n a)).ok he

theorem landingPlace_sound {u i waited : Nat} {d : Device} (h_d : Sound bd d) : Sound bd (landingPlace u i waited d) := by
  unfold landingPlace
  dsimp only
  repeat' (first
    | with_reducible (first
      | assumption | apply sound_ite | apply bump_sound | apply poisonSeen_sound | apply landFault_sound | apply xferFault_sound
      | apply landLookup_sound | refine recRead_ok (by with_reducible assumption) ?_)
    | split)

theorem landRequest_sound {d : Device} {j : Nat} (h_d : Sound bd d) : Sound bd (landRequest d j) := by
  unfold landRequest
  dsimp only
  repeat' (with_reducible (first | assumption | apply setJob_sound))

theorem sweepOne_sound {j : Nat} {a : Device × Bool} {n : Nat} (h_a : Sound bd (a).1) : Sound bd (sweepOne j a n).1 := by
  unfold sweepOne
  dsimp only
  repeat' (first
    | with_reducible (first
      | assumption | apply sound_ite1 | apply freeVal_sound | apply jobEv_sound | refine unitWrite_err (by with_reducible assumption) ?_
      | refine unitWrite_ok (by with_reducible assumption) ?_)
    | split)

theorem landBegin_sound {d : Device} {j : Nat} (h_d : Sound bd d) : Sound bd (landBegin d j) := by
  unfold landBegin
  dsimp only
  repeat' (first
    | with_reducible assumption
    | (intro _)
    | with_reducible (first | apply sound_ite | apply sound_fold1 | apply setJob_sound | apply sweepOne_sound))

theorem landEnd_sound {d : Device} {j : Nat} (h_d : Sound bd d) : Sound bd (landEnd d j) := by
  unfold landEnd
  dsimp only
  repeat' (with_reducible (first | assumption | apply setR_sound | apply set64_sound | apply setJob_sound))

theorem landReset_sound {d : Device} {j : Nat} (h_d : Sound bd d) : Sound bd (landReset d j) := by
  unfold landReset
  repeat' (with_reducible (first | assumption | apply sound_ite | apply landBegin_sound | apply landEnd_sound))

theorem landCtrlReset_sound {j : Nat} {d : Device} (h_d : Sound bd d) : Sound bd (landCtrlReset j d) := by
  unfold landCtrlReset
  repeat' (with_reducible (first | assumption | apply landRequest_sound))

theorem landingReset_sound {j : Nat} {d : Device} (h_d : Sound bd d) : Sound bd (landingReset j d) := by
  unfold landingReset
  repeat' (with_reducible (first | assumption | apply sound_ite | apply landBegin_sound | apply landReset_sound))

/-! ### Tiles -/

theorem tcfgInstr_sound {u : Nat} {d : Device} (h_d : Sound bd d) : Sound bd (tcfgInstr u d) := by
  unfold tcfgInstr
  dsimp only
  repeat' (first
    | with_reducible assumption
    | (intro _)
    | with_reducible (first
      | apply sound_ite | apply setR_sound | apply coreFault_sound | apply coreStop_sound | apply issue_sound | apply adv_sound
      | apply reading_sound)
    | split)

theorem tcfgApplyStep_sound {u : Nat} {d : Device} (h_d : Sound bd d) : Sound bd (tcfgApplyStep u d) := by
  unfold tcfgApplyStep
  dsimp only
  repeat' (first | with_reducible (first | assumption | apply sound_ite | apply setCore_sound | apply phase1End_sound) | split)

theorem tclrInstr_sound {u : Nat} {d : Device} (h_d : Sound bd d) : Sound bd (tclrInstr u d) := by
  unfold tclrInstr
  repeat' (with_reducible (first | assumption | apply enter_sound))

theorem tdeadInstr_sound {u : Nat} {d : Device} (h_d : Sound bd d) : Sound bd (tdeadInstr u d) := by
  unfold tdeadInstr
  repeat' (with_reducible (first | assumption | apply enter_sound))

/-! ### Fire -/

theorem fireStream_sound {d : Device} {u : Nat} {c : Core} {e : Ins} (h_d : Sound bd d) : Sound bd (fireStream d u c e) := by
  unfold fireStream
  dsimp only
  repeat' (first
    | with_reducible (first
      | assumption | apply sound_ite | apply bump_sound | apply setCore_sound | apply coreFault_sound
      | refine translateBoth_ok (by with_reducible assumption) ?_ | apply xferFault_sound)
    | split)

theorem fireFtld_sound {d : Device} {u : Nat} {c : Core} {e : Ins} (h_d : Sound bd d) : Sound bd (fireFtld d u c e) := by
  unfold fireFtld
  dsimp only
  repeat' (first
    | with_reducible (first
      | assumption | apply sound_ite | apply setCore_sound | apply coreFault_sound | refine translate_ok (by with_reducible assumption) ?_
      | apply xferFault_sound)
    | split)

theorem fireSignal_sound {d : Device} {u : Nat} {c : Core} {e : Ins} (h_d : Sound bd d) : Sound bd (fireSignal d u c e) := by
  unfold fireSignal
  dsimp only
  repeat' (first
    | with_reducible (first
      | assumption | apply sound_ite | apply setCore_sound | apply coreFault_sound | apply sendOp_sound | apply arriveProgram_sound)
    | split)

theorem cacheParity_sound {u z0 : Nat} {z1 : Device} (h_z1 : Sound bd z1) : Sound bd (cacheParity u z0 z1) := by
  induction z0 generalizing z1 with
  | zero => exact h_z1
  | succ n ih =>
    unfold cacheParity
    exact ih (coreParity_sound (freeVal_sound h_z1))

theorem fireMmaDev_sound {d : Device} {u : Nat} {c : Core} {e : Ins} (h_d : Sound bd d) : Sound bd (fireMmaDev d u c e) := by
  unfold fireMmaDev
  dsimp only
  repeat' (first
    | with_reducible (first
      | assumption | apply sound_ite | apply bump_sound | apply setCore_sound | apply freeVal_sound | apply coreParity_sound | apply coreFault_sound
      | apply tilePoison_sound | apply cacheParity_sound)
    | split)

theorem fireCore_sound {d : Device} {u : Nat} {c : Core} {e : Ins} {r : Except Nat Core} (h_d : Sound bd d) : Sound bd (fireCore d u c e r) := by
  unfold fireCore
  repeat' (first | with_reducible (first | assumption | apply setCore_sound | apply coreFault_sound) | split)

theorem fireDrain_sound {d : Device} {u : Nat} {c : Core} {e : Ins} (h_d : Sound bd d) : Sound bd (fireDrain d u c e) := by
  unfold fireDrain
  repeat' (first
    | with_reducible (first | assumption | apply sound_ite | apply setCore_sound | apply coreFault_sound | apply fireStream_sound)
    | split)

theorem fireEntry_sound {d : Device} {u : Nat} {c : Core} {e : Ins} (h_d : Sound bd d) : Sound bd (fireEntry d u c e) := by
  unfold fireEntry
  repeat' (first
    | with_reducible (first
      | assumption | apply sound_ite | apply setCore_sound | apply fireStream_sound | apply fireFtld_sound | apply fireSignal_sound
      | apply fireMmaDev_sound | apply fireCore_sound | apply fireDrain_sound)
    | split)

theorem instrFire_sound {u i : Nat} {d : Device} (h_d : Sound bd d) : Sound bd (instrFire u i d) := by
  unfold instrFire
  dsimp only
  repeat' (first | with_reducible (first | assumption | apply sound_ite | apply bump64_sound | apply fireEntry_sound) | split)

/-! ### Context -/

theorem readImage_sound {d : Device} {j a : Nat} (h_d : Sound bd d) : OkE (fun e => Sound bd e.2) (fun a => Sound bd a.2) (readImage d j a) := by
  unfold readImage
  dsimp only
  repeat' (first
    | with_reducible (first
      | assumption | apply okE_ite | apply poisonSeen_sound | refine unitRead_err (by with_reducible assumption) ?_
      | refine unitRead_ok (by with_reducible assumption) ?_ | refine okE_error ?_ | refine okE_ok ?_)
    | split)

theorem readImage_err {d : Device} {j a q0 : Nat} {d1 : Device} (he : readImage d j a = .error (q0, d1)) (h_d : Sound bd d) : Sound bd d1 :=
    (readImage_sound h_d : OkE (fun e => Sound bd e.2) (fun a => Sound bd a.2) (readImage d j a)).err he

theorem readImage_ok {d : Device} {j a : Nat} {q0 : List Byte} {d1 : Device} (he : readImage d j a = .ok (q0, d1)) (h_d : Sound bd d) : Sound bd d1 :=
    (readImage_sound h_d : OkE (fun e => Sound bd e.2) (fun a => Sound bd a.2) (readImage d j a)).ok he

theorem saveFault_sound {d : Device} {j code : Nat} (h_d : Sound bd d) : Sound bd (saveFault d j code) := by
  unfold saveFault
  dsimp only
  repeat' (with_reducible (first | assumption | apply setJob_sound | apply pushEv_sound))

theorem contextSave_sound {u : Nat} {d : Device} (h_d : Sound bd d) : Sound bd (contextSave u d) := by
  unfold contextSave
  dsimp only
  repeat' (first
    | with_reducible (first
      | assumption | apply sound_ite | apply setCore_sound | apply setJob_sound | apply coreParity_sound
      | refine unitWrite_err (by with_reducible assumption) ?_ | refine unitWrite_ok (by with_reducible assumption) ?_ | apply tilePoison_sound
      | apply saveFault_sound)
    | split)

theorem restoreSlots_sound {d : Device} {j u : Nat} {s : List Byte} {z0 : List Nat} {z1 : Core} (h_d : Sound bd d) : OkE (fun e => Sound bd e.2)
    (fun a => Sound bd a.2) (restoreSlots d j u s z0 z1) := by
  induction z0 generalizing d z1 with
  | nil => exact h_d
  | cons k ks ih =>
  unfold restoreSlots
  dsimp only
  repeat' (first
    | with_reducible (first
      | assumption | apply okE_ite | apply ih | apply poisonSeen_sound | refine unitRead_err (by with_reducible assumption) ?_
      | refine unitRead_ok (by with_reducible assumption) ?_ | refine okE_error ?_)
    | split)

theorem restoreSlots_err {d : Device} {j u : Nat} {s : List Byte} {z0 : List Nat} {z1 : Core} {q0 : Nat} {d1 : Device}
    (he : restoreSlots d j u s z0 z1 = .error (q0, d1)) (h_d : Sound bd d) : Sound bd d1 :=
    (restoreSlots_sound h_d : OkE (fun e => Sound bd e.2) (fun a => Sound bd a.2) (restoreSlots d j u s z0 z1)).err he

theorem restoreSlots_ok {d : Device} {j u : Nat} {s : List Byte} {z0 : List Nat} {z1 q0 : Core} {d1 : Device}
    (he : restoreSlots d j u s z0 z1 = .ok (q0, d1)) (h_d : Sound bd d) : Sound bd d1 :=
    (restoreSlots_sound h_d : OkE (fun e => Sound bd e.2) (fun a => Sound bd a.2) (restoreSlots d j u s z0 z1)).ok he

theorem restoreGates_sound {d : Device} {u : Nat} {s : List Byte} (h_d : Sound bd d) : Sound bd (restoreGates d u s) := by
  unfold restoreGates
  dsimp only
  repeat' (first
    | with_reducible assumption
    | (intro _)
    | with_reducible (first | apply sound_ite | apply sound_fold | apply setCore_sound | apply startWait_sound))

theorem restoreCore_sound {d : Device} {u j img a len : Nat} (h_d : Sound bd d) : OkE (fun e => Sound bd e.2) (fun a => Sound bd a)
    (restoreCore d u j img a len) := by
  unfold restoreCore
  dsimp only
  repeat' (first
    | with_reducible (first
      | assumption | apply okE_ite | apply setR_sound | apply setCore_sound | apply poisonSeen_sound | apply settleWatch_sound
      | refine unitRead_err (by with_reducible assumption) ?_ | refine unitRead_ok (by with_reducible assumption) ?_ | apply dropMonitors_sound
      | apply tilePoison_sound | refine readImage_err (by with_reducible assumption) ?_ | refine readImage_ok (by with_reducible assumption) ?_
      | refine restoreSlots_err (by with_reducible assumption) ?_ | refine restoreSlots_ok (by with_reducible assumption) ?_
      | apply restoreGates_sound | refine okE_error ?_ | refine okE_ok ?_)
    | (dsimp only)
    | split)

theorem restoreCore_err {d : Device} {u j img a len q0 : Nat} {d1 : Device} (he : restoreCore d u j img a len = .error (q0, d1)) (h_d : Sound bd d) :
    Sound bd d1 := (restoreCore_sound h_d : OkE (fun e => Sound bd e.2) (fun a => Sound bd a) (restoreCore d u j img a len)).err he

theorem restoreCore_ok {d : Device} {u j img a len : Nat} {d1 : Device} (he : restoreCore d u j img a len = .ok d1) (h_d : Sound bd d) :
    Sound bd d1 := (restoreCore_sound h_d : OkE (fun e => Sound bd e.2) (fun a => Sound bd a) (restoreCore d u j img a len)).ok he

theorem contextRestore_sound {u a len : Nat} {d : Device} (h_d : Sound bd d) : Sound bd (contextRestore u a len d) := by
  unfold contextRestore
  dsimp only
  repeat' (first
    | with_reducible (first
      | assumption | apply sound_ite | apply recordErr_sound | refine restoreCore_err (by with_reducible assumption) ?_
      | refine restoreCore_ok (by with_reducible assumption) ?_)
    | split)

end Sys2Proof.Machine
end

