-- ==== Sys2Proof/Laws/SoundJobs.lean ====
section
/-!
SUPPORT. Jobs, steps, the Floor Plan, the mailbox and the error paths keep the module sound. Each lemma is named after the operation and says that it keeps `Sound` with any bounds.
-/
namespace Sys2Proof.Machine

variable {bd : Nat → Nat}


/-! ### Jobs -/

theorem stopCore_sound {d : Device} {u : Nat} (h_d : Sound bd d) : Sound bd (stopCore d u) := by
  unfold stopCore
  dsimp only
  repeat' (with_reducible (first | assumption | apply setCore_sound | apply dropMonitors_sound))

theorem clearCore_sound {d : Device} {u : Nat} (h_d : Sound bd d) : Sound bd (clearCore d u) := by
  unfold clearCore
  dsimp only
  repeat' (with_reducible (first | assumption | apply setCore_sound | apply settleWatch_sound | apply dropMonitors_sound))

theorem snapWords_sound {d : Device} {j : Nat} (h_d : Sound bd d) : Sound bd (snapWords d j) := by
  unfold snapWords
  dsimp only
  repeat' (first | with_reducible assumption | (intro _) | with_reducible (first | apply sound_fold | apply setJob_sound | apply flushStore_sound))

theorem restoreWords_sound {d : Device} {j : Nat} (h_d : Sound bd d) : Sound bd (restoreWords d j) := by
  unfold restoreWords
  dsimp only
  repeat' (first
    | with_reducible assumption
    | (intro _)
    | with_reducible (first | apply sound_fold | apply setSig_sound | apply flushStore_sound | apply seqSet_sound)
    | split)

/-! ### Floor -/

theorem writeBody_sound {d : Device} (h_d : Sound bd d) : Sound bd (writeBody d) := by
  unfold writeBody
  dsimp only
  repeat' (first | with_reducible assumption | (fail_if_no_progress with_reducible refine sound_mk rfl rfl rfl rfl rfl rfl ?_))

theorem standbyTests_sound {d : Device} (h_d : Sound bd d) : Sound bd (standbyTests d) := by
  unfold standbyTests
  repeat' (first
    | with_reducible assumption
    | (intro _)
    | with_reducible (first | apply sound_ite | apply sound_fold)
    | (fail_if_no_progress with_reducible refine sound_mk rfl rfl rfl rfl rfl rfl ?_))

theorem requestFence_sound {d : Device} {r : UnitRef} {reason code : Nat} (h_d : Sound bd d) : Sound bd (requestFence d r reason code) := by
  unfold requestFence
  dsimp only
  repeat' (first
    | with_reducible assumption
    | (intro _)
    | with_reducible (first | apply sound_ite | apply sound_fold | apply setJob_sound | apply taintAll_sound | apply standbyTests_sound)
    | (fail_if_no_progress with_reducible refine sound_mk rfl rfl rfl rfl rfl rfl ?_))

theorem fenceEffect_sound {d : Device} {f : Fence} (h_d : Sound bd d) : Sound bd (fenceEffect d f) := by
  have hh : ∀ (e : Device) (p : Nat → Bool), Sound bd e → Sound bd { e with hmem := tdrop p e.hmem } :=
    fun e p h => sound_hmem h (fun x hx => h.2.1 x (List.mem_filter.1 hx).1)
  unfold fenceEffect
  dsimp only
  split
  · exact clearCore_sound h_d
  · refine sound_of rfl rfl rfl rfl rfl rfl (hh (List.foldl clearCore d _) _ (sound_fold (fun d x h => clearCore_sound h) h_d))
  · exact sound_stack h_d (Mem.zero_wf _ _ h_d.1)
  · exact sound_fold (fun d l h => leaveIdle_sound h) h_d
  · exact leaveIdle_sound h_d
  · exact h_d

theorem fenceReport_sound {d : Device} {f : Fence} (h_d : Sound bd d) : Sound bd (fenceReport d f) := by
  unfold fenceReport
  dsimp only
  repeat' (with_reducible (first | assumption | apply pushEv_sound | apply log_sound | apply alert_sound))

theorem copyParts_sound {d : Device} {old new : Nat} (h_d : Sound bd d) : Sound bd (copyParts d old new) := by
  unfold copyParts
  repeat' (first | with_reducible assumption | (intro _) | with_reducible (first | apply sound_ite | apply sound_fold | apply setR_sound))

theorem changePlan_sound {d : Device} (h_d : Sound bd d) : Sound bd (changePlan d) := by
  unfold changePlan
  dsimp only
  repeat' (first
    | with_reducible assumption
    | (intro _)
    | with_reducible (first
      | apply sound_ite | apply sound_fold | apply pushEv_sound | apply log_sound | apply trainLink_sound | apply arrSteerWrite_sound
      | apply snapWords_sound | apply restoreWords_sound | apply writeBody_sound | apply standbyTests_sound | apply fenceEffect_sound
      | apply fenceReport_sound | apply copyParts_sound)
    | (fail_if_no_progress with_reducible refine sound_mk rfl rfl rfl rfl rfl rfl ?_))

theorem floorPlanChange_sound {d : Device} (h_d : Sound bd d) : Sound bd (floorPlanChange d) := by
  unfold floorPlanChange
  dsimp only
  repeat' (with_reducible (first | assumption | apply sound_ite | apply changePlan_sound))

/-! ### Steps -/

theorem seqRead_sound {d : Device} {j a n : Nat} (h_d : Sound bd d) : OkE (fun e => Sound bd e.2) (fun a => Sound bd a.2) (seqRead d j a n) := by
  unfold seqRead
  repeat' (first
    | with_reducible (first
      | assumption | apply okE_ite | apply poisonSeen_sound | refine unitRead_err (by with_reducible assumption) ?_
      | refine unitRead_ok (by with_reducible assumption) ?_ | refine okE_error ?_ | refine okE_ok ?_)
    | split)

theorem seqRead_err {d : Device} {j a n q0 : Nat} {d1 : Device} (he : seqRead d j a n = .error (q0, d1)) (h_d : Sound bd d) : Sound bd d1 :=
    (seqRead_sound h_d : OkE (fun e => Sound bd e.2) (fun a => Sound bd a.2) (seqRead d j a n)).err he

theorem seqRead_errW {d : Device} {j a n : Nat} {ew : Nat × Device} (he : seqRead d j a n = .error ew) (h_d : Sound bd d) : Sound bd ew.2 :=
    (seqRead_sound h_d : OkE (fun e => Sound bd e.2) (fun a => Sound bd a.2) (seqRead d j a n)).err he

theorem seqRead_ok {d : Device} {j a n : Nat} {q0 : List Byte} {d1 : Device} (he : seqRead d j a n = .ok (q0, d1)) (h_d : Sound bd d) : Sound bd d1 :=
    (seqRead_sound h_d : OkE (fun e => Sound bd e.2) (fun a => Sound bd a.2) (seqRead d j a n)).ok he

theorem imagesCheck_sound {j : Nat} {z0 : List Nat} {z1 : Device} (h_z1 : Sound bd z1) : OkE (fun e => Sound bd e.2) (fun a => Sound bd a)
    (imagesCheck j z0 z1) := by
  induction z0 generalizing z1 with
  | nil => exact h_z1
  | cons k ks ih =>
  unfold imagesCheck
  repeat' (first
    | with_reducible (first
      | assumption | apply ih | apply bump_sound | refine readImage_err (by with_reducible assumption) ?_
      | refine readImage_ok (by with_reducible assumption) ?_ | refine okE_error ?_)
    | split)

theorem imagesCheck_errW {j : Nat} {z0 : List Nat} {z1 : Device} {ew : Nat × Device} (he : imagesCheck j z0 z1 = .error ew) (h_z1 : Sound bd z1) :
    Sound bd ew.2 := (imagesCheck_sound h_z1 : OkE (fun e => Sound bd e.2) (fun a => Sound bd a) (imagesCheck j z0 z1)).err he

theorem imagesCheck_ok {j : Nat} {z0 : List Nat} {z1 d1 : Device} (he : imagesCheck j z0 z1 = .ok d1) (h_z1 : Sound bd z1) : Sound bd d1 :=
    (imagesCheck_sound h_z1 : OkE (fun e => Sound bd e.2) (fun a => Sound bd a) (imagesCheck j z0 z1)).ok he

theorem descCheckJob_sound {d : Device} {j a : Nat} {alloc : Bool} (h_d : Sound bd d) : OkE (fun e => Sound bd e.2) (fun a => Sound bd a.2.2)
    (descCheckJob d j a alloc) := by
  unfold descCheckJob
  apply okE_ite
  · exact h_d
  split
  · next he => exact seqRead_errW he h_d
  next he =>
  have h1 := seqRead_ok he h_d
  apply okE_ite
  · exact h1
  apply okE_ite
  · exact h1
  split
  · next he => exact seqRead_errW he h1
  next he =>
  have h2 := seqRead_ok he h1
  split
  · exact h2
  split
  · next he => exact seqRead_errW he h2
  next he =>
  have h3 := seqRead_ok he h2
  split
  · next he => exact imagesCheck_errW he h3
  · next he => exact imagesCheck_ok he h3

theorem descCheckJob_err {d : Device} {j a : Nat} {alloc : Bool} {q0 : Nat} {d1 : Device} (he : descCheckJob d j a alloc = .error (q0, d1))
    (h_d : Sound bd d) : Sound bd d1 :=
    (descCheckJob_sound h_d : OkE (fun e => Sound bd e.2) (fun a => Sound bd a.2.2) (descCheckJob d j a alloc)).err he

theorem descCheckJob_ok {d : Device} {j a : Nat} {alloc : Bool} {q0 : List Byte} {q1 : Tab Nat} {d1 : Device}
    (he : descCheckJob d j a alloc = .ok (q0, q1, d1)) (h_d : Sound bd d) : Sound bd d1 :=
    (descCheckJob_sound h_d : OkE (fun e => Sound bd e.2) (fun a => Sound bd a.2.2) (descCheckJob d j a alloc)).ok he

theorem partActive_sound {d : Device} {j : Nat} {on : Bool} {hs : List Nat} (h_d : Sound bd d) : Sound bd (partActive d j on hs) := by
  unfold partActive
  repeat' (first | with_reducible assumption | (intro _) | with_reducible (first | apply sound_fold | apply putBit_sound))

theorem giveWords_sound {d : Device} {j first n : Nat} (h_d : Sound bd d) : Sound bd (giveWords d j first n) := by
  unfold giveWords
  repeat' (first | with_reducible assumption | (intro _) | with_reducible (first | apply sound_fold | apply seqSet_sound) | split)

theorem jobBegin_sound {d : Device} {j tag : Nat} {b : List Byte} {imgs : Tab Nat} (h_d : Sound bd d) : OkE (fun e => Sound bd e.2)
    (fun a => Sound bd a) (jobBegin d j tag b imgs) := by
  unfold jobBegin
  dsimp only
  repeat' (first
    | with_reducible (first | assumption | apply setJob_sound | apply pushEv_sound | apply partActive_sound | apply giveWords_sound)
    | (fail_if_no_progress with_reducible refine sound_mk rfl rfl rfl rfl rfl rfl ?_)
    | with_reducible (first | refine okE_error ?_ | refine okE_ok ?_)
    | split)

theorem jobBegin_err {d : Device} {j tag : Nat} {b : List Byte} {imgs : Tab Nat} {q0 : Nat} {d1 : Device}
    (he : jobBegin d j tag b imgs = .error (q0, d1)) (h_d : Sound bd d) : Sound bd d1 :=
    (jobBegin_sound h_d : OkE (fun e => Sound bd e.2) (fun a => Sound bd a) (jobBegin d j tag b imgs)).err he

theorem jobBegin_ok {d : Device} {j tag : Nat} {b : List Byte} {imgs : Tab Nat} {d1 : Device} (he : jobBegin d j tag b imgs = .ok d1)
    (h_d : Sound bd d) : Sound bd d1 := (jobBegin_sound h_d : OkE (fun e => Sound bd e.2) (fun a => Sound bd a) (jobBegin d j tag b imgs)).ok he

theorem jobStart_sound {d : Device} (h_d : Sound bd d) : Sound bd (jobStart d) := by
  unfold jobStart
  repeat' (first
    | with_reducible assumption
    | (intro _)
    | with_reducible (first
      | apply okE_ite | apply cmdDone_sound | apply command_sound | refine descCheckJob_err (by with_reducible assumption) ?_
      | refine descCheckJob_ok (by with_reducible assumption) ?_ | refine jobBegin_err (by with_reducible assumption) ?_
      | refine jobBegin_ok (by with_reducible assumption) ?_ | refine okE_error ?_ | refine okE_ok ?_)
    | split)

theorem dropReads_sound {d : Device} {j : Nat} (h_d : Sound bd d) : Sound bd (dropReads d j) := by
  unfold dropReads
  dsimp only
  repeat' (first | with_reducible assumption | (fail_if_no_progress with_reducible refine sound_mk rfl rfl rfl rfl rfl rfl ?_))

theorem jobEndAll_sound {d : Device} {j : Nat} (h_d : Sound bd d) : Sound bd (jobEndAll d j) := by
  unfold jobEndAll
  dsimp only
  repeat' (first
    | with_reducible assumption
    | (intro _)
    | with_reducible (first
      | apply sound_ite | apply sound_fold | apply setJob_sound | apply releaseWords_sound | apply arcadeUnload_sound | apply dropUctx_sound
      | apply landReset_sound | apply clearCore_sound | apply partActive_sound | apply dropReads_sound))

theorem jobEnd_sound {d : Device} (h_d : Sound bd d) : Sound bd (jobEnd d) := by
  unfold jobEnd
  dsimp only
  repeat' (first
    | with_reducible assumption
    | (intro _)
    | with_reducible (first
      | apply sound_ite | apply okE_ite | apply pushEv_sound | apply command_sound | apply jobEndAll_sound | refine okE_error ?_ | refine okE_ok ?_))

theorem stepCmd_sound {j : Nat} {d : Device} (h_d : Sound bd d) : Sound bd (stepCmd j d) := by
  unfold stepCmd
  dsimp only
  repeat' (first
    | with_reducible assumption
    | (intro _)
    | with_reducible (first
      | apply okE_ite | apply setJob_sound | apply cmdDone_sound | apply command_sound | refine okE_error ?_ | refine okE_ok ?_))

theorem checkpoint_sound {j : Nat} {d : Device} (h_d : Sound bd d) : Sound bd (checkpoint j d) := by
  unfold checkpoint
  dsimp only
  repeat' (first
    | with_reducible assumption
    | (intro _)
    | with_reducible (first | apply setJob_sound | apply command_sound | apply ckptKick_sound | refine okE_ok ?_))

theorem applyReimage_sound {d : Device} {j : Nat} (h_d : Sound bd d) : Sound bd (applyReimage d j) := by
  unfold applyReimage
  dsimp only
  repeat' (first
    | with_reducible assumption
    | (intro _)
    | with_reducible (first | apply sound_fold | apply setJob_sound | apply cmdDone_sound | apply clearCore_sound)
    | split)

theorem reimage_sound {j : Nat} {d : Device} (h_d : Sound bd d) : Sound bd (reimage j d) := by
  unfold reimage
  dsimp only
  repeat' (first
    | with_reducible assumption
    | (intro _)
    | with_reducible (first
      | apply sound_ite | apply setJob_sound | apply command_sound | refine descCheckJob_err (by with_reducible assumption) ?_
      | refine descCheckJob_ok (by with_reducible assumption) ?_ | apply applyReimage_sound | refine okE_error ?_ | refine okE_ok ?_)
    | split)

theorem taintEv_sound {d : Device} {j type code : Nat} (h_d : Sound bd d) : Sound bd (taintEv d j type code) := by
  unfold taintEv
  repeat' (with_reducible (first | assumption | apply jobEv_sound))

theorem holdJob_sound {d : Device} {j code : Nat} (h_d : Sound bd d) : Sound bd (holdJob d j code) := by
  unfold holdJob
  dsimp only
  repeat' (with_reducible (first | assumption | apply setJob_sound | apply taintEv_sound))

theorem attemptBegin_sound {d : Device} {j : Nat} (h_d : Sound bd d) : Sound bd (attemptBegin d j) := by
  unfold attemptBegin
  dsimp only
  repeat' (first
    | with_reducible assumption
    | (intro _)
    | with_reducible (first
      | apply sound_ite | apply sound_fold | apply setJob_sound | apply jobEv_sound | apply causeEv_sound | apply arcadeStart_sound
      | refine updateStart_err (by with_reducible assumption) ?_ | refine updateStart_ok (by with_reducible assumption) ?_ | apply snapWords_sound
      | apply applyReimage_sound | apply holdJob_sound)
    | split)

theorem attemptStart_sound {j : Nat} {d : Device} (h_d : Sound bd d) : Sound bd (attemptStart j d) := by
  unfold attemptStart
  dsimp only
  repeat' (first
    | with_reducible assumption
    | (intro _)
    | with_reducible (first
      | apply sound_ite | apply sound_fold | apply setJob_sound | apply landReset_sound | apply clearCore_sound | apply restoreWords_sound
      | apply attemptBegin_sound)
    | split)

theorem coreBegin_sound {j : Nat} {d : Device} {e : Nat × Nat} (h_d : Sound bd d) : Sound bd (coreBegin j d e) := by
  unfold coreBegin
  dsimp only
  repeat' (first
    | with_reducible (first
      | assumption | apply bump_sound | apply setCore_sound | apply setJob_sound | apply jobEv_sound | apply taint_sound | apply settleWatch_sound
      | apply dropMonitors_sound | refine readImage_err (by with_reducible assumption) ?_ | refine readImage_ok (by with_reducible assumption) ?_)
    | split)

theorem microBatchStart_sound {j : Nat} {d : Device} (h_d : Sound bd d) : Sound bd (microBatchStart j d) := by
  unfold microBatchStart
  dsimp only
  repeat' (first
    | with_reducible assumption
    | (intro _)
    | with_reducible (first | apply sound_ite | apply sound_fold | apply setJob_sound | apply landReset_sound | apply coreBegin_sound))

theorem paceRecord_sound {d : Device} {j h lag : Nat} {late : Bool} (h_d : Sound bd d) : Sound bd (paceRecord d j h lag late) := by
  unfold paceRecord
  dsimp only
  repeat' (with_reducible (first | assumption | apply sound_ite | apply setR_sound | apply set64_sound))

theorem paceReq_sound {d : Device} {h : Nat} (h_d : Sound bd d) : Sound bd (paceReq d h) := by
  unfold paceReq
  dsimp only
  repeat' (with_reducible (first | assumption | apply dvfsReq_sound))

theorem paceAct_sound {j interval : Nat} {d : Device} {h : Nat} (h_d : Sound bd d) : Sound bd (paceAct j interval d h) := by
  unfold paceAct
  dsimp only
  repeat' (first
    | with_reducible assumption
    | (intro _)
    | with_reducible (first
      | apply sound_fold | apply setJob_sound | apply pushEv_sound | apply taint_sound | apply requestFence_sound | apply paceReq_sound)
    | split)

theorem paceBarrier_sound {d : Device} {j : Nat} (h_d : Sound bd d) : Sound bd (paceBarrier d j) := by
  unfold paceBarrier
  dsimp only
  repeat' (first
    | with_reducible assumption
    | (intro _)
    | with_reducible (first
      | apply sound_ite | apply sound_fold | apply setJob_sound | apply paceRecord_sound | apply paceReq_sound | apply paceAct_sound))

theorem microBatchDone_sound {j : Nat} {d : Device} (h_d : Sound bd d) : Sound bd (microBatchDone j d) := by
  unfold microBatchDone
  dsimp only
  repeat' (with_reducible (first | assumption | apply sound_ite | apply setJob_sound | apply paceBarrier_sound))

theorem abandon_sound {d : Device} {j dec : Nat} (h_d : Sound bd d) : Sound bd (abandon d j dec) := by
  unfold abandon
  dsimp only
  repeat' (first
    | with_reducible assumption
    | (intro _)
    | with_reducible (first
      | apply sound_ite | apply sound_fold | apply setJob_sound | apply arcadeStop_sound | apply updateSkip_sound | apply stopCore_sound))

theorem normDetail_sound {d : Device} {j : Nat} (h_d : Sound bd d) : Sound bd (normDetail d j).2 := by
  unfold normDetail
  dsimp only
  repeat' (first
    | with_reducible (first
      | assumption | apply okE_ite | apply freeVal_sound | apply unitRead_sound | refine okE_error ?_
      | refine sX_ok2 (by with_reducible assumption) ?_)
    | split)

theorem stepReady_sound {j : Nat} {d : Device} (h_d : Sound bd d) : Sound bd (stepReady j d) := by
  unfold stepReady
  dsimp only
  repeat' (first
    | with_reducible (first
      | assumption | apply sound_ite | apply setJob_sound | apply jobEv_sound | apply taintEv_sound | apply holdJob_sound | apply abandon_sound
      | apply normDetail_sound))

theorem verdict_sound {src j attempt dec : Nat} {d : Device} (h_d : Sound bd d) : Sound bd (verdict src j attempt dec d) := by
  unfold verdict
  dsimp only
  repeat' (first
    | with_reducible (first
      | assumption | apply sound_ite | apply bump_sound | apply setJob_sound | apply commitPair_sound | apply taintEv_sound | apply abandon_sound))

theorem verdictApply_sound {src j a : Nat} {d : Device} (h_d : Sound bd d) : Sound bd (verdictApply src j a d) := by
  unfold verdictApply
  repeat' (with_reducible (first | assumption | apply verdict_sound))

theorem verdictRepeat_sound {src j a : Nat} {d : Device} (h_d : Sound bd d) : Sound bd (verdictRepeat src j a d) := by
  unfold verdictRepeat
  repeat' (with_reducible (first | assumption | apply verdict_sound))

theorem verdictSkip_sound {src j a : Nat} {d : Device} (h_d : Sound bd d) : Sound bd (verdictSkip src j a d) := by
  unfold verdictSkip
  repeat' (with_reducible (first | assumption | apply verdict_sound))

theorem verdictNone_sound {src j a : Nat} {d : Device} (h_d : Sound bd d) : Sound bd (verdictNone src j a d) := by
  unfold verdictNone
  repeat' (with_reducible (first | assumption | apply verdict_sound))

theorem preemptBegin_sound {d : Device} {j : Nat} (h_d : Sound bd d) : Sound bd (preemptBegin d j) := by
  unfold preemptBegin
  dsimp only
  repeat' (first | with_reducible assumption | (intro _) | with_reducible (first | apply sound_fold | apply setCore_sound | apply setJob_sound))

theorem preemptCmd_sound {mode : Nat} {d : Device} (h_d : Sound bd d) : Sound bd (preemptCmd mode d) := by
  unfold preemptCmd
  dsimp only
  repeat' (first
    | with_reducible assumption
    | (intro _)
    | with_reducible (first
      | apply sound_ite | apply okE_ite | apply setJob_sound | apply command_sound | apply preemptBegin_sound | refine okE_error ?_
      | refine okE_ok ?_))

theorem preemptBoundary_sound {d : Device} (h_d : Sound bd d) : Sound bd (preemptBoundary d) := by
  unfold preemptBoundary
  repeat' (with_reducible (first | assumption | apply preemptCmd_sound))

theorem preemptSafept_sound {d : Device} (h_d : Sound bd d) : Sound bd (preemptSafept d) := by
  unfold preemptSafept
  repeat' (with_reducible (first | assumption | apply preemptCmd_sound))

theorem preempted_sound {j : Nat} {d : Device} (h_d : Sound bd d) : Sound bd (preempted j d) := by
  unfold preempted
  dsimp only
  repeat' (first
    | with_reducible assumption
    | (intro _)
    | with_reducible (first
      | apply sound_ite | apply sound_fold | apply setJob_sound | apply pushEv_sound | refine unitWrite_err (by with_reducible assumption) ?_
      | refine unitWrite_ok (by with_reducible assumption) ?_ | apply flushStore_sound | apply releaseWords_sound | apply cmdDone_sound
      | apply saveFault_sound)
    | split)

theorem takeWords_sound {d : Device} {j : Nat} {es : List (Nat × Nat)} (h_d : Sound bd d) : Sound bd (takeWords d j es) := by
  unfold takeWords
  repeat' (first | with_reducible assumption | (intro _) | with_reducible (first | apply sound_fold | apply seqSet_sound) | split)

theorem resumeWords_sound {d : Device} {j : Nat} (h_d : Sound bd d) : OkE (fun e => Sound bd e.2) (fun a => Sound bd a) (resumeWords d j) := by
  unfold resumeWords
  repeat' (first
    | with_reducible (first
      | assumption | apply okE_ite | apply causeEv_sound | refine seqRead_err (by with_reducible assumption) ?_
      | refine seqRead_ok (by with_reducible assumption) ?_ | apply takeWords_sound | refine okE_error ?_ | refine okE_ok ?_)
    | split)

theorem resumeWords_err {d : Device} {j q0 : Nat} {d1 : Device} (he : resumeWords d j = .error (q0, d1)) (h_d : Sound bd d) : Sound bd d1 :=
    (resumeWords_sound h_d : OkE (fun e => Sound bd e.2) (fun a => Sound bd a) (resumeWords d j)).err he

theorem resumeWords_ok {d : Device} {j : Nat} {d1 : Device} (he : resumeWords d j = .ok d1) (h_d : Sound bd d) : Sound bd d1 :=
    (resumeWords_sound h_d : OkE (fun e => Sound bd e.2) (fun a => Sound bd a) (resumeWords d j)).ok he

theorem resumeCores_sound {j : Nat} {z0 : List Nat} {z1 : Device} (h_z1 : Sound bd z1) : OkE (fun e => Sound bd e.2) (fun a => Sound bd a)
    (resumeCores j z0 z1) := by
  induction z0 generalizing z1 with
  | nil => exact h_z1
  | cons k ks ih =>
  unfold resumeCores
  repeat' (first
    | with_reducible (first
      | assumption | apply ih | refine restoreCore_err (by with_reducible assumption) ?_ | refine restoreCore_ok (by with_reducible assumption) ?_
      | refine okE_error ?_)
    | split)

theorem resumeCores_err {j : Nat} {z0 : List Nat} {z1 : Device} {q0 : Nat} {d1 : Device} (he : resumeCores j z0 z1 = .error (q0, d1))
    (h_z1 : Sound bd z1) : Sound bd d1 := (resumeCores_sound h_z1 : OkE (fun e => Sound bd e.2) (fun a => Sound bd a) (resumeCores j z0 z1)).err he

theorem resumeCores_ok {j : Nat} {z0 : List Nat} {z1 d1 : Device} (he : resumeCores j z0 z1 = .ok d1) (h_z1 : Sound bd z1) : Sound bd d1 :=
    (resumeCores_sound h_z1 : OkE (fun e => Sound bd e.2) (fun a => Sound bd a) (resumeCores j z0 z1)).ok he

theorem resume_sound {d : Device} (h_d : Sound bd d) : Sound bd (resume d) := by
  unfold resume
  dsimp only
  repeat' (first
    | with_reducible assumption
    | (intro _)
    | with_reducible (first
      | apply okE_ite | apply setJob_sound | apply pushEv_sound | apply cmdDone_sound | apply command_sound
      | refine resumeWords_err (by with_reducible assumption) ?_ | refine resumeWords_ok (by with_reducible assumption) ?_
      | refine resumeCores_err (by with_reducible assumption) ?_ | refine resumeCores_ok (by with_reducible assumption) ?_)
    | (fail_if_no_progress with_reducible refine sound_mk rfl rfl rfl rfl rfl rfl ?_)
    | with_reducible (first | refine okE_error ?_ | refine okE_ok ?_)
    | split)

theorem commitStep_sound {d : Device} {j : Nat} (h_d : Sound bd d) : Sound bd (commitStep d j) := by
  unfold commitStep
  dsimp only
  repeat' (first
    | with_reducible (first
      | assumption | apply sound_ite | apply bump_sound | apply bump64_sound | apply setJob_sound | apply putBit_sound | apply arcadeStop_sound
      | apply ckptKick_sound | apply applyReimage_sound | apply taintEv_sound | apply preemptBegin_sound)
    | split)

theorem stepCommit_sound {j : Nat} {d : Device} (h_d : Sound bd d) : Sound bd (stepCommit j d) := by
  unfold stepCommit
  dsimp only
  repeat' (with_reducible (first | assumption | apply sound_ite | apply restoreWords_sound | apply commitStep_sound))

/-! ### Mailbox -/

theorem regBytes_sound {d : Device} {off : Nat} {z0 : List Byte} (h_d : Sound bd d) : Sound bd (regBytes d off z0) := by
  revert h_d
  fun_induction regBytes d off z0 with
  | case1 d off a b c e t ih => exact fun h => ih (setR_sound h)
  | case2 d off => exact id
  | case3 d off t => exact fun h => setR_sound h

theorem respond_sound {d : Device} {t : Transport} {cmd status : Nat} {payload : List Byte} (h_d : Sound bd d) : Sound bd
    (respond d t cmd status payload) := by
  unfold respond
  dsimp only
  repeat' (first
    | with_reducible (first | assumption | apply regBytes_sound)
    | (fail_if_no_progress with_reducible refine sound_mk rfl rfl rfl rfl rfl rfl ?_)
    | split)

/-! ### Errors -/

theorem testHold_sound {d : Device} {r : UnitRef} (h_d : Sound bd d) : Sound bd (testHold d r) := by
  unfold testHold
  dsimp only
  repeat' (first | with_reducible (first | assumption | apply setR_sound | apply takeDown_sound | apply beginTest_sound) | split)

theorem selfTestStart_sound {r : UnitRef} {d : Device} (h_d : Sound bd d) : Sound bd (selfTestStart r d) := by
  unfold selfTestStart
  repeat' (first
    | with_reducible (first | assumption | apply sound_ite | apply testHold_sound)
    | (fail_if_no_progress with_reducible refine sound_mk rfl rfl rfl rfl rfl rfl ?_)
    | split)

theorem lasting_sound {d : Device} {r : UnitRef} {reason code : Nat} (h_d : Sound bd d) : Sound bd (lasting d r reason code) := by
  unfold lasting
  repeat' (with_reducible (first | assumption | apply bump_sound | apply requestFence_sound))

theorem transient_sound {d : Device} {r : UnitRef} {code : Nat} (h_d : Sound bd d) : Sound bd (transient d r code) := by
  unfold transient
  dsimp only
  repeat' (first
    | with_reducible (first | assumption | apply sound_ite | apply bump_sound | apply lasting_sound)
    | (fail_if_no_progress with_reducible refine sound_mk rfl rfl rfl rfl rfl rfl ?_))

theorem transients_sound {d : Device} {r : UnitRef} {code z0 : Nat} (h_d : Sound bd d) : Sound bd (transients d r code z0) := by
  induction z0 generalizing d with
  | zero => exact h_d
  | succ n ih => exact ih (transient_sound h_d)

theorem testLeave_sound {d : Device} {r : UnitRef} {train : Bool} (h_d : Sound bd d) : Sound bd (testLeave d r train) := by
  unfold testLeave
  dsimp only
  repeat' (first
    | with_reducible (first
      | assumption | apply sound_ite | apply setR_sound | apply setEvt_sound | apply moveLink_sound | apply trainLink_sound | apply takeDown_sound
      | apply countPrbs_sound)
    | split)

theorem giveBack_sound {d : Device} {r : UnitRef} (h_d : Sound bd d) : Sound bd (giveBack d r) := by
  unfold giveBack
  dsimp only
  repeat' (first | with_reducible assumption | (fail_if_no_progress with_reducible refine sound_mk rfl rfl rfl rfl rfl rfl ?_))

theorem answerTests_sound {d : Device} {r : UnitRef} {pass : Bool} (h_d : Sound bd d) : Sound bd (answerTests d r pass) := by
  unfold answerTests
  dsimp only
  repeat' (first
    | with_reducible assumption
    | (intro _)
    | with_reducible (first | apply sound_fold | apply respond_sound)
    | (fail_if_no_progress with_reducible refine sound_mk rfl rfl rfl rfl rfl rfl ?_))

theorem testVerdict_sound {d : Device} {t : Test} {res : TestResult} (h_d : Sound bd d) : Sound bd (testVerdict d t res) := by
  unfold testVerdict
  dsimp only
  repeat' (first
    | with_reducible assumption
    | (intro _)
    | with_reducible (first | apply sound_ite | apply sound_fold | apply lasting_sound | apply transients_sound | apply giveBack_sound)
    | (fail_if_no_progress with_reducible refine sound_mk rfl rfl rfl rfl rfl rfl ?_)
    | split)

theorem selfTestEnd_sound {r : UnitRef} {res : TestResult} {d : Device} (h_d : Sound bd d) : Sound bd (selfTestEnd r res d) := by
  unfold selfTestEnd
  dsimp only
  repeat' (first
    | with_reducible (first
      | assumption | apply bump_sound | apply freeVal_sound | apply log_sound | apply standbyTests_sound | apply testLeave_sound
      | apply answerTests_sound | apply testVerdict_sound)
    | (fail_if_no_progress with_reducible refine sound_mk rfl rfl rfl rfl rfl rfl ?_)
    | split)

theorem restoreCopy_sound {v : Reg} {d : Device} (h_d : Sound bd d) : Sound bd (restoreCopy v d) := by
  unfold restoreCopy
  dsimp only
  repeat' (first
    | with_reducible assumption
    | (intro _)
    | with_reducible (first
      | apply sound_ite | apply okE_ite | apply sound_fold | apply setR_sound | apply freeVal_sound | apply poisonSeen_sound | apply unitRead_sound
      | apply queuePkt_sound)
    | (fail_if_no_progress with_reducible refine sound_mk rfl rfl rfl rfl rfl rfl ?_)
    | with_reducible (first | refine okE_ok ?_ | refine sX_err2 (by with_reducible assumption) ?_ | refine sX_ok2 (by with_reducible assumption) ?_)
    | split)

theorem restoreCopyDone_sound {d : Device} (h_d : Sound bd d) : Sound bd (restoreCopyDone d) := by
  unfold restoreCopyDone
  dsimp only
  repeat' (first
    | with_reducible (first | assumption | apply setR_sound | apply sendSignal_sound)
    | (fail_if_no_progress with_reducible refine sound_mk rfl rfl rfl rfl rfl rfl ?_)
    | split)

theorem repairHoldClear_sound {v : Reg} {d : Device} (h_d : Sound bd d) : Sound bd (repairHoldClear v d) := by
  unfold repairHoldClear
  repeat' (with_reducible (first | assumption | apply setR_sound))

end Sys2Proof.Machine
end

