-- ==== Sys2Proof/Laws/SoundPorter.lean ====
section
/-!
SUPPORT. Power, the Porter, registers, bring-up and time keep the module sound. Each lemma is named after the operation and says that it keeps `Sound` with any bounds.
-/
namespace Sys2Proof.Machine

variable {bd : Nat → Nat}


/-! ### Power -/

theorem railsOff_sound {d : Device} (h_d : Sound bd d) : Sound bd (railsOff d) := by
  exact ⟨Mem.wf_empty, fun _ h => absurd h List.not_mem_nil, Nat.zero_le _, h_d.2.2.2.1, h_d.2.2.2.2.1, h_d.2.2.2.2.2⟩

theorem eraseSlot_sound {d : Device} {kind slot len : Nat} (h_d : Sound bd d) : Sound bd (eraseSlot d kind slot len) := by
  unfold eraseSlot
  dsimp only
  repeat' (first | with_reducible assumption | (fail_if_no_progress with_reducible refine sound_mk rfl rfl rfl rfl rfl rfl ?_))

theorem closeSession_sound {d : Device} (h_d : Sound bd d) : Sound bd (closeSession d) := by
  unfold closeSession
  dsimp only
  repeat' (first
    | with_reducible (first | assumption | apply eraseSlot_sound)
    | (fail_if_no_progress with_reducible refine sound_mk rfl rfl rfl rfl rfl rfl ?_)
    | split)

theorem porterOff_sound {d : Device} (h_d : Sound bd d) : Sound bd (porterOff d) := by
  unfold porterOff
  dsimp only
  repeat' (first
    | with_reducible (first | assumption | apply closeSession_sound)
    | (fail_if_no_progress with_reducible refine sound_mk rfl rfl rfl rfl rfl rfl ?_))

theorem thermTargetWrite_sound {v : Reg} {d : Device} (h_d : Sound bd d) : Sound bd (thermTargetWrite v d) := by
  unfold thermTargetWrite
  dsimp only
  repeat' (with_reducible (first | assumption | apply sound_ite | apply setR_sound))

theorem thermalHall_sound {d : Device} {h : Nat} (h_d : Sound bd d) : Sound bd (thermalHall d h) := by
  unfold thermalHall
  dsimp only
  repeat' (with_reducible (first | assumption | apply sound_ite | apply dvfsReq_sound))

theorem thermalLoop_sound {d : Device} (h_d : Sound bd d) : Sound bd (thermalLoop d) := by
  unfold thermalLoop
  dsimp only
  repeat' (first
    | with_reducible assumption
    | (intro _)
    | with_reducible (first | apply sound_ite | apply sound_fold | apply thermalHall_sound)
    | (fail_if_no_progress with_reducible refine sound_mk rfl rfl rfl rfl rfl rfl ?_))

theorem powerLoop_sound {watts : Nat} {d : Device} (h_d : Sound bd d) : Sound bd (powerLoop watts d) := by
  unfold powerLoop
  dsimp only
  repeat' (first
    | with_reducible assumption
    | (intro _)
    | with_reducible (first | apply sound_ite | apply sound_fold | apply setR_sound | apply dvfsReq_sound)
    | (fail_if_no_progress with_reducible refine sound_mk rfl rfl rfl rfl rfl rfl ?_))

theorem limCount_sound {d : Device} (h_d : Sound bd d) : Sound bd (limCount d) := by
  unfold limCount
  dsimp only
  repeat' (first
    | with_reducible (first | assumption | apply sound_ite | apply bump_sound)
    | (fail_if_no_progress with_reducible refine sound_mk rfl rfl rfl rfl rfl rfl ?_))

theorem currentLimiterCheck_sound {watts : Nat} {d : Device} (h_d : Sound bd d) : Sound bd (currentLimiterCheck watts d) := by
  unfold currentLimiterCheck
  dsimp only
  repeat' (first
    | with_reducible (first | assumption | apply sound_ite | apply setR_sound | apply bump_sound | apply setEvt_sound | apply limCount_sound)
    | (fail_if_no_progress with_reducible refine sound_mk rfl rfl rfl rfl rfl rfl ?_))

theorem bootRecord_sound {d : Device} {cause stage failed : Nat} (h_d : Sound bd d) : Sound bd (bootRecord d cause stage failed) := by
  unfold bootRecord
  dsimp only
  repeat' (with_reducible (first | assumption | apply log_sound))

theorem sensorAt_sound {d : Device} {locKind loc : Nat} (h_d : Sound bd d) : Sound bd (sensorAt d locKind loc).2 := by
  unfold sensorAt
  repeat' (first | with_reducible (first | assumption | apply freeVal_sound) | split)

theorem trip_sound {d : Device} {locKind loc v : Nat} (h_d : Sound bd d) : Sound bd (trip d locKind loc v) := by
  unfold trip
  dsimp only
  repeat' (first
    | with_reducible (first
      | assumption | apply sound_ite | apply flushLog_sound | apply log_sound | apply alert_sound | apply railsOff_sound | apply bootRecord_sound
      | apply sensorAt_sound)
    | (fail_if_no_progress with_reducible refine sound_mk rfl rfl rfl rfl rfl rfl ?_))

theorem thermalTrip_sound {sensor : Nat} {value : BitVec 16} {d : Device} (h_d : Sound bd d) : Sound bd (thermalTrip sensor value d) := by
  unfold thermalTrip
  dsimp only
  repeat' (with_reducible (first | assumption | apply sound_ite | apply trip_sound))

theorem pmEntryStart_sound {d : Device} (h_d : Sound bd d) : Sound bd (pmEntryStart d) := by
  unfold pmEntryStart
  dsimp only
  repeat' (first
    | with_reducible (first | assumption | apply sound_ite | apply bump_sound)
    | (fail_if_no_progress with_reducible refine sound_mk rfl rfl rfl rfl rfl rfl ?_))

theorem selfRefresh_sound {d : Device} {on : Bool} (h_d : Sound bd d) : Sound bd (selfRefresh d on) := by
  unfold selfRefresh
  repeat' (first | with_reducible assumption | (intro _) | with_reducible (first | apply sound_ite | apply sound_fold | apply putBit_sound))

theorem gateHalls_sound {d : Device} (h_d : Sound bd d) : Sound bd (gateHalls d) := by
  exact sound_hmem (sound_of (e := d) rfl rfl rfl rfl rfl rfl h_d) (fun _ h => absurd h List.not_mem_nil)

theorem portsOff_sound {d : Device} (h_d : Sound bd d) : Sound bd (portsOff d) := by
  unfold portsOff
  repeat' (first | with_reducible assumption | (intro _) | with_reducible (first | apply sound_fold | apply takeDown_sound))

theorem deepOff_sound {d : Device} (h_d : Sound bd d) : Sound bd (deepOff d) := by
  unfold deepOff
  dsimp only
  repeat' (first
    | with_reducible (first | assumption | apply flushLog_sound | apply railsOff_sound | apply porterOff_sound)
    | (fail_if_no_progress with_reducible refine sound_mk rfl rfl rfl rfl rfl rfl ?_))

theorem stageEffect_sound {d : Device} {k : Nat} (h_d : Sound bd d) : Sound bd (stageEffect d k) := by
  unfold stageEffect
  dsimp only
  repeat' (first
    | with_reducible (first | assumption | apply selfRefresh_sound | apply gateHalls_sound | apply portsOff_sound | apply deepOff_sound)
    | (fail_if_no_progress with_reducible refine sound_mk rfl rfl rfl rfl rfl rfl ?_)
    | split)

theorem powerRecord_sound {d : Device} {sev : Nat} (h_d : Sound bd d) : Sound bd (powerRecord d sev) := by
  unfold powerRecord
  dsimp only
  repeat' (with_reducible (first | assumption | apply log_sound))

theorem abandonEntry_sound {d : Device} {k : Nat} (h_d : Sound bd d) : Sound bd (abandonEntry d k) := by
  unfold abandonEntry
  dsimp only
  repeat' (first
    | with_reducible (first | assumption | apply bump_sound | apply powerRecord_sound)
    | (fail_if_no_progress with_reducible refine sound_mk rfl rfl rfl rfl rfl rfl ?_))

theorem pmStageDone_sound {d : Device} (h_d : Sound bd d) : Sound bd (pmStageDone d) := by
  unfold pmStageDone
  dsimp only
  repeat' (first
    | with_reducible (first | assumption | apply sound_ite | apply stageEffect_sound | apply abandonEntry_sound)
    | (fail_if_no_progress with_reducible refine sound_mk rfl rfl rfl rfl rfl rfl ?_))

theorem pmWake_sound {cause : Nat} {d : Device} (h_d : Sound bd d) : Sound bd (pmWake cause d) := by
  unfold pmWake
  repeat' (with_reducible (first | assumption | apply wake_sound))

theorem trainPorts_sound {d : Device} (h_d : Sound bd d) : Sound bd (trainPorts d) := by
  unfold trainPorts
  dsimp only
  repeat' (first
    | with_reducible assumption
    | (intro _)
    | with_reducible (first | apply sound_ite | apply sound_fold | apply setLink_sound | apply trainLink_sound))

theorem pmExitStep_sound {d : Device} (h_d : Sound bd d) : Sound bd (pmExitStep d) := by
  unfold pmExitStep
  dsimp only
  repeat' (first
    | with_reducible (first
      | assumption | apply sound_ite | apply trainLink_sound | apply selfRefresh_sound | apply powerRecord_sound | apply trainPorts_sound)
    | (fail_if_no_progress with_reducible refine sound_mk rfl rfl rfl rfl rfl rfl ?_)
    | split)

theorem holdAsleep_sound {d : Device} (h_d : Sound bd d) : Sound bd (holdAsleep d) := by
  unfold holdAsleep
  dsimp only
  repeat' (first
    | with_reducible (first | assumption | apply sound_ite | apply selfRefresh_sound | apply portsOff_sound)
    | (fail_if_no_progress with_reducible refine sound_mk rfl rfl rfl rfl rfl rfl ?_))

theorem pmExitTimeout_sound {d : Device} (h_d : Sound bd d) : Sound bd (pmExitTimeout d) := by
  unfold pmExitTimeout
  dsimp only
  repeat' (first
    | with_reducible (first | assumption | apply sound_ite | apply powerRecord_sound | apply holdAsleep_sound)
    | (fail_if_no_progress with_reducible refine sound_mk rfl rfl rfl rfl rfl rfl ?_))

theorem paceJobWrite_sound {h : Nat} {v : Reg} {d : Device} (h_d : Sound bd d) : Sound bd (paceJobWrite h v d) := by
  unfold paceJobWrite
  dsimp only
  repeat' (first | with_reducible assumption | (intro _) | with_reducible (first | apply sound_fold | apply setR_sound))

/-! ### Porter -/

theorem fwState_sound {d : Device} {kind slot state code : Nat} (h_d : Sound bd d) : Sound bd (fwState d kind slot state code) := by
  unfold fwState
  dsimp only
  repeat' (with_reducible (first | assumption | apply pushEv_sound | apply log_sound))

theorem rejectImage_sound {d : Device} {kind slot : Nat} (h_d : Sound bd d) : Sound bd (rejectImage d kind slot) := by
  unfold rejectImage
  dsimp only
  repeat' (first
    | with_reducible (first | assumption | apply fwState_sound)
    | (fail_if_no_progress with_reducible refine sound_mk rfl rfl rfl rfl rfl rfl ?_))

theorem setActive_sound {d : Device} {kind slot : Nat} (h_d : Sound bd d) : Sound bd (setActive d kind slot) := by
  unfold setActive
  dsimp only
  repeat' (first | with_reducible assumption | (fail_if_no_progress with_reducible refine sound_mk rfl rfl rfl rfl rfl rfl ?_))

theorem rollback_sound {d : Device} {kind : Nat} (h_d : Sound bd d) : Sound bd (rollback d kind) := by
  unfold rollback
  dsimp only
  repeat' (first
    | with_reducible (first | assumption | apply alert_sound | apply fwState_sound | apply setActive_sound)
    | (fail_if_no_progress with_reducible refine sound_mk rfl rfl rfl rfl rfl rfl ?_))

theorem selectSlot_sound {d : Device} {kind : Nat} (h_d : Sound bd d) : Sound bd (selectSlot d kind).2.2 := by
  unfold selectSlot
  dsimp only
  repeat' (first
    | with_reducible (first | assumption | apply rejectImage_sound | apply setActive_sound | apply rollback_sound)
    | (fail_if_no_progress with_reducible refine sound_mk rfl rfl rfl rfl rfl rfl ?_)
    | split)

theorem selectSlot_eq {d : Device} {kind : Nat} {q0 : Option Nat} {q1 : Bool} {d1 : Device} (he : selectSlot d kind = (q0, q1, d1))
    (h_d : Sound bd d) : Sound bd d1 := by have := (selectSlot_sound h_d : Sound bd (selectSlot d kind).2.2); rw [he] at this; exact this

theorem runImage_sound {d : Device} {kind slot : Nat} (h_d : Sound bd d) : Sound bd (runImage d kind slot) := by
  unfold runImage
  dsimp only
  repeat' (first | with_reducible assumption | (fail_if_no_progress with_reducible refine sound_mk rfl rfl rfl rfl rfl rfl ?_))

theorem confirm_sound {d : Device} {kind : Nat} (h_d : Sound bd d) : Sound bd (confirm d kind) := by
  unfold confirm
  dsimp only
  repeat' (first
    | with_reducible (first | assumption | apply sound_ite | apply fwState_sound)
    | (fail_if_no_progress with_reducible refine sound_mk rfl rfl rfl rfl rfl rfl ?_))

theorem recover_sound {d : Device} {fuse : Bool} (h_d : Sound bd d) : Sound bd (recover d fuse) := by
  unfold recover
  dsimp only
  repeat' (first
    | with_reducible (first | assumption | apply alert_sound | apply bootRecord_sound)
    | (fail_if_no_progress with_reducible refine sound_mk rfl rfl rfl rfl rfl rfl ?_))

theorem porterUp_sound {d : Device} (h_d : Sound bd d) : Sound bd (porterUp d) := by
  unfold porterUp
  dsimp only
  repeat' (first
    | with_reducible (first
      | assumption | apply sound_ite | apply pushEv_sound | apply log_sound | apply alert_sound | apply bootRecord_sound | apply confirm_sound)
    | (fail_if_no_progress with_reducible refine sound_mk rfl rfl rfl rfl rfl rfl ?_))

theorem porterBoot_sound {fusesOk : Bool} {d : Device} (h_d : Sound bd d) : Sound bd (porterBoot fusesOk d) := by
  unfold porterBoot
  dsimp only
  repeat' (first
    | with_reducible (first
      | assumption | apply sound_ite | refine selectSlot_eq (by with_reducible assumption) ?_ | apply runImage_sound | apply recover_sound
      | apply porterUp_sound)
    | (fail_if_no_progress with_reducible refine sound_mk rfl rfl rfl rfl rfl rfl ?_)
    | split)

theorem porterRestart_sound {d : Device} {cause : Nat} (h_d : Sound bd d) : Sound bd (porterRestart d cause) := by
  unfold porterRestart
  dsimp only
  repeat' (first
    | with_reducible (first | assumption | apply flushLog_sound)
    | (fail_if_no_progress with_reducible refine sound_mk rfl rfl rfl rfl rfl rfl ?_))

theorem watchdogRestart_sound {d : Device} (h_d : Sound bd d) : Sound bd (watchdogRestart d) := by
  unfold watchdogRestart
  repeat' (first
    | with_reducible (first
      | assumption | apply sound_ite | refine selectSlot_eq (by with_reducible assumption) ?_ | apply recover_sound | apply porterRestart_sound)
    | split)

theorem porterReadyTimeout_sound {d : Device} (h_d : Sound bd d) : Sound bd (porterReadyTimeout d) := by
  unfold porterReadyTimeout
  repeat' (with_reducible (first | assumption | apply sound_ite | apply recover_sound))

theorem moduleReset_sound {d : Device} {cause : Nat} (h_d : Sound bd d) : Sound bd (moduleReset d cause) := by
  unfold moduleReset
  dsimp only
  repeat' (first
    | with_reducible (first | assumption | apply flushLog_sound | apply railsOff_sound | apply porterOff_sound)
    | (fail_if_no_progress with_reducible refine sound_mk rfl rfl rfl rfl rfl rfl ?_))

theorem answer_sound {d : Device} {status : Nat} {payload : List Byte} {changed : Bool} (h_d : Sound bd d) : Sound bd
    (answer d status payload changed).2 := by
  unfold answer
  dsimp only
  repeat' (with_reducible assumption)

theorem finish_sound {t : Transport} {cmd : Nat} {a : Option (Nat × List Byte × Bool) × Device} (h_a : Sound bd (a).2) : Sound bd (finish t cmd a) :=
    by
  unfold finish
  dsimp only
  repeat' (first | with_reducible (first | assumption | apply sound_ite | apply log_sound | apply respond_sound) | split)

theorem message_sound {t : Transport} {cmd lo hi : Nat} {payload : List Byte} {f : Device → Option (Nat × List Byte × Bool) × Device} {d : Device}
    (h_f : ∀ y0, Sound bd y0 → Sound bd (f y0).2) (h_d : Sound bd d) : Sound bd (message t cmd lo hi payload f d) := by
  unfold message
  dsimp only
  repeat' (first
    | with_reducible (first | assumption | apply sound_ite | apply wake_sound | apply respond_sound | apply finish_sound)
    | (apply h_f)
    | split)

theorem alertClear_sound {d : Device} {mask : Nat} (h_d : Sound bd d) : Sound bd (alertClear d mask) := by
  unfold alertClear
  dsimp only
  repeat' (with_reducible (first | assumption | apply setR_sound))

theorem hottest_sound {d : Device} (h_d : Sound bd d) : Sound bd (hottest d).2 := by
  unfold hottest
  dsimp only
  repeat' (first | with_reducible (first | assumption | apply freeVal_sound) | split)

theorem powerByte_sound {d : Device} (h_d : Sound bd d) : Sound bd (powerByte d).2 := by
  unfold powerByte
  repeat' (with_reducible (first | assumption | apply sound_ite2 | apply freeVal_sound))

theorem getStatus_sound {t : Transport} {payload : List Byte} {d : Device} (h_d : Sound bd d) : Sound bd (getStatus t payload d) := by
  unfold getStatus
  dsimp only
  repeat' (first
    | with_reducible assumption
    | (intro _)
    | with_reducible (first | apply answer_sound | apply message_sound | apply hottest_sound | apply powerByte_sound))

theorem alertAck_sound {t : Transport} {payload : List Byte} {d : Device} (h_d : Sound bd d) : Sound bd (alertAck t payload d) := by
  unfold alertAck
  repeat' (first
    | with_reducible assumption
    | (intro _)
    | with_reducible (first | apply answer_sound | apply message_sound | apply alertClear_sound))

theorem sensorReply_sound {d : Device} {i : Nat} {s : SensorDesc} {fresh : Bool} (h_d : Sound bd d) : Sound bd (sensorReply d i s fresh).2 := by
  unfold sensorReply
  dsimp only
  repeat' (first | with_reducible (first | assumption | apply freeVal_sound | apply answer_sound) | split)

theorem readSensor_sound {t : Transport} {payload : List Byte} {fresh : Option (BitVec 16)} {d : Device} (h_d : Sound bd d) : Sound bd
    (readSensor t payload fresh d) := by
  unfold readSensor
  dsimp only
  repeat' (first
    | with_reducible assumption
    | (intro _)
    | with_reducible (first | apply sound_ite2 | apply sensorSample_sound | apply answer_sound | apply message_sound | apply sensorReply_sound)
    | split)

theorem chassisTemp_sound {d : Device} {kind v : Nat} (h_d : Sound bd d) : Sound bd (chassisTemp d kind v) := by
  unfold chassisTemp
  repeat' (first
    | with_reducible assumption
    | (intro _)
    | with_reducible (first | apply sound_ite | apply sound_fold | apply sensorSample_sound)
    | split)

theorem setChassisTemp_sound {t : Transport} {payload : List Byte} {d : Device} (h_d : Sound bd d) : Sound bd (setChassisTemp t payload d) := by
  unfold setChassisTemp
  repeat' (first
    | with_reducible assumption
    | (intro _)
    | with_reducible (first | apply sound_ite2 | apply answer_sound | apply message_sound | apply chassisTemp_sound))

theorem readLog_sound {t : Transport} {payload : List Byte} {d : Device} (h_d : Sound bd d) : Sound bd (readLog t payload d) := by
  unfold readLog
  dsimp only
  repeat' (first | with_reducible assumption | (intro _) | with_reducible (first | apply sound_ite2 | apply answer_sound | apply message_sound))

theorem wakeMsg_sound {t : Transport} {payload : List Byte} {d : Device} (h_d : Sound bd d) : Sound bd (wakeMsg t payload d) := by
  unfold wakeMsg
  repeat' (first | with_reducible assumption | (intro _) | with_reducible (first | apply wake_sound | apply answer_sound | apply message_sound))

theorem resetModule_sound {t : Transport} {payload : List Byte} {d : Device} (h_d : Sound bd d) : Sound bd (resetModule t payload d) := by
  unfold resetModule
  repeat' (first
    | with_reducible assumption
    | (intro _)
    | with_reducible (first
      | apply sound_ite | apply sound_ite2 | apply log_sound | apply moduleReset_sound | apply answer_sound | apply message_sound))

theorem setRtc_sound {t : Transport} {payload : List Byte} {d : Device} (h_d : Sound bd d) : Sound bd (setRtc t payload d) := by
  unfold setRtc
  repeat' (first | with_reducible assumption | (intro _) | with_reducible (first | apply set64_sound | apply answer_sound | apply message_sound))

theorem setAlarm_sound {t : Transport} {payload : List Byte} {d : Device} (h_d : Sound bd d) : Sound bd (setAlarm t payload d) := by
  unfold setAlarm
  dsimp only
  repeat' (first
    | with_reducible assumption
    | (intro _)
    | with_reducible (first | apply answer_sound | apply message_sound)
    | (fail_if_no_progress with_reducible refine sound_mk rfl rfl rfl rfl rfl rfl ?_))

theorem rtcAlarm_sound {d : Device} (h_d : Sound bd d) : Sound bd (rtcAlarm d) := by
  unfold rtcAlarm
  dsimp only
  repeat' (first
    | with_reducible (first | assumption | apply sound_ite | apply alert_sound | apply wake_sound)
    | (fail_if_no_progress with_reducible refine sound_mk rfl rfl rfl rfl rfl rfl ?_))

theorem logFlush_sound {d : Device} (h_d : Sound bd d) : Sound bd (logFlush d) := by
  unfold logFlush
  repeat' (with_reducible (first | assumption | apply sound_ite | apply flushLog_sound))

theorem fwBegin_sound {t : Transport} {payload : List Byte} {d : Device} (h_d : Sound bd d) : Sound bd (fwBegin t payload d) := by
  unfold fwBegin
  dsimp only
  repeat' (first
    | with_reducible assumption
    | (intro _)
    | with_reducible (first | apply sound_ite2 | apply eraseSlot_sound | apply closeSession_sound | apply answer_sound | apply message_sound)
    | (fail_if_no_progress with_reducible refine sound_mk rfl rfl rfl rfl rfl rfl ?_))

theorem fwData_sound {t : Transport} {payload : List Byte} {d : Device} (h_d : Sound bd d) : Sound bd (fwData t payload d) := by
  unfold fwData
  dsimp only
  repeat' (first
    | with_reducible assumption
    | (intro _)
    | with_reducible (first | apply sound_ite | apply sound_ite2 | apply fwState_sound | apply answer_sound | apply message_sound)
    | (fail_if_no_progress with_reducible refine sound_mk rfl rfl rfl rfl rfl rfl ?_)
    | split)

theorem fwVerify_sound {t : Transport} {payload : List Byte} {d : Device} (h_d : Sound bd d) : Sound bd (fwVerify t payload d) := by
  unfold fwVerify
  dsimp only
  repeat' (first
    | with_reducible assumption
    | (intro _)
    | with_reducible (first | apply sound_ite2 | apply fwState_sound | apply rejectImage_sound | apply answer_sound | apply message_sound)
    | (fail_if_no_progress with_reducible refine sound_mk rfl rfl rfl rfl rfl rfl ?_)
    | split)

theorem fwActivate_sound {t : Transport} {payload : List Byte} {d : Device} (h_d : Sound bd d) : Sound bd (fwActivate t payload d) := by
  unfold fwActivate
  dsimp only
  repeat' (first
    | with_reducible assumption
    | (intro _)
    | with_reducible (first
      | apply sound_ite2 | apply fwState_sound | apply porterRestart_sound | apply answer_sound | apply finish_sound | apply message_sound)
    | (fail_if_no_progress with_reducible refine sound_mk rfl rfl rfl rfl rfl rfl ?_)
    | split)

theorem fwCommit_sound {t : Transport} {payload : List Byte} {d : Device} (h_d : Sound bd d) : Sound bd (fwCommit t payload d) := by
  have hs : ∀ (e : Device) (k n : Nat), Sound bd e → Sound bd { e with porter := { e.porter with svn := tset e.porter.svn k (max (fusedSvn e k) n) } } := by
    intro e k n h
    refine ⟨h.1, h.2.1, h.2.2.1, h.2.2.2.1, h.2.2.2.2.1, fun i => ?_⟩
    have hi := h.2.2.2.2.2 i
    unfold fusedSvn at hi ⊢
    show bd i ≤ tget 0 (tset e.porter.svn k _) i
    rw [tget_tset]; split
    · next hk => subst hk; exact Nat.le_trans hi (Nat.le_max_left _ _)
    · exact hi
  unfold fwCommit
  dsimp only
  repeat' (first
    | with_reducible assumption
    | (intro _)
    | with_reducible (first | apply sound_ite2 | apply hs | apply fwState_sound | apply answer_sound | apply message_sound))

theorem fwSessionTimeout_sound {d : Device} (h_d : Sound bd d) : Sound bd (fwSessionTimeout d) := by
  unfold fwSessionTimeout
  repeat' (with_reducible (first | assumption | apply sound_ite | apply closeSession_sound))

theorem getIdentity_sound {t : Transport} {payload : List Byte} {d : Device} (h_d : Sound bd d) : Sound bd (getIdentity t payload d) := by
  unfold getIdentity
  repeat' (first | with_reducible assumption | (intro _) | with_reducible (first | apply sound_ite2 | apply answer_sound | apply message_sound))

theorem attestReq_sound {t : Transport} {payload : List Byte} {d : Device} (h_d : Sound bd d) : Sound bd (attestReq t payload d) := by
  unfold attestReq
  dsimp only
  repeat' (first
    | with_reducible assumption
    | (intro _)
    | with_reducible (first | apply sound_ite2 | apply answer_sound | apply message_sound)
    | (fail_if_no_progress with_reducible refine sound_mk rfl rfl rfl rfl rfl rfl ?_))

theorem attestReady_sound {d : Device} (h_d : Sound bd d) : Sound bd (attestReady d) := by
  unfold attestReady
  dsimp only
  repeat' (first
    | with_reducible (first | assumption | apply sound_ite)
    | (fail_if_no_progress with_reducible refine sound_mk rfl rfl rfl rfl rfl rfl ?_))

theorem attestRead_sound {t : Transport} {payload : List Byte} {d : Device} (h_d : Sound bd d) : Sound bd (attestRead t payload d) := by
  unfold attestRead
  repeat' (first | with_reducible assumption | (intro _) | with_reducible (first | apply sound_ite2 | apply answer_sound | apply message_sound))

theorem fenceUnit_sound {t : Transport} {payload : List Byte} {d : Device} (h_d : Sound bd d) : Sound bd (fenceUnit t payload d) := by
  unfold fenceUnit
  repeat' (first
    | with_reducible assumption
    | (intro _)
    | with_reducible (first | apply requestFence_sound | apply answer_sound | apply message_sound)
    | split)

theorem askTest_sound {t : Transport} {cmd why : Nat} {r : UnitRef} {d : Device} (h_d : Sound bd d) : Sound bd (askTest t cmd why r d).2 := by
  unfold askTest
  dsimp only
  repeat' (first
    | with_reducible (first | assumption | apply sound_ite2 | apply answer_sound)
    | (fail_if_no_progress with_reducible refine sound_mk rfl rfl rfl rfl rfl rfl ?_)
    | (dsimp only)
    | split)

theorem releaseUnit_sound {t : Transport} {payload : List Byte} {d : Device} (h_d : Sound bd d) : Sound bd (releaseUnit t payload d) := by
  unfold releaseUnit
  repeat' (first
    | with_reducible assumption
    | (intro _)
    | with_reducible (first | apply sound_ite2 | apply answer_sound | apply message_sound | apply askTest_sound)
    | split)

theorem selfTest_sound {t : Transport} {payload : List Byte} {d : Device} (h_d : Sound bd d) : Sound bd (selfTest t payload d) := by
  unfold selfTest
  repeat' (first
    | with_reducible assumption
    | (intro _)
    | with_reducible (first | apply answer_sound | apply message_sound | apply askTest_sound)
    | split)

theorem unknownCmd_sound {t : Transport} {cmd : Byte} {payload : List Byte} {d : Device} (h_d : Sound bd d) : Sound bd (unknownCmd t cmd payload d) :=
    by
  unfold unknownCmd
  dsimp only
  repeat' (first | with_reducible (first | assumption | apply sound_ite | apply wake_sound | apply respond_sound) | split)

/-! ### Memory -/

theorem stackReadCmd_sound {a n : Nat} {j : Option Nat} {d : Device} (h_d : Sound bd d) : Sound bd (stackReadCmd a n j d) := by
  unfold stackReadCmd
  dsimp only
  repeat' (first | with_reducible (first | assumption | apply sound_ite | apply taint_sound | apply stackRead_sound) | split)

theorem stackWriteAccept_sound {a : Nat} {data : List Byte} {poisoned : List Nat} {d : Device} (h_d : Sound bd d) : Sound bd
    (stackWriteAccept a data poisoned d) := by
  unfold stackWriteAccept
  repeat' (with_reducible (first | assumption | apply stackWrite_sound))

theorem stackRefresh_sound {s : Nat} {d : Device} (h_d : Sound bd d) : Sound bd (stackRefresh s d) := by
  unfold stackRefresh
  repeat' (first
    | with_reducible (first | assumption | apply sound_ite)
    | (fail_if_no_progress with_reducible refine sound_mk rfl rfl rfl rfl rfl rfl ?_))

theorem stackTempSample_sound {s : Nat} {temp : BitVec 16} {ms : Nat} {d : Device} (h_d : Sound bd d) : Sound bd (stackTempSample s temp ms d) := by
  unfold stackTempSample
  dsimp only
  repeat' (first
    | with_reducible (first
      | assumption | apply sound_ite | apply setR_sound | apply bump_sound | apply setEvt_sound | apply putBit_sound | apply stackSensors_sound))

theorem watchAdd_sound {d : Device} {h a : Nat} (h_d : Sound bd d) : Sound bd (watchAdd d h a) := by
  unfold watchAdd
  dsimp only
  repeat' (first
    | with_reducible (first | assumption | apply sound_ite | apply bump_sound | apply dropCopies_sound)
    | (fail_if_no_progress with_reducible refine sound_mk rfl rfl rfl rfl rfl rfl ?_))

theorem raRoom_sound {d : Device} {u j old : Nat} (h_d : Sound bd d) : Sound bd (raRoom d u j old) := by
  unfold raRoom
  dsimp only
  repeat' (with_reducible (first | assumption | apply sound_ite | apply setCore_sound))

theorem raRequest_sound {d : Device} {u j : Nat} {q : RaDesc} {before : List Nat} {va n : Nat} (h_d : Sound bd d) : Sound bd
    (raRequest d u j q before va n) := by
  unfold raRequest
  dsimp only
  repeat' (first
    | with_reducible assumption
    | (intro _)
    | with_reducible (first
      | apply sound_ite | apply sound_fold | apply bump_sound | apply setCore_sound | apply sectorRead_sound | apply readPeak_sound
      | apply tableReads_sound | apply watchAdd_sound | apply raRoom_sound)
    | split)

theorem runaheadFetch_sound {u k : Nat} {d : Device} (h_d : Sound bd d) : Sound bd (runaheadFetch u k d) := by
  unfold runaheadFetch
  dsimp only
  repeat' (first
    | with_reducible assumption
    | (intro _)
    | with_reducible (first | apply sound_ite | apply sound_fold | apply settleWatch_sound | apply raRequest_sound)
    | split)

theorem xinvStart_sound {x : Xinv} {d : Device} (h_d : Sound bd d) : Sound bd (xinvStart x d) := by
  unfold xinvStart
  repeat' (first
    | with_reducible (first | assumption | apply sound_ite)
    | (fail_if_no_progress with_reducible refine sound_mk rfl rfl rfl rfl rfl rfl ?_))

theorem xinvAllJobs_sound {d : Device} (h_d : Sound bd d) : Sound bd (xinvAllJobs d) := by
  unfold xinvAllJobs
  repeat' (with_reducible (first | assumption | apply xinvStart_sound))

theorem xinvJob_sound {j : Nat} {d : Device} (h_d : Sound bd d) : Sound bd (xinvJob j d) := by
  unfold xinvJob
  repeat' (with_reducible (first | assumption | apply xinvStart_sound))

theorem xinvRange_sound {j : Nat} {d : Device} (h_d : Sound bd d) : Sound bd (xinvRange j d) := by
  unfold xinvRange
  repeat' (with_reducible (first | assumption | apply xinvStart_sound))

theorem xinvComplete_sound {d : Device} (h_d : Sound bd d) : Sound bd (xinvComplete d) := by
  unfold xinvComplete
  dsimp only
  repeat' (first
    | with_reducible (first | assumption | apply sound_ite)
    | (fail_if_no_progress with_reducible refine sound_mk rfl rfl rfl rfl rfl rfl ?_)
    | split)

/-! ### Registers -/

theorem readCapture_sound {d : Device} {src page off lo : Nat} {isLo isHi : Bool} {hiNow : Nat} (h_d : Sound bd d) : Sound bd
    (readCapture d src page off lo isLo isHi hiNow).2 := by
  unfold readCapture
  dsimp only
  repeat' (first | with_reducible (first | assumption | apply sound_ite2 | apply setHdr_sound) | split)

theorem readClears_sound {d : Device} {page off : Nat} (h_d : Sound bd d) : Sound bd (readClears d page off) := by
  unfold readClears
  dsimp only
  repeat' (first
    | with_reducible (first | assumption | apply sound_ite | apply setR_sound | apply setHdr_sound)
    | (fail_if_no_progress with_reducible refine sound_mk rfl rfl rfl rfl rfl rfl ?_)
    | split)

theorem sigRead_sound {src h off : Nat} {d : Device} (h_d : Sound bd d) : Sound bd (sigRead src h off d).2 := by
  unfold sigRead
  dsimp only
  repeat' (with_reducible (first | assumption | apply sound_ite | apply sound_ite2 | apply readOp_sound | apply readCapture_sound))

theorem cfgRead_sound {src off : Nat} {d : Device} (h_d : Sound bd d) : Sound bd (cfgRead src off d).2 := by
  unfold cfgRead
  dsimp only
  repeat' (first
    | with_reducible (first
      | assumption | apply sound_ite2 | apply bump_sound | apply readCapture_sound | apply readClears_sound | apply sigRead_sound)
    | (fail_if_no_progress with_reducible refine sound_mk rfl rfl rfl rfl rfl rfl ?_)
    | split)

theorem errorClear_sound {_src page : Nat} {d : Device} (h_d : Sound bd d) : Sound bd (errorClear _src page d) := by
  unfold errorClear
  dsimp only
  repeat' (with_reducible (first | assumption | apply sound_ite | apply setHdr_sound))

theorem evtWrite_sound {src page v : Nat} {d : Device} (h_d : Sound bd d) : Sound bd (evtWrite src page v d) := by
  unfold evtWrite
  dsimp only
  repeat' (with_reducible (first | assumption | apply sound_ite | apply setHdr_sound | apply errorClear_sound))

theorem configErr_sound {d : Device} {page : Nat} (h_d : Sound bd d) : Sound bd (configErr d page) := by
  unfold configErr
  repeat' (with_reducible (first | assumption | apply recordErr_sound | apply freeVal_sound))

theorem blkEnable_sound {src page : Nat} {on : Bool} {d : Device} (h_d : Sound bd d) : Sound bd (blkEnable src page on d) := by
  unfold blkEnable
  dsimp only
  repeat' (first
    | with_reducible assumption
    | (intro _)
    | with_reducible (first
      | apply sound_ite | apply sound_fold | apply setHdr_sound | apply trainLink_sound | apply leaveIdle_sound | apply configErr_sound))

theorem resetBlock_sound {d : Device} {page : Nat} (h_d : Sound bd d) : Sound bd (resetBlock d page) := by
  unfold resetBlock
  dsimp only
  repeat' (first
    | with_reducible assumption
    | (intro _)
    | with_reducible (first
      | apply sound_ite | apply sound_fold | apply dropCopies_sound | apply setPort_sound | apply moveLink_sound | apply trainLink_sound
      | apply takeDown_sound | apply clearCore_sound)
    | (fail_if_no_progress with_reducible refine sound_mk rfl rfl rfl rfl rfl rfl ?_)
    | split)

theorem softReset_sound {_src page : Nat} {d : Device} (h_d : Sound bd d) : Sound bd (softReset _src page d) := by
  unfold softReset
  dsimp only
  repeat' (first
    | with_reducible (first | assumption | apply sound_ite | apply setR_sound | apply setHdr_sound | apply configErr_sound | apply resetBlock_sound)
    | (fail_if_no_progress with_reducible refine sound_mk rfl rfl rfl rfl rfl rfl ?_))

theorem softResetDone_sound {page : Nat} {d : Device} (h_d : Sound bd d) : Sound bd (softResetDone page d) := by
  unfold softResetDone
  dsimp only
  repeat' (with_reducible (first | assumption | apply sound_ite | apply setHdr_sound))

theorem blkFence_sound {src page : Nat} {on : Bool} {d : Device} (h_d : Sound bd d) : Sound bd (blkFence src page on d) := by
  unfold blkFence
  repeat' (first | with_reducible (first | assumption | apply sound_ite | apply requestFence_sound) | split)

theorem lockPage_sound {_src page : Nat} {d : Device} (h_d : Sound bd d) : Sound bd (lockPage _src page d) := by
  unfold lockPage
  dsimp only
  repeat' (with_reducible (first | assumption | apply sound_ite | apply setHdr_sound))

theorem ctrlWrite_sound {src page v : Nat} {d : Device} (h_d : Sound bd d) : Sound bd (ctrlWrite src page v d) := by
  unfold ctrlWrite
  dsimp only
  repeat' (first
    | with_reducible (first
      | assumption | apply sound_ite | apply blkEnable_sound | apply softReset_sound | apply blkFence_sound | apply lockPage_sound))

theorem headWrite_sound {src page r v : Nat} {d : Device} (h_d : Sound bd d) : Sound bd (headWrite src page r v d) := by
  unfold headWrite
  dsimp only
  repeat' (first | with_reducible (first | assumption | apply setHdr_sound | apply evtWrite_sound | apply ctrlWrite_sound) | split)

theorem holdLo_sound {src off v : Nat} {d : Device} (h_d : Sound bd d) : Sound bd (holdLo src off v d) := by
  unfold holdLo
  dsimp only
  repeat' (with_reducible (first | assumption | apply setHdr_sound))

theorem commit_sound {src lo v : Nat} {d : Device} (h_d : Sound bd d) : Sound bd (commit src lo v d) := by
  unfold commit
  dsimp only
  repeat' (first
    | with_reducible (first
      | assumption | apply sound_ite | apply commitPair_sound | apply etaWordWrite_sound | apply evtBaseWrite_sound | apply verdict_sound)
    | split)

theorem sigCommit_sound {src h off v : Nat} {d : Device} (h_d : Sound bd d) : Sound bd (sigCommit src h off v d) := by
  unfold sigCommit
  dsimp only
  repeat' (first
    | with_reducible (first | assumption | apply sound_ite | apply setHdr_sound | apply flushStore_sound | apply sigWindowSet_sound)
    | split)

theorem linkCtrlWrite_sound {p l v : Nat} {d : Device} (h_d : Sound bd d) : Sound bd (linkCtrlWrite p l v d) := by
  unfold linkCtrlWrite
  dsimp only
  repeat' (first
    | with_reducible (first
      | assumption | apply sound_ite | apply retrain_sound | apply storeLinkCtrl_sound | apply testReq_sound | apply testForce_sound
      | apply testEnd_sound))

theorem ctxCmdWrite_sound {p v : Nat} {d : Device} (h_d : Sound bd d) : Sound bd (ctxCmdWrite p v d) := by
  unfold ctxCmdWrite
  repeat' (first | with_reducible (first | assumption | apply ctxLoad_sound | apply ctxUnload_sound | apply ctxCmdReserved_sound) | split)

theorem uctxCmdWrite_sound {j v : Nat} {d : Device} (h_d : Sound bd d) : Sound bd (uctxCmdWrite j v d) := by
  unfold uctxCmdWrite
  repeat' (first | with_reducible (first | assumption | apply uctxLoad_sound | apply uctxUnload_sound | apply uctxCmdReserved_sound) | split)

theorem validWrite_sound {d : Device} {off v : Nat} (h_d : Sound bd d) : Sound bd (validWrite d off v) := by
  unfold validWrite
  repeat' (with_reducible (first | assumption | apply sound_ite | apply putBit_sound))

theorem foyWrite_sound {r v : Nat} {d : Device} (h_d : Sound bd d) : Sound bd (foyWrite r v d) := by
  unfold foyWrite
  dsimp only
  repeat' (first
    | with_reducible (first
      | assumption | apply sound_ite | apply evtSizeWrite_sound | apply evtHeadWrite_sound | apply doorbell_sound | apply ringSizeWrite_sound))

theorem pwrWrite_sound {n r v : Nat} {d : Device} (h_d : Sound bd d) : Sound bd (pwrWrite n r v d) := by
  unfold pwrWrite
  dsimp only
  repeat' (first
    | with_reducible (first | assumption | apply sound_ite | apply dvfsRequest_sound | apply voltOvrWrite_sound | apply thermTargetWrite_sound))

theorem porterWrite_sound {r v : Nat} {d : Device} (h_d : Sound bd d) : Sound bd (porterWrite r v d) := by
  unfold porterWrite
  dsimp only
  repeat' (first
    | with_reducible (first | assumption | apply sound_ite | apply alertClear_sound)
    | (fail_if_no_progress with_reducible refine sound_mk rfl rfl rfl rfl rfl rfl ?_))

theorem dbgCtrlWrite_sound {src v : Nat} {d : Device} (h_d : Sound bd d) : Sound bd (dbgCtrlWrite src v d) := by
  unfold dbgCtrlWrite
  repeat' (with_reducible (first | assumption | apply sound_ite | apply setR_sound))

theorem specialWrite_sound {src page r v : Nat} {d : Device} (h_d : Sound bd d) : Sound bd (specialWrite src page r v d) := by
  unfold specialWrite
  dsimp only
  repeat' (first
    | with_reducible (first
      | assumption | apply sound_ite | apply setR_sound | apply arrSteerWrite_sound | apply landCtrlReset_sound | apply restoreCopy_sound
      | apply repairHoldClear_sound | apply paceJobWrite_sound | apply xinvAllJobs_sound | apply xinvJob_sound | apply xinvRange_sound
      | apply linkCtrlWrite_sound | apply ctxCmdWrite_sound | apply uctxCmdWrite_sound | apply validWrite_sound | apply foyWrite_sound
      | apply pwrWrite_sound | apply porterWrite_sound | apply dbgCtrlWrite_sound)
    | split)

theorem cfgWrite_sound {src off v : Nat} {d : Device} (h_d : Sound bd d) : Sound bd (cfgWrite src off v d) := by
  unfold cfgWrite
  dsimp only
  repeat' (first
    | with_reducible (first
      | assumption | apply sound_ite | apply setR_sound | apply bump_sound | apply headWrite_sound | apply holdLo_sound | apply commit_sound
      | apply sigCommit_sound | apply specialWrite_sound)
    | split)

theorem dbgEnd_sound {d : Device} {refused : Bool} (h_d : Sound bd d) : Sound bd (dbgEnd d refused) := by
  unfold dbgEnd
  repeat' (with_reducible (first | assumption | apply setR_sound))

theorem dbgRead_sound {d : Device} (h_d : Sound bd d) : Sound bd (dbgRead d) := by
  unfold dbgRead
  dsimp only
  repeat' (first | with_reducible (first | assumption | apply setR_sound | apply cfgRead_sound | apply dbgEnd_sound) | split)

theorem dbgWrite_sound {d : Device} (h_d : Sound bd d) : Sound bd (dbgWrite d) := by
  unfold dbgWrite
  repeat' (first | with_reducible (first | assumption | apply cfgWrite_sound | apply dbgEnd_sound) | split)

theorem dbgCmd_sound {v : Nat} {d : Device} (h_d : Sound bd d) : Sound bd (dbgCmd v d) := by
  unfold dbgCmd
  repeat' (with_reducible (first | assumption | apply sound_ite | apply dbgEnd_sound | apply dbgRead_sound | apply dbgWrite_sound))

theorem writeBy_sound {src off v : Nat} {d : Device} (h_d : Sound bd d) : Sound bd (writeBy src off v d) := by
  unfold writeBy
  dsimp only
  repeat' (with_reducible (first | assumption | apply sound_ite | apply wake_sound | apply cfgWrite_sound | apply dbgCmd_sound))

theorem readBy_sound {src off : Nat} {d : Device} (h_d : Sound bd d) : Sound bd (readBy src off d) := by
  unfold readBy
  dsimp only
  repeat' (first
    | with_reducible (first | assumption | apply sound_ite | apply wake_sound | apply cfgRead_sound)
    | (fail_if_no_progress with_reducible refine sound_mk rfl rfl rfl rfl rfl rfl ?_))

theorem registerWrite_sound {src off : Nat} {v : Reg} {d : Device} (h_d : Sound bd d) : Sound bd (registerWrite src off v d) := by
  unfold registerWrite
  repeat' (with_reducible (first | assumption | apply writeBy_sound))

theorem rcRead_sound {src off : Nat} {d : Device} (h_d : Sound bd d) : Sound bd (rcRead src off d) := by
  unfold rcRead
  repeat' (with_reducible (first | assumption | apply readBy_sound))

theorem reg64LoWrite_sound {src off : Nat} {v : Reg} {d : Device} (h_d : Sound bd d) : Sound bd (reg64LoWrite src off v d) := by
  unfold reg64LoWrite
  repeat' (with_reducible (first | assumption | apply sound_ite | apply writeBy_sound))

theorem reg64HiCommit_sound {src off : Nat} {v : Reg} {d : Device} (h_d : Sound bd d) : Sound bd (reg64HiCommit src off v d) := by
  unfold reg64HiCommit
  repeat' (with_reducible (first | assumption | apply sound_ite | apply writeBy_sound))

theorem foyerRefuse_sound {d : Device} {wr : Bool} {job code addr : Nat} (h_d : Sound bd d) : Sound bd (foyerRefuse d wr job code addr) := by
  unfold foyerRefuse
  repeat' (with_reducible (first | assumption | apply sound_ite | apply bump_sound | apply causeEv_sound))

theorem foyerWrRx_sound {hd : BitVec 128} {b : List Byte} {d : Device} (h_d : Sound bd d) : Sound bd (foyerWrRx hd b d) := by
  unfold foyerWrRx
  dsimp only
  repeat' (first
    | with_reducible assumption
    | (intro _)
    | with_reducible (first
      | apply sound_ite | apply sound_fold | apply stackWrite_sound | refine unitWrite_err (by with_reducible assumption) ?_
      | refine unitWrite_ok (by with_reducible assumption) ?_ | apply foyerReceive_sound | apply writeBy_sound | apply foyerRefuse_sound)
    | split)

theorem complete_sound {d : Device} {h st : Nat} {b : List Byte} (h_d : Sound bd d) : Sound bd (complete d h st b) := by
  unfold complete
  repeat' (with_reducible (first | assumption | apply queuePkt_sound))

theorem readRange_sound {off z0 : Nat} {z1 : Device} (h_z1 : Sound bd z1) : Sound bd (readRange off z0 z1).2 := by
  induction z0 with
  | zero => exact h_z1
  | succ n ih => exact cfgRead_sound ih

theorem completeRead_sound {h : Nat} {x : List (Byte × Bool) × Device} (h_x : Sound bd (x).2) : Sound bd (completeRead h x) := by
  unfold completeRead
  repeat' (with_reducible (first | assumption | apply sound_ite | apply poisonSeen_sound | apply complete_sound))

theorem foyerRdRx_sound {hd : BitVec 128} {d : Device} (h_d : Sound bd d) : Sound bd (foyerRdRx hd d) := by
  unfold foyerRdRx
  dsimp only
  repeat' (first
    | with_reducible assumption
    | (intro _)
    | with_reducible (first
      | apply sound_ite | apply stackRead_sound | refine unitRead_err (by with_reducible assumption) ?_
      | refine unitRead_ok (by with_reducible assumption) ?_ | apply foyerReceive_sound | apply foyerRefuse_sound | apply complete_sound
      | apply readRange_sound | apply completeRead_sound)
    | split)

/-! ### Bringup -/

theorem powerOff_sound {d : Device} (h_d : Sound bd d) : Sound bd (powerOff d) := by
  exact ⟨Mem.wf_empty, fun _ h => absurd h List.not_mem_nil, Nat.zero_le _, by show 0 < 256; decide, h_d.2.2.2.2.1, h_d.2.2.2.2.2⟩

theorem powerApply_sound {cool : BitVec 2} {slot : BitVec 6} {d : Device} (h_d : Sound bd d) : Sound bd (powerApply cool slot d) := by
  unfold powerApply
  dsimp only
  repeat' (first
    | with_reducible (first | assumption | apply sound_ite | apply setEvt_sound | apply powerOff_sound)
    | (fail_if_no_progress with_reducible refine sound_mk rfl rfl rfl rfl rfl rfl ?_))

theorem powerLoss_sound {d : Device} (h_d : Sound bd d) : Sound bd (powerLoss d) := by
  unfold powerLoss
  dsimp only
  repeat' (first
    | with_reducible (first | assumption | apply closeSession_sound | apply powerOff_sound)
    | (fail_if_no_progress with_reducible refine sound_mk rfl rfl rfl rfl rfl rfl ?_))

theorem overvoltageShutdown_sound {d : Device} (h_d : Sound bd d) : Sound bd (overvoltageShutdown d) := by
  unfold overvoltageShutdown
  repeat' (with_reducible (first | assumption | apply sound_ite | apply closeSession_sound | apply powerOff_sound))

theorem inputProtectionOpen_sound {d : Device} (h_d : Sound bd d) : Sound bd (inputProtectionOpen d) := by
  unfold inputProtectionOpen
  dsimp only
  repeat' (first
    | with_reducible (first | assumption | apply sound_ite | apply closeSession_sound | apply powerOff_sound)
    | (fail_if_no_progress with_reducible refine sound_mk rfl rfl rfl rfl rfl rfl ?_))

theorem pwrEnRise_sound {d : Device} (h_d : Sound bd d) : Sound bd (pwrEnRise d) := by
  unfold pwrEnRise
  dsimp only
  repeat' (first | with_reducible assumption | (fail_if_no_progress with_reducible refine sound_mk rfl rfl rfl rfl rfl rfl ?_))

theorem pwrEnFall_sound {d : Device} (h_d : Sound bd d) : Sound bd (pwrEnFall d) := by
  unfold pwrEnFall
  dsimp only
  repeat' (first
    | with_reducible (first | assumption | apply sound_ite | apply railsOff_sound)
    | (fail_if_no_progress with_reducible refine sound_mk rfl rfl rfl rfl rfl rfl ?_))

theorem modResetN_sound {d : Device} (h_d : Sound bd d) : Sound bd (modResetN d) := by
  unfold modResetN
  repeat' (with_reducible (first | assumption | apply sound_ite | apply moduleReset_sound))

theorem wakeN_sound {d : Device} (h_d : Sound bd d) : Sound bd (wakeN d) := by
  unfold wakeN
  repeat' (with_reducible (first | assumption | apply wake_sound))

theorem holdOff_sound {d : Device} {failed : Nat} (h_d : Sound bd d) : Sound bd (holdOff d failed) := by
  unfold holdOff
  dsimp only
  repeat' (first
    | with_reducible (first | assumption | apply alert_sound | apply railsOff_sound | apply bootRecord_sound)
    | (fail_if_no_progress with_reducible refine sound_mk rfl rfl rfl rfl rfl rfl ?_))

theorem rerun_sound {d : Device} {failed : Nat} (h_d : Sound bd d) : Sound bd (rerun d failed) := by
  unfold rerun
  repeat' (with_reducible (first | assumption | apply railsOff_sound | apply bootRecord_sound))

theorem stageFails_sound {d : Device} {failed : Nat} (h_d : Sound bd d) : Sound bd (stageFails d failed) := by
  unfold stageFails
  dsimp only
  repeat' (first
    | with_reducible (first | assumption | apply sound_ite | apply holdOff_sound | apply rerun_sound)
    | (fail_if_no_progress with_reducible refine sound_mk rfl rfl rfl rfl rfl rfl ?_))

theorem stageFailure_sound {stage : Nat} {d : Device} (h_d : Sound bd d) : Sound bd (stageFailure stage d) := by
  unfold stageFailure
  dsimp only
  repeat' (with_reducible (first | assumption | apply sound_ite | apply stageFails_sound))

theorem mainRails_sound {d : Device} (h_d : Sound bd d) : Sound bd (mainRails d) := by
  unfold mainRails
  dsimp only
  repeat' (first
    | with_reducible (first | assumption | apply sound_ite)
    | (fail_if_no_progress with_reducible refine sound_mk rfl rfl rfl rfl rfl rfl ?_))

theorem oscStart_sound {d : Device} (h_d : Sound bd d) : Sound bd (oscStart d) := by
  unfold oscStart
  repeat' (with_reducible (first | assumption | apply sound_ite | apply clocksLock_sound))

theorem bootFence_sound {d : Device} {r : UnitRef} (h_d : Sound bd d) : Sound bd (bootFence d r) := by
  unfold bootFence
  dsimp only
  repeat' (first
    | with_reducible (first | assumption | apply sound_ite)
    | (fail_if_no_progress with_reducible refine sound_mk rfl rfl rfl rfl rfl rfl ?_))

theorem stacksReady_sound {d : Device} (h_d : Sound bd d) : Sound bd (stacksReady d) := by
  unfold stacksReady
  dsimp only
  repeat' (first
    | with_reducible (first | assumption | apply sound_ite | apply holdOff_sound)
    | (fail_if_no_progress with_reducible refine sound_mk rfl rfl rfl rfl rfl rfl ?_))

theorem stackTrain_sound {s : Nat} {ok : Bool} {d : Device} (h_d : Sound bd d) : Sound bd (stackTrain s ok d) := by
  unfold stackTrain
  dsimp only
  repeat' (first
    | with_reducible (first | assumption | apply sound_ite | apply setR_sound | apply bootFence_sound | apply stacksReady_sound)
    | (fail_if_no_progress with_reducible refine sound_mk rfl rfl rfl rfl rfl rfl ?_))

theorem seqImageLoad_sound {d : Device} (h_d : Sound bd d) : Sound bd (seqImageLoad d) := by
  unfold seqImageLoad
  dsimp only
  repeat' (first
    | with_reducible (first
      | assumption | apply sound_ite | refine selectSlot_eq (by with_reducible assumption) ?_ | apply runImage_sound | apply holdOff_sound
      | apply rerun_sound)
    | (fail_if_no_progress with_reducible refine sound_mk rfl rfl rfl rfl rfl rfl ?_)
    | split)

theorem logicRelease_sound {d : Device} (h_d : Sound bd d) : Sound bd (logicRelease d) := by
  unfold logicRelease
  dsimp only
  repeat' (first
    | with_reducible (first | assumption | apply sound_ite | apply alert_sound | apply trainLink_sound | apply trainPorts_sound)
    | (fail_if_no_progress with_reducible refine sound_mk rfl rfl rfl rfl rfl rfl ?_))

theorem powerOnSelfTest_sound {fails : List UnitRef} {fixedFail : Bool} {d : Device} (h_d : Sound bd d) : Sound bd
    (powerOnSelfTest fails fixedFail d) := by
  unfold powerOnSelfTest
  dsimp only
  repeat' (first
    | with_reducible assumption
    | (intro _)
    | with_reducible (first | apply sound_ite | apply sound_fold | apply bootFence_sound)
    | (fail_if_no_progress with_reducible refine sound_mk rfl rfl rfl rfl rfl rfl ?_))

theorem loadSteer_sound {d : Device} (h_d : Sound bd d) : Sound bd (loadSteer d) := by
  unfold loadSteer
  dsimp only
  repeat' (first | with_reducible assumption | (intro _) | with_reducible (first | apply sound_fold | apply setCore_sound))

theorem floorPlanBuild_sound {d : Device} (h_d : Sound bd d) : Sound bd (floorPlanBuild d) := by
  unfold floorPlanBuild
  dsimp only
  repeat' (first
    | with_reducible assumption
    | (intro _)
    | with_reducible (first
      | apply sound_ite | apply sound_fold | apply log_sound | apply writeBody_sound | apply fenceEffect_sound | apply fenceReport_sound
      | apply loadSteer_sound)
    | (fail_if_no_progress with_reducible refine sound_mk rfl rfl rfl rfl rfl rfl ?_))

theorem seqInit_sound {d : Device} (h_d : Sound bd d) : Sound bd (seqInit d) := by
  unfold seqInit
  dsimp only
  repeat' (first
    | with_reducible (first | assumption | apply sound_ite | apply confirm_sound)
    | (fail_if_no_progress with_reducible refine sound_mk rfl rfl rfl rfl rfl rfl ?_))

theorem commandsAccepted_sound {d : Device} (h_d : Sound bd d) : Sound bd (commandsAccepted d) := by
  unfold commandsAccepted
  dsimp only
  repeat' (first
    | with_reducible (first | assumption | apply sound_ite)
    | (fail_if_no_progress with_reducible refine sound_mk rfl rfl rfl rfl rfl rfl ?_))

theorem seqRunningTimeout_sound {d : Device} (h_d : Sound bd d) : Sound bd (seqRunningTimeout d) := by
  unfold seqRunningTimeout
  dsimp only
  repeat' (first
    | with_reducible (first
      | assumption | apply sound_ite | apply rejectImage_sound | apply rollback_sound | apply holdOff_sound | apply rerun_sound)
    | (fail_if_no_progress with_reducible refine sound_mk rfl rfl rfl rfl rfl rfl ?_))

/-! ### Tick -/

theorem countIslands_sound {d : Device} (h_d : Sound bd d) : Sound bd (countIslands d) := by
  unfold countIslands
  repeat' (first | with_reducible assumption | (intro _) | with_reducible (first | apply sound_ite | apply sound_fold | apply bump64_sound))

theorem countTime_sound {d : Device} (h_d : Sound bd d) : Sound bd (countTime d) := by
  unfold countTime
  dsimp only
  repeat' (with_reducible (first | assumption | apply sound_ite | apply bump64_sound))

theorem coreWaits_sound {d : Device} {u : Nat} (h_d : Sound bd d) : Sound bd (coreWaits d u) := by
  unfold coreWaits
  dsimp only
  repeat' (with_reducible (first | assumption | apply sound_ite | apply bump_sound | apply phase1End_sound))

theorem countWaits_sound {d : Device} (h_d : Sound bd d) : Sound bd (countWaits d) := by
  unfold countWaits
  repeat' (first | with_reducible assumption | (intro _) | with_reducible (first | apply sound_fold | apply coreWaits_sound))

theorem countGrants_sound {d : Device} (h_d : Sound bd d) : Sound bd (countGrants d) := by
  unfold countGrants
  repeat' (first | with_reducible assumption | (intro _) | with_reducible (first | apply sound_ite | apply sound_fold | apply bump_sound))

theorem countCtx_sound {d : Device} {r : Nat} (h_d : Sound bd d) : Sound bd (countCtx d r) := by
  unfold countCtx
  dsimp only
  repeat' (first | with_reducible (first | assumption | apply sound_ite | apply ctxBump_sound) | split)

theorem countCtxs_sound {d : Device} (h_d : Sound bd d) : Sound bd (countCtxs d) := by
  unfold countCtxs
  repeat' (first | with_reducible assumption | (intro _) | with_reducible (first | apply sound_fold | apply countCtx_sound))

theorem countLink_sound {d : Device} {r : Nat × Nat} (h_d : Sound bd d) : Sound bd (countLink d r) := by
  unfold countLink
  dsimp only
  repeat' (with_reducible (first | assumption | apply sound_ite | apply bump_sound | apply freeVal_sound | apply countPrbs_sound))

theorem countLinks_sound {d : Device} (h_d : Sound bd d) : Sound bd (countLinks d) := by
  unfold countLinks
  repeat' (first | with_reducible assumption | (intro _) | with_reducible (first | apply sound_fold | apply countLink_sound))

theorem fixedLasting_sound {d : Device} {island : Nat} (h_d : Sound bd d) : Sound bd (fixedLasting d island) := by
  unfold fixedLasting
  dsimp only
  repeat' (first
    | with_reducible assumption
    | (intro _)
    | with_reducible (first | apply sound_ite | apply sound_fold | apply bump_sound | apply setJob_sound | apply freeVal_sound | apply pushEv_sound)
    | (fail_if_no_progress with_reducible refine sound_mk rfl rfl rfl rfl rfl rfl ?_))

theorem fixedError_sound {d : Device} {island : Nat} (h_d : Sound bd d) : Sound bd (fixedError d island) := by
  unfold fixedError
  dsimp only
  repeat' (first
    | with_reducible (first
      | assumption | apply sound_ite | apply bump_sound | apply recordErr_sound | apply freeVal_sound | apply log_sound | apply fixedLasting_sound)
    | (fail_if_no_progress with_reducible refine sound_mk rfl rfl rfl rfl rfl rfl ?_))

theorem strikeAt_sound {d : Device} {s : Strike} (h_d : Sound bd d) : Sound bd (strikeAt d s) := by
  have hs : ∀ (e : Device) (a : Nat), Sound bd e → Sound bd { e with stack := { e.stack with bad := nins e.stack.bad a } } :=
    fun e a h => sound_stack h (Mem.strikeBad_wf a h.1)
  unfold strikeAt
  dsimp only
  repeat' (first
    | with_reducible (first
      | assumption | apply sound_ite | apply hs | apply bump_sound | apply setCore_sound | apply setHmem_sound | apply parityErr_sound
      | apply fixedError_sound | apply Mem.strike_wf | apply Sound.hmem (bd := bd))
    | split)

theorem struck_sound {d : Device} (h_d : Sound bd d) : Sound bd (struck d) := by
  unfold struck
  repeat' (first | with_reducible (first | assumption | apply strikeAt_sound) | split)

theorem tick_sound {d : Device} (h_d : Sound bd d) : Sound bd (tick d) := by
  unfold tick
  dsimp only
  repeat' (first
    | with_reducible (first
      | assumption | apply countIslands_sound | apply countTime_sound | apply countWaits_sound | apply countGrants_sound | apply countCtxs_sound
      | apply countLinks_sound | apply struck_sound)
    | (fail_if_no_progress with_reducible refine sound_mk rfl rfl rfl rfl rfl rfl ?_))

end Sys2Proof.Machine
end

