-- ==== Sys2Proof/Laws/State.lean ====
section
/-!
SUPPORT. One lemma per field of the device and per named update: what the update leaves alone, and the entry that it writes.
-/
namespace Sys2Proof.Machine

/-! ### setR -/

@[simp] theorem setR_hdrs (d : Device) (off v : Nat) : (setR d off v).hdrs = d.hdrs := rfl
@[simp] theorem setR_readOut (d : Device) (off v : Nat) : (setR d off v).readOut = d.readOut := rfl
@[simp] theorem setR_stack (d : Device) (off v : Nat) : (setR d off v).stack = d.stack := rfl
@[simp] theorem setR_hmem (d : Device) (off v : Nat) : (setR d off v).hmem = d.hmem := rfl
@[simp] theorem setR_cores (d : Device) (off v : Nat) : (setR d off v).cores = d.cores := rfl
@[simp] theorem setR_sigs (d : Device) (off v : Nat) : (setR d off v).sigs = d.sigs := rfl
@[simp] theorem setR_plan (d : Device) (off v : Nat) : (setR d off v).plan = d.plan := rfl
@[simp] theorem setR_jobs (d : Device) (off v : Nat) : (setR d off v).jobs = d.jobs := rfl
@[simp] theorem setR_evQ (d : Device) (off v : Nat) : (setR d off v).evQ = d.evQ := rfl
@[simp] theorem setR_evLost (d : Device) (off v : Nat) : (setR d off v).evLost = d.evLost := rfl
@[simp] theorem setR_evSeq (d : Device) (off v : Nat) : (setR d off v).evSeq = d.evSeq := rfl
@[simp] theorem setR_evBaseSet (d : Device) (off v : Nat) : (setR d off v).evBaseSet = d.evBaseSet := rfl
@[simp] theorem setR_evSizeSet (d : Device) (off v : Nat) : (setR d off v).evSizeSet = d.evSizeSet := rfl
@[simp] theorem setR_rdTodo (d : Device) (off v : Nat) : (setR d off v).rdTodo = d.rdTodo := rfl
@[simp] theorem setR_rdOut (d : Device) (off v : Nat) : (setR d off v).rdOut = d.rdOut := rfl
@[simp] theorem setR_vc1B (d : Device) (off v : Nat) : (setR d off v).vc1B = d.vc1B := rfl
@[simp] theorem setR_vc1C (d : Device) (off v : Nat) : (setR d off v).vc1C = d.vc1C := rfl
@[simp] theorem setR_links (d : Device) (off v : Nat) : (setR d off v).links = d.links := rfl
@[simp] theorem setR_ports (d : Device) (off v : Nat) : (setR d off v).ports = d.ports := rfl
@[simp] theorem setR_ctxs (d : Device) (off v : Nat) : (setR d off v).ctxs = d.ctxs := rfl
@[simp] theorem setR_uctx (d : Device) (off v : Nat) : (setR d off v).uctx = d.uctx := rfl
@[simp] theorem setR_etaBad (d : Device) (off v : Nat) : (setR d off v).etaBad = d.etaBad := rfl
@[simp] theorem setR_reduceHeld (d : Device) (off v : Nat) : (setR d off v).reduceHeld = d.reduceHeld := rfl
@[simp] theorem setR_xcache (d : Device) (off v : Nat) : (setR d off v).xcache = d.xcache := rfl
@[simp] theorem setR_xptr (d : Device) (off v : Nat) : (setR d off v).xptr = d.xptr := rfl
@[simp] theorem setR_xinv (d : Device) (off v : Nat) : (setR d off v).xinv = d.xinv := rfl
@[simp] theorem setR_refresh2 (d : Device) (off v : Nat) : (setR d off v).refresh2 = d.refresh2 := rfl
@[simp] theorem setR_watch (d : Device) (off v : Nat) : (setR d off v).watch = d.watch := rfl
@[simp] theorem setR_tests (d : Device) (off v : Nat) : (setR d off v).tests = d.tests := rfl
@[simp] theorem setR_transients (d : Device) (off v : Nat) : (setR d off v).transients = d.transients := rfl
@[simp] theorem setR_logFront (d : Device) (off v : Nat) : (setR d off v).logFront = d.logFront := rfl
@[simp] theorem setR_logRing (d : Device) (off v : Nat) : (setR d off v).logRing = d.logRing := rfl
@[simp] theorem setR_logNext (d : Device) (off v : Nat) : (setR d off v).logNext = d.logNext := rfl
@[simp] theorem setR_dvfs (d : Device) (off v : Nat) : (setR d off v).dvfs = d.dvfs := rfl
@[simp] theorem setR_boot (d : Device) (off v : Nat) : (setR d off v).boot = d.boot := rfl
@[simp] theorem setR_porter (d : Device) (off v : Nat) : (setR d off v).porter = d.porter := rfl
@[simp] theorem setR_restore (d : Device) (off v : Nat) : (setR d off v).restore = d.restore := rfl
@[simp] theorem setR_now (d : Device) (off v : Nat) : (setR d off v).now = d.now := rfl
@[simp] theorem setR_free (d : Device) (off v : Nat) : (setR d off v).free = d.free := rfl

/-! ### setHdr -/

@[simp] theorem setHdr_regs (d : Device) (page : Nat) (h : Hdr) : (setHdr d page h).regs = d.regs := rfl
@[simp] theorem setHdr_readOut (d : Device) (page : Nat) (h : Hdr) : (setHdr d page h).readOut = d.readOut := rfl
@[simp] theorem setHdr_stack (d : Device) (page : Nat) (h : Hdr) : (setHdr d page h).stack = d.stack := rfl
@[simp] theorem setHdr_hmem (d : Device) (page : Nat) (h : Hdr) : (setHdr d page h).hmem = d.hmem := rfl
@[simp] theorem setHdr_cores (d : Device) (page : Nat) (h : Hdr) : (setHdr d page h).cores = d.cores := rfl
@[simp] theorem setHdr_sigs (d : Device) (page : Nat) (h : Hdr) : (setHdr d page h).sigs = d.sigs := rfl
@[simp] theorem setHdr_plan (d : Device) (page : Nat) (h : Hdr) : (setHdr d page h).plan = d.plan := rfl
@[simp] theorem setHdr_jobs (d : Device) (page : Nat) (h : Hdr) : (setHdr d page h).jobs = d.jobs := rfl
@[simp] theorem setHdr_evQ (d : Device) (page : Nat) (h : Hdr) : (setHdr d page h).evQ = d.evQ := rfl
@[simp] theorem setHdr_evLost (d : Device) (page : Nat) (h : Hdr) : (setHdr d page h).evLost = d.evLost := rfl
@[simp] theorem setHdr_evSeq (d : Device) (page : Nat) (h : Hdr) : (setHdr d page h).evSeq = d.evSeq := rfl
@[simp] theorem setHdr_evBaseSet (d : Device) (page : Nat) (h : Hdr) : (setHdr d page h).evBaseSet = d.evBaseSet := rfl
@[simp] theorem setHdr_evSizeSet (d : Device) (page : Nat) (h : Hdr) : (setHdr d page h).evSizeSet = d.evSizeSet := rfl
@[simp] theorem setHdr_rdTodo (d : Device) (page : Nat) (h : Hdr) : (setHdr d page h).rdTodo = d.rdTodo := rfl
@[simp] theorem setHdr_rdOut (d : Device) (page : Nat) (h : Hdr) : (setHdr d page h).rdOut = d.rdOut := rfl
@[simp] theorem setHdr_vc1B (d : Device) (page : Nat) (h : Hdr) : (setHdr d page h).vc1B = d.vc1B := rfl
@[simp] theorem setHdr_vc1C (d : Device) (page : Nat) (h : Hdr) : (setHdr d page h).vc1C = d.vc1C := rfl
@[simp] theorem setHdr_links (d : Device) (page : Nat) (h : Hdr) : (setHdr d page h).links = d.links := rfl
@[simp] theorem setHdr_ports (d : Device) (page : Nat) (h : Hdr) : (setHdr d page h).ports = d.ports := rfl
@[simp] theorem setHdr_ctxs (d : Device) (page : Nat) (h : Hdr) : (setHdr d page h).ctxs = d.ctxs := rfl
@[simp] theorem setHdr_uctx (d : Device) (page : Nat) (h : Hdr) : (setHdr d page h).uctx = d.uctx := rfl
@[simp] theorem setHdr_etaBad (d : Device) (page : Nat) (h : Hdr) : (setHdr d page h).etaBad = d.etaBad := rfl
@[simp] theorem setHdr_reduceHeld (d : Device) (page : Nat) (h : Hdr) : (setHdr d page h).reduceHeld = d.reduceHeld := rfl
@[simp] theorem setHdr_xcache (d : Device) (page : Nat) (h : Hdr) : (setHdr d page h).xcache = d.xcache := rfl
@[simp] theorem setHdr_xptr (d : Device) (page : Nat) (h : Hdr) : (setHdr d page h).xptr = d.xptr := rfl
@[simp] theorem setHdr_xinv (d : Device) (page : Nat) (h : Hdr) : (setHdr d page h).xinv = d.xinv := rfl
@[simp] theorem setHdr_refresh2 (d : Device) (page : Nat) (h : Hdr) : (setHdr d page h).refresh2 = d.refresh2 := rfl
@[simp] theorem setHdr_watch (d : Device) (page : Nat) (h : Hdr) : (setHdr d page h).watch = d.watch := rfl
@[simp] theorem setHdr_tests (d : Device) (page : Nat) (h : Hdr) : (setHdr d page h).tests = d.tests := rfl
@[simp] theorem setHdr_transients (d : Device) (page : Nat) (h : Hdr) : (setHdr d page h).transients = d.transients := rfl
@[simp] theorem setHdr_logFront (d : Device) (page : Nat) (h : Hdr) : (setHdr d page h).logFront = d.logFront := rfl
@[simp] theorem setHdr_logRing (d : Device) (page : Nat) (h : Hdr) : (setHdr d page h).logRing = d.logRing := rfl
@[simp] theorem setHdr_logNext (d : Device) (page : Nat) (h : Hdr) : (setHdr d page h).logNext = d.logNext := rfl
@[simp] theorem setHdr_dvfs (d : Device) (page : Nat) (h : Hdr) : (setHdr d page h).dvfs = d.dvfs := rfl
@[simp] theorem setHdr_boot (d : Device) (page : Nat) (h : Hdr) : (setHdr d page h).boot = d.boot := rfl
@[simp] theorem setHdr_porter (d : Device) (page : Nat) (h : Hdr) : (setHdr d page h).porter = d.porter := rfl
@[simp] theorem setHdr_restore (d : Device) (page : Nat) (h : Hdr) : (setHdr d page h).restore = d.restore := rfl
@[simp] theorem setHdr_now (d : Device) (page : Nat) (h : Hdr) : (setHdr d page h).now = d.now := rfl
@[simp] theorem setHdr_free (d : Device) (page : Nat) (h : Hdr) : (setHdr d page h).free = d.free := rfl

/-! ### setCore -/

@[simp] theorem setCore_regs (d : Device) (u : Nat) (c : Core) : (setCore d u c).regs = d.regs := rfl
@[simp] theorem setCore_hdrs (d : Device) (u : Nat) (c : Core) : (setCore d u c).hdrs = d.hdrs := rfl
@[simp] theorem setCore_readOut (d : Device) (u : Nat) (c : Core) : (setCore d u c).readOut = d.readOut := rfl
@[simp] theorem setCore_stack (d : Device) (u : Nat) (c : Core) : (setCore d u c).stack = d.stack := rfl
@[simp] theorem setCore_hmem (d : Device) (u : Nat) (c : Core) : (setCore d u c).hmem = d.hmem := rfl
@[simp] theorem setCore_sigs (d : Device) (u : Nat) (c : Core) : (setCore d u c).sigs = d.sigs := rfl
@[simp] theorem setCore_plan (d : Device) (u : Nat) (c : Core) : (setCore d u c).plan = d.plan := rfl
@[simp] theorem setCore_jobs (d : Device) (u : Nat) (c : Core) : (setCore d u c).jobs = d.jobs := rfl
@[simp] theorem setCore_evQ (d : Device) (u : Nat) (c : Core) : (setCore d u c).evQ = d.evQ := rfl
@[simp] theorem setCore_evLost (d : Device) (u : Nat) (c : Core) : (setCore d u c).evLost = d.evLost := rfl
@[simp] theorem setCore_evSeq (d : Device) (u : Nat) (c : Core) : (setCore d u c).evSeq = d.evSeq := rfl
@[simp] theorem setCore_evBaseSet (d : Device) (u : Nat) (c : Core) : (setCore d u c).evBaseSet = d.evBaseSet := rfl
@[simp] theorem setCore_evSizeSet (d : Device) (u : Nat) (c : Core) : (setCore d u c).evSizeSet = d.evSizeSet := rfl
@[simp] theorem setCore_rdTodo (d : Device) (u : Nat) (c : Core) : (setCore d u c).rdTodo = d.rdTodo := rfl
@[simp] theorem setCore_rdOut (d : Device) (u : Nat) (c : Core) : (setCore d u c).rdOut = d.rdOut := rfl
@[simp] theorem setCore_vc1B (d : Device) (u : Nat) (c : Core) : (setCore d u c).vc1B = d.vc1B := rfl
@[simp] theorem setCore_vc1C (d : Device) (u : Nat) (c : Core) : (setCore d u c).vc1C = d.vc1C := rfl
@[simp] theorem setCore_links (d : Device) (u : Nat) (c : Core) : (setCore d u c).links = d.links := rfl
@[simp] theorem setCore_ports (d : Device) (u : Nat) (c : Core) : (setCore d u c).ports = d.ports := rfl
@[simp] theorem setCore_ctxs (d : Device) (u : Nat) (c : Core) : (setCore d u c).ctxs = d.ctxs := rfl
@[simp] theorem setCore_uctx (d : Device) (u : Nat) (c : Core) : (setCore d u c).uctx = d.uctx := rfl
@[simp] theorem setCore_etaBad (d : Device) (u : Nat) (c : Core) : (setCore d u c).etaBad = d.etaBad := rfl
@[simp] theorem setCore_reduceHeld (d : Device) (u : Nat) (c : Core) : (setCore d u c).reduceHeld = d.reduceHeld := rfl
@[simp] theorem setCore_xcache (d : Device) (u : Nat) (c : Core) : (setCore d u c).xcache = d.xcache := rfl
@[simp] theorem setCore_xptr (d : Device) (u : Nat) (c : Core) : (setCore d u c).xptr = d.xptr := rfl
@[simp] theorem setCore_xinv (d : Device) (u : Nat) (c : Core) : (setCore d u c).xinv = d.xinv := rfl
@[simp] theorem setCore_refresh2 (d : Device) (u : Nat) (c : Core) : (setCore d u c).refresh2 = d.refresh2 := rfl
@[simp] theorem setCore_watch (d : Device) (u : Nat) (c : Core) : (setCore d u c).watch = d.watch := rfl
@[simp] theorem setCore_tests (d : Device) (u : Nat) (c : Core) : (setCore d u c).tests = d.tests := rfl
@[simp] theorem setCore_transients (d : Device) (u : Nat) (c : Core) : (setCore d u c).transients = d.transients := rfl
@[simp] theorem setCore_logFront (d : Device) (u : Nat) (c : Core) : (setCore d u c).logFront = d.logFront := rfl
@[simp] theorem setCore_logRing (d : Device) (u : Nat) (c : Core) : (setCore d u c).logRing = d.logRing := rfl
@[simp] theorem setCore_logNext (d : Device) (u : Nat) (c : Core) : (setCore d u c).logNext = d.logNext := rfl
@[simp] theorem setCore_dvfs (d : Device) (u : Nat) (c : Core) : (setCore d u c).dvfs = d.dvfs := rfl
@[simp] theorem setCore_boot (d : Device) (u : Nat) (c : Core) : (setCore d u c).boot = d.boot := rfl
@[simp] theorem setCore_porter (d : Device) (u : Nat) (c : Core) : (setCore d u c).porter = d.porter := rfl
@[simp] theorem setCore_restore (d : Device) (u : Nat) (c : Core) : (setCore d u c).restore = d.restore := rfl
@[simp] theorem setCore_now (d : Device) (u : Nat) (c : Core) : (setCore d u c).now = d.now := rfl
@[simp] theorem setCore_free (d : Device) (u : Nat) (c : Core) : (setCore d u c).free = d.free := rfl

/-! ### setSig -/

@[simp] theorem setSig_regs (d : Device) (h : Nat) (x : SigStore) : (setSig d h x).regs = d.regs := rfl
@[simp] theorem setSig_hdrs (d : Device) (h : Nat) (x : SigStore) : (setSig d h x).hdrs = d.hdrs := rfl
@[simp] theorem setSig_readOut (d : Device) (h : Nat) (x : SigStore) : (setSig d h x).readOut = d.readOut := rfl
@[simp] theorem setSig_stack (d : Device) (h : Nat) (x : SigStore) : (setSig d h x).stack = d.stack := rfl
@[simp] theorem setSig_hmem (d : Device) (h : Nat) (x : SigStore) : (setSig d h x).hmem = d.hmem := rfl
@[simp] theorem setSig_cores (d : Device) (h : Nat) (x : SigStore) : (setSig d h x).cores = d.cores := rfl
@[simp] theorem setSig_plan (d : Device) (h : Nat) (x : SigStore) : (setSig d h x).plan = d.plan := rfl
@[simp] theorem setSig_jobs (d : Device) (h : Nat) (x : SigStore) : (setSig d h x).jobs = d.jobs := rfl
@[simp] theorem setSig_evQ (d : Device) (h : Nat) (x : SigStore) : (setSig d h x).evQ = d.evQ := rfl
@[simp] theorem setSig_evLost (d : Device) (h : Nat) (x : SigStore) : (setSig d h x).evLost = d.evLost := rfl
@[simp] theorem setSig_evSeq (d : Device) (h : Nat) (x : SigStore) : (setSig d h x).evSeq = d.evSeq := rfl
@[simp] theorem setSig_evBaseSet (d : Device) (h : Nat) (x : SigStore) : (setSig d h x).evBaseSet = d.evBaseSet := rfl
@[simp] theorem setSig_evSizeSet (d : Device) (h : Nat) (x : SigStore) : (setSig d h x).evSizeSet = d.evSizeSet := rfl
@[simp] theorem setSig_rdTodo (d : Device) (h : Nat) (x : SigStore) : (setSig d h x).rdTodo = d.rdTodo := rfl
@[simp] theorem setSig_rdOut (d : Device) (h : Nat) (x : SigStore) : (setSig d h x).rdOut = d.rdOut := rfl
@[simp] theorem setSig_vc1B (d : Device) (h : Nat) (x : SigStore) : (setSig d h x).vc1B = d.vc1B := rfl
@[simp] theorem setSig_vc1C (d : Device) (h : Nat) (x : SigStore) : (setSig d h x).vc1C = d.vc1C := rfl
@[simp] theorem setSig_links (d : Device) (h : Nat) (x : SigStore) : (setSig d h x).links = d.links := rfl
@[simp] theorem setSig_ports (d : Device) (h : Nat) (x : SigStore) : (setSig d h x).ports = d.ports := rfl
@[simp] theorem setSig_ctxs (d : Device) (h : Nat) (x : SigStore) : (setSig d h x).ctxs = d.ctxs := rfl
@[simp] theorem setSig_uctx (d : Device) (h : Nat) (x : SigStore) : (setSig d h x).uctx = d.uctx := rfl
@[simp] theorem setSig_etaBad (d : Device) (h : Nat) (x : SigStore) : (setSig d h x).etaBad = d.etaBad := rfl
@[simp] theorem setSig_reduceHeld (d : Device) (h : Nat) (x : SigStore) : (setSig d h x).reduceHeld = d.reduceHeld := rfl
@[simp] theorem setSig_xcache (d : Device) (h : Nat) (x : SigStore) : (setSig d h x).xcache = d.xcache := rfl
@[simp] theorem setSig_xptr (d : Device) (h : Nat) (x : SigStore) : (setSig d h x).xptr = d.xptr := rfl
@[simp] theorem setSig_xinv (d : Device) (h : Nat) (x : SigStore) : (setSig d h x).xinv = d.xinv := rfl
@[simp] theorem setSig_refresh2 (d : Device) (h : Nat) (x : SigStore) : (setSig d h x).refresh2 = d.refresh2 := rfl
@[simp] theorem setSig_watch (d : Device) (h : Nat) (x : SigStore) : (setSig d h x).watch = d.watch := rfl
@[simp] theorem setSig_tests (d : Device) (h : Nat) (x : SigStore) : (setSig d h x).tests = d.tests := rfl
@[simp] theorem setSig_transients (d : Device) (h : Nat) (x : SigStore) : (setSig d h x).transients = d.transients := rfl
@[simp] theorem setSig_logFront (d : Device) (h : Nat) (x : SigStore) : (setSig d h x).logFront = d.logFront := rfl
@[simp] theorem setSig_logRing (d : Device) (h : Nat) (x : SigStore) : (setSig d h x).logRing = d.logRing := rfl
@[simp] theorem setSig_logNext (d : Device) (h : Nat) (x : SigStore) : (setSig d h x).logNext = d.logNext := rfl
@[simp] theorem setSig_dvfs (d : Device) (h : Nat) (x : SigStore) : (setSig d h x).dvfs = d.dvfs := rfl
@[simp] theorem setSig_boot (d : Device) (h : Nat) (x : SigStore) : (setSig d h x).boot = d.boot := rfl
@[simp] theorem setSig_porter (d : Device) (h : Nat) (x : SigStore) : (setSig d h x).porter = d.porter := rfl
@[simp] theorem setSig_restore (d : Device) (h : Nat) (x : SigStore) : (setSig d h x).restore = d.restore := rfl
@[simp] theorem setSig_now (d : Device) (h : Nat) (x : SigStore) : (setSig d h x).now = d.now := rfl
@[simp] theorem setSig_free (d : Device) (h : Nat) (x : SigStore) : (setSig d h x).free = d.free := rfl

/-! ### setJob -/

@[simp] theorem setJob_regs (d : Device) (j : Nat) (x : Job) : (setJob d j x).regs = d.regs := rfl
@[simp] theorem setJob_hdrs (d : Device) (j : Nat) (x : Job) : (setJob d j x).hdrs = d.hdrs := rfl
@[simp] theorem setJob_readOut (d : Device) (j : Nat) (x : Job) : (setJob d j x).readOut = d.readOut := rfl
@[simp] theorem setJob_stack (d : Device) (j : Nat) (x : Job) : (setJob d j x).stack = d.stack := rfl
@[simp] theorem setJob_hmem (d : Device) (j : Nat) (x : Job) : (setJob d j x).hmem = d.hmem := rfl
@[simp] theorem setJob_cores (d : Device) (j : Nat) (x : Job) : (setJob d j x).cores = d.cores := rfl
@[simp] theorem setJob_sigs (d : Device) (j : Nat) (x : Job) : (setJob d j x).sigs = d.sigs := rfl
@[simp] theorem setJob_plan (d : Device) (j : Nat) (x : Job) : (setJob d j x).plan = d.plan := rfl
@[simp] theorem setJob_evQ (d : Device) (j : Nat) (x : Job) : (setJob d j x).evQ = d.evQ := rfl
@[simp] theorem setJob_evLost (d : Device) (j : Nat) (x : Job) : (setJob d j x).evLost = d.evLost := rfl
@[simp] theorem setJob_evSeq (d : Device) (j : Nat) (x : Job) : (setJob d j x).evSeq = d.evSeq := rfl
@[simp] theorem setJob_evBaseSet (d : Device) (j : Nat) (x : Job) : (setJob d j x).evBaseSet = d.evBaseSet := rfl
@[simp] theorem setJob_evSizeSet (d : Device) (j : Nat) (x : Job) : (setJob d j x).evSizeSet = d.evSizeSet := rfl
@[simp] theorem setJob_rdTodo (d : Device) (j : Nat) (x : Job) : (setJob d j x).rdTodo = d.rdTodo := rfl
@[simp] theorem setJob_rdOut (d : Device) (j : Nat) (x : Job) : (setJob d j x).rdOut = d.rdOut := rfl
@[simp] theorem setJob_vc1B (d : Device) (j : Nat) (x : Job) : (setJob d j x).vc1B = d.vc1B := rfl
@[simp] theorem setJob_vc1C (d : Device) (j : Nat) (x : Job) : (setJob d j x).vc1C = d.vc1C := rfl
@[simp] theorem setJob_links (d : Device) (j : Nat) (x : Job) : (setJob d j x).links = d.links := rfl
@[simp] theorem setJob_ports (d : Device) (j : Nat) (x : Job) : (setJob d j x).ports = d.ports := rfl
@[simp] theorem setJob_ctxs (d : Device) (j : Nat) (x : Job) : (setJob d j x).ctxs = d.ctxs := rfl
@[simp] theorem setJob_uctx (d : Device) (j : Nat) (x : Job) : (setJob d j x).uctx = d.uctx := rfl
@[simp] theorem setJob_etaBad (d : Device) (j : Nat) (x : Job) : (setJob d j x).etaBad = d.etaBad := rfl
@[simp] theorem setJob_reduceHeld (d : Device) (j : Nat) (x : Job) : (setJob d j x).reduceHeld = d.reduceHeld := rfl
@[simp] theorem setJob_xcache (d : Device) (j : Nat) (x : Job) : (setJob d j x).xcache = d.xcache := rfl
@[simp] theorem setJob_xptr (d : Device) (j : Nat) (x : Job) : (setJob d j x).xptr = d.xptr := rfl
@[simp] theorem setJob_xinv (d : Device) (j : Nat) (x : Job) : (setJob d j x).xinv = d.xinv := rfl
@[simp] theorem setJob_refresh2 (d : Device) (j : Nat) (x : Job) : (setJob d j x).refresh2 = d.refresh2 := rfl
@[simp] theorem setJob_watch (d : Device) (j : Nat) (x : Job) : (setJob d j x).watch = d.watch := rfl
@[simp] theorem setJob_tests (d : Device) (j : Nat) (x : Job) : (setJob d j x).tests = d.tests := rfl
@[simp] theorem setJob_transients (d : Device) (j : Nat) (x : Job) : (setJob d j x).transients = d.transients := rfl
@[simp] theorem setJob_logFront (d : Device) (j : Nat) (x : Job) : (setJob d j x).logFront = d.logFront := rfl
@[simp] theorem setJob_logRing (d : Device) (j : Nat) (x : Job) : (setJob d j x).logRing = d.logRing := rfl
@[simp] theorem setJob_logNext (d : Device) (j : Nat) (x : Job) : (setJob d j x).logNext = d.logNext := rfl
@[simp] theorem setJob_dvfs (d : Device) (j : Nat) (x : Job) : (setJob d j x).dvfs = d.dvfs := rfl
@[simp] theorem setJob_boot (d : Device) (j : Nat) (x : Job) : (setJob d j x).boot = d.boot := rfl
@[simp] theorem setJob_porter (d : Device) (j : Nat) (x : Job) : (setJob d j x).porter = d.porter := rfl
@[simp] theorem setJob_restore (d : Device) (j : Nat) (x : Job) : (setJob d j x).restore = d.restore := rfl
@[simp] theorem setJob_now (d : Device) (j : Nat) (x : Job) : (setJob d j x).now = d.now := rfl
@[simp] theorem setJob_free (d : Device) (j : Nat) (x : Job) : (setJob d j x).free = d.free := rfl

/-! ### setHmem -/

@[simp] theorem setHmem_regs (d : Device) (h : Nat) (m : Mem) : (setHmem d h m).regs = d.regs := rfl
@[simp] theorem setHmem_hdrs (d : Device) (h : Nat) (m : Mem) : (setHmem d h m).hdrs = d.hdrs := rfl
@[simp] theorem setHmem_readOut (d : Device) (h : Nat) (m : Mem) : (setHmem d h m).readOut = d.readOut := rfl
@[simp] theorem setHmem_stack (d : Device) (h : Nat) (m : Mem) : (setHmem d h m).stack = d.stack := rfl
@[simp] theorem setHmem_cores (d : Device) (h : Nat) (m : Mem) : (setHmem d h m).cores = d.cores := rfl
@[simp] theorem setHmem_sigs (d : Device) (h : Nat) (m : Mem) : (setHmem d h m).sigs = d.sigs := rfl
@[simp] theorem setHmem_plan (d : Device) (h : Nat) (m : Mem) : (setHmem d h m).plan = d.plan := rfl
@[simp] theorem setHmem_jobs (d : Device) (h : Nat) (m : Mem) : (setHmem d h m).jobs = d.jobs := rfl
@[simp] theorem setHmem_evQ (d : Device) (h : Nat) (m : Mem) : (setHmem d h m).evQ = d.evQ := rfl
@[simp] theorem setHmem_evLost (d : Device) (h : Nat) (m : Mem) : (setHmem d h m).evLost = d.evLost := rfl
@[simp] theorem setHmem_evSeq (d : Device) (h : Nat) (m : Mem) : (setHmem d h m).evSeq = d.evSeq := rfl
@[simp] theorem setHmem_evBaseSet (d : Device) (h : Nat) (m : Mem) : (setHmem d h m).evBaseSet = d.evBaseSet := rfl
@[simp] theorem setHmem_evSizeSet (d : Device) (h : Nat) (m : Mem) : (setHmem d h m).evSizeSet = d.evSizeSet := rfl
@[simp] theorem setHmem_rdTodo (d : Device) (h : Nat) (m : Mem) : (setHmem d h m).rdTodo = d.rdTodo := rfl
@[simp] theorem setHmem_rdOut (d : Device) (h : Nat) (m : Mem) : (setHmem d h m).rdOut = d.rdOut := rfl
@[simp] theorem setHmem_vc1B (d : Device) (h : Nat) (m : Mem) : (setHmem d h m).vc1B = d.vc1B := rfl
@[simp] theorem setHmem_vc1C (d : Device) (h : Nat) (m : Mem) : (setHmem d h m).vc1C = d.vc1C := rfl
@[simp] theorem setHmem_links (d : Device) (h : Nat) (m : Mem) : (setHmem d h m).links = d.links := rfl
@[simp] theorem setHmem_ports (d : Device) (h : Nat) (m : Mem) : (setHmem d h m).ports = d.ports := rfl
@[simp] theorem setHmem_ctxs (d : Device) (h : Nat) (m : Mem) : (setHmem d h m).ctxs = d.ctxs := rfl
@[simp] theorem setHmem_uctx (d : Device) (h : Nat) (m : Mem) : (setHmem d h m).uctx = d.uctx := rfl
@[simp] theorem setHmem_etaBad (d : Device) (h : Nat) (m : Mem) : (setHmem d h m).etaBad = d.etaBad := rfl
@[simp] theorem setHmem_reduceHeld (d : Device) (h : Nat) (m : Mem) : (setHmem d h m).reduceHeld = d.reduceHeld := rfl
@[simp] theorem setHmem_xcache (d : Device) (h : Nat) (m : Mem) : (setHmem d h m).xcache = d.xcache := rfl
@[simp] theorem setHmem_xptr (d : Device) (h : Nat) (m : Mem) : (setHmem d h m).xptr = d.xptr := rfl
@[simp] theorem setHmem_xinv (d : Device) (h : Nat) (m : Mem) : (setHmem d h m).xinv = d.xinv := rfl
@[simp] theorem setHmem_refresh2 (d : Device) (h : Nat) (m : Mem) : (setHmem d h m).refresh2 = d.refresh2 := rfl
@[simp] theorem setHmem_watch (d : Device) (h : Nat) (m : Mem) : (setHmem d h m).watch = d.watch := rfl
@[simp] theorem setHmem_tests (d : Device) (h : Nat) (m : Mem) : (setHmem d h m).tests = d.tests := rfl
@[simp] theorem setHmem_transients (d : Device) (h : Nat) (m : Mem) : (setHmem d h m).transients = d.transients := rfl
@[simp] theorem setHmem_logFront (d : Device) (h : Nat) (m : Mem) : (setHmem d h m).logFront = d.logFront := rfl
@[simp] theorem setHmem_logRing (d : Device) (h : Nat) (m : Mem) : (setHmem d h m).logRing = d.logRing := rfl
@[simp] theorem setHmem_logNext (d : Device) (h : Nat) (m : Mem) : (setHmem d h m).logNext = d.logNext := rfl
@[simp] theorem setHmem_dvfs (d : Device) (h : Nat) (m : Mem) : (setHmem d h m).dvfs = d.dvfs := rfl
@[simp] theorem setHmem_boot (d : Device) (h : Nat) (m : Mem) : (setHmem d h m).boot = d.boot := rfl
@[simp] theorem setHmem_porter (d : Device) (h : Nat) (m : Mem) : (setHmem d h m).porter = d.porter := rfl
@[simp] theorem setHmem_restore (d : Device) (h : Nat) (m : Mem) : (setHmem d h m).restore = d.restore := rfl
@[simp] theorem setHmem_now (d : Device) (h : Nat) (m : Mem) : (setHmem d h m).now = d.now := rfl
@[simp] theorem setHmem_free (d : Device) (h : Nat) (m : Mem) : (setHmem d h m).free = d.free := rfl

/-! ### setLink -/

@[simp] theorem setLink_regs (d : Device) (p l : Nat) (x : Link) : (setLink d p l x).regs = d.regs := rfl
@[simp] theorem setLink_hdrs (d : Device) (p l : Nat) (x : Link) : (setLink d p l x).hdrs = d.hdrs := rfl
@[simp] theorem setLink_readOut (d : Device) (p l : Nat) (x : Link) : (setLink d p l x).readOut = d.readOut := rfl
@[simp] theorem setLink_stack (d : Device) (p l : Nat) (x : Link) : (setLink d p l x).stack = d.stack := rfl
@[simp] theorem setLink_hmem (d : Device) (p l : Nat) (x : Link) : (setLink d p l x).hmem = d.hmem := rfl
@[simp] theorem setLink_cores (d : Device) (p l : Nat) (x : Link) : (setLink d p l x).cores = d.cores := rfl
@[simp] theorem setLink_sigs (d : Device) (p l : Nat) (x : Link) : (setLink d p l x).sigs = d.sigs := rfl
@[simp] theorem setLink_plan (d : Device) (p l : Nat) (x : Link) : (setLink d p l x).plan = d.plan := rfl
@[simp] theorem setLink_jobs (d : Device) (p l : Nat) (x : Link) : (setLink d p l x).jobs = d.jobs := rfl
@[simp] theorem setLink_evQ (d : Device) (p l : Nat) (x : Link) : (setLink d p l x).evQ = d.evQ := rfl
@[simp] theorem setLink_evLost (d : Device) (p l : Nat) (x : Link) : (setLink d p l x).evLost = d.evLost := rfl
@[simp] theorem setLink_evSeq (d : Device) (p l : Nat) (x : Link) : (setLink d p l x).evSeq = d.evSeq := rfl
@[simp] theorem setLink_evBaseSet (d : Device) (p l : Nat) (x : Link) : (setLink d p l x).evBaseSet = d.evBaseSet := rfl
@[simp] theorem setLink_evSizeSet (d : Device) (p l : Nat) (x : Link) : (setLink d p l x).evSizeSet = d.evSizeSet := rfl
@[simp] theorem setLink_rdTodo (d : Device) (p l : Nat) (x : Link) : (setLink d p l x).rdTodo = d.rdTodo := rfl
@[simp] theorem setLink_rdOut (d : Device) (p l : Nat) (x : Link) : (setLink d p l x).rdOut = d.rdOut := rfl
@[simp] theorem setLink_vc1B (d : Device) (p l : Nat) (x : Link) : (setLink d p l x).vc1B = d.vc1B := rfl
@[simp] theorem setLink_vc1C (d : Device) (p l : Nat) (x : Link) : (setLink d p l x).vc1C = d.vc1C := rfl
@[simp] theorem setLink_ports (d : Device) (p l : Nat) (x : Link) : (setLink d p l x).ports = d.ports := rfl
@[simp] theorem setLink_ctxs (d : Device) (p l : Nat) (x : Link) : (setLink d p l x).ctxs = d.ctxs := rfl
@[simp] theorem setLink_uctx (d : Device) (p l : Nat) (x : Link) : (setLink d p l x).uctx = d.uctx := rfl
@[simp] theorem setLink_etaBad (d : Device) (p l : Nat) (x : Link) : (setLink d p l x).etaBad = d.etaBad := rfl
@[simp] theorem setLink_reduceHeld (d : Device) (p l : Nat) (x : Link) : (setLink d p l x).reduceHeld = d.reduceHeld := rfl
@[simp] theorem setLink_xcache (d : Device) (p l : Nat) (x : Link) : (setLink d p l x).xcache = d.xcache := rfl
@[simp] theorem setLink_xptr (d : Device) (p l : Nat) (x : Link) : (setLink d p l x).xptr = d.xptr := rfl
@[simp] theorem setLink_xinv (d : Device) (p l : Nat) (x : Link) : (setLink d p l x).xinv = d.xinv := rfl
@[simp] theorem setLink_refresh2 (d : Device) (p l : Nat) (x : Link) : (setLink d p l x).refresh2 = d.refresh2 := rfl
@[simp] theorem setLink_watch (d : Device) (p l : Nat) (x : Link) : (setLink d p l x).watch = d.watch := rfl
@[simp] theorem setLink_tests (d : Device) (p l : Nat) (x : Link) : (setLink d p l x).tests = d.tests := rfl
@[simp] theorem setLink_transients (d : Device) (p l : Nat) (x : Link) : (setLink d p l x).transients = d.transients := rfl
@[simp] theorem setLink_logFront (d : Device) (p l : Nat) (x : Link) : (setLink d p l x).logFront = d.logFront := rfl
@[simp] theorem setLink_logRing (d : Device) (p l : Nat) (x : Link) : (setLink d p l x).logRing = d.logRing := rfl
@[simp] theorem setLink_logNext (d : Device) (p l : Nat) (x : Link) : (setLink d p l x).logNext = d.logNext := rfl
@[simp] theorem setLink_dvfs (d : Device) (p l : Nat) (x : Link) : (setLink d p l x).dvfs = d.dvfs := rfl
@[simp] theorem setLink_boot (d : Device) (p l : Nat) (x : Link) : (setLink d p l x).boot = d.boot := rfl
@[simp] theorem setLink_porter (d : Device) (p l : Nat) (x : Link) : (setLink d p l x).porter = d.porter := rfl
@[simp] theorem setLink_restore (d : Device) (p l : Nat) (x : Link) : (setLink d p l x).restore = d.restore := rfl
@[simp] theorem setLink_now (d : Device) (p l : Nat) (x : Link) : (setLink d p l x).now = d.now := rfl
@[simp] theorem setLink_free (d : Device) (p l : Nat) (x : Link) : (setLink d p l x).free = d.free := rfl

/-! ### setPort -/

@[simp] theorem setPort_regs (d : Device) (p : Nat) (x : Port) : (setPort d p x).regs = d.regs := rfl
@[simp] theorem setPort_hdrs (d : Device) (p : Nat) (x : Port) : (setPort d p x).hdrs = d.hdrs := rfl
@[simp] theorem setPort_readOut (d : Device) (p : Nat) (x : Port) : (setPort d p x).readOut = d.readOut := rfl
@[simp] theorem setPort_stack (d : Device) (p : Nat) (x : Port) : (setPort d p x).stack = d.stack := rfl
@[simp] theorem setPort_hmem (d : Device) (p : Nat) (x : Port) : (setPort d p x).hmem = d.hmem := rfl
@[simp] theorem setPort_cores (d : Device) (p : Nat) (x : Port) : (setPort d p x).cores = d.cores := rfl
@[simp] theorem setPort_sigs (d : Device) (p : Nat) (x : Port) : (setPort d p x).sigs = d.sigs := rfl
@[simp] theorem setPort_plan (d : Device) (p : Nat) (x : Port) : (setPort d p x).plan = d.plan := rfl
@[simp] theorem setPort_jobs (d : Device) (p : Nat) (x : Port) : (setPort d p x).jobs = d.jobs := rfl
@[simp] theorem setPort_evQ (d : Device) (p : Nat) (x : Port) : (setPort d p x).evQ = d.evQ := rfl
@[simp] theorem setPort_evLost (d : Device) (p : Nat) (x : Port) : (setPort d p x).evLost = d.evLost := rfl
@[simp] theorem setPort_evSeq (d : Device) (p : Nat) (x : Port) : (setPort d p x).evSeq = d.evSeq := rfl
@[simp] theorem setPort_evBaseSet (d : Device) (p : Nat) (x : Port) : (setPort d p x).evBaseSet = d.evBaseSet := rfl
@[simp] theorem setPort_evSizeSet (d : Device) (p : Nat) (x : Port) : (setPort d p x).evSizeSet = d.evSizeSet := rfl
@[simp] theorem setPort_rdTodo (d : Device) (p : Nat) (x : Port) : (setPort d p x).rdTodo = d.rdTodo := rfl
@[simp] theorem setPort_rdOut (d : Device) (p : Nat) (x : Port) : (setPort d p x).rdOut = d.rdOut := rfl
@[simp] theorem setPort_vc1B (d : Device) (p : Nat) (x : Port) : (setPort d p x).vc1B = d.vc1B := rfl
@[simp] theorem setPort_vc1C (d : Device) (p : Nat) (x : Port) : (setPort d p x).vc1C = d.vc1C := rfl
@[simp] theorem setPort_links (d : Device) (p : Nat) (x : Port) : (setPort d p x).links = d.links := rfl
@[simp] theorem setPort_ctxs (d : Device) (p : Nat) (x : Port) : (setPort d p x).ctxs = d.ctxs := rfl
@[simp] theorem setPort_uctx (d : Device) (p : Nat) (x : Port) : (setPort d p x).uctx = d.uctx := rfl
@[simp] theorem setPort_etaBad (d : Device) (p : Nat) (x : Port) : (setPort d p x).etaBad = d.etaBad := rfl
@[simp] theorem setPort_reduceHeld (d : Device) (p : Nat) (x : Port) : (setPort d p x).reduceHeld = d.reduceHeld := rfl
@[simp] theorem setPort_xcache (d : Device) (p : Nat) (x : Port) : (setPort d p x).xcache = d.xcache := rfl
@[simp] theorem setPort_xptr (d : Device) (p : Nat) (x : Port) : (setPort d p x).xptr = d.xptr := rfl
@[simp] theorem setPort_xinv (d : Device) (p : Nat) (x : Port) : (setPort d p x).xinv = d.xinv := rfl
@[simp] theorem setPort_refresh2 (d : Device) (p : Nat) (x : Port) : (setPort d p x).refresh2 = d.refresh2 := rfl
@[simp] theorem setPort_watch (d : Device) (p : Nat) (x : Port) : (setPort d p x).watch = d.watch := rfl
@[simp] theorem setPort_tests (d : Device) (p : Nat) (x : Port) : (setPort d p x).tests = d.tests := rfl
@[simp] theorem setPort_transients (d : Device) (p : Nat) (x : Port) : (setPort d p x).transients = d.transients := rfl
@[simp] theorem setPort_logFront (d : Device) (p : Nat) (x : Port) : (setPort d p x).logFront = d.logFront := rfl
@[simp] theorem setPort_logRing (d : Device) (p : Nat) (x : Port) : (setPort d p x).logRing = d.logRing := rfl
@[simp] theorem setPort_logNext (d : Device) (p : Nat) (x : Port) : (setPort d p x).logNext = d.logNext := rfl
@[simp] theorem setPort_dvfs (d : Device) (p : Nat) (x : Port) : (setPort d p x).dvfs = d.dvfs := rfl
@[simp] theorem setPort_boot (d : Device) (p : Nat) (x : Port) : (setPort d p x).boot = d.boot := rfl
@[simp] theorem setPort_porter (d : Device) (p : Nat) (x : Port) : (setPort d p x).porter = d.porter := rfl
@[simp] theorem setPort_restore (d : Device) (p : Nat) (x : Port) : (setPort d p x).restore = d.restore := rfl
@[simp] theorem setPort_now (d : Device) (p : Nat) (x : Port) : (setPort d p x).now = d.now := rfl
@[simp] theorem setPort_free (d : Device) (p : Nat) (x : Port) : (setPort d p x).free = d.free := rfl

/-! ### setCtx -/

@[simp] theorem setCtx_regs (d : Device) (r : Nat) (x : Ctx) : (setCtx d r x).regs = d.regs := rfl
@[simp] theorem setCtx_hdrs (d : Device) (r : Nat) (x : Ctx) : (setCtx d r x).hdrs = d.hdrs := rfl
@[simp] theorem setCtx_readOut (d : Device) (r : Nat) (x : Ctx) : (setCtx d r x).readOut = d.readOut := rfl
@[simp] theorem setCtx_stack (d : Device) (r : Nat) (x : Ctx) : (setCtx d r x).stack = d.stack := rfl
@[simp] theorem setCtx_hmem (d : Device) (r : Nat) (x : Ctx) : (setCtx d r x).hmem = d.hmem := rfl
@[simp] theorem setCtx_cores (d : Device) (r : Nat) (x : Ctx) : (setCtx d r x).cores = d.cores := rfl
@[simp] theorem setCtx_sigs (d : Device) (r : Nat) (x : Ctx) : (setCtx d r x).sigs = d.sigs := rfl
@[simp] theorem setCtx_plan (d : Device) (r : Nat) (x : Ctx) : (setCtx d r x).plan = d.plan := rfl
@[simp] theorem setCtx_jobs (d : Device) (r : Nat) (x : Ctx) : (setCtx d r x).jobs = d.jobs := rfl
@[simp] theorem setCtx_evQ (d : Device) (r : Nat) (x : Ctx) : (setCtx d r x).evQ = d.evQ := rfl
@[simp] theorem setCtx_evLost (d : Device) (r : Nat) (x : Ctx) : (setCtx d r x).evLost = d.evLost := rfl
@[simp] theorem setCtx_evSeq (d : Device) (r : Nat) (x : Ctx) : (setCtx d r x).evSeq = d.evSeq := rfl
@[simp] theorem setCtx_evBaseSet (d : Device) (r : Nat) (x : Ctx) : (setCtx d r x).evBaseSet = d.evBaseSet := rfl
@[simp] theorem setCtx_evSizeSet (d : Device) (r : Nat) (x : Ctx) : (setCtx d r x).evSizeSet = d.evSizeSet := rfl
@[simp] theorem setCtx_rdTodo (d : Device) (r : Nat) (x : Ctx) : (setCtx d r x).rdTodo = d.rdTodo := rfl
@[simp] theorem setCtx_rdOut (d : Device) (r : Nat) (x : Ctx) : (setCtx d r x).rdOut = d.rdOut := rfl
@[simp] theorem setCtx_vc1B (d : Device) (r : Nat) (x : Ctx) : (setCtx d r x).vc1B = d.vc1B := rfl
@[simp] theorem setCtx_vc1C (d : Device) (r : Nat) (x : Ctx) : (setCtx d r x).vc1C = d.vc1C := rfl
@[simp] theorem setCtx_links (d : Device) (r : Nat) (x : Ctx) : (setCtx d r x).links = d.links := rfl
@[simp] theorem setCtx_ports (d : Device) (r : Nat) (x : Ctx) : (setCtx d r x).ports = d.ports := rfl
@[simp] theorem setCtx_uctx (d : Device) (r : Nat) (x : Ctx) : (setCtx d r x).uctx = d.uctx := rfl
@[simp] theorem setCtx_etaBad (d : Device) (r : Nat) (x : Ctx) : (setCtx d r x).etaBad = d.etaBad := rfl
@[simp] theorem setCtx_reduceHeld (d : Device) (r : Nat) (x : Ctx) : (setCtx d r x).reduceHeld = d.reduceHeld := rfl
@[simp] theorem setCtx_xcache (d : Device) (r : Nat) (x : Ctx) : (setCtx d r x).xcache = d.xcache := rfl
@[simp] theorem setCtx_xptr (d : Device) (r : Nat) (x : Ctx) : (setCtx d r x).xptr = d.xptr := rfl
@[simp] theorem setCtx_xinv (d : Device) (r : Nat) (x : Ctx) : (setCtx d r x).xinv = d.xinv := rfl
@[simp] theorem setCtx_refresh2 (d : Device) (r : Nat) (x : Ctx) : (setCtx d r x).refresh2 = d.refresh2 := rfl
@[simp] theorem setCtx_watch (d : Device) (r : Nat) (x : Ctx) : (setCtx d r x).watch = d.watch := rfl
@[simp] theorem setCtx_tests (d : Device) (r : Nat) (x : Ctx) : (setCtx d r x).tests = d.tests := rfl
@[simp] theorem setCtx_transients (d : Device) (r : Nat) (x : Ctx) : (setCtx d r x).transients = d.transients := rfl
@[simp] theorem setCtx_logFront (d : Device) (r : Nat) (x : Ctx) : (setCtx d r x).logFront = d.logFront := rfl
@[simp] theorem setCtx_logRing (d : Device) (r : Nat) (x : Ctx) : (setCtx d r x).logRing = d.logRing := rfl
@[simp] theorem setCtx_logNext (d : Device) (r : Nat) (x : Ctx) : (setCtx d r x).logNext = d.logNext := rfl
@[simp] theorem setCtx_dvfs (d : Device) (r : Nat) (x : Ctx) : (setCtx d r x).dvfs = d.dvfs := rfl
@[simp] theorem setCtx_boot (d : Device) (r : Nat) (x : Ctx) : (setCtx d r x).boot = d.boot := rfl
@[simp] theorem setCtx_porter (d : Device) (r : Nat) (x : Ctx) : (setCtx d r x).porter = d.porter := rfl
@[simp] theorem setCtx_restore (d : Device) (r : Nat) (x : Ctx) : (setCtx d r x).restore = d.restore := rfl
@[simp] theorem setCtx_now (d : Device) (r : Nat) (x : Ctx) : (setCtx d r x).now = d.now := rfl
@[simp] theorem setCtx_free (d : Device) (r : Nat) (x : Ctx) : (setCtx d r x).free = d.free := rfl

/-! ### setDvfs -/

@[simp] theorem setDvfs_regs (d : Device) (h : Nat) (x : Dvfs) : (setDvfs d h x).regs = d.regs := rfl
@[simp] theorem setDvfs_hdrs (d : Device) (h : Nat) (x : Dvfs) : (setDvfs d h x).hdrs = d.hdrs := rfl
@[simp] theorem setDvfs_readOut (d : Device) (h : Nat) (x : Dvfs) : (setDvfs d h x).readOut = d.readOut := rfl
@[simp] theorem setDvfs_stack (d : Device) (h : Nat) (x : Dvfs) : (setDvfs d h x).stack = d.stack := rfl
@[simp] theorem setDvfs_hmem (d : Device) (h : Nat) (x : Dvfs) : (setDvfs d h x).hmem = d.hmem := rfl
@[simp] theorem setDvfs_cores (d : Device) (h : Nat) (x : Dvfs) : (setDvfs d h x).cores = d.cores := rfl
@[simp] theorem setDvfs_sigs (d : Device) (h : Nat) (x : Dvfs) : (setDvfs d h x).sigs = d.sigs := rfl
@[simp] theorem setDvfs_plan (d : Device) (h : Nat) (x : Dvfs) : (setDvfs d h x).plan = d.plan := rfl
@[simp] theorem setDvfs_jobs (d : Device) (h : Nat) (x : Dvfs) : (setDvfs d h x).jobs = d.jobs := rfl
@[simp] theorem setDvfs_evQ (d : Device) (h : Nat) (x : Dvfs) : (setDvfs d h x).evQ = d.evQ := rfl
@[simp] theorem setDvfs_evLost (d : Device) (h : Nat) (x : Dvfs) : (setDvfs d h x).evLost = d.evLost := rfl
@[simp] theorem setDvfs_evSeq (d : Device) (h : Nat) (x : Dvfs) : (setDvfs d h x).evSeq = d.evSeq := rfl
@[simp] theorem setDvfs_evBaseSet (d : Device) (h : Nat) (x : Dvfs) : (setDvfs d h x).evBaseSet = d.evBaseSet := rfl
@[simp] theorem setDvfs_evSizeSet (d : Device) (h : Nat) (x : Dvfs) : (setDvfs d h x).evSizeSet = d.evSizeSet := rfl
@[simp] theorem setDvfs_rdTodo (d : Device) (h : Nat) (x : Dvfs) : (setDvfs d h x).rdTodo = d.rdTodo := rfl
@[simp] theorem setDvfs_rdOut (d : Device) (h : Nat) (x : Dvfs) : (setDvfs d h x).rdOut = d.rdOut := rfl
@[simp] theorem setDvfs_vc1B (d : Device) (h : Nat) (x : Dvfs) : (setDvfs d h x).vc1B = d.vc1B := rfl
@[simp] theorem setDvfs_vc1C (d : Device) (h : Nat) (x : Dvfs) : (setDvfs d h x).vc1C = d.vc1C := rfl
@[simp] theorem setDvfs_links (d : Device) (h : Nat) (x : Dvfs) : (setDvfs d h x).links = d.links := rfl
@[simp] theorem setDvfs_ports (d : Device) (h : Nat) (x : Dvfs) : (setDvfs d h x).ports = d.ports := rfl
@[simp] theorem setDvfs_ctxs (d : Device) (h : Nat) (x : Dvfs) : (setDvfs d h x).ctxs = d.ctxs := rfl
@[simp] theorem setDvfs_uctx (d : Device) (h : Nat) (x : Dvfs) : (setDvfs d h x).uctx = d.uctx := rfl
@[simp] theorem setDvfs_etaBad (d : Device) (h : Nat) (x : Dvfs) : (setDvfs d h x).etaBad = d.etaBad := rfl
@[simp] theorem setDvfs_reduceHeld (d : Device) (h : Nat) (x : Dvfs) : (setDvfs d h x).reduceHeld = d.reduceHeld := rfl
@[simp] theorem setDvfs_xcache (d : Device) (h : Nat) (x : Dvfs) : (setDvfs d h x).xcache = d.xcache := rfl
@[simp] theorem setDvfs_xptr (d : Device) (h : Nat) (x : Dvfs) : (setDvfs d h x).xptr = d.xptr := rfl
@[simp] theorem setDvfs_xinv (d : Device) (h : Nat) (x : Dvfs) : (setDvfs d h x).xinv = d.xinv := rfl
@[simp] theorem setDvfs_refresh2 (d : Device) (h : Nat) (x : Dvfs) : (setDvfs d h x).refresh2 = d.refresh2 := rfl
@[simp] theorem setDvfs_watch (d : Device) (h : Nat) (x : Dvfs) : (setDvfs d h x).watch = d.watch := rfl
@[simp] theorem setDvfs_tests (d : Device) (h : Nat) (x : Dvfs) : (setDvfs d h x).tests = d.tests := rfl
@[simp] theorem setDvfs_transients (d : Device) (h : Nat) (x : Dvfs) : (setDvfs d h x).transients = d.transients := rfl
@[simp] theorem setDvfs_logFront (d : Device) (h : Nat) (x : Dvfs) : (setDvfs d h x).logFront = d.logFront := rfl
@[simp] theorem setDvfs_logRing (d : Device) (h : Nat) (x : Dvfs) : (setDvfs d h x).logRing = d.logRing := rfl
@[simp] theorem setDvfs_logNext (d : Device) (h : Nat) (x : Dvfs) : (setDvfs d h x).logNext = d.logNext := rfl
@[simp] theorem setDvfs_boot (d : Device) (h : Nat) (x : Dvfs) : (setDvfs d h x).boot = d.boot := rfl
@[simp] theorem setDvfs_porter (d : Device) (h : Nat) (x : Dvfs) : (setDvfs d h x).porter = d.porter := rfl
@[simp] theorem setDvfs_restore (d : Device) (h : Nat) (x : Dvfs) : (setDvfs d h x).restore = d.restore := rfl
@[simp] theorem setDvfs_now (d : Device) (h : Nat) (x : Dvfs) : (setDvfs d h x).now = d.now := rfl
@[simp] theorem setDvfs_free (d : Device) (h : Nat) (x : Dvfs) : (setDvfs d h x).free = d.free := rfl

/-! ### setUctx -/

@[simp] theorem setUctx_regs (d : Device) (j : Nat) (x : UCtx) : (setUctx d j x).regs = d.regs := rfl
@[simp] theorem setUctx_hdrs (d : Device) (j : Nat) (x : UCtx) : (setUctx d j x).hdrs = d.hdrs := rfl
@[simp] theorem setUctx_readOut (d : Device) (j : Nat) (x : UCtx) : (setUctx d j x).readOut = d.readOut := rfl
@[simp] theorem setUctx_stack (d : Device) (j : Nat) (x : UCtx) : (setUctx d j x).stack = d.stack := rfl
@[simp] theorem setUctx_hmem (d : Device) (j : Nat) (x : UCtx) : (setUctx d j x).hmem = d.hmem := rfl
@[simp] theorem setUctx_cores (d : Device) (j : Nat) (x : UCtx) : (setUctx d j x).cores = d.cores := rfl
@[simp] theorem setUctx_sigs (d : Device) (j : Nat) (x : UCtx) : (setUctx d j x).sigs = d.sigs := rfl
@[simp] theorem setUctx_plan (d : Device) (j : Nat) (x : UCtx) : (setUctx d j x).plan = d.plan := rfl
@[simp] theorem setUctx_jobs (d : Device) (j : Nat) (x : UCtx) : (setUctx d j x).jobs = d.jobs := rfl
@[simp] theorem setUctx_evQ (d : Device) (j : Nat) (x : UCtx) : (setUctx d j x).evQ = d.evQ := rfl
@[simp] theorem setUctx_evLost (d : Device) (j : Nat) (x : UCtx) : (setUctx d j x).evLost = d.evLost := rfl
@[simp] theorem setUctx_evSeq (d : Device) (j : Nat) (x : UCtx) : (setUctx d j x).evSeq = d.evSeq := rfl
@[simp] theorem setUctx_evBaseSet (d : Device) (j : Nat) (x : UCtx) : (setUctx d j x).evBaseSet = d.evBaseSet := rfl
@[simp] theorem setUctx_evSizeSet (d : Device) (j : Nat) (x : UCtx) : (setUctx d j x).evSizeSet = d.evSizeSet := rfl
@[simp] theorem setUctx_rdTodo (d : Device) (j : Nat) (x : UCtx) : (setUctx d j x).rdTodo = d.rdTodo := rfl
@[simp] theorem setUctx_rdOut (d : Device) (j : Nat) (x : UCtx) : (setUctx d j x).rdOut = d.rdOut := rfl
@[simp] theorem setUctx_vc1B (d : Device) (j : Nat) (x : UCtx) : (setUctx d j x).vc1B = d.vc1B := rfl
@[simp] theorem setUctx_vc1C (d : Device) (j : Nat) (x : UCtx) : (setUctx d j x).vc1C = d.vc1C := rfl
@[simp] theorem setUctx_links (d : Device) (j : Nat) (x : UCtx) : (setUctx d j x).links = d.links := rfl
@[simp] theorem setUctx_ports (d : Device) (j : Nat) (x : UCtx) : (setUctx d j x).ports = d.ports := rfl
@[simp] theorem setUctx_ctxs (d : Device) (j : Nat) (x : UCtx) : (setUctx d j x).ctxs = d.ctxs := rfl
@[simp] theorem setUctx_etaBad (d : Device) (j : Nat) (x : UCtx) : (setUctx d j x).etaBad = d.etaBad := rfl
@[simp] theorem setUctx_reduceHeld (d : Device) (j : Nat) (x : UCtx) : (setUctx d j x).reduceHeld = d.reduceHeld := rfl
@[simp] theorem setUctx_xcache (d : Device) (j : Nat) (x : UCtx) : (setUctx d j x).xcache = d.xcache := rfl
@[simp] theorem setUctx_xptr (d : Device) (j : Nat) (x : UCtx) : (setUctx d j x).xptr = d.xptr := rfl
@[simp] theorem setUctx_xinv (d : Device) (j : Nat) (x : UCtx) : (setUctx d j x).xinv = d.xinv := rfl
@[simp] theorem setUctx_refresh2 (d : Device) (j : Nat) (x : UCtx) : (setUctx d j x).refresh2 = d.refresh2 := rfl
@[simp] theorem setUctx_watch (d : Device) (j : Nat) (x : UCtx) : (setUctx d j x).watch = d.watch := rfl
@[simp] theorem setUctx_tests (d : Device) (j : Nat) (x : UCtx) : (setUctx d j x).tests = d.tests := rfl
@[simp] theorem setUctx_transients (d : Device) (j : Nat) (x : UCtx) : (setUctx d j x).transients = d.transients := rfl
@[simp] theorem setUctx_logFront (d : Device) (j : Nat) (x : UCtx) : (setUctx d j x).logFront = d.logFront := rfl
@[simp] theorem setUctx_logRing (d : Device) (j : Nat) (x : UCtx) : (setUctx d j x).logRing = d.logRing := rfl
@[simp] theorem setUctx_logNext (d : Device) (j : Nat) (x : UCtx) : (setUctx d j x).logNext = d.logNext := rfl
@[simp] theorem setUctx_dvfs (d : Device) (j : Nat) (x : UCtx) : (setUctx d j x).dvfs = d.dvfs := rfl
@[simp] theorem setUctx_boot (d : Device) (j : Nat) (x : UCtx) : (setUctx d j x).boot = d.boot := rfl
@[simp] theorem setUctx_porter (d : Device) (j : Nat) (x : UCtx) : (setUctx d j x).porter = d.porter := rfl
@[simp] theorem setUctx_restore (d : Device) (j : Nat) (x : UCtx) : (setUctx d j x).restore = d.restore := rfl
@[simp] theorem setUctx_now (d : Device) (j : Nat) (x : UCtx) : (setUctx d j x).now = d.now := rfl
@[simp] theorem setUctx_free (d : Device) (j : Nat) (x : UCtx) : (setUctx d j x).free = d.free := rfl

/-! ### Reading back -/

@[simp] theorem core_setCore (d : Device) (u : Nat) (c : Core) : core (setCore d u c) u = c := by simp [core, setCore]
theorem core_setCore_ne (d : Device) (u v : Nat) (c : Core) (h : v ≠ u) : core (setCore d u c) v = core d v := by
  simp only [core, setCore, tget_tset_ne _ _ _ _ _ h]
@[simp] theorem job_setJob (d : Device) (j : Nat) (x : Job) : job (setJob d j x) j = x := by simp [job, setJob]
theorem job_setJob_ne (d : Device) (j k : Nat) (x : Job) (h : k ≠ j) : job (setJob d j x) k = job d k := by
  simp only [job, setJob, tget_tset_ne _ _ _ _ _ h]
@[simp] theorem sigStore_setSig (d : Device) (h : Nat) (x : SigStore) : sigStore (setSig d h x) h = x := by simp [sigStore, setSig]
@[simp] theorem hmem_setHmem (d : Device) (h : Nat) (m : Mem) : hmem (setHmem d h m) h = m := by simp [hmem, setHmem]
@[simp] theorem hdr_setHdr (d : Device) (page : Nat) (h : Hdr) : hdr (setHdr d page h) page = h := by simp [hdr, setHdr]
@[simp] theorem port_setPort (d : Device) (p : Nat) (x : Port) : port (setPort d p x) p = x := by simp [port, setPort]
@[simp] theorem link_setLink (d : Device) (p l : Nat) (x : Link) : link (setLink d p l x) p l = x := by simp [link, setLink]
/-- A register reads back the low 32 bits written. -/
@[simp] theorem getR_setR (d : Device) (off v : Nat) : getR (setR d off v) off = v % 2 ^ 32 := by
  have key : ∀ t : Tab Reg, (tset t off (BitVec.ofNat 32 v)).find? (fun e => e.1 == off) = some (off, BitVec.ofNat 32 v) := by
    intro t
    induction t with
    | nil => simp [tset]
    | cons e t ih =>
      obtain ⟨k, x⟩ := e
      simp only [tset]; split
      · simp
      · split
        · simp
        · next h1 h2 => rw [List.find?_cons_of_neg (by simpa using Ne.symm h2)]; exact ih
  simp [getR, setR, key]
/-- A register write leaves every other register alone. -/
theorem getR_setR_ne (d : Device) (off off' v : Nat) (h : off' ≠ off) : getR (setR d off v) off' = getR d off' := by
  have key : ∀ t : Tab Reg, (tset t off (BitVec.ofNat 32 v)).find? (fun e => e.1 == off') = t.find? (fun e => e.1 == off') := by
    intro t
    induction t with
    | nil => simp [tset, Ne.symm h]
    | cons e t ih =>
      obtain ⟨k, x⟩ := e
      simp only [tset]; split
      · rw [List.find?_cons_of_neg (by simpa using Ne.symm h)]
      · split
        · next hk => subst hk; rw [List.find?_cons_of_neg (by simpa using Ne.symm h), List.find?_cons_of_neg (by simpa using Ne.symm h)]
        · simp only [List.find?_cons, ih]
  simp only [getR, setR, key]

end Sys2Proof.Machine
end

