-- ==== Sys2Proof/Tests/Slice0.lean ====
section
/-!
SUPPORT. Tests: terms that the checks of WellFormed refuse, states that meet the hypotheses of each statement, and values that the spec gives.
-/
namespace Sys2Proof.Machine
set_option Elab.async false

/-! ### States that meet the statements' hypotheses -/

/-- A module with one core, and the state of a module. -/
def onCore (c : Core) : Device := setCore {} 0 c
def stateOf (d : Device) : State := { pending := [], dev := d }
/-- A running core at an instruction word. -/
def coreAt0 (w : Nat) : Core := { st := .running, codeLen := 8, istore := Mem.ofBytes (toLE 8 w) }
/-- An instruction word of an opcode. -/
def opWord (op : Nat) (rest : Nat := 0) : Nat := op * 2 ^ 58 + rest

/-! ### WellFormed: an ill-formed term for each check, each one past a range -/

theorem test_wf_refuses_1 : ([
    .alu 864, .alui 864, .li 864, .ld 864, .st 864, .br 864, .jal 864, .jalr 864, .csrr 864, .fence 864, .safept 864, .endProg 864, .nop 864,
    .tcfg 864, .tcfgApply 864, .tclr 864, .tdead 864, .wld 864, .wldStart 864 0 0, .wldStart 0 3 0, .wldReady 864 0, .wldReady 0 3, .mma 864,
    .bankSwap 864 0 0, .bankSwap 0 3 0, .passComplete 864 0, .passComplete 0 3, .accdrain 864, .drainComplete 864, .accClearDone 864,
    .vbin 864, .vfma 864, .vun 864, .vscal 864, .vfn 864, .vdfn 864, .vred 864, .vste 864, .vectorComplete 864, .ftld 864] : List Instr).all (fun c => !c.wf) = true := by decide +kernel

theorem test_wf_refuses_2 : ([
    .ftinv 864, .sxfer 864, .sarr 864, .sset 864, .swait 864, .sgate 864, .sread 864, .instrFire 864 0, .instrFire 0 16, .xferComplete 864 0,
    .xferComplete 0 8, .landingPlace 864 0 0, .landingPlace 0 8 0, .landCtrlReset 16, .landingReset 16, .contextSave 864,
    .contextRestore 864 0 0, .arrSteerWrite 864 0, .steerApply 864, .stackRead (2 ^ 39) 1 none, .stackRead 0 0 ((some 16)),
    .stackWriteAccept (2 ^ 39) [0] [], .stackRefresh 16, .stackTempSample 16 0 0, .runaheadFetch 864 0, .runaheadFetch 0 4, .xinvJob 16,
    .xinvRange 16, .sigStoreApply 18 0, .sigStoreApply 0 5, .sigPoll 864 0, .sigPoll 0 16, .sigWindowSet 3 0 0 0, .sigWindowSet 0 18 0 0,
    .sigWindowSet 0 0 512 0, .signalRx ⟨6, 0, 0, 0, []⟩, .signalRx ⟨0, 4, 0, 0, []⟩, .signalRx ⟨0, 0, 4096, 0, []⟩, .remoteSignalRelease 6 0,
    .remoteSignalRelease 0 4] : List Instr).all (fun c => !c.wf) = true := by decide +kernel

theorem test_wf_refuses_3 : ([
    .writeRx ⟨6, 0, 0, 0, []⟩, .writeRx ⟨0, 4, 0, 0, []⟩, .writeRx ⟨0, 0, 4096, 0, []⟩, .writeErrRx ⟨6, 0, 0, 0, []⟩,
    .writeErrRx ⟨0, 4, 0, 0, []⟩, .writeErrRx ⟨0, 0, 4096, 0, []⟩, .linkPacketRx 5 4 0, .linkPacketRx 6 1 0, .linkPacketRx 7 0 0,
    .badBlock 5 4 false, .badBlock 6 1 false, .badBlock 7 0 false, .packetSend 7, .trainBlockRx 5 4 [], .trainBlockRx 6 1 [],
    .trainBlockRx 7 0 [], .trainBlockRx 0 0 ((List.replicate 639 0)), .trainStepTimeout 5 4, .trainStepTimeout 6 1, .trainStepTimeout 7 0,
    .linkSilenceTimeout 5 4, .linkSilenceTimeout 6 1, .linkSilenceTimeout 7 0, .laneLockLoss 5 4 0, .laneLockLoss 6 1 0, .laneLockLoss 7 0 0,
    .laneLockLoss 0 0 4, .laneLockRegained 5 4, .laneLockRegained 6 1, .laneLockRegained 7 0, .retrain 6 0, .retrain 0 4, .testReq 6 0 0,
    .testReq 0 4 0, .testForce 6 0 0, .testForce 0 4 0, .testEnd 6 0, .testEnd 0 4, .testAnswerTimeout 6 0, .testAnswerTimeout 0 4] : List Instr).all (fun c => !c.wf) = true := by decide +kernel

theorem test_wf_refuses_4 : ([
    .ctxLoad 6 0 0, .ctxLoad 0 64 0, .ctxLoad 0 0 16, .ctxUnload 6 0, .ctxUnload 0 64, .ctxCmdReserved 6, .bucketReady 64 0,
    .bucketReady 0 256, .readyRx ⟨6, 0, 0, 0, []⟩, .readyRx ⟨0, 4, 0, 0, []⟩, .readyRx ⟨0, 0, 4096, 0, []⟩, .chainStart 64 0 0,
    .chainStart 0 256 0, .partialRx ⟨6, 0, 0, 0, []⟩, .partialRx ⟨0, 4, 0, 0, []⟩, .partialRx ⟨0, 0, 4096, 0, []⟩, .deadlineTaint 64 0 0,
    .deadlineTaint 0 5 0, .deadlineTaint 0 0 256, .pushedSend 64 0, .pushedSend 0 256, .upstreamRestart 64 0, .upstreamRestart 0 256,
    .emptyBlockWrite 64 0, .emptyBlockWrite 0 256, .normSend 64, .normRx ⟨6, 0, 0, 0, []⟩, .normRx ⟨0, 4, 0, 0, []⟩,
    .normRx ⟨0, 0, 4096, 0, []⟩, .gatherSend 64 0, .gatherSend 0 256, .gatherRx ⟨6, 0, 0, 0, []⟩, .gatherRx ⟨0, 4, 0, 0, []⟩,
    .gatherRx ⟨0, 0, 4096, 0, []⟩, .uctxLoad 16, .uctxUnload 16, .uctxCmdReserved 16, .statsPass 16 0, .statsPass 0 256, .applyGrant 16] : List Instr).all (fun c => !c.wf) = true := by decide +kernel

theorem test_wf_refuses_5 : ([
    .etaLatch 16 0 0, .etaLatch 0 18 0, .etaWordWrite 3 0 false 0, .etaWordWrite 0 16 false 0, .applyBucket 16 0, .applyBucket 0 256,
    .doorbell 17 0, .preempted 16, .stepCmd 16, .checkpoint 16, .ckptDone 16, .reimage 16, .cmdReserved 17, .batchFetch 16, .attemptStart 16,
    .microBatchStart 16, .microBatchDone 16, .stepReady 16, .verdictApply 3 0 0, .verdictApply 0 16 0, .verdictApply 0 0 16,
    .verdictRepeat 3 0 0, .verdictRepeat 0 16 0, .verdictRepeat 0 0 16, .verdictSkip 3 0 0, .verdictSkip 0 16 0, .verdictSkip 0 0 16,
    .verdictNone 3 0 0, .verdictNone 0 16 0, .verdictNone 0 0 16, .stepCommit 16, .ringSizeWrite 17 0, .dvfsRequest 18 0 0,
    .dvfsRequest 0 4 0, .dvfsStepDone 18, .voltOvrWrite 18 0, .powerLoop 65536, .currentLimiterCheck 65536, .thermalTrip 38 0, .pmWake 0] : List Instr).all (fun c => !c.wf) = true := by decide +kernel

theorem test_wf_refuses_6 : ([
    .pmWake 7, .paceJobWrite 18 0, .sensorConversion 256 0, .selfTestStart ⟨0, 18, 0, 0, 0⟩, .selfTestStart ⟨0, 0, 48, 0, 0⟩,
    .selfTestStart ⟨0, 0, 0, 4, 0⟩, .selfTestStart ⟨0, 0, 0, 0, 33⟩, .selfTestStart ⟨1, 18, 0, 0, 0⟩, .selfTestStart ⟨1, 0, 48, 0, 0⟩,
    .selfTestStart ⟨1, 0, 0, 1, 0⟩, .selfTestStart ⟨1, 0, 0, 0, 1⟩, .selfTestStart ⟨2, 18, 0, 0, 0⟩, .selfTestStart ⟨2, 0, 1, 0, 0⟩,
    .selfTestStart ⟨2, 0, 0, 1, 0⟩, .selfTestStart ⟨2, 0, 0, 0, 1⟩, .selfTestStart ⟨3, 16, 0, 0, 0⟩, .selfTestStart ⟨3, 0, 1, 0, 0⟩,
    .selfTestStart ⟨3, 0, 0, 1, 0⟩, .selfTestStart ⟨3, 0, 0, 0, 1⟩, .selfTestStart ⟨4, 6, 0, 0, 0⟩, .selfTestStart ⟨4, 0, 1, 0, 0⟩,
    .selfTestStart ⟨4, 0, 0, 1, 0⟩, .selfTestStart ⟨4, 0, 0, 0, 1⟩, .selfTestStart ⟨5, 6, 0, 0, 0⟩, .selfTestStart ⟨5, 0, 4, 0, 0⟩,
    .selfTestStart ⟨5, 0, 0, 1, 0⟩, .selfTestStart ⟨5, 0, 0, 0, 1⟩, .selfTestStart ⟨6, 0, 0, 0, 0⟩,
    .selfTestEnd ⟨0, 18, 0, 0, 0⟩ ⟨false, [], false, false⟩, .blkEnable 3 0 false, .blkEnable 0 4096 false, .softReset 3 0, .softReset 0 4096,
    .softResetDone 4096, .blkFence 3 0 false, .blkFence 0 4096 false, .lockPage 3 0, .lockPage 0 4096, .errorClear 3 0, .errorClear 0 4096] : List Instr).all (fun c => !c.wf) = true := by decide +kernel

theorem test_wf_refuses_7 : ([
    .reg64LoWrite 3 0 0, .reg64LoWrite 0 (2 ^ 24) 0, .reg64LoWrite 0 2 0, .reg64HiCommit 3 0 0, .reg64HiCommit 0 (2 ^ 24) 0,
    .reg64HiCommit 0 2 0, .registerWrite 3 0 0, .registerWrite 0 (2 ^ 24) 0, .registerWrite 0 2 0, .stackTrain 16 false,
    .powerOnSelfTest [⟨6, 0, 0, 0, 0⟩] false, .stageFailure 2, .stageFailure 8, .trainStepDone 5 4 0 0, .trainStepDone 6 1 0 0,
    .trainStepDone 7 0 0 0, .testEntryAckTimeout 6 0, .testEntryAckTimeout 0 4, .rcRead 3 0, .rcRead 0 (2 ^ 24), .rcRead 0 2] : List Instr).all (fun c => !c.wf) = true := by decide +kernel

/-! ### WellFormed: the last value of each range is accepted -/

theorem test_wf_accepts_1 : ([
    .alu 863, .alui 863, .li 863, .ld 863, .st 863, .br 863, .jal 863, .jalr 863, .csrr 863, .fence 863, .safept 863, .endProg 863, .nop 863,
    .tcfg 863, .tcfgApply 863, .tclr 863, .tdead 863, .wld 863, .wldStart 863 2 0, .wldReady 863 2, .mma 863, .bankSwap 863 2 0,
    .passComplete 863 2, .accdrain 863, .drainComplete 863, .accClearDone 863, .vbin 863, .vfma 863, .vun 863, .vscal 863, .vfn 863,
    .vdfn 863, .vred 863, .vste 863, .vectorComplete 863, .ftld 863, .ftinv 863, .sxfer 863, .sarr 863, .sset 863] : List Instr).all (fun c => c.wf) = true := by decide +kernel

theorem test_wf_accepts_2 : ([
    .swait 863, .sgate 863, .sread 863, .instrFire 863 15, .xferComplete 863 7, .landingPlace 863 7 0, .landCtrlReset 15, .landingReset 15,
    .contextSave 863, .contextRestore 863 0 0, .arrSteerWrite 863 0, .steerApply 863, .stackRead (2 ^ 39 - 1) 1 ((some 15)),
    .stackWriteAccept (2 ^ 39 - 1) [0] [], .stackRefresh 15, .stackTempSample 15 0 0, .runaheadFetch 863 3, .xinvJob 15, .xinvRange 15,
    .sigStoreApply 17 4, .sigPoll 863 15, .sigWindowSet 2 17 511 0, .signalRx ⟨5, 3, 4095, 0, []⟩, .remoteSignalRelease 5 3,
    .writeRx ⟨5, 3, 4095, 0, []⟩, .writeErrRx ⟨5, 3, 4095, 0, []⟩, .linkPacketRx 6 0 0, .badBlock 6 0 false, .packetSend 6,
    .trainBlockRx 6 0 ((List.replicate 640 0)), .trainStepTimeout 6 0, .linkSilenceTimeout 6 0, .laneLockLoss 6 0 3, .laneLockRegained 6 0,
    .retrain 5 3, .testReq 5 3 0, .testForce 5 3 0, .testEnd 5 3, .testAnswerTimeout 5 3, .ctxLoad 5 63 15] : List Instr).all (fun c => c.wf) = true := by decide +kernel

theorem test_wf_accepts_3 : ([
    .ctxUnload 5 63, .ctxCmdReserved 5, .bucketReady 63 255, .readyRx ⟨5, 3, 4095, 0, []⟩, .chainStart 63 255 0,
    .partialRx ⟨5, 3, 4095, 0, []⟩, .deadlineTaint 63 4 255, .pushedSend 63 255, .upstreamRestart 63 255, .emptyBlockWrite 63 255,
    .normSend 63, .normRx ⟨5, 3, 4095, 0, []⟩, .gatherSend 63 255, .gatherRx ⟨5, 3, 4095, 0, []⟩, .uctxLoad 15, .uctxUnload 15,
    .uctxCmdReserved 15, .statsPass 15 255, .applyGrant 15, .etaLatch 15 17 0, .etaWordWrite 2 15 false 0, .applyBucket 15 255,
    .doorbell 16 0, .preempted 15, .stepCmd 15, .checkpoint 15, .ckptDone 15, .reimage 15, .cmdReserved 16, .batchFetch 15, .attemptStart 15,
    .microBatchStart 15, .microBatchDone 15, .stepReady 15, .verdictApply 2 15 15, .verdictRepeat 2 15 15, .verdictSkip 2 15 15,
    .verdictNone 2 15 15, .stepCommit 15, .ringSizeWrite 16 0] : List Instr).all (fun c => c.wf) = true := by decide +kernel

theorem test_wf_accepts_4 : ([
    .dvfsRequest 17 3 0, .dvfsStepDone 17, .voltOvrWrite 17 0, .powerLoop 65535, .currentLimiterCheck 65535, .thermalTrip 37 0, .pmWake 6,
    .paceJobWrite 17 0, .sensorConversion 255 0, .selfTestStart ⟨0, 17, 47, 3, 32⟩, .selfTestEnd ⟨0, 17, 47, 3, 32⟩ ⟨false, [], false, false⟩,
    .blkEnable 2 4095 false, .softReset 2 4095, .softResetDone 4095, .blkFence 2 4095 false, .lockPage 2 4095, .errorClear 2 4095,
    .reg64LoWrite 2 ((2 ^ 24 - 4)) 0, .reg64HiCommit 2 ((2 ^ 24 - 4)) 0, .registerWrite 2 ((2 ^ 24 - 4)) 0, .stackTrain 15 false,
    .powerOnSelfTest [⟨5, 5, 3, 0, 0⟩] false, .stageFailure 7, .trainStepDone 6 0 0 0, .testEntryAckTimeout 5 3, .rcRead 2 ((2 ^ 24 - 4))] : List Instr).all (fun c => c.wf) = true := by decide +kernel

theorem test_hyps_EveryCommandAnswers : (Instr.alu 863).wf = true ∧ (Instr.alu 864).wf = false := by decide

theorem test_hyps_EveryStepKeepsSound :
    Sound (fun _ => 0) State.reset.dev ∧ step { State.reset with pending := [.powerLoss] } = .next { State.reset with dev := powerLoss {} } := by
  refine ⟨⟨rfl, nofun, by decide, by decide, by decide, fun _ => Nat.zero_le _⟩, rfl⟩

theorem test_hyps_ScalarInstructionsStayLocal :
    Instr.nop 863 ∈ [Instr.alu 863, .nop 863] ∧ ∃ d, exec (.nop 863) State.reset = .next { State.reset with dev := d } := ⟨by decide, _, rfl⟩

theorem test_hyps_WindowInstructionsOnlyEnter :
    Instr.tclr 863 ∈ [Instr.tclr 863, .sset 863] ∧ ∃ d, exec (.tclr 863) State.reset = .next { State.reset with dev := d } := ⟨by decide, _, rfl⟩

theorem test_hyps_LiWritesRegister :
    (issues (onCore (coreAt0 (opWord 3 (31 * 2 ^ 49 + 0x800000000000)))) 0 3 = true ∧ fld (opWord 3 (31 * 2 ^ 49 + 0x800000000000)) 57 54 = 0
      ∧ fld (opWord 3 (31 * 2 ^ 49 + 0x800000000000)) 48 48 = 0)
    ∧ (issues (onCore (coreAt0 (opWord 3 (2 ^ 48 + 0xFFFF)))) 0 3 = true ∧ fld (opWord 3 (2 ^ 48 + 0xFFFF)) 47 16 = 0
      ∧ fld (opWord 3 (2 ^ 48 + 0xFFFF)) 48 48 = 1 ∧ cleanRegs (coreAt0 0) [0] = true)
    ∧ (issues (onCore (coreAt0 (opWord 3 (2 ^ 48 + 2 ^ 47)))) 0 3 = true ∧ fld (opWord 3 (2 ^ 48 + 2 ^ 47)) 47 16 ≠ 0) := by decide +kernel

theorem test_hyps_ScalarResults :
    (issues (onCore (coreAt0 (opWord 1))) 0 1 = true ∧ aluOp 0 0 0 = some 0 ∧ cleanRegs (coreAt0 (opWord 1)) [0, 0] = true)
    ∧ (issues (onCore (coreAt0 (opWord 2 (12 * 2 ^ 54 + 0xFFFFFFFF)))) 0 2 = true ∧ aluOp 12 0 (addImm 0 0xFFFFFFFF) = some 1)
    ∧ (issues (onCore (coreAt0 (opWord 9))) 0 9 = true ∧ (csrValue (onCore (coreAt0 (opWord 9))) 0 (coreAt0 (opWord 9)) 0).isSome = true)
    ∧ issues (onCore (coreAt0 (opWord 0xD))) 0 0xD = true := by decide +kernel

theorem test_hyps_ScalarMemoryAccess :
    -- the last word of scalar memory, one byte past it, and an odd address of two bytes
    (issues (onCore (coreAt0 (opWord 4 (3 * 2 ^ 56 + 32760)))) 0 4 = true ∧ addImm 0 32760 % 8 = 0 ∧ addImm 0 32760 + 8 ≤ 32768
      ∧ (coreAt0 (opWord 4 (3 * 2 ^ 56 + 32760))).smem.flaw 32760 8 = 0)
    ∧ (issues (onCore (coreAt0 (opWord 4 32768))) 0 4 = true ∧ 32768 < addImm 0 32768 + 1)
    ∧ (issues (onCore (coreAt0 (opWord 5 (2 ^ 56 + 2)))) 0 5 = true ∧ addImm 0 2 % 2 = 0 ∧ cleanRegs (coreAt0 0) [0, 0] = true)
    ∧ (issues (onCore (coreAt0 (opWord 5 (2 ^ 56 + 1)))) 0 5 = true ∧ addImm 0 1 % 2 ≠ 0)
    -- a reserved bit, a base register that holds poison, and bytes that are poisoned
    ∧ (issues (onCore (coreAt0 (opWord 4 (2 ^ 43)))) 0 4 = true ∧ fld (opWord 4 (2 ^ 43)) 43 32 ≠ 0)
    ∧ (issues (onCore (coreAt0 (opWord 5 (2 ^ 55)))) 0 5 = true ∧ fld (opWord 5 (2 ^ 55)) 55 54 ≠ 0)
    ∧ ([4, 5].all (fun op => let c : Core := { coreAt0 (opWord op (31 * 2 ^ 44)) with xbad := [31] }
        issues (onCore c) 0 op && !cleanRegs c [31] && !cleanRegs c [31, 0]) = true)
    ∧ (let c : Core := { coreAt0 (opWord 4 32767) with smem := ({} : Mem).writeP 32767 [(0, true)] }
      issues (onCore c) 0 4 = true ∧ c.smem.flaw 32767 1 ≠ 0) := by decide +kernel

theorem test_hyps_ScalarJumps :
    (issues (onCore (coreAt0 (opWord 6 (2 ^ 55 + 8)))) 0 6 = true ∧ condOp 1 0 0 = some false)
    ∧ (issues (onCore (coreAt0 (opWord 6 8))) 0 6 = true ∧ condOp 0 0 0 = some true ∧ addImm 0 8 % 8 = 0 ∧ addImm 0 4 % 8 ≠ 0)
    ∧ issues (onCore (coreAt0 (opWord 7 8))) 0 7 = true ∧ issues (onCore (coreAt0 (opWord 8 4))) 0 8 = true
    ∧ cleanRegs (coreAt0 0) [0, 0] = true := by decide +kernel

theorem test_hyps_FenceSafeptEnd :
    issues (onCore (coreAt0 (opWord 0xA))) 0 0xA = true ∧ (coreAt0 (opWord 0xA)).win = [] ∧ (coreAt0 (opWord 0xA)).fl = []
    ∧ (issues (onCore { coreAt0 (opWord 0xA) with win := [default] }) 0 0xA = true ∧ ¬(([default] : List Ins) = []))
    ∧ (issues (onCore (coreAt0 (opWord 0xB))) 0 0xB = true ∧ (coreAt0 (opWord 0xB)).preempt = false)
    ∧ issues (onCore { coreAt0 (opWord 0xB) with preempt := true }) 0 0xB = true
    ∧ issues (onCore (coreAt0 (opWord 0xC))) 0 0xC = true
    ∧ issues (onCore { coreAt0 (opWord 0xC) with fl := [default] }) 0 0xC = true := by decide +kernel

/-- Job 0 owns word 0 of hall 0, and core 0 runs it with x1 = 1. -/
def ownsWord (w : Nat) (x1 : Word := 1) (bad : List Nat := []) : Device :=
  setWord (onCore { coreAt0 w with job := some 0, x := [(1, x1)], xbad := bad }) 0 0 { owner := 0 }

theorem test_hyps_SignalWaits :
    (issues (ownsWord (opWord 0x2A (2 ^ 39))) 0 0x2A = true ∧ wordFault (ownsWord (opWord 0x2A (2 ^ 39))) 0 0 = none
      ∧ (startWait (ownsWord (opWord 0x2A (2 ^ 39))) 0 0 0 1 false).1.seen = false)
    ∧ (issues (ownsWord (opWord 0x2A (2 ^ 38))) 0 0x2A = true ∧ (startWait (ownsWord (opWord 0x2A (2 ^ 38))) 0 0 0 0 true).1.seen = true)
    ∧ (issues (ownsWord (opWord 0x2B (15 * 2 ^ 54))) 0 0x2B = true ∧ fld (opWord 0x2B (15 * 2 ^ 54)) 57 54 ≠ 0)
    ∧ (issues (ownsWord (opWord 0x2C)) 0 0x2C = true ∧ wordHome (ownsWord (opWord 0x2C)) 0 = some (0, 0))
    -- a reserved bit, gate 0, a register that is not clean, a word that the job does not own, and a target past 48 bits
    ∧ ([0x2A, 0x2B, 0x2C].all (fun op => issues (ownsWord (opWord op (2 ^ 37))) 0 op && issues (ownsWord (opWord op)) 0 op) = true ∧ fld (opWord 0x2B) 57 54 = 0)
    ∧ ([0x2A, 0x2B, 0x2C].all (fun op => let w := opWord op ((if op == 0x2B then 2 ^ 54 else 0) + 2 ^ 32)
        issues (ownsWord w 511 [1]) 0 op && !cleanRegs (core (ownsWord w 511 [1]) 0) [1] && !cleanRegs (core (ownsWord w 511 [1]) 0) [0, 1]
        && issues (ownsWord w 511) 0 op && (wordFault (ownsWord w 511) 511 0).isSome) = true)
    ∧ (issues (ownsWord (opWord 0x2A (2 ^ 39)) (2 ^ 48)) 0 0x2A = true ∧ issues (ownsWord (opWord 0x2B (2 ^ 54 + 2 ^ 39)) (2 ^ 48)) 0 0x2B = true
      ∧ xr (core (ownsWord 0 (2 ^ 48)) 0) 1 = 2 ^ 48) := by decide +kernel

theorem test_hyps_TileControlEntersWindow :
    entersWindow (onCore (coreAt0 (opWord 0x11))) 0 0x11 [] 0 0 = true ∧ entersWindow (onCore (coreAt0 (opWord 0x12))) 0 0x12 [] 0 0 = true
    ∧ (entersWindow (onCore (coreAt0 (opWord 0x14 (2 ^ 49 + 2 ^ 47)))) 0 0x14 [] 0 0 = true ∧ fld (opWord 0x14 (2 ^ 49 + 2 ^ 47)) 49 48 = 2)
    ∧ entersWindow (onCore (coreAt0 (opWord 0x15))) 0 0x15 [] 0 0 = true
    ∧ (entersWindow (onCore (coreAt0 (opWord 0x16 (2 ^ 21 + 511 * 2 ^ 12)))) 0 0x16 [] (511 * 64) 64 = true ∧ fld (opWord 0x16 (2 ^ 21 + 511 * 2 ^ 12)) 20 12 = 511)
    ∧ (entersWindow (onCore (coreAt0 (opWord 0x16 (15 * 2 ^ 23)))) 0 0x16 [0] 0 0 = true ∧ fld (opWord 0x16 (15 * 2 ^ 23)) 26 23 = 15) := by decide +kernel

theorem test_hyps_VectorEntersWindow :
    entersWindow (onCore (coreAt0 (opWord 0x18 (5 * 2 ^ 23)))) 0 0x18 [] 0 0 = true ∧ entersWindow (onCore (coreAt0 (opWord 0x19))) 0 0x19 [] 0 0 = true
    ∧ entersWindow (onCore (coreAt0 (opWord 0x1A (5 * 2 ^ 23)))) 0 0x1A [] 0 0 = true ∧ entersWindow (onCore (coreAt0 (opWord 0x1A (6 * 2 ^ 23)))) 0 0x1A [0] 0 0 = true
    ∧ entersWindow (onCore (coreAt0 (opWord 0x1B (3 * 2 ^ 23)))) 0 0x1B [0] 0 0 = true ∧ entersWindow (onCore (coreAt0 (opWord 0x1C))) 0 0x1C [] 0 0 = true
    ∧ entersWindow (onCore (coreAt0 (opWord 0x1D))) 0 0x1D [] 0 0 = true ∧ entersWindow (onCore (coreAt0 (opWord 0x1E))) 0 0x1E [] 0 0 = true
    ∧ entersWindow (onCore (coreAt0 (opWord 0x1F))) 0 0x1F [0] 0 0 = true
    ∧ entersWindow (onCore (coreAt0 (opWord 0x1F (2 ^ 24)))) 0 0x1F [0] 0 (min 512 (32768 - 0)) = true := by decide +kernel

theorem test_hyps_StreamEntersWindow :
    entersWindow (onCore (coreAt0 (opWord 0x20))) 0 0x20 [0] 0 0 = true ∧ entersWindow (onCore (coreAt0 (opWord 0x21))) 0 0x21 [] 0 0 = true
    ∧ entersWindow (onCore (coreAt0 (opWord 0x24 (511 * 2 ^ 49)))) 0 0x24 [0] (511 * 64) 64 = true
    ∧ entersWindow (onCore (coreAt0 (opWord 0x28))) 0 0x28 [0, 0] 0 0 = true ∧ entersWindow (onCore (coreAt0 (opWord 0x29))) 0 0x29 [0, 0] 0 0 = true := by decide +kernel

/-- A window or fired entry of an instruction word. -/
def entryOf (w : Nat) (stage : Nat := 0) : Ins := { (default : Ins) with seq := 1, w := w, stage := stage }

/-- Core 0 runs with one entry in its window, and with one fired instruction. -/
def withWin (e : Ins) : Core := { coreAt0 0 with win := [e] }
def withFired (e : Ins) : Core := { coreAt0 0 with fl := [e] }
/-- A core whose tile 0 has one row of 32 F32 columns. -/
def oneTile (c : Core) : Core := { c with tiles := [(0, ⟨1, 32, 0, 0⟩)] }

theorem test_hyps_EntryFires :
    -- FTINV in the last of 16 places, a vector instruction that passes its check, and an entry whose gate has not been met
    (({ coreAt0 0 with win := List.replicate 15 (entryOf (opWord 0x28)) ++ [entryOf (opWord 0x21)] } : Core).win[15]? = some (entryOf (opWord 0x21))
      ∧ canFire (onCore { coreAt0 0 with win := List.replicate 15 (entryOf (opWord 0x28)) ++ [entryOf (opWord 0x21)] })
        { coreAt0 0 with win := List.replicate 15 (entryOf (opWord 0x28)) ++ [entryOf (opWord 0x21)] } 15 = true)
    ∧ (canFire (onCore (oneTile (withWin (entryOf (opWord 0x18))))) (oneTile (withWin (entryOf (opWord 0x18)))) 0 = true
      ∧ (entryOf (opWord 0x18)).isVec = true ∧ vecCheck (oneTile (coreAt0 0)) (entryOf (opWord 0x18)) = none)
    ∧ canFire (onCore (withWin { entryOf (opWord 0x21) with gate := some ⟨0, 1, false, false, false, false⟩ }))
      (withWin { entryOf (opWord 0x21) with gate := some ⟨0, 1, false, false, false, false⟩ }) 0 = false := by decide +kernel

/-- A core at a TCFG whose table stands at address 0. -/
def tcfgCore (m : Mem) (w : Nat := 0) : Core := { coreAt0 (opWord 0x10 w) with smem := m }

theorem test_hyps_TileConfiguration :
    (issues (onCore (coreAt0 (opWord 0x10))) 0 0x10 = true ∧ ((coreAt0 (opWord 0x10)).smem.get 0).toNat = 0)
    ∧ (issues (onCore (tcfgCore (Mem.ofBytes [1, 1, 0, 0, 0, 0, 0, 0, 0, 0, 1, 0, 32, 0, 0, 0]))) 0 0x10 = true
      ∧ checkTable [] true [shapeEnt [0, 0, 1, 0, 32, 0, 0, 0]] = none ∧ (checkTable [] true [shapeEnt [128, 0, 1, 0, 32, 0, 0, 0]]).isSome = true)
    -- a reserved bit, a register that is not clean, another TCFG, an odd address, and a table past scalar memory
    ∧ (issues (onCore (tcfgCore {} (2 ^ 49))) 0 0x10 = true ∧ issues (onCore { tcfgCore {} (2 ^ 44) with xbad := [1] }) 0 0x10 = true
      ∧ cleanRegs { tcfgCore {} (2 ^ 44) with xbad := [1] } [1] = false ∧ issues (onCore { tcfgCore {} with tcfg := some ⟨0, [], []⟩ }) 0 0x10 = true
      ∧ issues (onCore (tcfgCore {} 4)) 0 0x10 = true ∧ addImm 0 4 % 8 ≠ 0 ∧ addImm 0 32768 % 8 = 0 ∧ 32768 < addImm 0 32768 + 8)
    -- a header with poison, 129 entries, reserved flags, and entries with poison
    ∧ ((({} : Mem).writeP 0 [(0, true)]).flaw 0 8 ≠ 0 ∧ 128 < ((Mem.ofBytes [129]).get 0).toNat ∧ (Mem.ofBytes [129]).flaw 0 8 = 0
      ∧ 1 < ((Mem.ofBytes [1, 2]).get 1).toNat ∧ (Mem.ofBytes [1, 0, 1]).num 2 6 ≠ 0 ∧ ((Mem.ofBytes [1]).writeP 15 [(0, true)]).flaw 8 8 ≠ 0
      ∧ ((Mem.ofBytes [1]).writeP 15 [(0, true)]).flaw 0 8 = 0)
    ∧ (let c : Core := { coreAt0 0 with tcfg := some ⟨1, [], [0]⟩ }
      c.tcfg = some ⟨1, [], [0]⟩ ∧ coreOn (onCore c) 0 = true ∧ tcfgAwaits c = false
        ∧ tcfgAwaits { c with win := [{ entryOf (opWord 0x11) with seq := 0 }] } = true) := by decide +kernel

theorem test_hyps_WeightBanksAndSteering :
    ((withFired (entryOf (opWord 0x14))).fl.find? (fun x => x.op == opWLD && x.stage == 0) = some (entryOf (opWord 0x14))
      ∧ (quarters 0).all (fun q => backState (coreAt0 0).arr q == 0) = true)
    ∧ (withFired (entryOf (opWord 0x14) 1)).fl.find? (fun x => x.op == opWLD && x.stage == 1 && x.mode == 0) = some (entryOf (opWord 0x14) 1)
    ∧ (frontPass { withFired (entryOf (opWord 0x15 (2 ^ 19))) with arr := { back := [(0, 2), (1, 2), (2, 2), (3, 2)] } } 0 = some (entryOf (opWord 0x15 (2 ^ 19)))
      ∧ mmaSwap (entryOf (opWord 0x15 (2 ^ 19))) = true
      ∧ (quarters 0).all (fun q => backState ({ back := [(0, 2), (1, 2), (2, 2), (3, 2)] } : Arr) q == 2) = true)
    ∧ (({ steerPending := true } : Arr).steerPending = true ∧ (coreAt0 0).fl.all (fun e => e.op != opWLD && e.op != opMMA) = true)
    ∧ ({} : Core).clearing = true := by decide +kernel

theorem test_hyps_PassesAndDrains :
    (frontPass (withFired (entryOf (opWord 0x15))) 0 = some (entryOf (opWord 0x15)) ∧ mmaSwap (entryOf (opWord 0x15)) = false
      ∧ passWaits (withFired (entryOf (opWord 0x15))) (entryOf (opWord 0x15)) = false
      ∧ passWaits (withFired (entryOf (opWord 0x15 (2 ^ 19)))) (entryOf (opWord 0x15 (2 ^ 19))) = true)
    -- a drain into a tile, one to a descriptor, and both with an earlier pass of the accumulator
    ∧ ([0, 2 ^ 21].all (fun k => let e := entryOf (opWord 0x16 (15 * 2 ^ 23 + k)); let c := withFired e
        c.fl.find? (fun x => x.isDrain && x.stage == 0) == some e && !drainWaits c e && bit e.w 21 == (k != 0)
        && drainWaits { c with fl := { entryOf (opWord 0x15) with seq := 0 } :: c.fl } e) = true) := by decide +kernel

theorem test_hyps_VectorCompletes :
    coreOn (onCore (withFired (entryOf (opWord 0x18)))) 0 = true ∧ (withFired (entryOf (opWord 0x18))).fl.find? Ins.isVec = some (entryOf (opWord 0x18)) := by
  decide +kernel

/-- Job `j` maps the 2 MiB from address 0 to stack address 0x200000, and `bs` stands there; the mapping gives the peer's permission. -/
def mapped (j : Nat) (bs : List Byte) : Device :=
  setR { ({} : Device) with
    stack := (((({} : Mem).write 0x10000 (toLE 8 0x20001)).write 0x20000 (toLE 8 0x20000F)).write 0x200000 bs) } (devPage 1 + 0x100 + 8 * j) 0x10001
/-- A step gave a value and no fault. -/
def isOk {α β : Type} (x : Except α β) : Bool := match x with
  | .ok _ => true
  | .error _ => false
/-- The smallest program image: one END word. -/
def tinyImage : List Byte :=
  toLE 4 0x47525043 ++ toLE 2 0x100 ++ toLE 2 64 ++ toLE 4 72 ++ toLE 4 64 ++ toLE 4 8 ++ toLE 4 0 ++ toLE 20 0
    ++ toLE 4 (crc32c (toLE 8 (opWord 0xC))) ++ toLE 16 0 ++ toLE 8 (opWord 0xC)

/-- The last of eight transfers is the one that completes. -/
def eight (e : Ins) : Core := { coreAt0 0 with fl := List.replicate 7 (entryOf (opWord 0x24)) ++ [e] }

/-- A core that loads a slot from address 0, where an image of smoothing factor 1 stands. -/
def slotDev : Device := { onCore (withFired (entryOf (opWord 0x20))) with stack := Mem.ofBytes (toLE 4 0 ++ toLE 4 0x3F800000) }

theorem test_hyps_TransferCompletes :
    (((eight (entryOf (opWord 0x24))).fl.filter Ins.isStream)[7]? = some (entryOf (opWord 0x24)) ∧ coreOn (onCore (eight (entryOf (opWord 0x24)))) 0 = true
      ∧ (entryOf (opWord 0x24)).isDrain = false ∧ (entryOf (opWord 0x24)).land = 0)
    ∧ (((withFired (entryOf (opWord 0x20))).fl.filter Ins.isStream)[0]? = some (entryOf (opWord 0x20))
      ∧ (streamRead slotDev 0 [] 0 6208).1.all (fun b => !b.2) = true ∧ slotHeaderOk ((streamRead slotDev 0 [] 0 6208).1.map Prod.fst) = true)
    ∧ ((withFired { entryOf (opWord 0x24) with land := 1 }).fl.filter Ins.isStream)[0]? = some { entryOf (opWord 0x24) with land := 1 }
    -- a drain whose rows are read, a dropped store, and an image with poison in its header, past it, and one that is not valid
    ∧ (((withFired (entryOf (opWord 0x16 (2 ^ 21)) 1)).fl.filter Ins.isStream)[0]? = some (entryOf (opWord 0x16 (2 ^ 21)) 1)
      ∧ (entryOf (opWord 0x16 (2 ^ 21)) 1).isDrain = true ∧ (entryOf (opWord 0x16 (2 ^ 21)) 1).stage ≠ 0)
    ∧ (let img (a : Nat) : List (Byte × Bool) := (streamRead { slotDev with stack := slotDev.stack.writeP a [(0, true)] } 0 [] 0 6208).1
      ((img 63).take 64).any Prod.snd = true ∧ ((img 64).take 64).any Prod.snd = false ∧ (img 64).any Prod.snd = true
        ∧ slotHeaderOk ((img 64).map Prod.fst) = true ∧ slotHeaderOk (List.replicate 6208 0xFF) = false) := by
  decide +kernel

/-- A directory of one record, of one element, and a core of job 15 with a landing transfer to it that awaits its lookup. -/
def landing (n : Nat) : Device :=
  let d := setR (mapped 15 (toLE 4 1 ++ toLE 4 0 ++ toLE 4 1 ++ toLE 4 1 ++ toLE 16 0)) (landWin 15 + 0x18) n
  setCore d 863 { withFired { entryOf (opWord 0x24) with land := 1 } with job := some 15 }

theorem test_hyps_LandingRecords :
    (coreOn (landing 1) 863 = true ∧ ((core (landing 1) 863).fl.filter Ins.isStream)[0]? = some { entryOf (opWord 0x24) with land := 1 }
      ∧ ({ entryOf (opWord 0x24) with land := 1 } : Ins).d.record = 0 ∧ getR (bump (landing 0) (corePage 863 + 0x794) 5) (landWin 15 + 0x18) = 0)
    ∧ (getR (bump (landing 1) (corePage 863 + 0x794) 5) (landWin 15 + 0x18) = 1
      ∧ (match recRead (bump (landing 1) (corePage 863 + 0x794) 5) 863 15 0 0 with
        | .ok (some b, d2) => (recordCheck (landEpoch d2 15) (landRec b) (entryOf (opWord 0x24)).d).isNone
          && (recordCheck (landEpoch d2 15) (landRec (List.replicate 32 0)) (entryOf (opWord 0x24)).d).isSome
        | _ => false) = true
      -- bytes with poison, and a page that does not translate
      ∧ (match recRead { landing 1 with stack := (landing 1).stack.writeP 0x20001F [(0, true)] } 863 15 0 0 with
        | .ok (none, _) => true
        | _ => false) = true
      ∧ isOk (recRead {} 863 15 0 0) = false)
    ∧ ((job (setJob {} 15 { landBusy := true }) 15).landBusy = true ∧ landInFlight (setJob {} 15 { landBusy := true }) 15 = false
      ∧ landEpoch {} 15 = 1 ∧ landEpoch (setR {} (landWin 15 + 0x1C) 0xFFFFFFFF) 15 = 0xFFFFFFFF)
    ∧ ((job (setJob (landing 1) 15 { landBusy := true }) 15).landBusy = true
      ∧ landInFlight (setCore (setJob {} 15 { landBusy := true }) 863 { withFired { entryOf (opWord 0x24) with desc := [3] } with job := some 15 }) 15 = true) := by
  decide +kernel

/-- A core of job 0 that ended, its job being preempted with a record of 0x840 bytes for each core. -/
def preempting : Device :=
  setJob (setCore (mapped 0 tinyImage) 0 { coreAt0 0 with st := .atEnd, job := some 0 }) 0 { st := 4, desc := toLE 40 0 ++ toLE 4 0x840 }
/-- The tables of `mapped`, at address 0 the smallest image, and at address 128 the record of that core: its header and its 128 tiles. -/
def savedStack : Mem := { cells :=
  [(0x10000, 0x01), (0x10002, 0x02), (0x20000, 0x0F), (0x20002, 0x20),
   (0x200000, 0x43), (0x200001, 0x50), (0x200002, 0x52), (0x200003, 0x47), (0x200005, 0x01), (0x200006, 0x40), (0x200008, 0x48), (0x20000C, 0x40),
   (0x200010, 0x08), (0x20002C, 0x3B), (0x20002D, 0xFB), (0x20002E, 0xCB), (0x20002F, 0xBC), (0x200047, 0x30),
   (0x200080, 0x43), (0x200081, 0x43), (0x200082, 0x54), (0x200083, 0x58), (0x200085, 0x01), (0x200086, 0x40), (0x200088, 0x40), (0x200089, 0x08),
   (0x200095, 0x04)] ++ (List.range 127).map (fun i => (0x2004C8 + 8 * i, BitVec.ofNat 8 (i + 1))) }
def saved : Device :=
  setR { onCore { coreAt0 0 with st := .atEnd, job := some 0 } with stack := savedStack } (devPage 1 + 0x100) 0x10001

set_option maxRecDepth 100000 in
theorem test_hyps_CoreContexts :
    ((core preempting 0).job = some 0 ∧ quietRec (core preempting 0) = true ∧ (job preempting 0).st = 4 ∧ (core preempting 0).saved = false
      ∧ (core preempting 0).st = .atEnd
      ∧ (let c1 : Core := { core preempting 0 with stop := 1 }; let d1 := setCore preempting 0 c1
        recordLen c1 ≤ ctxStride d1 0 ∧ isOk (unitWrite d1 0 (ctxRegion d1 0) (ctxRecord d1 0) 0) = true
          ∧ isOk (unitWrite { d1 with regs := [] } 0 (ctxRegion d1 0) (ctxRecord d1 0) 0) = false
          ∧ ctxStride (setJob d1 0 { job d1 0 with desc := toLE 40 0 ++ toLE 4 0x800 }) 0 < recordLen c1))
    ∧ (quietCtx (core saved 0) = true ∧ (core saved 0).st = .atEnd
      ∧ isOk (restoreCore saved 0 0 (core saved 0).imgAddr 128 0x840) = true ∧ isOk (restoreCore saved 0 0 (core saved 0).imgAddr 64 0x840) = false) := by
  decide +kernel

theorem test_hyps_SignalStore :
    ((sigStore (setSig {} 17 { ops := [.set 511 5] }) 17).ops = [.set 511 5] ∧ (sigStore (setSig {} 17 { ops := [.set 511 5] }) 17).mons = [])
    ∧ (backed {} 15 = true ∧ (sigStore {} 15).ops = [] ∧ (sigStore {} 15).mons = [])
    ∧ ((core (onCore { coreAt0 0 with st := .swait, swait := some { word := 8191, target := 0, mon := false, seen := false } }) 0).swait
        = some { word := 8191, target := 0, mon := false, seen := false }
      ∧ wordHome {} 8191 = some (15, 511) ∧ (sigStore {} 15).ops = [] ∧ (sigWord {} 15 511).count = 0 ∧ backed {} 17 = false)
    ∧ (core (onCore { coreAt0 0 with gates := [(15, { word := 8191, target := 1, mon := false, seen := false })] }) 0).gates
        = [(15, { word := 8191, target := 1, mon := false, seen := false })] := by decide +kernel

/-- A module whose stack of a number is fenced. -/
def stackless (k : Nat) : Device := { ({} : Device) with plan := { ({} : Plan) with maps := { outStacks := [k] } } }

theorem test_hyps_StackCommands :
    (fenced {} (2 ^ 39 - 64) = false ∧ fenced {} (2 ^ 39 - 1) = false ∧ (List.range 16).any (fun k => fenced (stackless k) 0) = true)
    ∧ (stackRead { ({} : Device) with stack := ({} : Mem).writeP 0 [(0, true)] } 0 1).1.any Prod.snd = true
    ∧ fld (getR {} (scPage 15 + 0x100)) 3 3 = 0 ∧ fld (getR (setR {} (scPage 15 + 0x100) 8) (scPage 15 + 0x100)) 3 3 = 1 := by decide +kernel

theorem test_hyps_InvalidationsAndRunAhead :
    ({} : Device).xinv = none
    ∧ xinvUsed { xinv := some ⟨true, false, 0, 0, 0⟩ } ⟨true, false, 0, 0, 0⟩ = false
    ∧ xinvUsed { xinv := some ⟨true, false, 0, 0, 0⟩, cores := [(0, { job := some 0, fl := [{ (default : Ins) with pages := [(0, 0)] }] })] }
        ⟨true, false, 0, 0, 0⟩ = true
    ∧ (let q : RaDesc := { index := 0, last := 0x80, prev := some 0x40, ranges := [] }
      let c : Core := { coreAt0 0 with job := some 0, ra := [q, { q with prev := none }] }
      let d := setR (onCore c) (hmemPage 0 + 0x200 + 4) (2 ^ 9)
      (core d 0).ra[0]? = some q ∧ coreOn d 0 = true ∧ raUnits d (0 / 48) 0 = 1 ∧ (core d 0).ra[1]? = some { q with prev := none }
        ∧ raUnits (onCore c) (0 / 48) 0 = 0) := by decide +kernel

/-- A packet of `h` that comes as the first DATA block of the last link of port 5, which is active. -/
def rxOf (h : Nat) (payload : List Byte := []) : Rx := ⟨5, 3, 0, BitVec.ofNat 128 h, payload⟩
def linked (d : Device) : Device := setLink d 5 3 { st := 0 }

theorem test_hyps_HarlonReception :
    -- a WRITE of 512 bytes that ends at a 4 KiB boundary
    (accepts (linked (mapped 0 [])) (rxOf (mkHdr 1 3 0 512 0 3584)) 1 = true ∧ hLen (mkHdr 1 3 0 512 0 3584) = 512
      ∧ isOk (translate (arrived (linked (mapped 0 [])) (rxOf (mkHdr 1 3 0 512 0 3584))) noHall 0 true true (pagesOf 3584 512)) = true)
    ∧ isOk (translate (arrived (linked {}) (rxOf (mkHdr 1 3 0 512 0 3584))) noHall 0 true true (pagesOf 3584 512)) = false
    ∧ (blockNext (link {} 5 3) 0 = false ∧ blockNext (link (linked {}) 5 3) 3 = false ∧ (rxOf 0).wf = true ∧ (rxOf 0).hdr.toNat = 0)
    ∧ accepts (linked {}) (rxOf (mkHdr 4 0 0 0 0 7)) 4 = true ∧ accepts (linked {}) (rxOf (mkHdr 2 3 15 0 8191 1)) 2 = true
    ∧ (let d := setPort {} 5 { ready := [⟨3, 0, 0, 0, 1⟩] }
      lfind (fun k => k.cls == 3) (port d 5).ready = some 0 ∧ (port d 5).ready[0]? = some ⟨3, 0, 0, 0, 1⟩) := by decide +kernel

theorem test_hyps_LinkLayer :
    -- an acknowledgement of the last of 4,096 blocks on the Foyer link, and one of a port's link that asks for a replay
    ([(6, 0, 0), (5, 3, 2 ^ 76)].all (fun x =>
      let d := setLink {} x.1 x.2.1 { st := 0, unacked := [⟨⟨0, 4095, 0, []⟩, []⟩] }
      let h := 5 + 4095 * 2 ^ 64 + 2 ^ 77 + x.2.2
      (link d x.1 x.2.1).st == 0 && hType h == 5 && !badHeader h && fld h 39 34 == 0 && bit h 77 && bit h 76 == (x.2.2 != 0)
        && !(link d x.1 x.2.1).draining && (link d x.1 x.2.1).nakRun < 7
        && (link d x.1 x.2.1).unacked.any (fun b => b.block.seq == fld h 75 64) && (link d x.1 x.2.1).unacked != []) = true)
    ∧ ((link (linked {}) 5 3).st = 0 ∧ (link {} 5 3).st ≠ 0 ∧ (link {} 5 3).unacked = [])
    ∧ (let d := setPort (setLink {} 5 3 { st := 0, credit := [(0, 2)] }) 5 { again := [⟨1, [], 0⟩] }
      againReady d 5 = some (⟨1, [], 0⟩, 3))
    ∧ (let d := setPort (setLink {} 5 3 { st := 0, credit := [(3, 2)] }) 5 { q := [⟨2 + 3 * 2 ^ 4, [], 0⟩] }
      againReady d 5 = none ∧ unackedCount d 5 < 32768
      ∧ ([1, 2, 3, 4].map (fun i => ((port d 5).rr + i) % 4)).findSome? (fun c => (classReady d 5 c).map (fun r => (c, r)))
        = some (3, ⟨2 + 3 * 2 ^ 4, [], 0⟩, 3)
      ∧ againReady {} 5 = none ∧ ([1, 2, 3, 4].map (fun i => ((port {} 5).rr + i) % 4)).findSome? (fun c => (classReady {} 5 c).map (fun r => (c, r))) = none)
    ∧ (let d := setLink {} 6 0 { st := 0, laneLock := 8 }
      (link d 6 0).st = 0 ∧ fld (link d 6 0).laneLock 3 3 = 1) := by decide +kernel

/-- A TRAIN block of the peer of the Foyer link, or of a port's link, with FLAGS. -/
def trainBlock (p flags : Nat) : List Byte :=
  toLE 4 0x4E524C48 ++ toLE 2 0x100 ++ toLE 1 (if p == 6 then 7 else p) ++ toLE 9 0 ++ toLE 1 0 ++ toLE 1 flags ++ toLE 2 0
    ++ toLE 2 2048 ++ toLE 2 2048 ++ toLE 2 2048 ++ toLE 2 2048 ++ toLE 612 0

theorem test_hyps_LinkTrainingAndTests :
    ((link (setLink {} 6 0 { st := 5, step := 1 }) 6 0).st = 5 ∧ (link (setLink {} 6 0 { st := 5, step := 1 }) 6 0).step = 1
      ∧ (link (setLink {} 6 0 { st := 5, step := 1 }) 6 0).fails < 2)
    ∧ ((link (setLink {} 5 3 { st := 5, step := 2 }) 5 3).step = 2 ∧ (link (setLink {} 5 3 { st := 5, step := 3 }) 5 3).step = 3
      ∧ (link (setLink {} 5 3 { st := 5, step := 4 }) 5 3).step = 4)
    ∧ ((trainBlock 6 2).length = 640 ∧ trainValid 6 (trainBlock 6 2) = true ∧ bit (leAt (trainBlock 6 2) 0x11 1) 1 = true)
    ∧ ((trainBlock 5 0).length = 640 ∧ trainValid 5 (trainBlock 5 0) = true ∧ bit (leAt (trainBlock 5 0) 0x11 1) 1 = false)
    -- a peer's test request, its answer, and a block that is not valid
    ∧ ([4, 8].all (fun f => (trainBlock 5 f).length == 640 && trainValid 5 (trainBlock 5 f)
        && bit (leAt (trainBlock 5 f) 0x11 1) 2 == (f == 4) && bit (leAt (trainBlock 5 f) 0x11 1) 3 == (f == 8)) = true
      ∧ trainValid 5 (List.replicate 640 0) = false ∧ bit (getR {} (portPage 5 + 0x104)) 1 = true
      ∧ bit (getR (setR {} (portPage 5 + 0x104) 1) (portPage 5 + 0x104)) 1 = false)
    -- the third failure of a step, on a port's link and on the Foyer link
    ∧ (autoRetrain {} 6 = true ∧ autoRetrain (setR {} (foyPage + 0x104) 0) 6 = false ∧ (link (setLink {} 6 0 { st := 5, fails := 2 }) 6 0).fails = 2)
    ∧ (linkOn (setHdr {} (linkPage 5 3 / 0x1000) { enable := false }) 5 3 = false
      ∧ porterTest { tests := [{ unit := unitLink 5 3, running := true }] } 5 3 = true ∧ porterTest {} 5 3 = false)
    ∧ ((link {} 5 3).st = 6 ∧ linkFenced {} 5 3 = false ∧ linkOn {} 5 3 = true ∧ linkFenced {} 6 0 = false ∧ linkOn {} 6 0 = true)
    -- not the last active link, the last one, an entry that drains, and a test in progress
    ∧ (activeLinks {} 5 ≠ [3] ∧ (link {} 5 3).draining = false)
    ∧ ((link (linked {}) 5 3).st ≠ 4 ∧ activeLinks (linked {}) 5 = [3])
    ∧ (link (setLink {} 5 3 { draining := true }) 5 3).draining = true
    ∧ (let d := setR (setLink {} 5 3 { st := 4 }) (linkPage 5 3 + 0x104) 2
      (link d 5 3).st = 4 ∧ (link d 5 3).testRun = false ∧ fld (getR d (linkPage 5 3 + 0x104)) 1 1 = 1
      ∧ linkFenced d 5 3 = false ∧ linkOn d 5 3 = true) := by decide +kernel

/-- An Arcade descriptor: job, RJID, ports, flags, ring, position, DEADLINE, buckets and the address of the table. -/
def arcDesc (j r ports flags ring pos deadline nb table : Nat) : List Byte :=
  toLE 4 0x58435241 ++ toLE 2 0x100 ++ toLE 1 j ++ toLE 1 r ++ toLE 1 ports ++ toLE 1 flags ++ toLE 2 ring ++ toLE 2 pos ++ toLE 2 0
    ++ toLE 4 0x3F800000 ++ toLE 4 deadline ++ toLE 2 nb ++ toLE 6 0 ++ toLE 8 table ++ toLE 24 0
/-- A bucket of `n` blocks in one part. -/
def bucketEnt (n : Nat) : List Byte := toLE 4 n ++ toLE 1 0 ++ toLE 1 1 ++ toLE 6 0 ++ toLE 4 n ++ toLE 48 0
/-- An active context of job 0 between port 5 and itself, with one bucket of two blocks. -/
def arcCtx (flags ring deadline : Nat) (k : Bkt) : Ctx :=
  { desc := arcDesc 0 63 0x55 flags ring (ring - 1) deadline 1 64, table := [bucketEnt 2], inPort := 5, outPort := 5, active := true, bkts := [(0, k)] }

theorem test_hyps_ArcadeContexts :
    (let d := setR (setJob (linked (mapped 15 (arcDesc 15 63 0x55 0 256 255 0 1 64 ++ bucketEnt 0))) 15 { st := 2 }) (arcPage 5 + 0x104) 0;
      (match unitRead d 15 (get64 d (arcPage 5 + 0x104)) 64 0xFFFF with
        | .ok (bs, d1) => bs.all (fun b => !b.2) && (ctxLoadCheck d1 5 63 15 (bs.map Prod.fst)).isNone
          && isOk (readTable d1 15 (leAt (bs.map Prod.fst) 0x20 8) (leAt (bs.map Prod.fst) 0x18 2))
        | .error _ => false) = true)
    ∧ ((ctxOf (setCtx {} 63 { inPort := 5 }) 63).isSome = true ∧ (ctxOf (setCtx {} 63 { inPort := 5, active := true }) 63).map Ctx.active = some true)
    -- a descriptor that does not translate, one with poison, one that fails a check, and a table that does not read
    ∧ (isOk (unitRead {} 15 0 64 0xFFFF) = false ∧ isOk (readTable (mapped 15 []) 15 0x200000 1) = false
      ∧ (match unitRead { mapped 15 [] with stack := (mapped 15 []).stack.writeP 0x20003F [(0, true)] } 15 0 64 0xFFFF with
        | .ok (bs, _) => bs.any Prod.snd
        | .error _ => false) = true
      ∧ (ctxLoadCheck {} 5 63 15 (List.replicate 64 0)).isSome = true) := by decide +kernel

/-- The module with that context at RJID 63, and a REDUCE packet for it. -/
def withCtx (d : Device) (c : Ctx) : Device := setCtx (linked d) 63 c
def redRx (kind nblk n : Nat) : Rx := rxOf (mkHdr 3 0 0 n (63 + kind * 64 + nblk * 256) 0) (toLE n 0)

theorem test_hyps_ReduceReception :
    ([redRx 0 1 34, redRx 1 1 129, redRx 2 0 16, redRx 3 0 0].all (fun x =>
      let d := withCtx {} (arcCtx 0 2 0 {})
      accepts d x 3 && lenOk x && ctxFor (arrived d x) 5 x.hdr.toNat == some (arcCtx 0 2 0 {}) && !reduceBad d 5 x.hdr.toNat x.payload
        && rStep x.hdr.toNat == 0 && rAttempt x.hdr.toNat == 0) = true)
    ∧ [redRx 0 1 34, redRx 1 1 129, redRx 2 0 16, redRx 3 0 0].map (fun x => rKind x.hdr.toNat) = [0, 1, 2, 3]
    ∧ rBucket (redRx 3 0 0).hdr.toNat < (arcCtx 0 2 0 {}).nb
    -- no context, a context of another step, one that has ended, and one that is not yet active
    ∧ (ctxFor (arrived (linked {}) (redRx 3 0 0)) 5 (redRx 3 0 0).hdr.toNat = none ∧ reduceBad (linked {}) 5 (redRx 3 0 0).hdr.toNat [] = false
      ∧ ([{ arcCtx 0 2 0 {} with step := 1 }, { arcCtx 0 2 0 {} with active := false, was := true },
          { arcCtx 0 2 0 {} with active := false }].all (fun c => let d := withCtx {} c
        accepts d (redRx 3 0 0) 3 && ctxFor (arrived d (redRx 3 0 0)) 5 (redRx 3 0 0).hdr.toNat == some c
          && !reduceBad d 5 (redRx 3 0 0).hdr.toNat []) = true)) := by decide +kernel

theorem test_hyps_ArcadeSteps :
    (ctxOf (withCtx (mapped 0 []) (arcCtx 0 2 0 {})) 63 = some (arcCtx 0 2 0 {}) ∧ (arcCtx 0 2 0 {}).nb = 1
      ∧ reached (withCtx (mapped 0 []) (arcCtx 0 2 0 {})) (eReadySig (bucketEnt 2)) (eTarget (bucketEnt 2)) = true
      ∧ isOk (readTable (withCtx (mapped 0 []) (arcCtx 0 2 0 {})) 0 64 1) = true
      ∧ isOk (readTable (withCtx {} (arcCtx 0 2 0 {})) 0 64 1) = false)
    -- a chain in its turn, one whose turn is another's, and one of a context alone in its ring
    ∧ (let c := arcCtx 0 2 0 { ready := true }
      chainTodo c 0 = [0] ∧ inTurn (withCtx (mapped 0 []) c) 63 c = true ∧ inTurn (setCtx (withCtx {} c) 0 c) 63 c = false
      ∧ packBlks false 16 (startBlocks (withCtx (mapped 0 []) c) 63 0 [0]).2 ≠ []
      ∧ chainTodo (arcCtx 0 1 0 { ready := true }) 0 = [0, 1] ∧ inTurn {} 63 (arcCtx 0 1 0 { ready := true }) = true
      ∧ packBlks false 16 (startBlocks (withCtx (mapped 0 []) (arcCtx 0 1 0 { ready := true })) 63 0 [0, 1]).2 = [])
    ∧ ((arcCtx 0 2 7 {}).deadlineMode = false ∧ (arcCtx 0 2 7 {}).deadline = 7 ∧ waitsReady (arcCtx 0 2 7 { outq := [⟨3, [], 0⟩] }) 0 = true
      ∧ waitsPartial (arcCtx 0 2 7 { ready := true, readyTx := true }) 0 = true
      ∧ waitsCredit (setPort {} 5 { q := [⟨(redRx 3 0 0).hdr.toNat, [], 0⟩] }) 63 (arcCtx 0 2 7 {}) (fun h => rKind h != 2 && rBucket h == 0) = true
      ∧ waitsCredit (setPort {} 5 { q := [⟨(redRx 2 0 16).hdr.toNat, [], 0⟩] }) 63 (arcCtx 0 2 7 {}) (fun h => rKind h == 2) = true
      ∧ waitsGather { arcCtx 0 2 7 {} with normDone := true } 0 = true
      ∧ waitsNorm { arcCtx 0 2 7 {} with normSent := true } = true)
    ∧ ((arcCtx 4 2 7 {}).deadlineMode = true ∧ waitsReady (arcCtx 4 2 7 { outq := [⟨3, [], 0⟩] }) 0 = true
      ∧ waitsPartial (arcCtx 4 2 7 { ready := true, readyTx := true }) 0 = true
      ∧ (ownBlocks (arcCtx 4 2 7 { closed := true }) (bucketEnt 2)).filter (fun i => !([] : List Nat).contains i) ≠ [])
    ∧ (let c := arcCtx 0 2 0 { closed := true, marked := [1] }
      normTodo c = true ∧ inTurn (withCtx {} c) 63 c = true ∧ inTurn (setCtx (withCtx {} c) 0 c) 63 c = false ∧ normTodo (arcCtx 0 2 0 {}) = false)
    ∧ (let c := { arcCtx 0 2 0 {} with normDone := true }
      let d := setWord (withCtx (mapped 0 []) c) 0 0 { count := 1 }
      gatherTodo d c 0 = true ∧ gatherTodo (withCtx {} c) c 0 = false ∧ inTurn d 63 c = true ∧ inTurn (setCtx d 0 c) 63 c = false
      ∧ gatherTodo d { arcCtx 0 1 0 {} with normDone := true } 0 = true
      ∧ ((ownBlocks c (c.entry 0)).drop 0).take 3 = [1] ∧ ((ownBlocks c (c.entry 0)).drop 1).take 3 = []
      ∧ (match unitRead d 0 (1 * 32 * c.wBytes) (1 * 32 * c.wBytes) 0xFFFF with
        | .ok (_, d1) => isOk (unitRead d1 0 1 1 0xFFFF)
        | .error _ => false) = true
      ∧ isOk (unitRead (setWord (withCtx {} c) 0 0 { count := 1 }) 0 (1 * 32 * c.wBytes) (1 * 32 * c.wBytes) 0xFFFF) = false) := by decide +kernel

/-- An update descriptor without parameters and a coefficient set. -/
def updDesc (j : Nat) : List Byte :=
  toLE 4 0x58445055 ++ toLE 2 0x100 ++ toLE 1 j ++ toLE 1 63 ++ toLE 4 0 ++ toLE 4 1 ++ toLE 8 0 ++ toLE 8 64 ++ toLE 32 0
    ++ toLE 44 0 ++ toLE 4 0x3F800000 ++ toLE 4 0 ++ toLE 4 0x3F800000 ++ toLE 24 0
/-- Job 0 with an update context and a context whose bucket is reduced. -/
def updating (phase : Nat) (u : UCtx) : Device :=
  setUctx (setJob (withCtx (mapped 0 []) (arcCtx 0 2 0 { done := true })) 0 { st := 2, phase := phase, kept := true }) 0 { u with desc := updDesc 0 }

theorem test_hyps_UpdateEngine :
    (let d := setCtx (mapped 15 (updDesc 15)) 63 { job := 15 };
      (match uread d 15 (get64 d (updWin 15)) 64 with
        | .ok (b, d1) => !uctxBad b && leAt b 6 1 == 15 && (match (ctxOf d1 { desc := b : UCtx }.rjid).filter (fun c => c.job == 15) with
          | some c => (match ulatch d1 15 c { desc := b } with
            | .ok (u, d2) => !statsShort d2 15 c u
            | .error _ => false)
          | none => false)
        | .error _ => false) = true)
    ∧ (bucketDone (updating 1 {}) 0 0).isSome = true ∧ 0 ∉ ({} : UCtx).stats
    ∧ ((job (updating 4 {}) 0).phase = 4 ∧ (job (updating 4 {}) 0).taint = 0 ∧ ckptHolds (job (updating 4 {}) 0) = false
      ∧ (match normsAgree (updating 4 {}) (job (updating 4 {}) 0) (ctxsOf (updating 4 {}) 0) with
        | some d1 => ((ctxOf d1 63).bind (fun c => normAgrees d1 c (job (updating 4 {}) 0))).isSome && (uctxOf d1 0).isSome
        | none => false) = true)
    ∧ (15 ∈ engines (updating 1 {}) ∧ (uctxOf (updating 1 {}) 0).map (fun u => tkeys u.etas) = some []
      ∧ getR (setR (updating 1 {}) (updWin 0 + 0x14) 0) (updWin 0 + 0x10 + 4) = (job (updating 1 {}) 0).step
      ∧ (ofF32 (getR (updating 1 {}) (updWin 0 + 0x10))).isFinite = true)
    ∧ ((bucketDone (updating 5 { stats := [0] }) 0 0).map (fun x => slabs (updating 5 { stats := [0] }) x.2 x.1 0) = some []
      ∧ (uctxOf (updating 5 { stats := [0] }) 0).map UCtx.next = some 0) := by decide +kernel

/-- What UCTX_LOAD finds in a module: 1 a read that faults, 2 a bad descriptor, 3 no context of the job, 4 a bad table, 5 too small a STATS partition,
6 none of these. -/
def uctxFinds (d : Device) : Nat := match uread d 15 (get64 d (updWin 15)) 64 with
  | .error _ => 1
  | .ok (b, d1) => if uctxBad b then 2 else match (ctxOf d1 { desc := b : UCtx }.rjid).filter (fun c => c.job == 15) with
    | none => 3
    | some c => match ulatch d1 15 c { desc := b } with
      | .error _ => 4
      | .ok (u, d2) => if statsShort d2 15 c u then 5 else 6
/-- The same descriptor with a factored parameter of one row. -/
def facDesc : List Byte :=
  ((updDesc 15).take 8) ++ toLE 4 1 ++ toLE 4 1 ++ toLE 8 192 ++ ((updDesc 15).drop 24).take 40 ++ toLE 4 2 ++ (updDesc 15).drop 68 ++ toLE 48 0
    ++ toLE 12 0 ++ toLE 4 1 ++ toLE 4 32 ++ toLE 44 0

theorem test_cases_UpdateEngine :
    [{}, mapped 15 (toLE 64 0), mapped 15 (updDesc 15), setCtx (mapped 15 ((updDesc 15).take 64)) 63 { job := 15 },
      setCtx (mapped 15 facDesc) 63 { (arcCtx 0 1 0 {}) with job := 15 }].map uctxFinds = [1, 2, 3, 4, 5]
    ∧ ((job {} 15).phase = 0 ∧ (job (updating 4 {}) 0).phase ≠ 0 ∧ (bucketDone {} 15 255).isNone = true)
    ∧ (bucketDone (updating 5 { stats := [0] }) 0 0).any (fun x => x.1.stats.contains 0 && x.1.next == 0) = true
    ∧ ((normsAgree (updating 4 {}) { st := 2, phase := 4, step := 1 } (ctxsOf (updating 4 {}) 0)).isNone = true
      ∧ (uctxOf (setJob {} 15 { st := 4, phase := 4, kept := true }) 15).isNone = true
      ∧ (normsAgree (setJob {} 15 { st := 4, phase := 4, kept := true }) { st := 4, phase := 4, kept := true } (ctxsOf {} 15)).isSome = true)
    ∧ (let d := setUctx (setJob (withCtx (mapped 0 []) (arcCtx 0 1 0 {})) 1 { st := 2, phase := 4, kept := true, step := 1 }) 1 { desc := updDesc 1 };
      (normsAgree d (job d 1) (ctxsOf d 1)).isSome = true ∧ ((ctxOf d 63).bind (fun c => normAgrees d c (job d 1))).isNone = true)
    ∧ (17 ∉ engines (updating 1 {}) ∧ (ofF32 (getR (setR (updating 1 {}) (updWin 0 + 0x10) 0x7F800000) (updWin 0 + 0x10))).isFinite = false)
    ∧ (bucketDone (updating 1 {}) 0 0).isSome = true ∧ (job (updating 1 {}) 0).phase ≠ 5 := by decide +kernel

/-- The module runs and accepts commands. -/
def ready (d : Device) : Device := { d with boot := { d.boot with running := true, accepting := true } }
/-- The Foyer link of a running module is active. -/
def foyerUp (d : Device) : Device := setLink (ready d) 6 0 { st := 0 }

theorem test_hyps_FoyerPackets :
    (let hd (type space len addr : Nat) : BitVec 128 := BitVec.ofNat 128 (mkFoyer type 0 0 len space 0 addr)
     let at_ (space len addr : Nat) := foyerArrived (foyerUp (setR (mapped 0 []) (foyPage + 0x104) 2)) (hd 1 space len addr) len
     -- registers to the last word of the window, the last bytes of the stacks and of a job's memory, and one byte past each
     [hd 1 0 4 (cfgBase + 0xFFFFFC), hd 1 2 512 (2 ^ 39 - 512), hd 1 1 512 3584, hd 1 1 512 (2 ^ 48 - 511)].all (fun h =>
       foyerAccepts (foyerUp (setR (mapped 0 []) (foyPage + 0x104) 2)) 1 h (hLen h.toNat) || 4096 < fAddr h.toNat % 4096 + hLen h.toNat) = true
     ∧ space0Ok (at_ 0 4 (cfgBase + 0xFFFFFC)) true 0 (cfgBase + 0xFFFFFC) 4 = true ∧ spaceOk (at_ 2 512 (2 ^ 39 - 512)) 2 (2 ^ 39 - 512) 512 = true
     ∧ spaceOk (at_ 1 512 3584) 1 3584 512 = true ∧ isOk (unitWrite (at_ 1 512 3584) 0 3584 (List.replicate 512 (0, false)) 0xFFFF) = true
     ∧ foyerAccepts (foyerUp {}) 1 (hd 1 2 1 (2 ^ 39)) 1 = true ∧ spaceOk (foyerArrived (foyerUp {}) (hd 1 2 1 (2 ^ 39)) 1) 2 (2 ^ 39) 1 = false
     ∧ foyerAccepts (foyerUp {}) 2 (hd 2 2 1 (2 ^ 39)) 0 = true ∧ spaceOk (foyerArrived (foyerUp {}) (hd 2 2 1 (2 ^ 39)) 0) 2 (2 ^ 39) 1 = false
     ∧ foyerAccepts (foyerUp {}) 2 (hd 2 0 4 cfgBase) 0 = true ∧ space0Ok (foyerArrived (foyerUp {}) (hd 2 0 4 cfgBase) 0) false 0 cfgBase 4 = true
     ∧ foyerAccepts (foyerUp (mapped 0 [])) 2 (hd 2 1 512 0) 0 = true
     ∧ isOk (unitRead (foyerArrived (foyerUp (mapped 0 [])) (hd 2 1 512 0) 0) 0 0 512 0xFFFF) = true)
    ∧ (let r : FoyRd := ⟨1, 0, 7, 0, 0, 64⟩
      let d := setJob (foyerUp { rdOut := [(4095, r)] }) 0 { cur := some ⟨7, 1, 0, 1, 0, 2, 64, {}⟩ }
      let h := BitVec.ofNat 128 (mkFoyer 3 1 0 64 3 4095 0)
      foyerAccepts d 3 h 64 = true ∧ (foyerArrived d h 64).rdOut.find? (fun e => e.1 == fTag h.toNat) = some (4095, r) ∧ fld h.toNat 71 64 = 0
        ∧ (stepOf (foyerArrived d h 64) 0 7).map StepReq.batch = some 2) := by decide +kernel

theorem test_cases_FoyerPackets :
    (let hd (type space len addr : Nat) : BitVec 128 := BitVec.ofNat 128 (mkFoyer type 0 0 len space 0 addr)
     let up := foyerUp {}
     (link {} 6 0).st ≠ 0 ∧ (link up 6 0).st = 0 ∧ hType (hd 5 0 0 0).toNat = 5
     -- a TYPE that is none, and packets whose LEN is not their payload's
     ∧ hType (hd 4 0 4 0).toNat ∉ [1, 2, 3, 5] ∧ foyerBad (hd 4 0 4 0).toNat = true ∧ foyerBad (hd 1 0 513 0).toNat = true
     ∧ foyerBad (hd 2 0 0 0).toNat = true ∧ foyerBad (hd 3 0 513 0).toNat = true ∧ hLen (hd 1 0 8 0).toNat ≠ 4
     -- each space refused, at an address past its end or without a translation
     ∧ foyerAccepts up 1 (hd 1 0 4 (cfgBase + 2 ^ 24)) 4 = true ∧ space0Ok (foyerArrived up (hd 1 0 4 (cfgBase + 2 ^ 24)) 4) true 0 (cfgBase + 2 ^ 24) 4 = false
     ∧ foyerAccepts up 2 (hd 2 0 2 cfgBase) 0 = true ∧ space0Ok (foyerArrived up (hd 2 0 2 cfgBase) 0) false 0 cfgBase 2 = false
     ∧ foyerAccepts up 1 (hd 1 1 4 0) 4 = true ∧ spaceOk (foyerArrived up (hd 1 1 4 0) 4) 1 0 4 = true
     ∧ isOk (unitWrite (foyerArrived up (hd 1 1 4 0) 4) 0 0 (List.replicate 4 (0, false)) 0xFFFF) = false
     ∧ foyerAccepts up 2 (hd 2 1 4 0) 0 = true ∧ isOk (unitRead (foyerArrived up (hd 2 1 4 0) 0) 0 0 4 0xFFFF) = false
     ∧ spaceOk (foyerArrived up (hd 1 1 512 (2 ^ 48 - 511)) 512) 1 (2 ^ 48 - 511) 512 = false)
    ∧ (let h := BitVec.ofNat 128 (mkFoyer 3 1 0 64 3 4095 0)
      let held (r : FoyRd) (x : Job) := foyerArrived (setJob (foyerUp { rdOut := [(4095, r)] }) 0 x) h 64
      let req (r : FoyRd) := (held r {}).rdOut.find? (fun e => e.1 == fTag h.toNat)
      foyerAccepts (foyerUp {}) 3 h 64 = true ∧ (foyerArrived (foyerUp {}) h 64).rdOut.find? (fun e => e.1 == fTag h.toNat) = none
      ∧ req ⟨1, 0, 7, 0, 0, 32⟩ = some (4095, ⟨1, 0, 7, 0, 0, 32⟩) ∧ req ⟨1, 16, 7, 0, 0, 64⟩ = some (4095, ⟨1, 16, 7, 0, 0, 64⟩)
      ∧ req ⟨2, 15, 7, 0, 0, 64⟩ = some (4095, ⟨2, 15, 7, 0, 0, 64⟩) ∧ stepOf (held ⟨1, 0, 7, 0, 0, 64⟩ {}) 0 7 = none
      ∧ (stepOf (held ⟨1, 0, 7, 0, 0, 64⟩ { cur := some ⟨7, 1, 0, 1, 0, 1, 64, {}⟩ }) 0 7).map StepReq.batch = some 1
      ∧ (stepOf (held ⟨0, 0, 7, 0, 0, 64⟩ { queue := [⟨7, 1, 0, 1, 0, 2, 64, {}⟩] }) 0 7).map StepReq.batch = some 2) := by decide +kernel

/-- A ring of 16 entries at address `a` with one entry. -/
def withRing (d : Device) (r a : Nat) : Device := setR (setR (setR (ready d) (ringReg r) a) (ringReg r + 8) 16) (ringReg r + 0xC) 1
/-- Whether a command of opcode `op` is taken from a ring. -/
def takesB (d : Device) (r op : Nat) : Bool := match ringEntry d r with
  | .ok (e, d1) => ringHas d r && leAt e 0 1 == op && entryOk e && (decide (16 ≤ r) || jobRunning (ringPop d1 r) r)
  | .error _ => false
/-- An entry of the device ring, at stack address 0x300000. -/
def devRing (d : Device) (e : List Byte) : Device := withRing { d with stack := d.stack.write 0x300000 e } 16 0x300000

theorem test_hyps_CommandRings :
    (ringSize (withRing {} 16 0) 16 = 16 ∧ (16 + 2 ^ 32 - ringHead (wake (withRing {} 16 0) 1) 16) % 2 ^ 32 ≤ ringSize (wake (withRing {} 16 0) 1) 16
      ∧ ringSize (wake (withRing {} 16 0) 1) 16 < (17 + 2 ^ 32 - ringHead (wake (withRing {} 16 0) 1) 16) % 2 ^ 32)
    ∧ (ringLoad {} 16 = 0 ∧ ringSizeOk 16 16 = true ∧ ringSizeOk 16 65536 = true ∧ ringSizeOk 16 8 = false ∧ ringSizeOk 16 24 = false
      ∧ ringLoad (withRing {} 16 0) 16 ≠ 0)
    ∧ (ringHas (withRing {} 15 0) 15 = true ∧ isOk (ringEntry (withRing {} 15 0) 15) = false)
    ∧ (isOk (ringEntry (devRing {} (toLE 1 5)) 16) = true ∧ 5 ∉ ringOps 16)
    ∧ (match ringEntry (devRing {} (toLE 2 0x201)) 16 with
      | .ok (e, _) => leAt e 0 1 == 1 && !entryOk e
      | .error _ => false) = true
    ∧ (match ringEntry (withRing (mapped 15 (toLE 2 0x211)) 15 0) 15 with
      | .ok (e, _) => leAt e 0 1 == 0x11 && !entryOk e
      | .error _ => false) = true := by decide +kernel

/-- The opcode at the head of a ring, whether its entry is well formed, and whether the ring's job runs after it. -/
def headOf (d : Device) (r : Nat) : Option (Nat × Bool × Bool) := match ringEntry d r with
  | .ok (e, d1) => if ringHas d r then some (leAt e 0 1, entryOk e, jobRunning (ringPop d1 r) r) else none
  | .error _ => none

theorem test_cases_CommandRings :
    (ringHas {} 16 = false ∧ ringHas {} 15 = false)
    ∧ ([toLE 2 0x202, toLE 2 0x203, toLE 2 0x203 ++ toLE 6 0 ++ toLE 1 1, toLE 2 0x204, toLE 1 5, toLE 1 1].map (fun e =>
        (headOf (devRing {} e) 16).map (fun x => (x.1, x.2.1)))
      = [some (2, false), some (3, false), some (3, false), some (4, false), some (5, true), some (1, true)])
    ∧ ([toLE 2 0x210, toLE 2 0x212, toLE 1 0x13].map (fun e => (headOf (withRing (mapped 15 e) 15 0) 15).map (fun x => (x.1, x.2.1)))
      = [some (0x10, false), some (0x12, false), some (0x13, true)])
    ∧ ([0x10, 0x11, 0x12].map (fun op => headOf (withRing (mapped 15 (toLE 1 op)) 15 0) 15)
      = [some (0x10, true, false), some (0x11, true, false), some (0x12, true, false)])
    ∧ (job (withRing (mapped 15 (toLE 2 0x210)) 15 0) 15).queue.length < 2 := by decide +kernel

/-- Job 15 has a descriptor at address 0 that names one image for every core, the image behind it, and a reimage at address 0x3000. -/
def descOfJob : List Byte := toLE 4 0x44424F4A ++ toLE 2 0x100 ++ toLE 2 64 ++ toLE 1 15 ++ toLE 1 0 ++ toLE 2 1 ++ toLE 4 0 ++ toLE 8 0x1000 ++ toLE 8 0x2000
  ++ toLE 8 0 ++ toLE 4 0 ++ toLE 4 0xFFFFFFFF ++ toLE 16 0
def described : Device :=
  let d := mapped 15 (descOfJob ++ tinyImage)
  { d with stack := (d.stack.write 0x202000 (toLE 8 64)).write 0x203000 (toLE 8 0x12) }
/-- A descriptor that its checks accept, and the start that follows. -/
def descTaken (d : Device) (j a : Nat) (start : Bool) : Bool := match descCheckJob d j a start with
  | .ok (b, imgs, d2) => !start || isOk (jobBegin d2 j 0 b imgs)
  | .error _ => false

set_option maxRecDepth 100000 in
theorem test_hyps_JobStartAndEnd :
    (takesB (devRing described (toLE 8 (1 + 15 * 2 ^ 32))) 16 1 = true
      ∧ (match ringEntry (devRing described (toLE 8 (1 + 15 * 2 ^ 32))) 16 with
        | .ok (e, d1) => entryJob 16 e == 15 && (job (ringPop d1 16) 15).st == 0 && !(ringPop d1 16).boot.moduleFault
          && descTaken (ringPop d1 16) 15 (leAt e 8 8) true
        | .error _ => false) = true)
    ∧ (takesB (devRing (setJob {} 15 { st := 2 }) (toLE 8 (1 + 15 * 2 ^ 32))) 16 1 = true
      ∧ takesB (devRing (setJob {} 15 { st := 2 }) (toLE 8 (2 + 15 * 2 ^ 32))) 16 2 = true
      ∧ takesB (devRing {} (toLE 8 (2 + 15 * 2 ^ 32))) 16 2 = true) := by decide +kernel

/-- What JOB_START finds of job 15's descriptor at stack address 0x203000: the fault of its checks, or 0 where the words or partitions are taken, 1 none. -/
def startFinds (d : Device) : Nat :=
  match ringEntry (devRing d (toLE 8 (1 + 15 * 2 ^ 32))) 16 with
  | .error _ => 99
  | .ok (e, d1) => match descCheckJob (ringPop d1 16) 15 (leAt e 8 8) true with
    | .error (f, _) => f
    | .ok (b, imgs, d2) => match jobBegin d2 15 0 b imgs with
      | .error (f, _) => f
      | .ok _ => 1

set_option maxRecDepth 100000 in
theorem test_cases_JobStartAndEnd :
    -- a descriptor that does not translate, and a partition that runs past the hall's end
    [0, 1, 99].contains (startFinds {}) = false
    ∧ startFinds (setR (setR described (hmemPage 0 + 0x204 + 15 * 8) (255 * 2 ^ 18)) (hmemPage 0 + 0x200 + 15 * 8) 2) = 0
    ∧ ({ boot := { moduleFault := true } } : Device).boot.moduleFault = true
    ∧ (job (setJob {} 15 { st := 2 }) 15).landBusy = false := by decide +kernel

set_option maxRecDepth 100000 in
theorem test_hyps_JobCommands :
    (let d (n : Nat) := withRing (setJob (mapped 15 (toLE 12 0x10 ++ toLE 1 n)) 15 { st := 2 }) 15 0;
      takesB (d 1) 15 0x10 = true ∧ takesB (d 64) 15 0x10 = true ∧ (job (d 1) 15).queue.length = 0)
    ∧ (let d := withRing (setJob (mapped 15 (toLE 8 0x10)) 15 { st := 2, queue := [default, default] }) 15 0;
      takesB d 15 0x10 = true ∧ 2 ≤ (job d 15).queue.length)
    ∧ takesB (withRing (setJob (mapped 15 (toLE 8 0x11)) 15 { st := 4 }) 15 0) 15 0x11 = true
    ∧ (takesB (withRing (setJob described 15 { st := 2 }) 15 0x3000) 15 0x12 = true
      ∧ (match ringEntry (withRing (setJob described 15 { st := 2 }) 15 0x3000) 15 with
        | .ok (e, d1) => descTaken (ringPop d1 15) 15 (leAt e 8 8) false
        | .error _ => false) = true) := by decide +kernel

set_option maxRecDepth 100000 in
theorem test_cases_JobCommands :
    (let d (n : Nat) := withRing (setJob (mapped 15 (toLE 12 0x10 ++ toLE 1 n)) 15 { st := 2 }) 15 0;
      takesB (d 0) 15 0x10 = true ∧ takesB (d 65) 15 0x10 = true)
    ∧ (let d := withRing (setJob (mapped 15 (toLE 1 0x12 ++ toLE 7 0 ++ toLE 8 64)) 15 { st := 2 }) 15 0
      takesB d 15 0x12 = true ∧ (match ringEntry d 15 with
        | .ok (e, d1) => match descCheckJob (ringPop d1 15) 15 (leAt e 8 8) false with
          | .error (f, _) => f != 0
          | .ok _ => false
        | .error _ => false) = true)
    ∧ atBoundary { st := 2, phase := 1 } = false ∧ atBoundary { st := 2 } = true := by decide +kernel

theorem test_hyps_Preemption :
    (takesB (devRing (setJob {} 15 { st := 2 }) (toLE 8 (3 + 15 * 2 ^ 32))) 16 3 = true
      ∧ takesB (devRing (setJob {} 15 { st := 3 }) (toLE 8 (3 + 15 * 2 ^ 32) ++ toLE 1 1)) 16 3 = true)
    ∧ ((job (setJob {} 15 { st := 4 }) 15).st = 4 ∧ applying (setJob {} 15 { st := 4 }) 15 = false ∧ getR (setJob {} 15 { st := 4 }) (sigJob 15) % 2 = 0
      ∧ (loadedCores (setJob (setCore {} 863 { job := some 15, saved := true }) 15 { st := 4 }) 15).all (fun u =>
        (core (setJob (setCore {} 863 { job := some 15, saved := true }) 15 { st := 4 }) u).saved) = true)
    ∧ (takesB (devRing (setJob {} 15 { st := 5 }) (toLE 8 (4 + 15 * 2 ^ 32))) 16 4 = true
      ∧ isOk (resumeWords (setJob {} 15 { st := 5 }) 15) = true ∧ isOk (resumeCores 15 [] {}) = true)
    ∧ takesB (devRing {} (toLE 8 (4 + 15 * 2 ^ 32))) 16 4 = true := by decide +kernel

/-- Job 0 is preempted and its words are to be saved. -/
def wordsSaved (d : Device) : Device := setR (setJob d 0 { st := 4, desc := toLE 48 0 }) (sigJob 0) 1

theorem test_cases_Preemption :
    (takesB (devRing (setJob {} 15 { st := 4 }) (toLE 8 (3 + 15 * 2 ^ 32))) 16 3 = true
      ∧ takesB (devRing (setJob {} 15 { st := 2, preempt := some (0, 0, false) }) (toLE 8 (3 + 15 * 2 ^ 32) ++ toLE 1 1)) 16 3 = true)
    ∧ (getR (wordsSaved {}) (sigJob 0) % 2 = 1 ∧ loadedCores (wordsSaved {}) 0 = []
      ∧ isOk (unitWrite (wordsSaved (mapped 0 [])) 0 (sigRecAt (wordsSaved (mapped 0 [])) 0) (clean (signalRecord (wordsSaved (mapped 0 [])) 0)) 0xFFFF) = true
      ∧ isOk (unitWrite (wordsSaved {}) 0 (sigRecAt (wordsSaved {}) 0) (clean (signalRecord (wordsSaved {}) 0)) 0xFFFF) = false)
    ∧ (job {} 15).st ≠ 4
    ∧ (takesB (devRing (setJob {} 15 { st := 5, sigSaved := true }) (toLE 8 (4 + 15 * 2 ^ 32))) 16 4 = true
      ∧ (match resumeWords (setJob {} 15 { st := 5, sigSaved := true }) 15 with
        | .error (f, _) => f != 0
        | .ok _ => false) = true
      ∧ (match resumeCores 15 [719] (setJob {} 15 { st := 5, saved := [719] }) with
        | .error (f, _) => f != 0
        | .ok _ => false) = true) := by decide +kernel

/-- A queued step, and a running job with it. -/
def aStep (batch : Nat) : StepReq := ⟨7, 1, 0, 1, 0, batch, 0, {}⟩
def stepping (x : Job) : Device := setJob {} 15 { x with st := 2 }

theorem test_hyps_StepAttempts :
    ((job (stepping { cur := some (aStep 0) }) 15).st ≠ 0 ∧ (((some (aStep 0)).toList ++ []).take 2).find? (fun q => q.batch == 0) = some (aStep 0))
    ∧ (awake {} = true ∧ hallTested (stepping { queue := [aStep 3] }) 15 = false ∧ fld (getR {} (devPage 2 + 0x118)) 15 15 = 0)
    ∧ (hallTested (stepping { phase := 1, verdict := 2 }) 15 = false ∧ abandonDone (stepping { phase := 1, verdict := 2 }) 15 = true)
    ∧ ((job (stepping { phase := 1 }) 15).phase = 1 ∧ landInFlight (stepping { phase := 1 }) 15 = false)
    ∧ (jobCores (stepping { phase := 2, cur := some (aStep 3) }) 15).all (fun e =>
      (core {} e.2).job == some 15 && (core {} e.2).st == .atEnd) = true := by decide +kernel

theorem test_cases_StepAttempts :
    ((job {} 15).st = 0 ∧ (((some (aStep 3)).toList ++ []).take 2).find? (fun q : StepReq => q.batch == 0) = none)
    ∧ ((((none : Option StepReq).toList ++ [{ aStep 0 with nbatch := 0 }]).take 2).find? (fun q : StepReq => q.batch == 0)).map StepReq.nbatch = some 0
    ∧ (changeDue {} 15 = false ∧ awake { boot := { pm := 3 } } = false
      ∧ abandonDone (setUctx (setCtx (stepping { phase := 5, verdict := 2 }) 63 (arcCtx 0 1 0 {})) 15 { desc := updDesc 15 }) 15 = false)
    ∧ (([aStep 0].head?.map StepReq.batch) = some 0 ∧ fld (getR (setR {} (devPage 2 + 0x118) 0x8000) (devPage 2 + 0x118)) 15 15 = 1)
    ∧ landInFlight (setCore {} 0 { job := some 15, fl := [{ (default : Ins) with w := opWord 0x24, desc := toLE 64 3 }] }) 15 = true
    := by decide +kernel

theorem test_hyps_VerdictsAndCommit :
    (normReady (stepping { phase := 3 }) 15 = true ∧ (ctxsOf (stepping { phase := 3 }) 15).all (fun r => !(ctxOf {} r).any Ctx.broken) = true)
    ∧ (let v (x : Job) := setR (stepping x) (jobWin 15 + 8) 7;
      -- a verdict that fits before APPLY, one for a held step, and ones of another attempt and of a step in its update
      verdictFits (job (v { phase := 4, cur := some (aStep 3), attempt := 15 }) 15)
          (getR (commitPair (v { phase := 4, cur := some (aStep 3), attempt := 15 }) 2 (jobWin 15 + 8) 0xFFFFFFFF 0x3F 31) (jobWin 15 + 8)) 15 = true
        ∧ verdictFits { st := 3, cur := some (aStep 3) } 7 0 = true ∧ verdictFits { st := 2, phase := 4, cur := some (aStep 3) } 7 1 = false
        ∧ verdictFits { st := 2, phase := 5, cur := some (aStep 3) } 7 0 = true ∧ verdictFits { st := 2, cur := some (aStep 3) } 7 0 = false
        ∧ heldJob { st := 2 } = false ∧ heldJob { st := 3 } = true)
    -- a taint with and without a hold, in a module with and without local verdicts
    ∧ (holdCode (stepping { phase := 3, taint := 4 }) 15 = 11 ∧ holdCode (stepping { phase := 3, taint := 1 }) 15 = 0
      ∧ dLocal (job (stepping { phase := 3 }) 15).desc = false ∧ dLocal (toLE 9 0 ++ toLE 1 1) = true)
    ∧ (gatherDone (stepping { phase := 5 }) 15 = true ∧ applying (stepping { phase := 5 }) 15 = false)
    ∧ (abandonDone (stepping { verdict := 3 }) 15 = true ∧ (job (stepping { verdict := 3 }) 15).verdict = 3) := by decide +kernel

theorem test_cases_VerdictsAndCommit :
    -- no step, one whose update is not done, a held step at its boundary, an attempt whose verdict is kept
    (verdictFits {} 0 0 = false ∧ verdictFits { st := 3, cur := some (aStep 3) } 7 0 = true ∧ ({ st := 3 } : Job).phase = 0
      ∧ heldJob { st := 2, phase := 4, cur := some (aStep 3) } = false ∧ verdictFits { st := 2, phase := 4, cur := some (aStep 3) } 7 0 = true)
    ∧ (let d := setUctx (setCtx (stepping { phase := 5 }) 63 (arcCtx 0 1 0 {})) 15 { desc := updDesc 15 };
      applying d 15 = true ∧ (job d 15).phase = 5)
    ∧ (holdCode (stepping { phase := 3, taint := 1 }) 15 = 0 ∧ dLocal ((stepping { phase := 3, taint := 1 }).jobs.map (fun e => e.2.desc)).flatten = false)
    ∧ (job (stepping { phase := 1, verdict := 3 }) 15).phase ≠ 0 := by decide +kernel

theorem test_hyps_EventRing :
    (ringSizeOk 64 64 = true ∧ ringSizeOk 64 65536 = true ∧ ringSizeOk 64 32 = false ∧ ringSizeOk 64 0 = false)
    ∧ (let d : Device := { setR (foyerUp {}) (foyPage + 0x118) 64 with evBaseSet := true, evSizeSet := true, evQ := [default] }
      portUp d 6 = true ∧ (evtTail d + 2 ^ 32 - evtHead d) % 2 ^ 32 < evtSize d
        ∧ (evtTail (setR d (foyPage + 0x11C) 63) + 2 ^ 32 - evtHead (setR d (foyPage + 0x11C) 63)) % 2 ^ 32 < evtSize (setR d (foyPage + 0x11C) 63))
    ∧ (port (setJob {} 15 { ckpts := [⟨0, 0, 0, 0, false, 3, 0, {}, []⟩] }) 6).q.all (fun p => !(p.job == 15 && hType p.hdr == 1 && fVc p.hdr == 1)) = true
      := by decide +kernel

theorem test_cases_EventRing :
    (portUp {} 6 = false ∧ evtSize (setR (foyerUp {}) (foyPage + 0x118) 64) ≤
      (evtTail (setR (setR (foyerUp {}) (foyPage + 0x118) 64) (foyPage + 0x11C) 64) + 2 ^ 32
        - evtHead (setR (setR (foyerUp {}) (foyPage + 0x118) 64) (foyPage + 0x11C) 64)) % 2 ^ 32)
    ∧ (let d : Device := { setR (foyerUp {}) (foyPage + 0x118) 64 with evBaseSet := true, evSizeSet := true, evLost := 1 };
      portUp d 6 = true ∧ (evtTail d + 2 ^ 32 - evtHead d) % 2 ^ 32 < evtSize d ∧ 0 < d.evLost)
    ∧ (job {} 15).ckpts = []
    ∧ (port (setPort {} 6 { q := [⟨mkFoyer 1 1 15 4 1 0 0, [], 15⟩] }) 6).q.all (fun p => !(p.job == 15 && hType p.hdr == 1 && fVc p.hdr == 1)) = false
    := by decide +kernel

/-- A module that is powered and running, before any job starts. -/
def poweredBoot : Boot :=
  { vin := true, pwrEn := true, porterReady := true, vrPgood := true, oscReady := true, memReady := true, seqReady := true, logicReady := true
    tested := true, running := true, accepting := true }
def runDev : Device := { boot := poweredBoot }
/-- The same module before its commands run: `b` changes its boot state. -/
def booting (b : Boot) : Device := { boot := b }

theorem test_hyps_RegisterAccess :
    (reaches runDev 0 0xFFF = true ∧ reaches runDev 1 0x10 = true ∧ reaches runDev 2 (porterPage / 0x1000) = true ∧ reaches {} 0 0x10 = false)
    ∧ (0xFFFFFC < 2 ^ 24 ∧ 0xFFFFFC % 4 = 0 ∧ isLo (devPage 1 + 0x100) = true ∧ isHi (devPage 1 + 0x104) = true ∧ isLo (hallPage 17 + 0x38FF8) = true)
    ∧ (earlyPage (porterPage / 0x1000) = true ∧ earlyPage (corePage 0 / 0x1000) = false ∧ 0xFFF ≠ dbgPage / 0x1000)
    ∧ (fld (getR (setR {} (dbgPage + 0x100) 1) (dbgPage + 0x100)) 0 0 = 1 ∧ getR (setR {} (dbgPage + 0x100) 1) (dbgPage + 0x104) / 0x1000 ≠ dbgPage / 0x1000)
    ∧ (fld (getR {} (dbgPage + 0x100)) 0 0 = 0 ∧ getR (setR {} (dbgPage + 0x104) dbgPage) (dbgPage + 0x104) / 0x1000 = dbgPage / 0x1000) := by decide +kernel

theorem test_cases_RegisterAccess :
    (let d : Device := booting { poweredBoot with running := false };
      reaches d 0 (corePage 0 / 0x1000) = true ∧ d.boot.running = false ∧ earlyPage (corePage 0 / 0x1000) = false
        ∧ reaches d 2 (corePage 0 / 0x1000) = true)
    ∧ (isLo (portPage 5 + 0x104) = false ∧ isHi (portPage 5 + 0x104) = false ∧ isLo 0xFFFFFC = false ∧ isHi 0xFFFFFC = false)
    ∧ (let d : Device := booting { poweredBoot with pm := 3 };
      reaches d 2 (corePage 0 / 0x1000) = false ∧ d.boot.porterReady = true ∧ reaches d 1 (dbgPage / 0x1000) = false)
    ∧ (reaches {} 2 (porterPage / 0x1000) = false ∧ ({} : Device).boot.porterReady = false) := by decide +kernel

theorem test_hyps_PlainRegistersAndCounters :
    (let o := portPage 5 + 0x104
     0x10000 ≤ o ∧ o < 2 ^ 24 ∧ o % 4 = 0 ∧ sigWindowHall o = none ∧ (pageInfo (o / 0x1000)).isSome = true ∧ 0x100 ≤ o % 0x1000 ∧ o ≠ dbgPage + 0x10C
      ∧ reaches runDev 0 (o / 0x1000) = true ∧ pairLo (o / 0x1000) (o % 0x1000) = false ∧ pairHi (o / 0x1000) (o % 0x1000) = false
      ∧ rwMask (o / 0x1000) (o % 0x1000) ≠ 0)
    ∧ (let o := devPage 1 + 0x100 + 8 * 15
      sigWindowHall o = none ∧ pairLo (o / 0x1000) (o % 0x1000) = true ∧ (pairMask (o / 0x1000) (o % 0x1000)).isSome = true)
    ∧ (let o := devPage 0 + 0x110
      0x10000 ≤ o ∧ sigWindowHall o = none ∧ isRC (o / 0x1000) (o % 0x1000) = true ∧ pairLo (o / 0x1000) (o % 0x1000) = false
        ∧ pairHi (o / 0x1000) (o % 0x1000) = false ∧ blockView runDev (o / 0x1000) (o % 0x1000) = none ∧ runDev.boot.stage = 0 ∧ runDev.boot.pm = 0)
      := by decide +kernel

/-- Job 0 has a core in slot 0 of hall 0. -/
def placed : Device := setJob runDev 0 { st := 2, images := [(0, 0)] }

theorem test_hyps_HeaderControls :
    (enableCap (pageType (corePage 863 / 0x1000)) = true ∧ bound {} 0 (corePage 863 / 0x1000) = false ∧ pageInUse {} (corePage 863 / 0x1000) = false
      ∧ (hdr {} (corePage 863 / 0x1000)).enable = true)
    ∧ (bound placed 0 (corePage 0 / 0x1000) = false ∧ pageInUse placed (corePage 0 / 0x1000) = true ∧ resetCap (pageType (corePage 0 / 0x1000)) = true
      ∧ pageType (corePage 0 / 0x1000) ≠ 8 ∧ pageType (corePage 0 / 0x1000) ≠ 9 ∧ pageInUse runDev (corePage 0 / 0x1000) = false)
    ∧ (pageType (portPage 5 / 0x1000) = 8 ∧ pageType (linkPage 5 3 / 0x1000) = 9 ∧ pageInUse {} (portPage 5 / 0x1000) = false
      ∧ pageInUse {} (linkPage 5 3 / 0x1000) = false)
    ∧ (hdr (setHdr {} 0xA00 { resetting := true }) 0xA00).resetting = true ∧ pageType 0xA00 ≠ 9
    ∧ (fenceCap (pageType (scPage 15 / 0x1000)) = true ∧ (pageUnit (scPage 15 / 0x1000)).isSome = true ∧ (pageInfo 0xF00).isSome = true)
    ∧ bound { boot := { poweredBoot with locked := true } } 2 0xA00 = false := by decide +kernel

theorem test_cases_HeaderControls :
    (enableCap (pageType (pwrPage 0 / 0x1000)) = false ∧ resetCap (pageType (pwrPage 0 / 0x1000)) = false ∧ fenceCap (pageType (pwrPage 0 / 0x1000)) = false)
    ∧ ((pageInfo 0xFFE).isSome = false ∧ pageUnit (pwrPage 0 / 0x1000) = none)
    ∧ (bound { boot := { poweredBoot with locked := true } } 0 (porterPage / 0x1000) = bound { boot := { poweredBoot with locked := true } } 1 (porterPage / 0x1000)
      ∧ bound (setHdr runDev (corePage 863 / 0x1000) { lock := true }) 0 (corePage 863 / 0x1000) = true)
    ∧ (resetCap (pageType (corePage 0 / 0x1000)) = true ∧ pageInUse placed (corePage 0 / 0x1000) = true)
    ∧ (let d := setLink (setHdr {} (linkPage 5 3 / 0x1000) { resetting := true }) 5 3 { st := 5 };
      (hdr d (linkPage 5 3 / 0x1000)).resetting = true ∧ pageType (linkPage 5 3 / 0x1000) = 9
        ∧ (pageLinks (linkPage 5 3 / 0x1000)).any (fun e => (link d e.1 e.2).st == 5) = true) := by decide +kernel

/-- The mailbox holds a message. -/
def mailed (d : Device) (cmd : Nat) (p : List Byte) : Device :=
  let m := regBytes (setR d (porterPage + 0x400) (cmd + 65536 * p.length)) (porterPage + 0x404) p
  { m with porter := { m.porter with mbxBusy := true } }
/-- Both transports deliver a message. -/
def both (d : Device) (cmd : Nat) (p : List Byte) : Bool := heard d .sideband cmd p && heard (mailed d cmd p) .mailbox cmd p

theorem test_hyps_PorterResponses : (List.replicate 1276 (0 : Byte)).length ≤ 1276 ∧ 255 < 256 := by decide +kernel

theorem test_hyps_PorterQueries :
    (both runDev 1 [] && both runDev 5 (toLE 4 0 ++ toLE 1 3) && both runDev 5 (toLE 4 0 ++ toLE 1 1) && both runDev 0x20 (toLE 4 17119)
      && both { runDev with porter := { attest := 2 } } 0x22 (toLE 4 16927) && both runDev 3 (toLE 2 0) && both runDev 6 []
      && heard (mailed runDev 5 (toLE 4 0 ++ toLE 1 16)) .mailbox 5 (toLE 4 0 ++ toLE 1 16)) = true
    ∧ asleep runDev = false ∧ asleep (listening runDev .sideband) = false := by decide +kernel

theorem test_hyps_PorterControls :
    (both runDev 2 (toLE 4 0) && heard runDev .sideband 4 (toLE 4 0) && both runDev 8 (toLE 8 0) && both runDev 9 (toLE 8 0) && both runDev 7 [0xA5]
      && both runDev 0x30 [2, 17, 0xFF, 0xFF, 0xFF] && both runDev 0x31 [2, 17, 0xFF, 0xFF, 0xFF] && both runDev 0x32 [1, 17, 47, 0xFF, 0xFF]
      && heard (mailed runDev 0xFF []) .mailbox 0xFF []) = true
    ∧ (unitOf [2, 17, 0xFF, 0xFF, 0xFF]).isSome = true ∧ (unitOf [1, 17, 47, 0xFF, 0xFF]).isSome = true ∧ 0xFF ∉ messageSet
    ∧ ((listening runDev .sideband).plan.maps.fences = []
      ∧ ([⟨⟨2, 17, 0, 0, 0⟩, 0, 0, 0, 0⟩] : List Fence).find? (fun f => f.unit == ⟨2, 17, 0, 0, 0⟩) = some ⟨⟨2, 17, 0, 0, 0⟩, 0, 0, 0, 0⟩)
    -- refusals: a wrong length, a Porter that restarts, recovery, no power
    ∧ (heard runDev .sideband 8 [] = true ∧ heard runDev .sideband 1 [0] = true ∧ (booting { vin := true }).boot.porterReady = false
      ∧ (booting { vin := true, recovery := true }).porter.waits = [] ∧ (booting {}).boot.vin = false) := by decide +kernel

/-- The module sleeps, and its Porter listens. -/
def sleeping : Device := booting { poweredBoot with pm := 3, exit := 1 }

theorem test_cases_PorterMessages :
    -- arguments one past their range, and what waits or was not asked for
    (both runDev 5 (toLE 4 0 ++ toLE 1 0) && both runDev 5 (toLE 4 0 ++ toLE 1 4) && heard (mailed runDev 5 (toLE 4 0 ++ toLE 1 17)) .mailbox 5 (toLE 4 0 ++ toLE 1 17)
      && both runDev 0x20 (toLE 4 17120) && both { runDev with porter := { attest := 2 } } 0x22 (toLE 4 16928) && both runDev 0x22 (toLE 4 0)
      && both { runDev with porter := { attest := 1 } } 0x22 (toLE 4 0)) = true
    ∧ (asleep (listening sleeping .sideband) = true ∧ asleep (listening sleeping .mailbox) = true ∧ both sleeping 0x21 (List.replicate 48 0) = true
      ∧ both sleeping 0x22 (toLE 4 0) = true ∧ both sleeping 0x12 [] = true ∧ both sleeping 0x13 [] = true ∧ both sleeping 0x14 [1] = true)
    ∧ (heard (mailed runDev 4 (toLE 4 0)) .mailbox 4 (toLE 4 0) = true ∧ both runDev 7 [0xA4] = true ∧ unitOf [2, 18, 0xFF, 0xFF, 0xFF] = none
      ∧ both runDev 0x30 [2, 18, 0xFF, 0xFF, 0xFF] = true ∧ both runDev 0x31 [2, 18, 0xFF, 0xFF, 0xFF] = true ∧ both runDev 0x32 [2, 18, 0xFF, 0xFF, 0xFF] = true)
    ∧ ((0xFE : Byte).toNat ∉ messageSet ∧ (0x32 : Byte).toNat ∈ messageSet ∧ heard runDev .mailbox 0xFE [] = false
      ∧ ({ runDev with porter := { waits := [(.sideband, 0x31, default)] } } : Device).porter.waits.any (fun w => w.1 == .sideband) = true)
    ∧ (heard (booting { vin := true, recovery := true }) .sideband 2 [] = false ∧ heard (booting { vin := true, recovery := true }) .sideband 0x14 [2] = true)
    := by decide +kernel

theorem test_hyps_FirmwareUpdate :
    (fwRefused runDev .sideband = false ∧ both runDev 0x10 (toLE 1 1 ++ toLE 4 0x100000) = true ∧ both runDev 0x10 (toLE 1 2 ++ toLE 4 0x1000000) = true
      ∧ leAt (toLE 1 2 ++ toLE 4 0x1000000) 1 4 ≤ slotSize 2)
    ∧ (let d : Device := { runDev with porter := { session := some { via := .mailbox, kind := 1, len := 8, verified := true } } };
      fwRefused d .mailbox = false ∧ heard (mailed d 0x11 (toLE 8 0)) .mailbox 0x11 (toLE 8 0) = true ∧ heard (mailed d 0x12 []) .mailbox 0x12 [] = true
        ∧ heard (mailed d 0x13 []) .mailbox 0x13 [] = true ∧ asleep d = false)
    ∧ (both runDev 0x14 [2] = true ∧ inTrial runDev 2 = false)
    ∧ (both runDev 0x21 (List.replicate 48 0) = true ∧ both runDev 0x22 (toLE 4 0) = true) := by decide +kernel

theorem test_cases_FirmwareUpdate :
    (let other : Device := { runDev with porter := { session := some { via := .mailbox, kind := 1, len := 8, verified := false } } };
      fwRefused other .sideband = true ∧ both other 0x11 (toLE 8 0) = true ∧ fwRefused other .mailbox = false
        ∧ heard (mailed other 0x11 (toLE 4 5 ++ toLE 4 0)) .mailbox 0x11 (toLE 4 5 ++ toLE 4 0) = true ∧ 8 < 5 + (8 - 4)
        ∧ (∀ x ∈ other.porter.session, x.verified = false))
    ∧ (let d : Device := booting { vin := true, recovery := true };
      heard d .sideband 0x10 (toLE 1 2 ++ toLE 4 0) = true ∧ (listening d .sideband).boot.recovery = true ∧ fwRefused (listening d .sideband) .sideband = false)
    ∧ (both runDev 0x10 (toLE 1 3 ++ toLE 4 0) = true ∧ both runDev 0x10 (toLE 1 1 ++ toLE 4 0x100001) = true ∧ slotSize 1 < 0x100001
      ∧ runDev.porter.session = none ∧ both runDev 0x14 [0] = true ∧ inTrial { runDev with porter := { trial := [1] } } 1 = true)
    ∧ fwRefused (booting { poweredBoot with fuseErr := true }) .mailbox = true := by decide +kernel

theorem test_hyps_VoltageAndFrequency :
    runDev.boot.oscReady = true ∧ (dvfs (setDvfs {} 17 { phase := 3 }) 17).phase = 3 ∧ (dvfs (setDvfs {} 17 { phase := 1 }) 17).phase = 1
    ∧ (dvfs (setDvfs {} 17 { phase := 4 }) 17).phase ≠ 0 := by decide +kernel

theorem test_hyps_LoopsAndTrip :
    (loopsRun runDev = true ∧ runDev.porter.rails = [] ∧ ceiling runDev < 65535 ∧ 0 * 100 < ceiling runDev * 95
      ∧ ceiling runDev * 95 ≤ ceiling runDev * 100)
    ∧ (runDev.boot.tripped = false ∧ ceiling runDev * 110 < 65535 * 100 ∧ getR runDev (pwrPage 0 + 0x124) = 0)
    ∧ ((460 : Int) ≤ signed 16 460 ∧ (440 : Int) ≤ signed 16 440 ∧ runDev.boot.pm ≠ 4) := by decide +kernel

theorem test_hyps_PowerStates :
    (let d := setR runDev (pwrPage 0 + 0x108) 2;
      quiescent d = true ∧ pmTarget d = 1 ∧ d.boot.pm < pmTarget d)
    ∧ (let d := booting { poweredBoot with target := 4, stage := 5 };
      d.boot.stage < depthStages d.boot.target ∧ d.boot.wake = 0 ∧ d.dvfs.all (fun e => e.2.phase == 0) = true)
    ∧ depthStages 4 ≤ 6 ∧ depthStages 1 ≤ 1 := by decide +kernel

theorem test_cases_LoopsAndPower :
    (loopsRun {} = false ∧ loopsRun { runDev with porter := { rails := [1] } } = true)
    ∧ (340 ≤ (340 : Reg).toNat % 65536 ∧ (400 : Reg).toNat % 65536 ≤ 400 ∧ (339 : Reg).toNat % 65536 < 340 ∧ 400 < (401 : Reg).toNat % 65536)
    -- the current limiter: on, counting up, counting down, stepping, and still
    ∧ (let r := pwrPage 0 + 0x124; let on (k : Nat) := setR runDev r k
      getR (on 4) r ≠ 0 ∧ ceiling (on 1) * 110 < 1211 * 100 ∧ 1210 * 100 ≤ ceiling (on 1) * 110 ∧ 1099 < ceiling (on 1) ∧ ceiling (on 1) ≤ 1100
        ∧ ({ poweredBoot with limHigh := 2 } : Boot).limHigh < 3 ∧ 39 ≤ ({ poweredBoot with limLow := 39 } : Boot).limLow)
    ∧ (signed 16 459 < 460 ∧ signed 16 439 < 440 ∧ signed 16 0x8000 < 440)
    ∧ (runDev.boot.oscReady = true ∧ ({} : Device).boot.oscReady = false ∧ (dvfs {} 17).phase = 0)
    -- power states: no entry due, a stage that a wake abandons, the last stage, and the steps of an exit
    ∧ (pmTarget (setR runDev (pwrPage 0 + 0x108) 1) ≤ runDev.boot.pm ∧ quiescent (setJob runDev 15 { st := 4 }) = false
      ∧ depthStages 3 ≤ 5 ∧ ({ poweredBoot with target := 3, stage := 5, wake := 6 } : Boot).wake ≠ 0 ∧ ({ poweredBoot with target := 4, stage := 6 } : Boot).stage = 6
      ∧ (setDvfs {} 0 { phase := 1 }).dvfs.any (fun e => e.2.phase != 0) = true
      ∧ ({ poweredBoot with exit := 4, done := 3 } : Boot).done < 4 ∧ 4 ≤ ({ poweredBoot with exit := 4, done := 5 } : Boot).done) := by decide +kernel

theorem test_hyps_SensorsLogAndAlarm :
    runDev.boot.porterReady = true ∧ (runDev.logRing ++ runDev.logFront).length ≤ 1048576
    ∧ (List.replicate 1048577 (default : LogRec)).length = 1048576 + 1
    ∧ (let d := set64 { runDev with porter := { alarm := 1 } } (porterPage + 0x118) 1;
      d.porter.alarm ≠ 0 ∧ d.porter.alarm ≤ get64 d (porterPage + 0x118))
    ∧ get64 { runDev with porter := { alarm := 1 } } (porterPage + 0x118) < ({ runDev with porter := { alarm := 1 } } : Device).porter.alarm := by
  refine ⟨by decide +kernel, by decide +kernel, List.length_replicate, by decide +kernel, by decide +kernel⟩

theorem test_hyps_PowerAndPins :
    (({} : Boot).vin = false ∧ ({} : Boot).protOpen = false) ∧ runDev.boot.vin = true ∧ runDev.porter.session = none
    ∧ (poweredBoot.pwrEn = true ∧ poweredBoot.tripped = false ∧ poweredBoot.pm ≠ 4 ∧ poweredBoot.vrPgood = true)
    ∧ ({ poweredBoot with pm := 4 } : Boot).pm = 4 ∧ ({} : Boot).pwrEn = false ∧ ({ poweredBoot with tripped := true } : Boot).tripped = true := by
  decide +kernel

theorem test_hyps_PorterBoots :
    porterDown (booting { vin := true }) = true ∧ inTrial (booting { vin := true }) 1 = false ∧ runDev.boot.porterReady = true := by decide +kernel

theorem test_hyps_BringUpStages :
    (let d := booting { vin := true, pwrEn := true, porterReady := true };
      stagesRun d = true ∧ d.boot.vrPgood = false)
    ∧ (let d := booting { vin := true, pwrEn := true, porterReady := true, vrPgood := true, oscReady := true, tries := [(15, 2)] };
      stagesRun d = true ∧ trained d 15 = false ∧ stackOut d 15 = false ∧ stackOut d 0 = false ∧ tget 0 d.boot.tries 0 < 2 ∧ tget 0 d.boot.tries 15 = 2
        ∧ d.boot.memReady = false ∧ d.boot.seqReady = false ∧ inTrial d 2 = false)
    ∧ (let d := booting { poweredBoot with logicReady := false, tested := false, running := false, accepting := false };
      stagesRun d = true ∧ d.boot.memReady = true)
    ∧ stagesRun runDev = true ∧ ([⟨2, 17, 0, 0, 0⟩] : List UnitRef).all UnitRef.wf = true ∧ runDev.plan.built = false
    ∧ stagesRun { booting { poweredBoot with running := false } with plan := { built := true } } = true := by decide +kernel

theorem test_hyps_BringUpFailures :
    stagesRun (booting { vin := true, pwrEn := true, porterReady := true, retried := true }) = true
    ∧ stagesRun (booting { vin := true, pwrEn := true, porterReady := true, vrPgood := true }) = true
    ∧ stagesRun (booting { poweredBoot with logicReady := false }) = true
    ∧ (let d := { booting { poweredBoot with running := false } with porter := { trial := [2] } };
      stagesRun d = true ∧ inTrial d 2 = true ∧ inTrial (booting poweredBoot) 2 = false) := by decide +kernel

theorem test_cases_BringUp :
    stagesRun {} = false ∧ stagesRun (booting { poweredBoot with heldOff := true }) = false
    ∧ (let d := booting { vin := true, pwrEn := true, porterReady := true, vrPgood := true, oscReady := true };
      stagesRun d = true ∧ d.boot.seqReady = false ∧ d.boot.memReady = false ∧ d.boot.logicReady = false ∧ d.boot.tested = false ∧ d.plan.built = false
        ∧ d.boot.running = false ∧ trained (setR d (scPage 15 + 0x100) 1) 15 = true)
    ∧ (let b : Boot := { vin := true, pwrEn := true, porterReady := true, vrPgood := true, oscReady := true, memReady := true };
      stagesRun (booting b) = true ∧ b.memReady = true ∧ b.logicReady = false)
    ∧ (porterDown {} = false ∧ porterDown runDev = false ∧ inTrial { booting { vin := true } with porter := { trial := [1] } } 1 = true)
    ∧ (stagesRun runDev = true ∧ runDev.boot.running = true) := by decide +kernel

theorem test_hyps_SelfTests :
    (let x : Test := { unit := ⟨2, 17, 0, 0, 0⟩ };
      lfind (testCan { runDev with tests := [x] }) [x] = some 0 ∧ x.unit.wf = true
        ∧ lfind (fun t => t.unit == x.unit && t.running) [{ x with running := true }] = some 0)
    ∧ (([] : List Transient).find? (fun t => t.unit == ⟨2, 17, 0, 0, 0⟩)) = none
    ∧ 2 ≤ ((([⟨⟨2, 17, 0, 0, 0⟩, [0, 0]⟩] : List Transient).find? (fun t => t.unit == ⟨2, 17, 0, 0, 0⟩)).elim [] Transient.steps).length := by
  decide +kernel

theorem test_hyps_FloorPlanChanges :
    (let f : Fence := ⟨⟨5, 5, 3, 0, 0⟩, 2, 0, 0, 0⟩;
     let d : Device := { runDev with plan := { built := true, pendF := [f] } };
      d.plan.pendF.filter (fun f => !fenceWaits d f) = [f] ∧ (standbysUsed d.plan.maps [f]).all d.plan.sbOk.contains = true)
    ∧ (let f : Fence := ⟨⟨2, 0, 0, 0, 0⟩, 2, 0, 0, 0⟩;
       let d : Device := { runDev with plan := { built := true, pendF := [f] } };
      d.plan.pendF.filter (fun f => !fenceWaits d f) = [f] ∧ (standbysUsed d.plan.maps [f]).all d.plan.sbOk.contains = false)
    ∧ runDev.plan.built = false ∧ runDev.plan.pendR = [] ∧ runDev.plan.dirty = false := by decide +kernel

theorem test_hyps_RepairSupport :
    (let d := linked runDev;
      fld 11 0 0 = 1 ∧ d.restore = none ∧ ringPort d (fld 11 3 1) = true ∧ get64 d (devPage 2 + 0x120) % 64 = 0 ∧ getR d (devPage 2 + 0x128) = 0
        ∧ ringPort d (fld 1 3 1) = false)
    ∧ (let d := setR (setLink (mapped 0 []) 5 3 { st := 0 }) (devPage 2 + 0x128) 64;
      isOk (unitRead d 0 (get64 d (devPage 2 + 0x120)) (getR d (devPage 2 + 0x128)) 0xFFFF) = true)
    ∧ ({ runDev with restore := some ⟨5, 0, 0, 0, none, 0⟩ } : Device).restore = some ⟨5, 0, 0, 0, none, 0⟩ := by decide +kernel

theorem test_cases_TestsAndRepair :
    (lfind (testCan {}) ({} : Device).tests = none ∧ lfind (fun t : Test => t.unit == (⟨2, 17, 0, 0, 0⟩ : UnitRef) && t.running) ({} : Device).tests = none)
    ∧ (let d : Device := { tests := [{ unit := ⟨2, 17, 0, 0, 0⟩ }] };
      d.boot.porterReady = false ∧ d.tests[0]? = some { unit := ⟨2, 17, 0, 0, 0⟩ })
    ∧ (fld (0 : Reg).toNat 0 0 = 0 ∧ ({} : Device).restore = none ∧ ({ runDev with restore := some ⟨5, 0, 0, 0, some 8191, 0⟩ } : Device).restore ≠ none)
    ∧ (let d := setR (linked runDev) (devPage 2 + 0x128) 64;
      isOk (unitRead d 15 (get64 d (devPage 2 + 0x120)) (getR d (devPage 2 + 0x128)) 0xFFFF) = false ∧ ringPort d 5 = true
        ∧ getR (setR d (devPage 2 + 0x128) 63) (devPage 2 + 0x128) % 64 ≠ 0 ∧ 2 ^ 48 < get64 (set64 d (devPage 2 + 0x120) (2 ^ 48 - 63)) (devPage 2 + 0x120) + 64)
    := by decide +kernel

/-! ### Worked examples of the spec, and one step each (the section of each stands in its comment) -/

/-- What the step of a command gives, from a module. -/
def after (c : Instr) (d : Device) : Device := match step { pending := [c], dev := d } with
  | .next t => t.dev
  | .fault _ => d
  | .refused _ => d

-- 02_number_formats.md: the parts of 0x3EAA_AAAB are 1.3359375 × 2⁻² and −1.3359375 × 2⁻¹¹
theorem test_x18_parts :
    (x18Part 0 1 (ofF32 0x3EAAAAAB)).map toF32 = some 0x3EAB0000 ∧ (x18Part 0 2 (ofF32 0x3EAAAAAB)).map toF32 = some 0xBA2B0000 := by decide +kernel
-- 02_number_formats.md: a block of MX-E2M1 whose largest input is 5.3 has scale byte 0x7F
theorem test_mx_scale : (quantise 10 [ofF32 0x40A9999A]).scale = 0x7F := by decide +kernel
-- 02_number_formats.md: the learned scale 0x3E38 acts as 2⁻²
theorem test_learned_scale : lsExp 0x3E38 = some (-2) := by decide +kernel
-- 05_core_execution.md: the MMA under gate G3 is the word 0x5420_0200_C048_0003
theorem test_mma_word :
    let e := entryOf 0x54200200C0480003
    e.op = 0x15 ∧ e.f 57 51 = 4 ∧ e.f 41 34 = 128 ∧ e.f 33 31 = 1 ∧ e.f 30 30 = 1 ∧ e.f 22 22 = 1 ∧ mmaSwap e = true ∧ e.mode = 0
      ∧ e.w % 16 = 3 ∧ toLE 8 e.w = [0x03, 0x00, 0x48, 0xC0, 0x00, 0x02, 0x20, 0x54] := by decide +kernel
-- 01_floor_plan.md: the pages of core 9 and of core 44 of H6
theorem test_core_pages : 0x8000000000 + corePage (6 * 48 + 9) = 0x800028A000 ∧ 0x8000000000 + corePage (6 * 48 + 44) = 0x80002AD000 := by decide
-- 01_floor_plan.md: global logical core 229 is slot 9 of logical hall 5, on H6 when H2 is a standby
theorem test_global_core :
    ({ hallSt := [(2, 1), (16, 0)], hallLog := [(2, 0xFF), (3, 2), (4, 3), (5, 4), (6, 5), (7, 6)] } : Maps).globalCore 229 = some (6 * 48 + 9) := by decide +kernel
-- 08_signal_words.md: word 476 of the hall on H3 lies at 0x80_001F_8EE0
theorem test_signal_window : sigWindowHall 0x1F8EE0 = some 3 ∧ 0x1F8EE0 % 0x1000 / 8 = 476 := by decide
-- 06_backward_pass.md: a tensor of 12,288 × 4,736 MX-E4M3
theorem test_landing_size :
    let r : LandRec := { epoch := 1, state := 0, fmt := 6, recomp := false, rows := 12288, cols := 4736, offset := 0, dropSig := 0, rseg := 0, resv := false }
    landStride r = 170496 ∧ landBytes r = 65470464 := by decide
-- 09_harlon_links.md: the header of a WRITE with TAG 0x0952 and PSN 0x0_1234, and its 34 units
theorem test_harlon_header :
    mkHdr 1 1 3 512 0x0952 0x40002000 + 0x1234 * 2 ^ 20 = 0x0000000040002000000952012348_00D1 ∧ units 512 = 34 := by decide
-- IEEE 802.3: the coefficients of the RS(544,514) generator from x^30 down, and from 1 up
theorem test_rs_generator : rsGenerator.take 5 = [1, 575, 552, 187, 230] ∧ rsGenerator.reverse.take 4 = [523, 834, 128, 158] := by decide +kernel
-- 09_harlon_links.md R348: bit 20 of the message, the first block byte's lowest bit, is bit 0 of symbol 2
theorem test_block_symbols : (mkBlock 0 5 63 [1]).symbol 2 = 1 ∧ (mkBlock 0 5 63 []).symbol 0 = 20 := by decide +kernel
-- 10_arcade_reduction.md: block b of shard 0 in a ring of four
theorem test_ring_block :
    let c : Ctx := { desc := toLE 9 0 ++ toLE 1 16 ++ toLE 2 4 ++ toLE 2 1 ++ toLE 1 1 ++ toLE 1 3 ++ toLE 4 0x3F800000 }
    let l (a b : Nat) : Local := ⟨[ofF32 a, ofF32 b], false, 0, false⟩
    let b1 := startBlk c 0 0x7A (l 0x3D500000 0xBC000000)
    let b2 := hopBlk c b1 (l 0x3D800000 0x3B000000)
    let b3 := hopBlk c b2 (l 0x3D000000 0x3A800000)
    let o := ownSum c b3 (some (l 0x3CC00000 0x3A000000))
    b1.scale = 0x7B ∧ b1.ks = [52, -8] ∧ b2.ks = [116, -6] ∧ b3.wide = true ∧ b3.bs = [0x3E14, 0xBBA0] ∧ o.contrib = 4
      ∧ (convertBlk c o).bytes = toLE 2 0x3E96 ++ toLE 2 0xBD48 ∧ historyByte o = 0x7C := by decide +kernel
-- 05_core_execution.md: tanh over −4 to 4 at x = 9.0 and at −infinity
theorem test_function_ends :
    let img : List Byte := toLE 4 0xC0800000 ++ toLE 4 0x42000000 ++ toLE 1 1 ++ toLE 1 1 ++ toLE 2 0 ++ toLE 4 0 ++ toLE 4 0xBF800000 ++ toLE 4 0
      ++ toLE 4 0x3F800000
    toF32 (fnEval img false (ofF32 0x41100000)) = 0x3F800000 ∧ toF32 (fnEval img false (.inf true)) = 0xBF800000
      ∧ toF32 (fnEval img true (.inf true)) = 0 := by decide +kernel
-- 05_core_execution.md R184, R185: LI extends its sign, and addition wraps
theorem test_li_sign :
    xr (core (after (.li 0) (onCore (coreAt0 (opWord 3 (2 ^ 49 + 0x800000000000))))) 0) 1 = 0xFFFF800000000000 := by decide +kernel
theorem test_add_wraps :
    xr (core (after (.alui 0) (onCore { coreAt0 (opWord 2 (2 ^ 49 + 2 ^ 44 + 1)) with x := [(1, 0xFFFFFFFFFFFFFFFF)] })) 0) 1 = 0 := by decide +kernel
-- 05_core_execution.md R187: JAL saves the address of the next instruction
theorem test_jal_link :
    (let c := core (after (.jal 0) (onCore (coreAt0 (opWord 7 (2 ^ 49 + 64))))) 0; (xr c 1, c.pc)) = (8, 64) := by decide +kernel
-- 08_signal_words.md R316: an arrival past 2^48 - 1 saturates COUNT and sets OVERFLOW
theorem test_arrival_saturates :
    (let w := sigWord (after (.sigStoreApply 3 4) (setSig {} 3 { words := [(476, { count := 2 ^ 48 - 1 })], ops := [.arrive 476 2 none none] })) 3 476
     (w.count, w.ovf)) = (2 ^ 48 - 1, true) := by decide +kernel
-- 16_register_pages.md R582: SCRATCH keeps what is written to it
theorem test_scratch :
    (let d := after (.registerWrite 0 (devPage 0 + 0x30) 0xDEADBEEF) runDev
     tget 0 (after (.rcRead 0 (devPage 0 + 0x30)) d).readOut 0) = 0xDEADBEEF := by decide +kernel
-- 18_bring_up.md: power is applied with the straps of class L
theorem test_power_straps : (after (.powerApply 2 5) {}).boot.cool = 2 ∧ (after (.powerApply 2 5) {}).boot.vin = true := by decide +kernel

end Sys2Proof.Machine
end

section
/-!
The scalar instructions of the core sequencer (R184 to R191): what each one answers when it issues, and the obligations O7, O8, O10 and O11.
-/
namespace Sys2Proof.Machine

/-! ### Bit fields and two's complement -/

/-- A field is all zero exactly when each of its bits is. -/
theorem fld_eq_zero_iff {w hi lo : Nat} : fld w hi lo = 0 ↔ ∀ i, i < hi - lo + 1 → w.testBit (lo + i) = false := by
  constructor
  · intro h i hi'
    have hbit : (fld w hi lo).testBit i = false := by simp [h]
    simpa [fld, Nat.testBit_mod_two_pow, Nat.testBit_shiftRight, hi'] using hbit
  · intro h
    refine Nat.eq_of_testBit_eq fun i => ?_
    simpa [fld, Nat.testBit_mod_two_pow, Nat.testBit_shiftRight] using h i

/-- A field inside an all-zero field is zero. -/
theorem fld_eq_zero_of_subfield {w hi lo hi' lo' : Nat} (h : fld w hi lo = 0) (hlo : lo ≤ lo') (hlohi : lo' ≤ hi') (hhi : hi' ≤ hi) :
    fld w hi' lo' = 0 := by
  rw [fld_eq_zero_iff] at h ⊢
  intro i hi
  have hbit := h (lo' - lo + i) (by omega)
  rwa [show lo + (lo' - lo + i) = lo' + i by omega] at hbit

theorem bit_eq_fld (w n : Nat) : bit w n = (fld w n n == 1) := by simp [bit, fld]

theorem signed_eq_toInt {n w : Nat} (hn : 0 < n) (hw : w < 2 ^ n) : signed n w = (BitVec.ofNat n w).toInt := by
  obtain ⟨m, rfl⟩ := Nat.exists_eq_succ_of_ne_zero hn.ne'
  have hhalf : w < 2 ^ m ↔ 2 * w < 2 ^ (m + 1) := by omega
  simp only [signed, BitVec.toInt_eq_toNat_cond, BitVec.toNat_ofNat, Nat.mod_eq_of_lt hw, Nat.succ_eq_add_one, Nat.add_sub_cancel, hhalf]
  push_cast
  rfl

theorem wrap64_eq_toNat_ofInt (i : Int) : wrap64 i = (BitVec.ofInt 64 i).toNat := rfl

theorem wrap64_signed_eq_signExtend {n w : Nat} (hn : 0 < n) (hw : w < 2 ^ n) :
    wrap64 (signed n w) = ((BitVec.ofNat n w).signExtend 64).toNat := by
  rw [signed_eq_toInt hn hw, wrap64_eq_toNat_ofInt, BitVec.signExtend]

theorem wrap64_signed_div_eq_sshiftRight {a : Nat} (ha : a < 2 ^ 64) (k : Nat) :
    wrap64 (signed 64 a / 2 ^ k) = ((BitVec.ofNat 64 a).sshiftRight k).toNat := by
  rw [signed_eq_toInt (by decide) ha, wrap64_eq_toNat_ofInt, BitVec.sshiftRight, Int.shiftRight_eq_div_pow]
  norm_cast

/-! ### Scalar registers and the program counter -/

@[simp] theorem xr_zero (c : Core) : xr c 0 = 0 := rfl

@[simp] theorem xw_pc (c : Core) (i v : Nat) : (xw c i v).pc = c.pc := by
  unfold xw; split <;> rfl

theorem xr_xw_self {c : Core} {i v : Nat} (hi : i ≠ 0) (hv : v < 2 ^ 64) : xr (xw c i v) i = v := by
  simpa [xr, xw, hi] using hv

theorem xr_xw_ne {c : Core} {i r v : Nat} (h : r ≠ i) : xr (xw c i v) r = xr c r := by
  unfold xw; split
  · rfl
  · simp [xr, tget_tset_ne _ _ _ _ _ h]

@[simp] theorem core_adv (d : Device) (u : Nat) (c : Core) : core (adv d u c) u = { c with pc := c.pc + 8 } := by simp [adv]

/-- What the core holds after an instruction that writes `v` to register `i`. -/
theorem core_adv_xw (d : Device) (u : Nat) (c : Core) {i v : Nat} (hv : v < 2 ^ 64) :
    (i ≠ 0 → xr (core (adv d u (xw c i v)) u) i = v) ∧ (core (adv d u (xw c i v)) u).pc = c.pc + 8
      ∧ (∀ r, r ≠ i → xr (core (adv d u (xw c i v)) u) r = xr c r) ∧ xr (core (adv d u (xw c i v)) u) 0 = 0 := by
  have hxr (r : Nat) : xr (core (adv d u (xw c i v)) u) r = xr (xw c i v) r := by rw [core_adv]; rfl
  refine ⟨fun hi => (hxr i).trans (xr_xw_self hi hv), by simp, fun r hr => (hxr r).trans (xr_xw_ne hr), xr_zero _⟩

/-! ### An instruction that issues -/

/-- The command of an instruction that issues answers the instruction's effect. -/
theorem run_issue {c : Instr} {u op : Nat} {f : Core → Nat → Device → Device} {s : State} (hwf : c.wf = decide (u < 864))
    (hop : opDefined op = true) (h : issues s.dev u op = true) :
    run c (issue u op f) s = .next { s with dev := f (core s.dev u) (wordAt s.dev u) s.dev } := by
  rw [run_wf _ _ (by simpa [hwf] using issues_lt h), issue_run f hop h]

section
variable {u : Nat} {s : State}

/-! ### LI (R184) -/

theorem exec_li_low (h : issues s.dev u 0x03 = true) (hres : fld (wordAt s.dev u) 57 54 = 0) (hlow : fld (wordAt s.dev u) 48 48 = 0) :
    exec (.li u) s = .next { s with dev := adv s.dev u (xw (core s.dev u) (fld (wordAt s.dev u) 53 49)
      ((BitVec.ofNat 48 (fld (wordAt s.dev u) 47 0)).signExtend 64).toNat) } := by
  refine (run_issue rfl rfl h).trans ?_
  have himm : fld (wordAt s.dev u) 47 0 < 2 ^ 48 := Nat.mod_lt _ (by decide)
  simp [hres, bit_eq_fld, hlow, wrap64_signed_eq_signExtend (by decide) himm]

theorem exec_li_high (h : issues s.dev u 0x03 = true) (hres : fld (wordAt s.dev u) 57 54 = 0) (hhigh : fld (wordAt s.dev u) 48 48 = 1)
    (himm : fld (wordAt s.dev u) 47 16 = 0) (hclean : cleanRegs (core s.dev u) [fld (wordAt s.dev u) 53 49] = true) :
    exec (.li u) s = .next { s with dev := adv s.dev u (xw (core s.dev u) (fld (wordAt s.dev u) 53 49)
      (xr (core s.dev u) (fld (wordAt s.dev u) 53 49) % 2 ^ 48 + fld (wordAt s.dev u) 15 0 * 2 ^ 48)) } := by
  refine (run_issue rfl rfl h).trans ?_
  simp [hres, bit_eq_fld, hhigh, himm, reading_clean _ _ _ _ _ hclean]

theorem exec_li_high_bounds (h : issues s.dev u 0x03 = true) (hhigh : fld (wordAt s.dev u) 48 48 = 1)
    (himm : fld (wordAt s.dev u) 47 16 ≠ 0) :
    exec (.li u) s = .next { s with dev := coreFault s.dev u (core s.dev u).pc 4 } := by
  refine (run_issue rfl rfl h).trans ?_
  simp [bit_eq_fld, hhigh, himm]

/-- The value that LI with HIGH 1 writes is a register's. -/
theorem highImm_lt (x w : Nat) : x % 2 ^ 48 + fld w 15 0 * 2 ^ 48 < 2 ^ 64 := by
  have hlow : x % 2 ^ 48 < 2 ^ 48 := Nat.mod_lt _ (by decide)
  have hhigh : fld w 15 0 < 2 ^ 16 := Nat.mod_lt _ (by decide)
  omega

/-! ### ALU, ALUI, CSRR and NOP (R180, R185, R188) -/

variable {v : Nat}

theorem exec_alu (h : issues s.dev u 0x01 = true)
    (hv : aluOp (fld (wordAt s.dev u) 57 54) (xr (core s.dev u) (fld (wordAt s.dev u) 48 44)) (xr (core s.dev u) (fld (wordAt s.dev u) 43 39)) = some v)
    (hres : fld (wordAt s.dev u) 38 0 = 0)
    (hclean : cleanRegs (core s.dev u) [fld (wordAt s.dev u) 48 44, fld (wordAt s.dev u) 43 39] = true) :
    exec (.alu u) s = .next { s with dev := adv s.dev u (xw (core s.dev u) (fld (wordAt s.dev u) 53 49) v) } := by
  refine (run_issue rfl rfl h).trans ?_
  simp [hv, hres, reading_clean _ _ _ _ _ hclean]

theorem exec_alui (h : issues s.dev u 0x02 = true)
    (hv : aluOp (fld (wordAt s.dev u) 57 54) (xr (core s.dev u) (fld (wordAt s.dev u) 48 44)) (addImm 0 (fld (wordAt s.dev u) 31 0)) = some v)
    (hres : fld (wordAt s.dev u) 43 32 = 0) (hclean : cleanRegs (core s.dev u) [fld (wordAt s.dev u) 48 44] = true) :
    exec (.alui u) s = .next { s with dev := adv s.dev u (xw (core s.dev u) (fld (wordAt s.dev u) 53 49) v) } := by
  refine (run_issue rfl rfl h).trans ?_
  simp [hv, hres, reading_clean _ _ _ _ _ hclean]

theorem exec_csrr (h : issues s.dev u 0x09 = true) (hv : csrValue s.dev u (core s.dev u) (fld (wordAt s.dev u) 15 0) = some v)
    (hres : fld (wordAt s.dev u) 57 54 = 0) (hres' : fld (wordAt s.dev u) 48 16 = 0) :
    exec (.csrr u) s = .next { s with dev := adv s.dev u (xw (core s.dev u) (fld (wordAt s.dev u) 53 49) v) } := by
  refine (run_issue rfl rfl h).trans ?_
  simp [hv, hres, hres']

theorem exec_nop (h : issues s.dev u 0x0D = true) (hres : fld (wordAt s.dev u) 57 0 = 0) :
    exec (.nop u) s = .next { s with dev := adv s.dev u (core s.dev u) } := by
  refine (run_issue rfl rfl h).trans ?_
  simp [hres]

/-! ### BR, JAL and JALR (R187) -/

theorem jumpTo_aligned (d : Device) (u pc : Nat) (c : Core) {t : Nat} (h : t % 8 = 0) :
    jumpTo d u pc c t = setCore d u { c with pc := t } := by simp [jumpTo, h]

theorem jumpTo_misaligned (d : Device) (u pc : Nat) (c : Core) {t : Nat} (h : t % 8 ≠ 0) :
    jumpTo d u pc c t = coreFault d u pc 7 := by simp [jumpTo, h]

theorem exec_br {taken : Bool} (h : issues s.dev u 0x06 = true)
    (hcond : condOp (fld (wordAt s.dev u) 57 55) (xr (core s.dev u) (fld (wordAt s.dev u) 48 44)) (xr (core s.dev u) (fld (wordAt s.dev u) 43 39))
      = some taken)
    (hres : fld (wordAt s.dev u) 54 49 = 0) (hres' : fld (wordAt s.dev u) 38 32 = 0)
    (hclean : cleanRegs (core s.dev u) [fld (wordAt s.dev u) 48 44, fld (wordAt s.dev u) 43 39] = true) :
    exec (.br u) s = .next
      { s with dev := if taken then jumpTo s.dev u (core s.dev u).pc (core s.dev u) (addImm (core s.dev u).pc (fld (wordAt s.dev u) 31 0))
                      else adv s.dev u (core s.dev u) } := by
  refine (run_issue rfl rfl h).trans ?_
  have h54 : fld (wordAt s.dev u) 54 54 = 0 := fld_eq_zero_of_subfield hres (by decide) (by decide) (by decide)
  have h53 : fld (wordAt s.dev u) 53 49 = 0 := fld_eq_zero_of_subfield hres (by decide) (by decide) (by decide)
  simp [hcond, bit_eq_fld, h54, h53, hres', reading_clean _ _ _ _ _ hclean]

theorem exec_jal (h : issues s.dev u 0x07 = true) (hres : fld (wordAt s.dev u) 57 54 = 0) (hres' : fld (wordAt s.dev u) 48 32 = 0) :
    exec (.jal u) s = .next
      { s with dev := jumpTo s.dev u (core s.dev u).pc (xw (core s.dev u) (fld (wordAt s.dev u) 53 49) ((core s.dev u).pc + 8))
                        (addImm (core s.dev u).pc (fld (wordAt s.dev u) 31 0)) } := by
  refine (run_issue rfl rfl h).trans ?_
  simp [hres, hres']

theorem exec_jalr (h : issues s.dev u 0x08 = true) (hres : fld (wordAt s.dev u) 57 54 = 0) (hres' : fld (wordAt s.dev u) 43 32 = 0)
    (hclean : cleanRegs (core s.dev u) [fld (wordAt s.dev u) 48 44] = true) :
    exec (.jalr u) s = .next
      { s with dev := jumpTo s.dev u (core s.dev u).pc (xw (core s.dev u) (fld (wordAt s.dev u) 53 49) ((core s.dev u).pc + 8))
                        (addImm (xr (core s.dev u) (fld (wordAt s.dev u) 48 44)) (fld (wordAt s.dev u) 31 0)) } := by
  refine (run_issue rfl rfl h).trans ?_
  simp [hres, hres', reading_clean _ _ _ _ _ hclean]

/-! ### FENCE, SAFEPT and END (R189 to R191) -/

theorem quiet_iff {c : Core} : quiet c = true ↔ c.win = [] ∧ c.fl = [] := by simp [quiet]

theorem quietCtx_iff {c : Core} : quietCtx c = true ↔ (c.win = [] ∧ c.fl = []) ∧ c.tcfg = none := by simp [quietCtx, quiet_iff]

theorem exec_fence (h : issues s.dev u 0x0A = true) (hres : fld (wordAt s.dev u) 57 0 = 0) :
    exec (.fence u) s = .next { s with dev := if quiet (core s.dev u) then adv s.dev u (core s.dev u) else s.dev } := by
  refine (run_issue rfl rfl h).trans ?_
  simp [hres]

theorem exec_safept (h : issues s.dev u 0x0B = true) (hres : fld (wordAt s.dev u) 57 0 = 0) :
    exec (.safept u) s = .next
      { s with dev := if (core s.dev u).preempt = false then adv s.dev u (core s.dev u)
                      else if quietCtx (core s.dev u) then adv s.dev u { core s.dev u with st := .atSafept, stop := 0 }
                      else s.dev } := by
  refine (run_issue rfl rfl h).trans ?_
  simp [hres]

theorem exec_endProg (h : issues s.dev u 0x0C = true) (hres : fld (wordAt s.dev u) 57 0 = 0) :
    exec (.endProg u) s = .next
      { s with dev := if quiet (core s.dev u) then noteEnd (adv s.dev u { core s.dev u with st := .atEnd, stop := 1 }) u else s.dev } := by
  refine (run_issue rfl rfl h).trans ?_
  simp [hres]

end

/-! ### The functions of ALU and the conditions of BR (R185, R187) -/

theorem b2n_decide (p : Prop) [Decidable p] : b2n (decide p) = if p then 1 else 0 := by simp [b2n]

/-- The functions of ALU and ALUI by FUNC code, in the arithmetic of 64-bit words. -/
theorem aluOp_cases {a b : Nat} (ha : a < 2 ^ 64) (hb : b < 2 ^ 64) :
    aluOp 0 a b = some ((a + b) % 2 ^ 64) ∧ aluOp 1 a b = some ((a + (2 ^ 64 - b)) % 2 ^ 64)
    ∧ aluOp 2 a b = some (a &&& b) ∧ aluOp 3 a b = some (a ||| b) ∧ aluOp 4 a b = some (a ^^^ b)
    ∧ aluOp 5 a b = some (a * 2 ^ (b % 64) % 2 ^ 64) ∧ aluOp 6 a b = some (a / 2 ^ (b % 64))
    ∧ aluOp 7 a b = some (((BitVec.ofNat 64 a).sshiftRight (b % 64)).toNat)
    ∧ aluOp 8 a b = some (a * b % 2 ^ 64)
    ∧ aluOp 9 a b = some (if (BitVec.ofNat 64 a).toInt ≤ (BitVec.ofNat 64 b).toInt then a else b)
    ∧ aluOp 10 a b = some (if (BitVec.ofNat 64 a).toInt ≤ (BitVec.ofNat 64 b).toInt then b else a)
    ∧ aluOp 11 a b = some (if (BitVec.ofNat 64 a).toInt < (BitVec.ofNat 64 b).toInt then 1 else 0)
    ∧ aluOp 12 a b = some (if a < b then 1 else 0)
    ∧ (∀ f, 13 ≤ f → aluOp f a b = none) := by
  have hsa : signed 64 a = (BitVec.ofNat 64 a).toInt := signed_eq_toInt (by decide) ha
  have hsb : signed 64 b = (BitVec.ofNat 64 b).toInt := signed_eq_toInt (by decide) hb
  have hsub : aluOp 1 a b = some ((a + (2 ^ 64 - b)) % 2 ^ 64) := by rw [aluOp, Nat.add_sub_assoc hb.le]
  have hshl : aluOp 5 a b = some (a * 2 ^ (b % 64) % 2 ^ 64) := by rw [aluOp, Nat.shiftLeft_eq]
  have hshr : aluOp 6 a b = some (a / 2 ^ (b % 64)) := by rw [aluOp, Nat.shiftRight_eq_div_pow]
  have hsar : aluOp 7 a b = some (((BitVec.ofNat 64 a).sshiftRight (b % 64)).toNat) := by
    rw [aluOp, wrap64_signed_div_eq_sshiftRight ha]
  have hmin : aluOp 9 a b = some (if (BitVec.ofNat 64 a).toInt ≤ (BitVec.ofNat 64 b).toInt then a else b) := by rw [aluOp, hsa, hsb]
  have hmax : aluOp 10 a b = some (if (BitVec.ofNat 64 a).toInt ≤ (BitVec.ofNat 64 b).toInt then b else a) := by rw [aluOp, hsa, hsb]
  have hslt : aluOp 11 a b = some (if (BitVec.ofNat 64 a).toInt < (BitVec.ofNat 64 b).toInt then 1 else 0) := by
    rw [aluOp, hsa, hsb, b2n_decide]
  have hult : aluOp 12 a b = some (if a < b then 1 else 0) := by rw [aluOp, b2n_decide]
  have hreserved (f : Nat) (hf : 13 ≤ f) : aluOp f a b = none := by
    obtain ⟨k, rfl⟩ := Nat.exists_eq_add_of_le' hf
    rfl
  exact ⟨rfl, hsub, rfl, rfl, rfl, hshl, hshr, hsar, rfl, hmin, hmax, hslt, hult, hreserved⟩

/-- The conditions of BR by COND code, in the arithmetic of 64-bit words. -/
theorem condOp_cases {a b : Nat} (ha : a < 2 ^ 64) (hb : b < 2 ^ 64) :
    condOp 0 a b = some (decide (a = b)) ∧ condOp 1 a b = some (decide (a ≠ b))
    ∧ condOp 2 a b = some (decide ((BitVec.ofNat 64 a).toInt < (BitVec.ofNat 64 b).toInt))
    ∧ condOp 3 a b = some (decide ((BitVec.ofNat 64 b).toInt ≤ (BitVec.ofNat 64 a).toInt))
    ∧ condOp 4 a b = some (decide (a < b)) ∧ condOp 5 a b = some (decide (b ≤ a)) ∧ condOp 6 a b = none ∧ condOp 7 a b = none := by
  have hsa : signed 64 a = (BitVec.ofNat 64 a).toInt := signed_eq_toInt (by decide) ha
  have hsb : signed 64 b = (BitVec.ofNat 64 b).toInt := signed_eq_toInt (by decide) hb
  have hne : condOp 1 a b = some (decide (a ≠ b)) := by simp [condOp, bne, beq_eq_decide]
  exact ⟨rfl, hne, by rw [condOp, hsa, hsb], by rw [condOp, hsa, hsb], rfl, rfl, rfl, rfl⟩

/-! ### The obligations -/

/-- Settles O7: each form of LI by its equation, and what a write of one register leaves. -/
theorem liWritesRegister : Obligations.LiWritesRegister := by
  unfold Obligations.LiWritesRegister
  intro u s c w xd h hres
  refine ⟨fun hlow => ⟨exec_li_low h hres hlow, ?_⟩, fun hhigh himm hclean => ⟨exec_li_high h hres hhigh himm hclean, ?_⟩,
    fun hhigh himm => exec_li_high_bounds h hhigh himm⟩
  · exact core_adv_xw s.dev u c (BitVec.isLt _)
  · exact core_adv_xw s.dev u c (highImm_lt _ _)

/-- Settles O8: one equation for each instruction, and the functions by FUNC code. -/
theorem scalarResults : Obligations.ScalarResults := by
  unfold Obligations.ScalarResults
  exact ⟨fun _ _ _ => ⟨exec_alu, exec_alui, exec_csrr, exec_nop⟩, fun _ _ => aluOp_cases⟩

/-- Settles O10: each jump is `jumpTo` its target, split by the target's alignment. -/
theorem scalarJumps : Obligations.ScalarJumps := by
  unfold Obligations.ScalarJumps
  refine ⟨fun _ _ => condOp_cases, ?_⟩
  intro u s d c w rel ind
  refine ⟨fun h hres hres' hclean => ⟨fun hcond => exec_br h hcond hres hres' hclean, fun hcond => ?_⟩, fun h hres hres' => ?_,
    fun h hres hres' hclean => ?_⟩
  · have hbr := exec_br h hcond hres hres' hclean
    rw [if_pos rfl] at hbr
    exact ⟨fun ht => by rw [hbr, jumpTo_aligned _ _ _ _ ht], fun ht => by rw [hbr, jumpTo_misaligned _ _ _ _ ht]⟩
  · have hjal := exec_jal h hres hres'
    exact ⟨fun ht => by rw [hjal, jumpTo_aligned _ _ _ _ ht], fun ht => by rw [hjal, jumpTo_misaligned _ _ _ _ ht]⟩
  · have hjalr := exec_jalr h hres hres' hclean
    exact ⟨fun ht => by rw [hjalr, jumpTo_aligned _ _ _ _ ht], fun ht => by rw [hjalr, jumpTo_misaligned _ _ _ _ ht]⟩

/-- Settles O11: each instruction's equation, split by whether the core is quiet and, for SAFEPT, by the request to preempt. -/
theorem fenceSafeptEnd : Obligations.FenceSafeptEnd := by
  unfold Obligations.FenceSafeptEnd
  intro u s d c w
  refine ⟨fun h hres => ⟨fun hq => ?_, fun hq => ?_⟩, fun h hres => ⟨fun hp => ?_, fun hp hwin hfl htcfg => ?_⟩,
    fun h hres => ⟨fun hq => ?_, fun hq => ?_⟩⟩
  · rw [exec_fence h hres, if_pos (quiet_iff.2 hq)]
  · rw [exec_fence h hres, if_neg (mt quiet_iff.1 hq)]
  · rw [exec_safept h hres, if_pos hp]
  · rw [exec_safept h hres, if_neg (by simp [c, d, hp]), if_pos (quietCtx_iff.2 ⟨⟨hwin, hfl⟩, htcfg⟩)]
  · rw [exec_endProg h hres, if_pos (quiet_iff.2 hq)]
  · rw [exec_endProg h hres, if_neg (mt quiet_iff.1 hq)]

end Sys2Proof.Machine
end

section
/-!
A step takes the front of the queue, and every command is the run of an effect that keeps the module sound: O1 to O4.
-/
namespace Sys2Proof.Machine

/-- A command runs an effect on the module, and the effect keeps the module sound. -/
def RunsSound (c : Instr) : Prop := ∃ f : Device → Device, (∀ s, exec c s = run c f s) ∧ ∀ b d, Sound b d → Sound b (f d)

theorem runsSound_of {c : Instr} {f : Device → Device} (he : ∀ s, exec c s = run c f s) (hf : ∀ {b d}, Sound b d → Sound b (f d)) : RunsSound c :=
  ⟨f, he, fun _ _ => hf⟩

/-- Each row of the table, by the soundness of its effect. -/
theorem runsSound (c : Instr) : RunsSound c := by
  cases c with
  | alu => exact runsSound_of (fun _ => rfl) aluInstr_sound
  | alui => exact runsSound_of (fun _ => rfl) aluiInstr_sound
  | li => exact runsSound_of (fun _ => rfl) liInstr_sound
  | ld => exact runsSound_of (fun _ => rfl) ldInstr_sound
  | st => exact runsSound_of (fun _ => rfl) stInstr_sound
  | br => exact runsSound_of (fun _ => rfl) brInstr_sound
  | jal => exact runsSound_of (fun _ => rfl) jalInstr_sound
  | jalr => exact runsSound_of (fun _ => rfl) jalrInstr_sound
  | csrr => exact runsSound_of (fun _ => rfl) csrrInstr_sound
  | fence => exact runsSound_of (fun _ => rfl) fenceInstr_sound
  | safept => exact runsSound_of (fun _ => rfl) safeptInstr_sound
  | endProg => exact runsSound_of (fun _ => rfl) endInstr_sound
  | nop => exact runsSound_of (fun _ => rfl) nopInstr_sound
  | tcfg => exact runsSound_of (fun _ => rfl) tcfgInstr_sound
  | tcfgApply => exact runsSound_of (fun _ => rfl) tcfgApplyStep_sound
  | tclr => exact runsSound_of (fun _ => rfl) tclrInstr_sound
  | tdead => exact runsSound_of (fun _ => rfl) tdeadInstr_sound
  | wld => exact runsSound_of (fun _ => rfl) wldInstr_sound
  | wldStart => exact runsSound_of (fun _ => rfl) wldStart_sound
  | wldReady => exact runsSound_of (fun _ => rfl) wldReady_sound
  | mma => exact runsSound_of (fun _ => rfl) mmaInstr_sound
  | bankSwap => exact runsSound_of (fun _ => rfl) bankSwap_sound
  | passComplete => exact runsSound_of (fun _ => rfl) passComplete_sound
  | accdrain => exact runsSound_of (fun _ => rfl) accdrainInstr_sound
  | drainComplete => exact runsSound_of (fun _ => rfl) drainComplete_sound
  | accClearDone => exact runsSound_of (fun _ => rfl) accClearDone_sound
  | vbin => exact runsSound_of (fun _ => rfl) vbinInstr_sound
  | vfma => exact runsSound_of (fun _ => rfl) vfmaInstr_sound
  | vun => exact runsSound_of (fun _ => rfl) vunInstr_sound
  | vscal => exact runsSound_of (fun _ => rfl) vscalInstr_sound
  | vfn => exact runsSound_of (fun _ => rfl) vfnInstr_sound
  | vdfn => exact runsSound_of (fun _ => rfl) vdfnInstr_sound
  | vred => exact runsSound_of (fun _ => rfl) vredInstr_sound
  | vste => exact runsSound_of (fun _ => rfl) vsteInstr_sound
  | vectorComplete => exact runsSound_of (fun _ => rfl) vectorComplete_sound
  | ftld => exact runsSound_of (fun _ => rfl) ftldInstr_sound
  | ftinv => exact runsSound_of (fun _ => rfl) ftinvInstr_sound
  | sxfer => exact runsSound_of (fun _ => rfl) sxferInstr_sound
  | sarr => exact runsSound_of (fun _ => rfl) sarrInstr_sound
  | sset => exact runsSound_of (fun _ => rfl) ssetInstr_sound
  | swait => exact runsSound_of (fun _ => rfl) swaitInstr_sound
  | sgate => exact runsSound_of (fun _ => rfl) sgateInstr_sound
  | sread => exact runsSound_of (fun _ => rfl) sreadInstr_sound
  | instrFire => exact runsSound_of (fun _ => rfl) instrFire_sound
  | xferComplete => exact runsSound_of (fun _ => rfl) xferComplete_sound
  | landingPlace => exact runsSound_of (fun _ => rfl) landingPlace_sound
  | landCtrlReset => exact runsSound_of (fun _ => rfl) landCtrlReset_sound
  | landingReset => exact runsSound_of (fun _ => rfl) landingReset_sound
  | contextSave => exact runsSound_of (fun _ => rfl) contextSave_sound
  | contextRestore => exact runsSound_of (fun _ => rfl) contextRestore_sound
  | arrSteerWrite => exact runsSound_of (fun _ => rfl) arrSteerWrite_sound
  | steerApply => exact runsSound_of (fun _ => rfl) steerApply_sound
  | stackRead => exact runsSound_of (fun _ => rfl) stackReadCmd_sound
  | stackWriteAccept => exact runsSound_of (fun _ => rfl) stackWriteAccept_sound
  | stackRefresh => exact runsSound_of (fun _ => rfl) stackRefresh_sound
  | stackTempSample => exact runsSound_of (fun _ => rfl) stackTempSample_sound
  | runaheadFetch => exact runsSound_of (fun _ => rfl) runaheadFetch_sound
  | xinvAllJobs => exact runsSound_of (fun _ => rfl) xinvAllJobs_sound
  | xinvJob => exact runsSound_of (fun _ => rfl) xinvJob_sound
  | xinvRange => exact runsSound_of (fun _ => rfl) xinvRange_sound
  | xinvComplete => exact runsSound_of (fun _ => rfl) xinvComplete_sound
  | sigStoreApply => exact runsSound_of (fun _ => rfl) sigStoreApply_sound
  | sigPoll => exact runsSound_of (fun _ => rfl) sigPoll_sound
  | sigWindowSet => exact runsSound_of (fun _ => rfl) sigWindowSet_sound
  | signalRx => exact runsSound_of (fun _ => rfl) signalRx_sound
  | remoteSignalRelease => exact runsSound_of (fun _ => rfl) remoteSignalRelease_sound
  | writeRx => exact runsSound_of (fun _ => rfl) writeRx_sound
  | writeErrRx => exact runsSound_of (fun _ => rfl) writeErrRx_sound
  | linkPacketRx => exact runsSound_of (fun _ => rfl) linkPacketRx_sound
  | badBlock => exact runsSound_of (fun _ => rfl) badBlock_sound
  | packetSend => exact runsSound_of (fun _ => rfl) packetSend_sound
  | trainBlockRx => exact runsSound_of (fun _ => rfl) trainBlockRx_sound
  | trainStepTimeout => exact runsSound_of (fun _ => rfl) trainStepTimeout_sound
  | linkSilenceTimeout => exact runsSound_of (fun _ => rfl) linkSilenceTimeout_sound
  | laneLockLoss => exact runsSound_of (fun _ => rfl) laneLockLoss_sound
  | laneLockRegained => exact runsSound_of (fun _ => rfl) laneLockRegained_sound
  | retrain => exact runsSound_of (fun _ => rfl) retrain_sound
  | testReq => exact runsSound_of (fun _ => rfl) testReq_sound
  | testForce => exact runsSound_of (fun _ => rfl) testForce_sound
  | testEnd => exact runsSound_of (fun _ => rfl) testEnd_sound
  | testAnswerTimeout => exact runsSound_of (fun _ => rfl) testAnswerTimeout_sound
  | ctxLoad => exact runsSound_of (fun _ => rfl) ctxLoad_sound
  | ctxUnload => exact runsSound_of (fun _ => rfl) ctxUnload_sound
  | ctxCmdReserved => exact runsSound_of (fun _ => rfl) ctxCmdReserved_sound
  | bucketReady => exact runsSound_of (fun _ => rfl) bucketReady_sound
  | readyRx => exact runsSound_of (fun _ => rfl) readyRx_sound
  | chainStart => exact runsSound_of (fun _ => rfl) chainStart_sound
  | partialRx => exact runsSound_of (fun _ => rfl) partialRx_sound
  | deadlineTaint => exact runsSound_of (fun _ => rfl) deadlineTaint_sound
  | pushedSend => exact runsSound_of (fun _ => rfl) pushedSend_sound
  | upstreamRestart => exact runsSound_of (fun _ => rfl) upstreamRestart_sound
  | emptyBlockWrite => exact runsSound_of (fun _ => rfl) emptyBlockWrite_sound
  | normSend => exact runsSound_of (fun _ => rfl) normSend_sound
  | normRx => exact runsSound_of (fun _ => rfl) normRx_sound
  | gatherSend => exact runsSound_of (fun _ => rfl) gatherSend_sound
  | gatherRx => exact runsSound_of (fun _ => rfl) gatherRx_sound
  | uctxLoad => exact runsSound_of (fun _ => rfl) uctxLoad_sound
  | uctxUnload => exact runsSound_of (fun _ => rfl) uctxUnload_sound
  | uctxCmdReserved => exact runsSound_of (fun _ => rfl) uctxCmdReserved_sound
  | statsPass => exact runsSound_of (fun _ => rfl) statsPass_sound
  | applyGrant => exact runsSound_of (fun _ => rfl) applyGrant_sound
  | etaLatch => exact runsSound_of (fun _ => rfl) etaLatch_sound
  | etaWordWrite => exact runsSound_of (fun _ => rfl) etaWordWrite_sound
  | applyBucket => exact runsSound_of (fun _ => rfl) applyBucket_sound
  | foyerWrRx => exact runsSound_of (fun _ => rfl) foyerWrRx_sound
  | foyerRdRx => exact runsSound_of (fun _ => rfl) foyerRdRx_sound
  | foyerCplRx => exact runsSound_of (fun _ => rfl) foyerCplRx_sound
  | doorbell => exact runsSound_of (fun _ => rfl) doorbell_sound
  | jobStart => exact runsSound_of (fun _ => rfl) jobStart_sound
  | jobEnd => exact runsSound_of (fun _ => rfl) jobEnd_sound
  | preemptBoundary => exact runsSound_of (fun _ => rfl) preemptBoundary_sound
  | preemptSafept => exact runsSound_of (fun _ => rfl) preemptSafept_sound
  | preempted => exact runsSound_of (fun _ => rfl) preempted_sound
  | resume => exact runsSound_of (fun _ => rfl) resume_sound
  | stepCmd => exact runsSound_of (fun _ => rfl) stepCmd_sound
  | checkpoint => exact runsSound_of (fun _ => rfl) checkpoint_sound
  | ckptDone => exact runsSound_of (fun _ => rfl) ckptDone_sound
  | reimage => exact runsSound_of (fun _ => rfl) reimage_sound
  | cmdReserved => exact runsSound_of (fun _ => rfl) cmdReserved_sound
  | batchFetch => exact runsSound_of (fun _ => rfl) batchFetch_sound
  | attemptStart => exact runsSound_of (fun _ => rfl) attemptStart_sound
  | microBatchStart => exact runsSound_of (fun _ => rfl) microBatchStart_sound
  | microBatchDone => exact runsSound_of (fun _ => rfl) microBatchDone_sound
  | stepReady => exact runsSound_of (fun _ => rfl) stepReady_sound
  | verdictApply => exact runsSound_of (fun _ => rfl) verdictApply_sound
  | verdictRepeat => exact runsSound_of (fun _ => rfl) verdictRepeat_sound
  | verdictSkip => exact runsSound_of (fun _ => rfl) verdictSkip_sound
  | verdictNone => exact runsSound_of (fun _ => rfl) verdictNone_sound
  | stepCommit => exact runsSound_of (fun _ => rfl) stepCommit_sound
  | eventRecordWrite => exact runsSound_of (fun _ => rfl) eventRecordWrite_sound
  | evtBaseWrite => exact runsSound_of (fun _ => rfl) evtBaseWrite_sound
  | evtSizeWrite => exact runsSound_of (fun _ => rfl) evtSizeWrite_sound
  | evtHeadWrite => exact runsSound_of (fun _ => rfl) evtHeadWrite_sound
  | ringSizeWrite => exact runsSound_of (fun _ => rfl) ringSizeWrite_sound
  | dvfsRequest => exact runsSound_of (fun _ => rfl) dvfsRequest_sound
  | dvfsStepDone => exact runsSound_of (fun _ => rfl) dvfsStepDone_sound
  | voltOvrWrite => exact runsSound_of (fun _ => rfl) voltOvrWrite_sound
  | thermTargetWrite => exact runsSound_of (fun _ => rfl) thermTargetWrite_sound
  | thermalLoop => exact runsSound_of (fun _ => rfl) thermalLoop_sound
  | powerLoop => exact runsSound_of (fun _ => rfl) powerLoop_sound
  | currentLimiterCheck => exact runsSound_of (fun _ => rfl) currentLimiterCheck_sound
  | thermalTrip => exact runsSound_of (fun _ => rfl) thermalTrip_sound
  | pmEntryStart => exact runsSound_of (fun _ => rfl) pmEntryStart_sound
  | pmStageDone => exact runsSound_of (fun _ => rfl) pmStageDone_sound
  | pmWake => exact runsSound_of (fun _ => rfl) pmWake_sound
  | pmExitStep => exact runsSound_of (fun _ => rfl) pmExitStep_sound
  | pmExitTimeout => exact runsSound_of (fun _ => rfl) pmExitTimeout_sound
  | paceJobWrite => exact runsSound_of (fun _ => rfl) paceJobWrite_sound
  | watchdogRestart => exact runsSound_of (fun _ => rfl) watchdogRestart_sound
  | porterReadyTimeout => exact runsSound_of (fun _ => rfl) porterReadyTimeout_sound
  | getStatus => exact runsSound_of (fun _ => rfl) getStatus_sound
  | alertAck => exact runsSound_of (fun _ => rfl) alertAck_sound
  | readSensor => exact runsSound_of (fun _ => rfl) readSensor_sound
  | setChassisTemp => exact runsSound_of (fun _ => rfl) setChassisTemp_sound
  | readLog => exact runsSound_of (fun _ => rfl) readLog_sound
  | wakeMsg => exact runsSound_of (fun _ => rfl) wakeMsg_sound
  | resetModule => exact runsSound_of (fun _ => rfl) resetModule_sound
  | setRtc => exact runsSound_of (fun _ => rfl) setRtc_sound
  | setAlarm => exact runsSound_of (fun _ => rfl) setAlarm_sound
  | fwBegin => exact runsSound_of (fun _ => rfl) fwBegin_sound
  | fwData => exact runsSound_of (fun _ => rfl) fwData_sound
  | fwVerify => exact runsSound_of (fun _ => rfl) fwVerify_sound
  | fwActivate => exact runsSound_of (fun _ => rfl) fwActivate_sound
  | fwCommit => exact runsSound_of (fun _ => rfl) fwCommit_sound
  | fwSessionTimeout => exact runsSound_of (fun _ => rfl) fwSessionTimeout_sound
  | getIdentity => exact runsSound_of (fun _ => rfl) getIdentity_sound
  | attestReq => exact runsSound_of (fun _ => rfl) attestReq_sound
  | attestReady => exact runsSound_of (fun _ => rfl) attestReady_sound
  | attestRead => exact runsSound_of (fun _ => rfl) attestRead_sound
  | fenceUnit => exact runsSound_of (fun _ => rfl) fenceUnit_sound
  | releaseUnit => exact runsSound_of (fun _ => rfl) releaseUnit_sound
  | selfTest => exact runsSound_of (fun _ => rfl) selfTest_sound
  | unknownCmd => exact runsSound_of (fun _ => rfl) unknownCmd_sound
  | sensorConversion => exact runsSound_of (fun _ => rfl) sensorConversion_sound
  | logFlush => exact runsSound_of (fun _ => rfl) logFlush_sound
  | rtcAlarm => exact runsSound_of (fun _ => rfl) rtcAlarm_sound
  | selfTestStart => exact runsSound_of (fun _ => rfl) selfTestStart_sound
  | selfTestEnd => exact runsSound_of (fun _ => rfl) selfTestEnd_sound
  | floorPlanChange => exact runsSound_of (fun _ => rfl) floorPlanChange_sound
  | restoreCopy => exact runsSound_of (fun _ => rfl) restoreCopy_sound
  | restoreCopyDone => exact runsSound_of (fun _ => rfl) restoreCopyDone_sound
  | repairHoldClear => exact runsSound_of (fun _ => rfl) repairHoldClear_sound
  | blkEnable => exact runsSound_of (fun _ => rfl) blkEnable_sound
  | softReset => exact runsSound_of (fun _ => rfl) softReset_sound
  | softResetDone => exact runsSound_of (fun _ => rfl) softResetDone_sound
  | blkFence => exact runsSound_of (fun _ => rfl) blkFence_sound
  | lockPage => exact runsSound_of (fun _ => rfl) lockPage_sound
  | errorClear => exact runsSound_of (fun _ => rfl) errorClear_sound
  | reg64LoWrite => exact runsSound_of (fun _ => rfl) reg64LoWrite_sound
  | reg64HiCommit => exact runsSound_of (fun _ => rfl) reg64HiCommit_sound
  | dbgRead => exact runsSound_of (fun _ => rfl) dbgRead_sound
  | dbgWrite => exact runsSound_of (fun _ => rfl) dbgWrite_sound
  | registerWrite => exact runsSound_of (fun _ => rfl) registerWrite_sound
  | powerApply => exact runsSound_of (fun _ => rfl) powerApply_sound
  | powerLoss => exact runsSound_of (fun _ => rfl) powerLoss_sound
  | overvoltageShutdown => exact runsSound_of (fun _ => rfl) overvoltageShutdown_sound
  | inputProtectionOpen => exact runsSound_of (fun _ => rfl) inputProtectionOpen_sound
  | pwrEnRise => exact runsSound_of (fun _ => rfl) pwrEnRise_sound
  | pwrEnFall => exact runsSound_of (fun _ => rfl) pwrEnFall_sound
  | modResetN => exact runsSound_of (fun _ => rfl) modResetN_sound
  | wakeN => exact runsSound_of (fun _ => rfl) wakeN_sound
  | porterBoot => exact runsSound_of (fun _ => rfl) porterBoot_sound
  | mainRails => exact runsSound_of (fun _ => rfl) mainRails_sound
  | oscStart => exact runsSound_of (fun _ => rfl) oscStart_sound
  | stackTrain => exact runsSound_of (fun _ => rfl) stackTrain_sound
  | seqImageLoad => exact runsSound_of (fun _ => rfl) seqImageLoad_sound
  | logicRelease => exact runsSound_of (fun _ => rfl) logicRelease_sound
  | powerOnSelfTest => exact runsSound_of (fun _ => rfl) powerOnSelfTest_sound
  | floorPlanBuild => exact runsSound_of (fun _ => rfl) floorPlanBuild_sound
  | seqInit => exact runsSound_of (fun _ => rfl) seqInit_sound
  | commandsAccepted => exact runsSound_of (fun _ => rfl) commandsAccepted_sound
  | seqRunningTimeout => exact runsSound_of (fun _ => rfl) seqRunningTimeout_sound
  | stageFailure => exact runsSound_of (fun _ => rfl) stageFailure_sound
  | trainStepDone => exact runsSound_of (fun _ => rfl) trainStepDone_sound
  | testEntryAckTimeout => exact runsSound_of (fun _ => rfl) testEntryAckTimeout_sound
  | rcRead => exact runsSound_of (fun _ => rfl) rcRead_sound

/-- A command answers its effect on the module with the queue as it is, or stops by noSuchUnit. -/
theorem exec_cases (c : Instr) (s : State) :
    (c.wf = true → ∃ d, exec c s = .next { s with dev := d }) ∧ (c.wf = false → exec c s = .fault .noSuchUnit) := by
  obtain ⟨f, he, -⟩ := runsSound c
  rw [he s]
  exact ⟨fun h => ⟨f s.dev, run_wf f s h⟩, run_ill f s⟩

theorem exec_pending {c : Instr} {s t : State} (h : exec c s = .next t) : t.pending = s.pending := by
  obtain ⟨f, he, -⟩ := runsSound c
  rw [he s] at h
  exact (run_next h).2

theorem exec_sound {b : Nat → Nat} {c : Instr} {s t : State} (hs : Sound b s.dev) (h : exec c s = .next t) : Sound b t.dev := by
  obtain ⟨f, he, hf⟩ := runsSound c
  rw [he s] at h
  rw [(run_next h).1]
  exact hf b s.dev hs

/-- Settles O1: `step` by the queue's two forms; a command leaves the queue that it is given. -/
theorem stepTakesTheFront : Obligations.StepTakesTheFront := by
  unfold Obligations.StepTakesTheFront
  refine ⟨fun c rest s => ⟨rfl, rfl⟩, ?_⟩
  rintro ⟨_ | ⟨c, rest⟩, d⟩ t h
  · cases h
    rfl
  · exact exec_pending (c := c) h

/-- Settles O2: every command is the run of its effect. -/
theorem everyCommandAnswers : Obligations.EveryCommandAnswers := by
  unfold Obligations.EveryCommandAnswers
  exact exec_cases

/-- Settles O4: the passing of time, and the effect of the command taken, keep the module sound. -/
theorem everyStepKeepsSound : Obligations.EveryStepKeepsSound := by
  unfold Obligations.EveryStepKeepsSound
  rintro b ⟨_ | ⟨c, rest⟩, d⟩ t hs h
  · cases h
    exact tick_sound hs
  · exact exec_sound (s := ⟨rest, d⟩) hs h

end Sys2Proof.Machine
end

section
/-!
Instructions that enter the firing window (R168 to R173): O13 and O15.
-/
namespace Sys2Proof.Machine

section
variable {u op a n x y : Nat} {rs : List Nat} {resv : Nat → Bool} {ra rb : Nat → Option Nat} {mem : Core → Nat → Nat × Nat} {s : State} {c : Instr}

/-- The command of a windowed instruction that can enter answers the core with the instruction in its window. -/
theorem exec_enters (he : exec c s = run c (enter u op resv ra rb mem) s) (hwf : c.wf = decide (u < 864)) (hop : opDefined op = true)
    (h : entersWindow s.dev u op rs a n = true) (hr : resv (wordAt s.dev u) = false)
    (hs : (ra (wordAt s.dev u)).toList ++ (rb (wordAt s.dev u)).toList = rs) (hm : mem (core s.dev u) (wordAt s.dev u) = (a, n))
    (hx : ((ra (wordAt s.dev u)).map (xr (core s.dev u))).getD 0 = x) (hy : ((rb (wordAt s.dev u)).map (xr (core s.dev u))).getD 0 = y) :
    exec c s = .next { s with dev := windowed s.dev u x y a n } := by
  have hi : issues s.dev u op = true := by
    simp only [entersWindow, Bool.and_eq_true] at h
    exact h.1.1.1.1
  rw [he, run_wf _ _ (by simpa [hwf] using issues_lt hi), enter_run hop h hr hs hm, hx, hy]

/-- The same of an instruction that captures no register and no scalar memory. -/
theorem exec_enters_plain (he : exec c s = run c (enter u op resv noReg noReg noMem) s) (hwf : c.wf = decide (u < 864)) (hop : opDefined op = true)
    (h : entersWindow s.dev u op [] 0 0 = true) (hr : resv (wordAt s.dev u) = false) :
    exec c s = .next { s with dev := windowed s.dev u 0 0 0 0 } := exec_enters he hwf hop h hr rfl rfl rfl rfl

/-- ACCDRAIN's FUNC field holds no reserved value (R195). -/
theorem drainFunc_ok {w : Nat} (h : fld w 26 23 < 8 ∨ fld w 26 23 = 15) : (decide (8 ≤ fld w 26 23) && decide (fld w 26 23 < 15)) = false := by
  rw [Bool.and_eq_false_iff, decide_eq_false_iff_not, decide_eq_false_iff_not]
  omega

end

/-- Settles O13: each instruction enters, as no reserved field of its word is set; ACCDRAIN captures by its bit 21 a descriptor or a register. -/
theorem tileControlEntersWindow : Obligations.TileControlEntersWindow := by
  unfold Obligations.TileControlEntersWindow
  intro u s
  dsimp only
  generalize hw : wordAt s.dev u = w
  refine ⟨fun h h1 => ?_, fun h h1 => ?_, fun h h1 h2 h3 => ?_, fun h h1 h2 h3 => ?_, fun h h1 h2 h3 => ?_, fun h h1 h2 h3 => ?_⟩
  · exact exec_enters_plain rfl rfl rfl h (by simp [hw, h1])
  · exact exec_enters_plain rfl rfl rfl h (by simp [hw, h1])
  · exact exec_enters_plain rfl rfl rfl h (by simp [hw, h1, h2, h3])
  · exact exec_enters_plain rfl rfl rfl h (by simp [hw, h1, h2, h3])
  · have hb : bit w 21 = true := by simp [bit_eq_fld, h1]
    exact exec_enters rfl rfl rfl h (by simp [hw, drainFunc_ok h2, hb, h3]) (by simp [hw, hb, noReg]) (by simp [hw, hb]) (by simp [hw, hb]) rfl
  · have hb : bit w 21 = false := by simp [bit_eq_fld, h1]
    exact exec_enters rfl rfl rfl h (by simp [hw, drainFunc_ok h2, hb, h3]) (by simp [hw, hb, noReg]) (by simp [hw, hb]) (by simp [hw, hb]) rfl

/-- Settles O15: each instruction enters, with the registers and the descriptor that its word names. -/
theorem streamEntersWindow : Obligations.StreamEntersWindow := by
  unfold Obligations.StreamEntersWindow
  intro u s
  dsimp only
  generalize hw : wordAt s.dev u = w
  refine ⟨fun h h1 h2 => ?_, fun h h1 => ?_, fun h h1 h2 => ?_, fun h h1 h2 h3 => ?_, fun h h1 h2 h3 => ?_⟩
  · exact exec_enters rfl rfl rfl h (by simp [hw, nz, h1, h2]) (by simp [hw, noReg]) rfl (by simp [hw]) rfl
  · exact exec_enters_plain rfl rfl rfl h (by simp [hw, nz, h1])
  · exact exec_enters rfl rfl rfl h (by simp [hw, nz, h1, h2]) (by simp [hw, noReg]) (by simp [hw]) (by simp [hw]) rfl
  · exact exec_enters rfl rfl rfl h (by simp [hw, nz, bit_eq_fld, h1, h2, h3]) (by simp [hw]) rfl (by simp [hw]) (by simp [hw])
  · exact exec_enters rfl rfl rfl h (by simp [hw, nz, bit_eq_fld, h1, h2, h3]) (by simp [hw]) rfl (by simp [hw]) (by simp [hw])

end Sys2Proof.Machine
end

section
/-!
SWAIT, SGATE and SREAD (R218, R220, R327): O12.
-/
namespace Sys2Proof.Machine

theorem bit_eq_fld_ne_zero (w n : Nat) : bit w n = (fld w n n != 0) := by
  have h : fld w n n < 2 := by simpa [fld] using Nat.mod_lt (w >>> n) (by decide : 0 < 2)
  rw [bit_eq_fld, Bool.eq_iff_iff, beq_iff_eq, bne_iff_ne]
  omega

theorem cleanRegs_of_no_flaw {c : Core} {rs : List Nat} (hu : upsetReg c rs = false) (hp : poisonReg c rs = false) : cleanRegs c rs = true := by
  simp only [upsetReg, poisonReg, List.any_eq_false, Bool.and_eq_true, bne_iff_ne, List.contains_iff_mem, not_and] at hu hp
  exact cleanRegs_iff.2 fun r hr => or_iff_not_imp_left.2 fun h0 => ⟨hu r hr h0, hp r hr h0⟩

/-- Registers that are not clean stop the core, by failing parity first. -/
theorem reading_unclean (d : Device) (u : Nat) (rs : List Nat) (k : Device) (h : cleanRegs (core d u) rs = false) :
    reading d u (core d u) rs k = regStop d u rs := by
  change (if upsetReg (core d u) rs then _ else if poisonReg (core d u) rs then _ else k) = if upsetReg (core d u) rs then _ else _
  split
  · rfl
  · next hu =>
    have hp : poisonReg (core d u) rs = true := by
      by_contra hp
      simp [cleanRegs_of_no_flaw (Bool.eq_false_iff.2 hu) (Bool.eq_false_iff.2 hp)] at h
    rw [if_pos hp]

/-- An instruction that names signal word `i` checks its reserved fields, then its registers, then the word, before its effect `k` (R169, R314). -/
def onSignal (d : Device) (u : Nat) (resv : Bool) (rs : List Nat) (i : Nat) (k : Device) : Device :=
  if resv then coreFault d u (core d u).pc 4
  else reading d u (core d u) rs
    (match wordFault d i ((core d u).job.getD 16) with
     | some f => coreFault d u (core d u).pc f
     | none => k)

/-- A target is below 2⁴⁸ before the wait `k` starts (R218). -/
def onTarget (d : Device) (u t : Nat) (k : Device) : Device := if t ≥ 2 ^ 48 then coreFault d u (core d u).pc 4 else k

section
variable {d : Device} {u i f t : Nat} {resv : Bool} {rs : List Nat} {k : Device}

theorem onSignal_reserved (h : resv = true) : onSignal d u resv rs i k = coreFault d u (core d u).pc 4 := by simp [onSignal, h]

theorem onSignal_unclean (hr : resv = false) (hc : cleanRegs (core d u) rs = false) : onSignal d u resv rs i k = regStop d u rs := by
  simp [onSignal, hr, reading_unclean _ _ _ _ hc]

theorem onSignal_wordFault (hr : resv = false) (hc : cleanRegs (core d u) rs = true) (hw : wordFault d i ((core d u).job.getD 16) = some f) :
    onSignal d u resv rs i k = coreFault d u (core d u).pc f := by
  simp [onSignal, hr, reading_clean _ _ _ _ _ hc, hw]

theorem onSignal_good (hr : resv = false) (hc : cleanRegs (core d u) rs = true) (hw : wordFault d i ((core d u).job.getD 16) = none) :
    onSignal d u resv rs i k = k := by
  simp [onSignal, hr, reading_clean _ _ _ _ _ hc, hw]

theorem onTarget_lt (h : t < 2 ^ 48) : onTarget d u t k = k := if_neg (Nat.not_le.2 h)
theorem onTarget_ge (h : 2 ^ 48 ≤ t) : onTarget d u t k = coreFault d u (core d u).pc 4 := if_pos h

end

/-! ### What each instruction does on a good word -/

/-- SWAIT's wait: issue goes on, or stops with the wait noted. -/
def swaitOn (d : Device) (u i t : Nat) (mon : Bool) : Device :=
  let r := startWait d u 0 i t mon
  if r.1.seen then adv r.2 u (core r.2 u) else adv r.2 u { core r.2 u with st := .swait, swait := some r.1 }

theorem swaitOn_seen {d : Device} {u i t : Nat} {mon : Bool} (h : (startWait d u 0 i t mon).1.seen = true) :
    swaitOn d u i t mon = adv (startWait d u 0 i t mon).2 u (core (startWait d u 0 i t mon).2 u) := if_pos h

theorem swaitOn_waits {d : Device} {u i t : Nat} {mon : Bool} (h : (startWait d u 0 i t mon).1.seen = false) :
    swaitOn d u i t mon = adv (startWait d u 0 i t mon).2 u
      { core (startWait d u 0 i t mon).2 u with st := .swait, swait := some (startWait d u 0 i t mon).1 } := if_neg (by simp [h])

/-- An entry of the window that captured gate `g` polls from now on (R326). -/
def pollGate (g : Nat) (e : Ins) : Ins := if e.w % 16 = g then { e with gate := e.gate.map (fun b => { b with mon := false }) } else e

/-- SGATE's wait: the gate is bound anew. -/
def sgateOn (d : Device) (u g i t : Nat) (mon : Bool) : Device :=
  let r := startWait (dropMonitor (setCore d u { core d u with win := (core d u).win.map (pollGate g) }) u g) u g i t mon
  adv r.2 u { core r.2 u with gates := tset (core r.2 u).gates g r.1 }

/-- SREAD's read into register `x`. -/
def sreadOn (d : Device) (u i x : Nat) : Device :=
  match readWord d i with
  | none => coreFault d u (core d u).pc 4
  | some (v, d) => adv d u (xw (core d u) x v)

theorem sreadOn_home {d : Device} {u i x h n : Nat} (hh : wordHome d i = some (h, n)) :
    sreadOn d u i x
      = adv (readOp d h) u (xw (core (readOp d h) u) x (wordBits (readOp d h) h n)) := by
  simp [sreadOn, readWord, hh]

/-- A counter of operations is no part of a word. -/
theorem wordBits_bump64 (d : Device) (o k h n : Nat) : wordBits (bump64 d o k) h n = wordBits d h n := by
  unfold bump64
  split <;> rfl

section
variable {u : Nat} {s : State}

theorem exec_swait (h : issues s.dev u 0x2A = true) :
    exec (.swait u) s = .next { s with dev := (onSignal s.dev u
      (bit (wordAt s.dev u) 57 || bit (wordAt s.dev u) 37 || fld (wordAt s.dev u) 31 0 != 0) [fld (wordAt s.dev u) 43 39, fld (wordAt s.dev u) 36 32]
      (sigIdx (xr (core s.dev u) (fld (wordAt s.dev u) 36 32)) (wordAt s.dev u))
      (onTarget s.dev u (xr (core s.dev u) (fld (wordAt s.dev u) 43 39))
        (swaitOn s.dev u (sigIdx (xr (core s.dev u) (fld (wordAt s.dev u) 36 32)) (wordAt s.dev u))
          (xr (core s.dev u) (fld (wordAt s.dev u) 43 39)) (bit (wordAt s.dev u) 38)))) } :=
  run_issue rfl rfl h

theorem exec_sread (h : issues s.dev u 0x2C = true) :
    exec (.sread u) s = .next { s with dev := (onSignal s.dev u
      (bit (wordAt s.dev u) 57 || fld (wordAt s.dev u) 38 37 != 0 || fld (wordAt s.dev u) 31 0 != 0) [fld (wordAt s.dev u) 36 32]
      (sigIdx (xr (core s.dev u) (fld (wordAt s.dev u) 36 32)) (wordAt s.dev u))
      (sreadOn s.dev u (sigIdx (xr (core s.dev u) (fld (wordAt s.dev u) 36 32)) (wordAt s.dev u)) (fld (wordAt s.dev u) 43 39))) } :=
  run_issue rfl rfl h

theorem exec_sgate (h : issues s.dev u 0x2B = true) :
    exec (.sgate u) s = .next { s with dev := (onSignal s.dev u
      (fld (wordAt s.dev u) 57 54 == 0 || fld (wordAt s.dev u) 53 44 != 0 || bit (wordAt s.dev u) 37 || fld (wordAt s.dev u) 31 0 != 0)
      [fld (wordAt s.dev u) 43 39, fld (wordAt s.dev u) 36 32] (xr (core s.dev u) (fld (wordAt s.dev u) 36 32) % 8192)
      (onTarget s.dev u (xr (core s.dev u) (fld (wordAt s.dev u) 43 39))
        (sgateOn s.dev u (fld (wordAt s.dev u) 57 54) (xr (core s.dev u) (fld (wordAt s.dev u) 36 32) % 8192)
          (xr (core s.dev u) (fld (wordAt s.dev u) 43 39)) (bit (wordAt s.dev u) 38)))) } := by
  have hpoll : (fun e : Ins => if e.w % 16 == fld (wordAt s.dev u) 57 54 then { e with gate := e.gate.map (fun b => { b with mon := false }) } else e)
      = pollGate (fld (wordAt s.dev u) 57 54) := by
    funext e
    simp [pollGate]
  refine (run_issue rfl rfl h).trans ?_
  dsimp only
  rw [hpoll]
  rfl

end

/-- Settles O12: the checks of `onSignal` in their order, then each instruction's effect. -/
theorem signalWaits : Obligations.SignalWaits := by
  unfold Obligations.SignalWaits
  intro u h n s
  dsimp only
  refine ⟨fun hi h1 h2 h3 hc hw ht => ?_, fun hi h0 h1 h2 h3 hc hw ht => ?_, fun hi h1 h2 h3 hc hw hh => ?_, fun hi => ?_, fun hi => ?_, fun hi => ?_⟩
  · rw [exec_swait hi, onSignal_good (by simp [bit_eq_fld_ne_zero, h1, h2, h3]) hc hw, onTarget_lt ht]
    exact ⟨fun hs => by rw [swaitOn_seen hs], fun hs => by rw [swaitOn_waits hs]⟩
  · rw [exec_sgate hi, onSignal_good (by simp [bit_eq_fld_ne_zero, h0, h1, h2, h3]) hc hw, onTarget_lt ht]
    rfl
  · rw [exec_sread hi, onSignal_good (by simp [bit_eq_fld_ne_zero, h1, h2, h3]) hc hw, sreadOn_home hh, readOp, wordBits_bump64]
  · rw [exec_swait hi]
    refine ⟨fun hn => by rw [onSignal_reserved (Bool.of_not_eq_false fun h => hn (by simpa [bit_eq_fld_ne_zero, and_assoc] using h))], fun h1 h2 h3 => ?_⟩
    have hr : (bit (wordAt s.dev u) 57 || bit (wordAt s.dev u) 37 || fld (wordAt s.dev u) 31 0 != 0) = false := by
      simp [bit_eq_fld_ne_zero, h1, h2, h3]
    exact ⟨fun hc => by rw [onSignal_unclean hr hc], fun f hc hw => by rw [onSignal_wordFault hr hc hw],
      fun hc hw ht => by rw [onSignal_good hr hc hw, onTarget_ge ht]⟩
  · rw [exec_sgate hi]
    refine ⟨fun hn => by rw [onSignal_reserved (Bool.of_not_eq_false fun h => hn (by simpa [bit_eq_fld_ne_zero, and_assoc] using h))], fun h0 h1 h2 h3 => ?_⟩
    have hr : (fld (wordAt s.dev u) 57 54 == 0 || fld (wordAt s.dev u) 53 44 != 0 || bit (wordAt s.dev u) 37 || fld (wordAt s.dev u) 31 0 != 0)
        = false := by
      simp [bit_eq_fld_ne_zero, h0, h1, h2, h3]
    exact ⟨fun hc => by rw [onSignal_unclean hr hc], fun f hc hw => by rw [onSignal_wordFault hr hc hw],
      fun hc hw ht => by rw [onSignal_good hr hc hw, onTarget_ge ht]⟩
  · rw [exec_sread hi]
    refine ⟨fun hn => by rw [onSignal_reserved (Bool.of_not_eq_false fun h => hn (by simpa [bit_eq_fld_ne_zero, and_assoc] using h))], fun h1 h2 h3 => ?_⟩
    have hr : (bit (wordAt s.dev u) 57 || fld (wordAt s.dev u) 38 37 != 0 || fld (wordAt s.dev u) 31 0 != 0) = false := by
      simp [bit_eq_fld_ne_zero, h1, h2, h3]
    exact ⟨fun hc => by rw [onSignal_unclean hr hc], fun f hc hw => by rw [onSignal_wordFault hr hc hw]⟩

end Sys2Proof.Machine
end

section
/-!
What reports leave alone: the registers, headers, jobs, events, log, pending self-tests and the counter of free values are where errors are reported;
`bare` is a module without them, and `rest u` also without core `u`.
-/
namespace Sys2Proof.Machine

/-- Modules that agree after an erasure agree in every part that it keeps. -/
theorem eq_of_erased {α : Type} (E : Device → Device) (f : Device → α) (hf : ∀ d, f (E d) = f d) {d e : Device} (h : E e = E d) : f e = f d := by
  rw [← hf e, h, hf]

/-- A module without what reports touch. -/
def bare (d : Device) : Device :=
  { d with regs := [], hdrs := [], jobs := [], evQ := [], evLost := 0, tests := [], logFront := [], logRing := [], logNext := 0, free := 0 }

/-! ### Reports -/

@[simp] theorem bare_setR (d : Device) (o v : Nat) : bare (setR d o v) = bare d := rfl
@[simp] theorem bare_set64 (d : Device) (o v : Nat) : bare (set64 d o v) = bare d := rfl
@[simp] theorem bare_setHdr (d : Device) (p : Nat) (h : Hdr) : bare (setHdr d p h) = bare d := rfl
@[simp] theorem bare_setEvt (d : Device) (o n : Nat) : bare (setEvt d o n) = bare d := rfl
@[simp] theorem bare_setJob (d : Device) (j : Nat) (x : Job) : bare (setJob d j x) = bare d := rfl
@[simp] theorem bare_freeVal (d : Device) : bare (freeVal d).2 = bare d := rfl

@[simp] theorem bare_bump (d : Device) (o n : Nat) : bare (bump d o n) = bare d := by
  unfold bump; split <;> rfl

@[simp] theorem bare_bump64 (d : Device) (o n : Nat) : bare (bump64 d o n) = bare d := by
  unfold bump64; split <;> rfl

@[simp] theorem bare_recordErr (d : Device) (o c a : Nat) : bare (recordErr d o c a) = bare d := by
  unfold recordErr; dsimp only; split <;> rfl

@[simp] theorem bare_pushEv (d : Device) (e : Ev) : bare (pushEv d e) = bare d := by
  unfold pushEv; split
  · rfl
  · rw [bare_bump]; rfl

@[simp] theorem bare_jobEv (d : Device) (j ty c a : Nat) (l : List Byte) : bare (jobEv d j ty c a l) = bare d := bare_pushEv _ _

@[simp] theorem bare_taint (d : Device) (j n c : Nat) : bare (taint d j n c) = bare d := by
  unfold taint; dsimp only
  split
  · rfl
  · split <;> simp

@[simp] theorem bare_flushLog (d : Device) : bare (flushLog d) = bare d := by
  unfold flushLog; dsimp only
  split
  · rfl
  · exact bare_bump _ _ _

@[simp] theorem bare_log (d : Device) (ty sv : Nat) (p : List Byte) : bare (log d ty sv p) = bare d := by
  unfold log; dsimp only
  split
  · rw [bare_flushLog]; rfl
  · rfl

@[simp] theorem bare_needTest (d : Device) (r : UnitRef) (c a : Nat) : bare (needTest d r c a) = bare d := by
  unfold needTest
  split
  · split <;> rfl
  · rfl

@[simp] theorem bare_parityLog (d : Device) (a : Nat) (r : UnitRef) : bare (parityLog d a r) = bare d := by simp [parityLog]
@[simp] theorem bare_parityErr (d : Device) (o a : Nat) (r : UnitRef) : bare (parityErr d o a r) = bare d := by simp [parityErr]

@[simp] theorem bare_poisonSeen (d : Device) (o : Nat) (j : Option Nat) : bare (poisonSeen d o j) = bare d := by
  unfold poisonSeen; dsimp only
  split <;> simp

theorem bare_foldl {α : Type} {g : Device → α → Device} (hg : ∀ d x, bare (g d x) = bare d) (l : List α) (d : Device) :
    bare (l.foldl g d) = bare d := by
  induction l generalizing d with
  | nil => rfl
  | cons x t ih => rw [List.foldl_cons, ih, hg]

@[simp] theorem bare_taintAll (d : Device) (js : List Nat) (n c : Nat) : bare (taintAll d js n c) = bare d :=
  bare_foldl (fun _ _ => bare_taint _ _ _ _) _ _

@[simp] theorem bare_coreParity (d : Device) (u : Nat) (ls : List Nat) : bare (coreParity d u ls) = bare d :=
  bare_foldl (fun _ _ => bare_parityErr _ _ _ _) _ _

@[simp] theorem bare_hallParity (d : Device) (h a n : Nat) : bare (hallParity d h a n) = bare d := by
  refine bare_foldl (fun d x => ?_) _ _
  dsimp only
  split <;> simp

theorem bare_setCore (d : Device) (u : Nat) (c : Core) : bare (setCore d u c) = setCore (bare d) u c := rfl
theorem core_bare (d : Device) (u : Nat) : core (bare d) u = core d u := rfl

/-- Modules that agree but for reports have the same cores. -/
theorem core_eq_of_bare {d e : Device} (h : bare e = bare d) (u : Nat) : core e u = core d u := by
  rw [← core_bare e, h, core_bare]

/-- A core's fault stops the core and is reported. -/
theorem bare_coreFault (d : Device) (u pc code : Nat) : bare (coreFault d u pc code) = setCore (bare d) u { core d u with st := .fault } := by
  unfold coreFault; dsimp only
  split
  · simp [bare_setCore]
  · split <;> simp [bare_setCore]

theorem bare_coreStop (d : Device) (u pc flaw : Nat) : bare (coreStop d u pc flaw) = setCore (bare d) u { core d u with st := .fault } := by
  unfold coreStop
  split <;> simp [bare_coreFault]

@[simp] theorem core_coreFault (d : Device) (u pc code : Nat) : core (coreFault d u pc code) u = { core d u with st := .fault } := by
  rw [← core_bare, bare_coreFault, core_setCore]

@[simp] theorem core_coreStop (d : Device) (u pc flaw : Nat) : core (coreStop d u pc flaw) u = { core d u with st := .fault } := by
  rw [← core_bare, bare_coreStop, core_setCore]

/-! ### All but one core -/

/-- A module without reports and without core `u`. -/
def rest (u : Nat) (d : Device) : Device := { bare d with cores := tdrop (· == u) d.cores }

theorem tdrop_tset_self {α : Type} (t : Tab α) (k : Nat) (v : α) : tdrop (· == k) (tset t k v) = tdrop (· == k) t := by
  induction t with
  | nil => simp [tset, tdrop]
  | cons e t ih =>
    obtain ⟨k', v'⟩ := e
    simp only [tset]
    split
    · simp [tdrop]
    · split
      · next h => subst h; simp [tdrop]
      · next h => simp only [tdrop, List.filter_cons] at ih ⊢; rw [ih]

theorem tget_tdrop_ne {α : Type} (d : α) (t : Tab α) {k k' : Nat} (h : k' ≠ k) : tget d (tdrop (· == k) t) k' = tget d t k' := by
  induction t with
  | nil => rfl
  | cons e t ih =>
    obtain ⟨j, v⟩ := e
    rcases eq_or_ne j k with rfl | hj
    · have hd : tdrop (· == j) ((j, v) :: t) = tdrop (· == j) t := by simp [tdrop]
      rw [hd, ih, tget, if_neg h.symm]
    · have hd : tdrop (· == k) ((j, v) :: t) = (j, v) :: tdrop (· == k) t := by simp [tdrop, hj]
      rw [hd, tget, tget, ih]

theorem rest_of_bare {d e : Device} (u : Nat) (h : bare e = bare d) : rest u e = rest u d := by
  have hc : e.cores = d.cores := eq_of_erased bare Device.cores (fun _ => rfl) h
  rw [rest, rest, h, hc]

@[simp] theorem rest_setCore (u : Nat) (d : Device) (c : Core) : rest u (setCore d u c) = rest u d := by
  simp only [rest, bare, setCore, tdrop_tset_self]

@[simp] theorem rest_bare (u : Nat) (d : Device) : rest u (bare d) = rest u d := rfl

@[simp] theorem rest_coreFault (u : Nat) (d : Device) (pc code : Nat) : rest u (coreFault d u pc code) = rest u d := by
  rw [← rest_bare, bare_coreFault, rest_setCore, rest_bare]

@[simp] theorem rest_coreStop (u : Nat) (d : Device) (pc flaw : Nat) : rest u (coreStop d u pc flaw) = rest u d := by
  rw [← rest_bare, bare_coreStop, rest_setCore, rest_bare]

@[simp] theorem rest_phase1End (u : Nat) (d : Device) : rest u (phase1End d u) = rest u d := by
  unfold phase1End; split <;> simp

@[simp] theorem rest_adv (u : Nat) (d : Device) (c : Core) : rest u (adv d u c) = rest u d := rest_setCore _ _ _

/-- What equality but for reports and one core says. -/
theorem eq_of_rest {u : Nat} {d e : Device} (h : rest u e = rest u d) :
    (∀ v, v ≠ u → core e v = core d v) ∧ e.stack = d.stack ∧ e.hmem = d.hmem ∧ e.sigs = d.sigs ∧ e.links = d.links ∧ e.ports = d.ports
      ∧ e.ctxs = d.ctxs ∧ e.boot = d.boot := by
  refine ⟨fun v hv => ?_, eq_of_erased (rest u) Device.stack (fun _ => rfl) h, eq_of_erased (rest u) Device.hmem (fun _ => rfl) h,
    eq_of_erased (rest u) Device.sigs (fun _ => rfl) h, eq_of_erased (rest u) Device.links (fun _ => rfl) h, eq_of_erased (rest u) Device.ports (fun _ => rfl) h,
    eq_of_erased (rest u) Device.ctxs (fun _ => rfl) h, eq_of_erased (rest u) Device.boot (fun _ => rfl) h⟩
  have hc : tdrop (· == u) e.cores = tdrop (· == u) d.cores := congrArg (fun x : Device => x.cores) h
  rw [core, core, ← tget_tdrop_ne _ _ hv, hc, tget_tdrop_ne _ _ hv]

/-! ### Issue and registers -/

section
variable {P : Device → Prop} {u op : Nat} {f : Core → Nat → Device → Device} {d : Device}

/-- What an instruction can do: nothing but the end of a TCFG's phase 1, a stop of its core, or its effect. -/
theorem issue_ind (hidle : P (phase1End d u)) (hfault : ∀ pc code, P (coreFault (phase1End d u) u pc code))
    (hstop : ∀ pc flaw, P (coreStop (phase1End d u) u pc flaw)) (hf : ∀ w, P (f (core (phase1End d u) u) w (phase1End d u))) : P (issue u op f d) := by
  unfold issue; dsimp only
  split
  · exact hidle
  · split
    · exact hfault _ _
    · split
      · exact hstop _ _
      · split
        · exact hfault _ _
        · split
          · exact hf _
          · exact hidle

theorem reading_ind {c : Core} {rs : List Nat} {k : Device} (hstop : ∀ flaw, P (coreStop d u c.pc flaw)) (hfault : ∀ code, P (coreFault d u c.pc code))
    (hk : P k) : P (reading d u c rs k) := by
  unfold reading
  split
  · exact hstop _
  · split
    · exact hfault _
    · exact hk

theorem rest_issue (hf : ∀ c w d, rest u (f c w d) = rest u d) : rest u (issue u op f d) = rest u d := by
  refine issue_ind (P := fun e => rest u e = rest u d) ?_ ?_ ?_ ?_ <;> simp [hf]

theorem rest_reading {c : Core} {rs : List Nat} {k : Device} (hk : rest u k = rest u d) : rest u (reading d u c rs k) = rest u d := by
  refine reading_ind (P := fun e => rest u e = rest u d) ?_ ?_ hk <;> simp

end

theorem rest_jumpTo (d : Device) (u pc : Nat) (c : Core) (t : Nat) : rest u (jumpTo d u pc c t) = rest u d := by
  unfold jumpTo; split <;> simp

theorem rest_noteEnd (d : Device) (u : Nat) : rest u (noteEnd d u) = rest u d := by
  unfold noteEnd
  split
  · rfl
  · exact rest_of_bare u (bare_setJob _ _ _)

/-! ### The scalar instructions -/

section
variable (u : Nat) (d : Device)

theorem rest_aluInstr : rest u (aluInstr u d) = rest u d := by
  refine rest_issue fun c w d => ?_
  split
  · exact rest_coreFault _ _ _ _
  · split
    · exact rest_coreFault _ _ _ _
    · exact rest_reading (rest_adv _ _ _)

theorem rest_aluiInstr : rest u (aluiInstr u d) = rest u d := by
  refine rest_issue fun c w d => ?_
  split
  · exact rest_coreFault _ _ _ _
  · split
    · exact rest_coreFault _ _ _ _
    · exact rest_reading (rest_adv _ _ _)

theorem rest_liInstr : rest u (liInstr u d) = rest u d := by
  refine rest_issue fun c w d => ?_
  dsimp only
  split
  · exact rest_coreFault _ _ _ _
  · split
    · split
      · exact rest_coreFault _ _ _ _
      · exact rest_reading (rest_adv _ _ _)
    · exact rest_adv _ _ _

theorem rest_ldInstr : rest u (ldInstr u d) = rest u d := by
  refine rest_issue fun c w d => ?_
  dsimp only
  split
  · exact rest_coreFault _ _ _ _
  · refine rest_reading ?_
    split
    · exact rest_coreFault _ _ _ _
    · split
      · exact rest_coreStop _ _ _ _
      · exact rest_adv _ _ _

theorem rest_stInstr : rest u (stInstr u d) = rest u d := by
  refine rest_issue fun c w d => ?_
  dsimp only
  split
  · exact rest_coreFault _ _ _ _
  · refine rest_reading ?_
    split
    · exact rest_coreFault _ _ _ _
    · exact rest_adv _ _ _

theorem rest_brInstr : rest u (brInstr u d) = rest u d := by
  refine rest_issue fun c w d => ?_
  split
  · exact rest_coreFault _ _ _ _
  · split
    · exact rest_coreFault _ _ _ _
    · refine rest_reading ?_
      split
      · exact rest_jumpTo _ _ _ _ _
      · exact rest_adv _ _ _

theorem rest_jalInstr : rest u (jalInstr u d) = rest u d := by
  refine rest_issue fun c w d => ?_
  split
  · exact rest_coreFault _ _ _ _
  · exact rest_jumpTo _ _ _ _ _

theorem rest_jalrInstr : rest u (jalrInstr u d) = rest u d := by
  refine rest_issue fun c w d => ?_
  split
  · exact rest_coreFault _ _ _ _
  · exact rest_reading (rest_jumpTo _ _ _ _ _)

theorem rest_csrrInstr : rest u (csrrInstr u d) = rest u d := by
  refine rest_issue fun c w d => ?_
  split
  · exact rest_coreFault _ _ _ _
  · split
    · exact rest_coreFault _ _ _ _
    · exact rest_adv _ _ _

theorem rest_fenceInstr : rest u (fenceInstr u d) = rest u d := by
  refine rest_issue fun c w d => ?_
  split
  · exact rest_coreFault _ _ _ _
  · split
    · exact rest_adv _ _ _
    · rfl

theorem rest_safeptInstr : rest u (safeptInstr u d) = rest u d := by
  refine rest_issue fun c w d => ?_
  split
  · exact rest_coreFault _ _ _ _
  · split
    · exact rest_adv _ _ _
    · split
      · exact rest_adv _ _ _
      · rfl

theorem rest_endInstr : rest u (endInstr u d) = rest u d := by
  refine rest_issue fun c w d => ?_
  split
  · exact rest_coreFault _ _ _ _
  · split
    · rw [rest_noteEnd, rest_adv]
    · rfl

theorem rest_nopInstr : rest u (nopInstr u d) = rest u d := by
  refine rest_issue fun c w d => ?_
  split
  · exact rest_coreFault _ _ _ _
  · exact rest_adv _ _ _

end

/-- The module after a scalar instruction of core `u` is as it was but for reports and the core. -/
theorem rest_exec_scalar {u : Nat} {s t : State} {c : Instr}
    (hc : c ∈ [.alu u, .alui u, .li u, .ld u, .st u, .br u, .jal u, .jalr u, .csrr u, .fence u, .safept u, .endProg u, .nop u])
    (h : exec c s = .next t) : rest u t.dev = rest u s.dev := by
  simp only [List.mem_cons, List.not_mem_nil, or_false] at hc
  rcases hc with rfl | rfl | rfl | rfl | rfl | rfl | rfl | rfl | rfl | rfl | rfl | rfl | rfl
  · rw [(run_next h).1]; exact rest_aluInstr _ _
  · rw [(run_next h).1]; exact rest_aluiInstr _ _
  · rw [(run_next h).1]; exact rest_liInstr _ _
  · rw [(run_next h).1]; exact rest_ldInstr _ _
  · rw [(run_next h).1]; exact rest_stInstr _ _
  · rw [(run_next h).1]; exact rest_brInstr _ _
  · rw [(run_next h).1]; exact rest_jalInstr _ _
  · rw [(run_next h).1]; exact rest_jalrInstr _ _
  · rw [(run_next h).1]; exact rest_csrrInstr _ _
  · rw [(run_next h).1]; exact rest_fenceInstr _ _
  · rw [(run_next h).1]; exact rest_safeptInstr _ _
  · rw [(run_next h).1]; exact rest_endInstr _ _
  · rw [(run_next h).1]; exact rest_nopInstr _ _

/-- Settles O5: what a scalar instruction leaves is everything but reports and its own core. -/
theorem scalarInstructionsStayLocal : Obligations.ScalarInstructionsStayLocal := by
  unfold Obligations.ScalarInstructionsStayLocal
  intro u s t c hc h
  obtain ⟨hcores, hstack, hhmem, hsigs, hlinks, hports, hctxs, hboot⟩ := eq_of_rest (rest_exec_scalar hc h)
  exact ⟨hcores, hstack, hhmem, hsigs, hlinks, hports, hctxs, hboot, exec_pending h⟩

/-! ### The windowed instructions -/

/-- The module is as it was but for reports and the window, state and program counter of core `u`; at most one entry has come into the window. -/
structure OnlyEntered (u : Nat) (d e : Device) : Prop where
  others : rest u e = rest u d
  x : (core e u).x = (core d u).x
  smem : (core e u).smem = (core d u).smem
  tile : (core e u).tile = (core d u).tile
  acc : (core e u).acc = (core d u).acc
  win : (core e u).win.length ≤ (core d u).win.length + 1

theorem OnlyEntered.of_st {u : Nat} {d e : Device} {st : CoreSt} (hr : rest u e = rest u d) (hc : core e u = { core d u with st := st }) :
    OnlyEntered u d e :=
  ⟨hr, by rw [hc], by rw [hc], by rw [hc], by rw [hc], by rw [hc]; exact Nat.le_succ _⟩

theorem core_phase1End (d : Device) (u : Nat) : core (phase1End d u) u = { core d u with st := (core (phase1End d u) u).st } := by
  unfold phase1End; split <;> simp

theorem OnlyEntered.setCore {d : Device} {u : Nat} {c : Core} (hx : c.x = (core d u).x) (hs : c.smem = (core d u).smem)
    (ht : c.tile = (core d u).tile) (ha : c.acc = (core d u).acc) (hw : c.win.length ≤ (core d u).win.length + 1) :
    OnlyEntered u d (setCore (Machine.phase1End d u) u c) :=
  ⟨by simp, by simpa using hx, by simpa using hs, by simpa using ht, by simpa using ha, by simpa using hw⟩

theorem OnlyEntered.phase1End (d : Device) (u : Nat) : OnlyEntered u d (phase1End d u) := .of_st (rest_phase1End u d) (core_phase1End d u)

theorem OnlyEntered.coreFault (d : Device) (u pc code : Nat) : OnlyEntered u d (coreFault (Machine.phase1End d u) u pc code) :=
  .of_st (st := .fault) (by simp) (by rw [core_coreFault, core_phase1End])

theorem OnlyEntered.coreStop (d : Device) (u pc flaw : Nat) : OnlyEntered u d (coreStop (Machine.phase1End d u) u pc flaw) :=
  .of_st (st := .fault) (by simp) (by rw [core_coreStop, core_phase1End])

theorem onlyEntered_enter (u op : Nat) (resv : Nat → Bool) (ra rb : Nat → Option Nat) (mem : Core → Nat → Nat × Nat) (d : Device) :
    OnlyEntered u d (enter u op resv ra rb mem d) := by
  refine issue_ind (P := OnlyEntered u d) (OnlyEntered.phase1End d u) (OnlyEntered.coreFault d u) (OnlyEntered.coreStop d u) fun w => ?_
  split
  · exact OnlyEntered.phase1End d u
  · split
    · exact OnlyEntered.coreFault _ _ _ _
    · split
      · exact OnlyEntered.coreFault _ _ _ _
      · refine reading_ind (P := OnlyEntered u d) (OnlyEntered.coreStop d u _) (OnlyEntered.coreFault d u _) ?_
        dsimp only
        split
        · exact OnlyEntered.coreStop _ _ _ _
        · rw [core_phase1End]
          exact OnlyEntered.setCore rfl rfl rfl rfl (by simp)

/-- A windowed instruction is an `enter`. -/
theorem onlyEntered_exec {u : Nat} {s t : State} {c : Instr}
    (hc : c ∈ [.tclr u, .tdead u, .wld u, .mma u, .accdrain u, .vbin u, .vfma u, .vun u, .vscal u, .vfn u, .vdfn u, .vred u, .vste u, .ftld u,
      .ftinv u, .sxfer u, .sarr u, .sset u]) (h : exec c s = .next t) : OnlyEntered u s.dev t.dev := by
  have henter : ∃ op resv ra rb mem, exec c s = run c (enter u op resv ra rb mem) s := by
    simp only [List.mem_cons, List.not_mem_nil, or_false] at hc
    rcases hc with rfl | rfl | rfl | rfl | rfl | rfl | rfl | rfl | rfl | rfl | rfl | rfl | rfl | rfl | rfl | rfl | rfl | rfl <;>
      exact ⟨_, _, _, _, _, rfl⟩
  obtain ⟨op, resv, ra, rb, mem, he⟩ := henter
  rw [he] at h
  rw [(run_next h).1]
  exact onlyEntered_enter _ _ _ _ _ _ _

/-- Settles O6: every outcome of `enter` changes at most the window, the state and the program counter of its core, and reports. -/
theorem windowInstructionsOnlyEnter : Obligations.WindowInstructionsOnlyEnter := by
  unfold Obligations.WindowInstructionsOnlyEnter
  intro u s t c hc h
  obtain ⟨hrest, hx, hsmem, htile, hacc, hwin⟩ := onlyEntered_exec hc h
  obtain ⟨hcores, hstack, hhmem, hsigs, hlinks, -, hctxs, -⟩ := eq_of_rest hrest
  exact ⟨hcores, hx, hsmem, htile, hacc, hwin, hstack, hhmem, hsigs, hlinks, hctxs⟩

end Sys2Proof.Machine
end

section
/-!
INSTR_FIRE (R174 to R178) and TCFG (R126 to R134): O16 and O17.
-/
namespace Sys2Proof.Machine

/-! ### INSTR_FIRE -/

section
variable {u i : Nat} {e : Ins} {d : Device}

theorem instrFire_fires (he : (core d u).win[i]? = some e) (hon : coreOn d u = true) (hst : (core d u).st = .running ∨ (core d u).st = .swait)
    (hf : canFire d (core d u) i = true) :
    instrFire u i d = fireEntry (bump64 d (corePage u + 0x710) 1) u { core d u with win := ldel (core d u).win i } e := by
  have hs : ((core d u).st == .running || (core d u).st == .swait || (core d u).st == .tcfg1) = true := by
    rcases hst with h | h <;> simp [h]
  simp [instrFire, he, hon, hs, hf]

theorem instrFire_waits (he : (core d u).win[i]? = some e) (hf : canFire d (core d u) i = false) : instrFire u i d = d := by
  simp [instrFire, he, hf]

end

theorem fireEntry_vec {d : Device} {u : Nat} {c c' : Core} {e : Ins} (hv : e.isVec = true) (hc : fireVec c e = .ok c') :
    fireEntry d u c e = setCore d u c' := by
  simp [fireEntry, hv, hc, fireCore]

theorem fireEntry_ftinv {d : Device} {u : Nat} {c : Core} {e : Ins} (hv : e.isVec = false) (ho : e.op = 0x21) :
    fireEntry d u c e = setCore d u { c with slots := tdrop (· == fld e.w 57 55) c.slots } := by
  simp [fireEntry, hv, ho, Ins.f]

/-- Settles O16: `instrFire` by whether the entry can fire, and the two kinds of entry by their equations. -/
theorem entryFires : Obligations.EntryFires := by
  unfold Obligations.EntryFires
  intro u i e s
  dsimp only
  intro hu hi he hon hst
  have hrun : exec (.instrFire u i) s = .next { s with dev := instrFire u i s.dev } := run_wf _ _ (by simp [Instr.wf, hu, hi])
  rw [hrun]
  refine ⟨fun hf => ?_, fun hf hv ho => ?_, fun c2 hf hv hc => ?_, fun hf => ?_⟩
  · rw [instrFire_fires he hon hst hf]
  · rw [instrFire_fires he hon hst hf, fireEntry_ftinv hv ho]
  · rw [instrFire_fires he hon hst hf, fireEntry_vec hv hc]
  · rw [instrFire_waits he hf]

/-! ### TCFG -/

/-- What TCFG does with the table at `a` once its header has been read clean: `count` entries, `flags` (R127, R128). -/
def tcfgTable (d : Device) (u : Nat) (c : Core) (a count flags : Nat) : Device :=
  let fail (e : CfgErr) : Device := coreFault (setR d (corePage u + 0x684) (cfgErrWord e false)) u c.pc e.code
  if 128 < count || 32768 < a + 8 + 8 * count then fail ⟨0xFF, 7, none, 4⟩
  else if c.smem.num (a + 2) 6 != 0 || 1 < flags then fail ⟨0xFF, 6, none, 2⟩
  else if c.smem.flaw (a + 8) (8 * count) != 0 then coreStop d u c.pc (c.smem.flaw (a + 8) (8 * count))
  else if count == 0 then adv d u c
  else
    let es := (List.range count).map (fun i => shapeEnt (c.smem.read (a + 8 + 8 * i) 8))
    match checkTable c.tiles (flags == 1) es with
    | some e => fail e
    | none =>
      let new := afterTable c.tiles (flags == 1) es
      adv d u { c with st := .tcfg1, tcfg := some ⟨c.seqNo, new, affectedTiles c.tiles new⟩, seqNo := c.seqNo + 1 }

/-- What TCFG does once its fields and its register are good. -/
def tcfgOn (d : Device) (u : Nat) (c : Core) (a : Nat) : Device :=
  if c.tcfg.isSome then d
  else if a % 8 != 0 then coreFault d u c.pc 4
  else if 32768 < a + 8 then coreFault (setR d (corePage u + 0x684) (cfgErrWord ⟨0xFF, 7, none, 4⟩ false)) u c.pc 4
  else if c.smem.flaw a 8 != 0 then coreStop d u c.pc (c.smem.flaw a 8)
  else tcfgTable d u c a (c.smem.get a).toNat (c.smem.get (a + 1)).toNat

theorem exec_tcfg {u : Nat} {s : State} (h : issues s.dev u 0x10 = true) :
    exec (.tcfg u) s = .next { s with dev := (
      if fld (wordAt s.dev u) 57 49 != 0 || fld (wordAt s.dev u) 43 32 != 0 then coreFault s.dev u (core s.dev u).pc 4
      else reading s.dev u (core s.dev u) [fld (wordAt s.dev u) 48 44]
        (tcfgOn s.dev u (core s.dev u) (addImm (xr (core s.dev u) (fld (wordAt s.dev u) 48 44)) (fld (wordAt s.dev u) 31 0)))) } :=
  run_issue rfl rfl h

section
variable {u a count flags : Nat} {d : Device} {c : Core}

theorem tcfgOn_header (hn : c.tcfg = none) (ha : a % 8 = 0) (hin : a + 8 ≤ 32768) (hf : c.smem.flaw a 8 = 0) :
    tcfgOn d u c a = tcfgTable d u c a (c.smem.get a).toNat (c.smem.get (a + 1)).toNat := by
  simp [tcfgOn, hn, ha, hf, Nat.not_lt.2 hin]

theorem tcfgTable_outside (h : 128 < count ∨ 32768 < a + 8 + 8 * count) :
    tcfgTable d u c a count flags = coreFault (setR d (corePage u + 0x684) (cfgErrWord ⟨0xFF, 7, none, 4⟩ false)) u c.pc 4 := by
  simp [tcfgTable, h]

theorem tcfgTable_reserved (h1 : count ≤ 128) (h2 : a + 8 + 8 * count ≤ 32768) (h : c.smem.num (a + 2) 6 ≠ 0 ∨ 1 < flags) :
    tcfgTable d u c a count flags = coreFault (setR d (corePage u + 0x684) (cfgErrWord ⟨0xFF, 6, none, 2⟩ false)) u c.pc 2 := by
  simp [tcfgTable, h, Nat.not_lt.2 h1, Nat.not_lt.2 h2]

/-- The entries of the table at `a`. -/
def tableEntries (c : Core) (a count : Nat) : List ShapeEnt := (List.range count).map (fun i => shapeEnt (c.smem.read (a + 8 + 8 * i) 8))

section
variable (h1 : count ≤ 128) (h2 : a + 8 + 8 * count ≤ 32768) (h3 : c.smem.num (a + 2) 6 = 0) (h4 : flags ≤ 1)
include h1 h2 h3 h4

theorem tcfgTable_unclean (h : c.smem.flaw (a + 8) (8 * count) ≠ 0) :
    tcfgTable d u c a count flags = coreStop d u c.pc (c.smem.flaw (a + 8) (8 * count)) := by
  simp [tcfgTable, h, h3, Nat.not_lt.2 h1, Nat.not_lt.2 h2, Nat.not_lt.2 h4]

theorem tcfgTable_empty (h : c.smem.flaw (a + 8) (8 * count) = 0) (h0 : count = 0) : tcfgTable d u c a count flags = adv d u c := by
  subst h0
  have h2' : ¬32768 < a + 8 := by omega
  simp [tcfgTable, h3, h2', Nat.not_lt.2 h4, Mem.flaw] at h ⊢
  omega

theorem tcfgTable_fails {e : CfgErr} (h : c.smem.flaw (a + 8) (8 * count) = 0) (h0 : count ≠ 0)
    (he : checkTable c.tiles (flags == 1) (tableEntries c a count) = some e) :
    tcfgTable d u c a count flags = coreFault (setR d (corePage u + 0x684) (cfgErrWord e false)) u c.pc e.code := by
  unfold tableEntries at he
  simp [tcfgTable, h, h0, h3, he, Nat.not_lt.2 h1, Nat.not_lt.2 h2, Nat.not_lt.2 h4]

theorem tcfgTable_taken (h : c.smem.flaw (a + 8) (8 * count) = 0) (h0 : count ≠ 0)
    (he : checkTable c.tiles (flags == 1) (tableEntries c a count) = none) :
    let new := afterTable c.tiles (flags == 1) (tableEntries c a count)
    tcfgTable d u c a count flags
      = adv d u { c with st := .tcfg1, tcfg := some ⟨c.seqNo, new, affectedTiles c.tiles new⟩, seqNo := c.seqNo + 1 } := by
  unfold tableEntries at *
  simp [tcfgTable, h, h0, h3, he, Nat.not_lt.2 h1, Nat.not_lt.2 h2, Nat.not_lt.2 h4]

end
end

/-! ### TCFG_APPLY -/

/-- One affected tile of `applyTiles`. -/
def applyTile (new : Tab Tile) (c : Core) (t : Nat) : Core :=
  let s := tget ({} : Tile) new t
  uncache { c with tile := if s.rows == 0 then c.tile else c.tile.zero s.base (tileBytes s), inUse := ndel c.inUse t } t

theorem applyTiles_eq (c : Core) (new : Tab Tile) (ts : List Nat) : applyTiles c new ts = ts.foldl (applyTile new) { c with tiles := new } := rfl

/-- The apply of a configuration leaves what it does not name, and takes the affected tiles out of use. -/
theorem foldl_applyTile (new : Tab Tile) (ts : List Nat) (c : Core) :
    (ts.foldl (applyTile new) c).tiles = c.tiles ∧ (ts.foldl (applyTile new) c).acc = c.acc ∧ (ts.foldl (applyTile new) c).pc = c.pc
      ∧ ∀ k ∈ (ts.foldl (applyTile new) c).inUse, k ∈ c.inUse ∧ k ∉ ts := by
  induction ts generalizing c with
  | nil => simp
  | cons t ts ih =>
    obtain ⟨htiles, hacc, hpc, huse⟩ := ih (applyTile new c t)
    refine ⟨htiles, hacc, hpc, fun k hk => ?_⟩
    obtain ⟨hk, hts⟩ := huse k hk
    obtain ⟨hk, hne⟩ := mem_ndel.1 hk
    exact ⟨hk, by simp [hne, hts]⟩

theorem tcfgApplyStep_applies {d : Device} {u : Nat} {t : Tcfg} (ht : (core d u).tcfg = some t) (hon : coreOn d u = true)
    (hw : tcfgAwaits (core d u) = false) :
    tcfgApplyStep u d
      = setCore (phase1End d u) u { applyTiles (core (phase1End d u) u) t.tiles t.affected with tcfg := none } := by
  simp [tcfgApplyStep, ht, hon, hw]

theorem tcfgApplyStep_waits {d : Device} {u : Nat} {t : Tcfg} (ht : (core d u).tcfg = some t) (hw : tcfgAwaits (core d u) = true) :
    tcfgApplyStep u d = d := by
  simp [tcfgApplyStep, ht, hw]

/-- Settles O17: the checks of TCFG in their order, then the apply. -/
theorem tileConfiguration : Obligations.TileConfiguration := by
  unfold Obligations.TileConfiguration
  refine ⟨fun u s => ?_, fun u t s => ?_⟩
  · dsimp only
    intro h
    rw [exec_tcfg h]
    refine ⟨fun hr => ?_, fun h1 h2 hc => ?_, fun h1 h2 hc => ?_⟩
    · rw [if_pos (by simpa [imp_iff_not_or, not_and_or] using hr)]
    · rw [if_neg (by simp [h1, h2]), reading_unclean _ _ _ _ hc]
    rw [if_neg (by simp [h1, h2]), reading_clean _ _ _ _ _ hc]
    refine ⟨fun hn => ?_, fun hn ha => ?_, fun hn ha hin => ?_, fun hn ha hin => ⟨fun hf => ?_, fun hf ho => ?_, fun hf h3 h4 => ?_⟩⟩
    · rw [tcfgOn, if_pos (Option.isSome_iff_ne_none.2 hn)]
    · rw [tcfgOn, if_neg (by simp [hn]), if_pos (by simpa using ha)]
    · rw [tcfgOn, if_neg (by simp [hn]), if_neg (by simp [ha]), if_pos hin]
    · rw [tcfgOn, if_neg (by simp [hn]), if_neg (by simp [ha]), if_neg (Nat.not_lt.2 hin), if_pos (by simpa using hf)]
    · rw [tcfgOn_header hn ha hin hf, tcfgTable_outside ho]
    rw [tcfgOn_header hn ha hin hf]
    refine ⟨fun hr => ?_, fun h5 h6 => ⟨fun hu => ?_, fun hu => ⟨fun h0 => ?_, fun e h0 he => ?_, fun h0 he => ?_⟩⟩⟩
    · rw [tcfgTable_reserved h3 h4 hr]
    · rw [tcfgTable_unclean h3 h4 h5 h6 hu]
    · rw [tcfgTable_empty h3 h4 h5 h6 hu h0]
    · rw [tcfgTable_fails h3 h4 h5 h6 hu h0 he]
    · rw [tcfgTable_taken h3 h4 h5 h6 hu h0 he]
      rfl
  · dsimp only
    intro hu hon ht
    have hrun : exec (.tcfgApply u) s = .next { s with dev := tcfgApplyStep u s.dev } := run_wf _ _ (by simp [Instr.wf, hu])
    rw [hrun]
    refine ⟨fun hw => ?_, fun hw => by rw [tcfgApplyStep_waits ht hw]⟩
    obtain ⟨htiles, hacc, hpc, huse⟩ := foldl_applyTile t.tiles t.affected { core (phase1End s.dev u) u with tiles := t.tiles }
    rw [tcfgApplyStep_applies ht hon hw, core_setCore, applyTiles_eq]
    refine ⟨rfl, htiles, rfl, fun k hk hin => (huse k hin).2 hk, hacc.trans ?_, hpc.trans ?_⟩ <;> rw [core_phase1End]

end Sys2Proof.Machine
end

section
/-!
Reading registers and tables after writes: facts that the commands' results rest on.
-/
namespace Sys2Proof.Machine

/-! ### Registers -/

theorem regReset_lt (off : Nat) : regReset off < 2 ^ 32 := by
  unfold regReset; dsimp only
  split_ifs <;> decide

theorem getR_lt (d : Device) (off : Nat) : getR d off < 2 ^ 32 := by
  unfold getR
  split
  · exact BitVec.isLt _
  · exact regReset_lt _

theorem getR_setR_eq (d : Device) (off off' v : Nat) : getR (setR d off v) off' = if off' = off then v % 2 ^ 32 else getR d off' := by
  split
  · next h => subst h; exact getR_setR _ _ _
  · next h => exact getR_setR_ne _ _ _ _ h

/-- A counter that stops at its top, read after it has counted. -/
theorem getR_bump (d : Device) (off n : Nat) : getR (bump d off n) off = min (getR d off + n) 0xFFFFFFFF := by
  have hlt := getR_lt d off
  unfold bump
  split
  · omega
  · rw [getR_setR, Nat.mod_eq_of_lt]
    omega

theorem getR_bump_ne (d : Device) {off off' : Nat} (n : Nat) (h : off' ≠ off) : getR (bump d off n) off' = getR d off' := by
  unfold bump
  split
  · rfl
  · exact getR_setR_ne _ _ _ _ h

@[simp] theorem getR_setCore (d : Device) (u : Nat) (c : Core) (off : Nat) : getR (setCore d u c) off = getR d off := rfl
@[simp] theorem getR_setJob (d : Device) (j : Nat) (x : Job) (off : Nat) : getR (setJob d j x) off = getR d off := rfl
@[simp] theorem getR_setHdr (d : Device) (p : Nat) (h : Hdr) (off : Nat) : getR (setHdr d p h) off = getR d off := rfl

/-! ### Folds of writes -/

/-- A table after one write for each number of a list, no two at the same place. -/
theorem tget_foldl_tset {α : Type} (key : Nat → Nat) (val : Nat → α) (dv : α) {l : List Nat} (hkey : ∀ a ∈ l, ∀ b ∈ l, key a = key b → a = b)
    (t : Tab α) {q : Nat} (hq : q ∈ l) : tget dv (l.foldl (fun t q => tset t (key q) (val q)) t) (key q) = val q := by
  induction l using List.reverseRecOn generalizing t with
  | nil => simp at hq
  | append_singleton l x ih =>
    rw [List.foldl_append, List.foldl_cons, List.foldl_nil, tget_tset]
    split
    · next h => rw [hkey q hq x (by simp) h]
    · next h =>
      have hql : q ∈ l := by
        rcases List.mem_append.1 hq with hql | hqx
        · exact hql
        · exact absurd (congrArg key (List.mem_singleton.1 hqx)) h
      exact ih (fun a ha b hb => hkey a (List.mem_append_left _ ha) b (List.mem_append_left _ hb)) t hql

/-- Every number of a list gets one value. -/
theorem tget_foldl_tset_const {α : Type} (v dv : α) {l : List Nat} (t : Tab α) {q : Nat} (hq : q ∈ l) :
    tget dv (l.foldl (fun t q => tset t q v) t) q = v :=
  tget_foldl_tset id (fun _ => v) dv (fun _ _ _ _ h => h) t hq

/-! ### What keeps the cores -/

@[simp] theorem bare_tilePoison (d : Device) (u : Nat) (b : Bool) : bare (tilePoison d u b) = bare d := by
  unfold tilePoison; split <;> simp

/-- A core after reports. -/
theorem core_of_report {d e : Device} {u : Nat} {c : Core} (h : bare e = bare (setCore d u c)) :
    core e u = c ∧ ∀ v, v ≠ u → core e v = core d v := by
  refine ⟨by rw [core_eq_of_bare h, core_setCore], fun v hv => by rw [core_eq_of_bare h, core_setCore_ne _ _ _ _ hv]⟩

end Sys2Proof.Machine
end

section
/-!
The weight path, the steering and the clear of the array (R90 to R95, R112, R117, R150): O18.
-/
namespace Sys2Proof.Machine

section
variable {u mode waited : Nat} {e : Ins} {d : Device}

/-- The core of which a weight load has started. -/
def loadStarted (c : Core) (e : Ins) (mode : Nat) : Core :=
  let c' := clearInUse (refly c { e with stage := 1, vals := readWeights c (tileOf c (e.f 57 51)) (e.f 47 46), read := true }) e.deads
  { c' with arr := { c'.arr with back := (quarters mode).foldl (fun b q => tset b q 1) c'.arr.back } }

theorem bare_wldStart (he : (core d u).fl.find? (fun x => x.op == opWLD && x.stage == 0) = some e) (hm : e.mode = mode) (hon : coreOn d u = true)
    (hidle : (core d u).fl.all (fun x => !(x.op == opWLD && x.stage == 1)) = true)
    (hfree : (quarters mode).all (fun q => backState (core d u).arr q == 0) = true) :
    bare (wldStart u mode waited d) = bare (setCore d u (loadStarted (core d u) e mode)) := by
  have h1 : (core d u).fl.any (fun o => o.op == opWLD && o.stage == 1) = false := by
    rw [List.any_eq_not_all_not, hidle]; rfl
  have h2 : (quarters mode).any (fun q => backState (core d u).arr q != 0) = false := by
    rw [List.any_eq_not_all_not]
    simpa [bne] using hfree
  simp [wldStart, he, hm, hon, h1, h2, loadStarted]

/-- The core of which a weight load has ended. -/
def loadEnded (c : Core) (e : Ins) (mode : Nat) : Core :=
  { unfly c e with arr := { (unfly c e).arr with
      banks := (quarters mode).foldl (fun b q => tset b (2 * q + (1 - frontOf c.arr q)) (bankFor mode (e.f 47 46) e.vals q)) c.arr.banks
      back := (quarters mode).foldl (fun b q => tset b q 2) (unfly c e).arr.back } }

theorem wldReady_eq (he : (core d u).fl.find? (fun x => x.op == opWLD && x.stage == 1 && x.mode == mode) = some e) (hon : coreOn d u = true) :
    wldReady u mode d = setCore d u (loadEnded (core d u) e mode) := by
  simp [wldReady, he, hon, loadEnded]

/-- The back bank that a load of the mode fills holds its weights. -/
theorem bankOf_loadEnded (c : Core) (e : Ins) {q : Nat} (hq : q ∈ quarters mode) :
    bankOf (loadEnded c e mode).arr q (1 - frontOf c.arr q) = bankFor mode (e.f 47 46) e.vals q :=
  tget_foldl_tset (fun q => 2 * q + (1 - frontOf c.arr q)) _ _ (fun a _ b _ h => by omega) _ hq

/-- One quarter's banks change sides. -/
def swapQuarter (a : Arr) (q : Nat) : Arr := { a with front := tset a.front q (1 - frontOf a q), back := tset a.back q 0 }

theorem foldl_swapQuarter {l : List Nat} (hl : l.Nodup) (a : Arr) :
    (l.foldl swapQuarter a).banks = a.banks ∧ ∀ q, (q ∈ l → frontOf (l.foldl swapQuarter a) q = 1 - frontOf a q ∧ backState (l.foldl swapQuarter a) q = 0)
      ∧ (q ∉ l → frontOf (l.foldl swapQuarter a) q = frontOf a q ∧ backState (l.foldl swapQuarter a) q = backState a q) := by
  induction l generalizing a with
  | nil => simp
  | cons x l ih =>
    obtain ⟨hx, hl⟩ := List.nodup_cons.1 hl
    obtain ⟨hbanks, hq⟩ := ih hl (swapQuarter a x)
    refine ⟨hbanks, fun q => ?_⟩
    obtain ⟨hin, hout⟩ := hq q
    rcases eq_or_ne q x with rfl | hne
    · refine ⟨fun _ => ?_, fun h => absurd (List.mem_cons_self) h⟩
      simpa [swapQuarter, frontOf, backState] using hout hx
    · have hf : frontOf (swapQuarter a x) q = frontOf a q := tget_tset_ne _ _ _ _ _ hne
      have hb : backState (swapQuarter a x) q = backState a q := tget_tset_ne _ _ _ _ _ hne
      rw [hf] at hin
      rw [hf, hb] at hout
      exact ⟨fun h => hin (by simpa [hne] using h), fun h => hout (by simpa [hne] using h)⟩

theorem quarters_nodup (mode : Nat) : (quarters mode).Nodup := by
  unfold quarters; split
  · decide
  · split <;> decide

theorem bankSwap_eq (he : frontPass (core d u) mode = some e) (hon : coreOn d u = true) (hs : mmaSwap e = true) (h0 : e.stage = 0)
    (hready : (quarters mode).all (fun q => backState (core d u).arr q == 2) = true) :
    bankSwap u mode waited d = bump (setCore d u { refly (core d u) { e with stage := 1 } with arr := (quarters mode).foldl swapQuarter (core d u).arr })
      (corePage u + 0x618) waited := by
  have h2 : (quarters mode).any (fun q => backState (core d u).arr q != 2) = false := by
    rw [List.any_eq_not_all_not]
    simpa [bne] using hready
  have hf : (fun (a : Arr) q => { a with front := tset a.front q (1 - frontOf a q), back := tset a.back q 0 }) = swapQuarter := rfl
  simp [bankSwap, he, hon, hs, h0, h2, hf]

end

/-- One field of ARR_STEER after a write: a value above 32 leaves it. -/
def steerField (old new q : Nat) : Nat :=
  if 32 < fld new (8 * q + 5) (8 * q) then fld old (8 * q + 5) (8 * q) else fld new (8 * q + 5) (8 * q)

theorem steerField_lt (old new q : Nat) : steerField old new q < 64 := by
  have hlt (w : Nat) : fld w (8 * q + 5) (8 * q) < 64 := by
    rw [fld, show 8 * q + 5 - 8 * q + 1 = 6 by omega]
    exact Nat.mod_lt _ (by decide)
  unfold steerField
  split <;> exact hlt _

theorem steerMerge_eq (old new : Nat) : steerMerge old new
    = steerField old new 0 + steerField old new 1 * 256 + steerField old new 2 * 65536 + steerField old new 3 * 16777216 := by
  simp [steerMerge, steerField, List.range, List.range.loop]

theorem byte_fields {a b c e : Nat} (ha : a < 64) (hb : b < 64) (hc : c < 64) (he : e < 64) :
    let w := a + b * 256 + c * 65536 + e * 16777216
    w < 4294967296 ∧ w % 64 = a ∧ w / 256 % 64 = b ∧ w / 65536 % 64 = c ∧ w / 16777216 % 64 = e := by
  dsimp only
  omega

theorem fld_steerMerge (old new : Nat) {q : Nat} (hq : q < 4) :
    fld (BitVec.ofNat 32 (steerMerge old new)).toNat (8 * q + 5) (8 * q)
      = if 32 < fld new (8 * q + 5) (8 * q) then fld old (8 * q + 5) (8 * q) else fld new (8 * q + 5) (8 * q) := by
  change _ = steerField old new q
  obtain ⟨hlt, h0, h1, h2, h3⟩ := byte_fields (steerField_lt old new 0) (steerField_lt old new 1) (steerField_lt old new 2) (steerField_lt old new 3)
  rw [← steerMerge_eq] at hlt h0 h1 h2 h3
  rw [BitVec.toNat_ofNat, Nat.mod_eq_of_lt (by norm_num; exact hlt), fld, show 8 * q + 5 - 8 * q + 1 = 6 by omega, Nat.shiftRight_eq_div_pow]
  interval_cases q
  · simpa using h0
  · simpa using h1
  · simpa using h2
  · simpa using h3

/-- A core with steering `x` written and not yet in effect. -/
def steered (c : Core) (x : Reg) : Core := { c with arr := { c.arr with steer := x, steerPending := true } }

theorem steered_fields (c : Core) (x : Reg) :
    (steered c x).arr.steerPending = true ∧ (steered c x).arr.inEffect = c.arr.inEffect ∧ (steered c x).arr.steer = x := ⟨rfl, rfl, rfl⟩

theorem arrSteerWrite_eq (u : Nat) (v : Reg) (d : Device) :
    arrSteerWrite u v d = setCore d u (steered (core d u) (BitVec.ofNat 32 (steerMerge (core d u).arr.steer.toNat v.toNat))) := rfl

/-- The steering takes effect once no load and no pass is fired (R112). -/
theorem steerApply_eq {d : Device} {u : Nat} (hp : (core d u).arr.steerPending = true)
    (hfl : (core d u).fl.all (fun e => e.op != opWLD && e.op != opMMA) = true) :
    steerApply u d = setCore d u { core d u with arr := { (core d u).arr with
      banks := [], front := [], back := [], prog := [], nexts := [], steerPending := false, inEffect := (core d u).arr.steer } } := by
  have hnone : (core d u).fl.any (fun e => e.op == opWLD || e.op == opMMA) = false := by
    rw [List.any_eq_not_all_not]
    simpa [bne] using hfl
  rw [steerApply, if_neg (by simp [hp, hnone])]
  rfl

section
variable {u mode waited : Nat} {e : Ins} {s : State}

theorem exec_wldStart (hu : u < 864) (hmode : mode < 3) : exec (.wldStart u mode waited) s = .next { s with dev := wldStart u mode waited s.dev } :=
  run_wf _ _ (by simp [Instr.wf, hu, hmode])
theorem exec_wldReady (hu : u < 864) (hmode : mode < 3) : exec (.wldReady u mode) s = .next { s with dev := wldReady u mode s.dev } :=
  run_wf _ _ (by simp [Instr.wf, hu, hmode])
theorem exec_bankSwap (hu : u < 864) (hmode : mode < 3) : exec (.bankSwap u mode waited) s = .next { s with dev := bankSwap u mode waited s.dev } :=
  run_wf _ _ (by simp [Instr.wf, hu, hmode])
theorem exec_arrSteerWrite {v : Reg} (hu : u < 864) : exec (.arrSteerWrite u v) s = .next { s with dev := arrSteerWrite u v s.dev } :=
  run_wf _ _ (by simp [Instr.wf, hu])
theorem exec_steerApply (hu : u < 864) : exec (.steerApply u) s = .next { s with dev := steerApply u s.dev } := run_wf _ _ (by simp [Instr.wf, hu])
theorem exec_accClearDone (hu : u < 864) : exec (.accClearDone u) s = .next { s with dev := accClearDone u s.dev } := run_wf _ _ (by simp [Instr.wf, hu])

end

/-- Settles O18: the equation of each command, and what a fold over the quarters of a mode writes. -/
theorem weightBanksAndSteering : Obligations.WeightBanksAndSteering := by
  unfold Obligations.WeightBanksAndSteering
  refine ⟨fun u mode waited e s => ?_, fun u v s => ?_⟩
  · dsimp only
    intro hu hmode hon
    refine ⟨fun he hm hidle hfree => ⟨_, exec_wldStart hu hmode, ?_⟩, fun he => ⟨_, exec_wldReady hu hmode, ?_⟩,
      fun he hs h0 hready => ⟨_, exec_bankSwap hu hmode, ?_⟩⟩ <;> dsimp only
    · rw [(core_of_report (bare_wldStart (waited := waited) he hm hon hidle hfree)).1]
      exact ⟨rfl, fun q hq => tget_foldl_tset_const _ _ _ hq, rfl, rfl⟩
    · rw [wldReady_eq he hon, core_setCore]
      exact ⟨rfl, fun q hq => ⟨tget_foldl_tset_const _ _ _ hq, bankOf_loadEnded _ _ hq⟩, fun v hv => core_setCore_ne _ _ _ _ hv⟩
    · obtain ⟨hbanks, hq⟩ := foldl_swapQuarter (quarters_nodup mode) (core s.dev u).arr
      rw [bankSwap_eq he hon hs h0 hready, (core_of_report (bare_bump _ _ _)).1, getR_bump, getR_setCore]
      exact ⟨fun q hm => (hq q).1 hm, hbanks, rfl⟩
  · dsimp only
    intro hu
    refine ⟨⟨_, exec_arrSteerWrite hu, ?_⟩, fun hp hfl => ?_, fun hc => ?_⟩
    · obtain ⟨hpending, heffect, hsteer⟩ := steered_fields (core s.dev u) (BitVec.ofNat 32 (steerMerge (core s.dev u).arr.steer.toNat v.toNat))
      dsimp only
      rw [arrSteerWrite_eq, core_setCore, hsteer]
      exact ⟨hpending, heffect, fun q hq => fld_steerMerge _ _ hq, fun x hx => core_setCore_ne _ _ _ _ hx⟩
    · rw [exec_steerApply hu, steerApply_eq hp hfl]
    · rw [exec_accClearDone hu, accClearDone, if_pos hc]

end Sys2Proof.Machine
end

section
/-!
Passes, drains, vector instructions and transfers complete (R87 to R89, R151 to R155, R197 to R202, R205, R216): O19, O20 and O21.
-/
namespace Sys2Proof.Machine

section
variable {u mode i : Nat} {s : State}

theorem exec_passComplete (hu : u < 864) (hmode : mode < 3) : exec (.passComplete u mode) s = .next { s with dev := passComplete u mode s.dev } :=
  run_wf _ _ (by simp [Instr.wf, hu, hmode])
theorem exec_drainComplete (hu : u < 864) : exec (.drainComplete u) s = .next { s with dev := drainComplete u s.dev } :=
  run_wf _ _ (by simp [Instr.wf, hu])
theorem exec_vectorComplete (hu : u < 864) : exec (.vectorComplete u) s = .next { s with dev := vectorComplete u s.dev } :=
  run_wf _ _ (by simp [Instr.wf, hu])
theorem exec_xferComplete (hu : u < 864) (hi : i < 8) : exec (.xferComplete u i) s = .next { s with dev := xferComplete u i s.dev } :=
  run_wf _ _ (by simp [Instr.wf, hu, hi])

end

/-- The stack memory after reports and a change of a core. -/
theorem stack_of_report {d e : Device} {u : Nat} {c : Core} (h : bare e = bare (setCore d u c)) : e.stack = d.stack :=
  eq_of_erased bare Device.stack (fun _ => rfl) (e := e) (d := setCore d u c) h

theorem hmem_of_report {d e : Device} {u : Nat} {c : Core} (h : bare e = bare (setCore d u c)) : e.hmem = d.hmem :=
  eq_of_erased bare Device.hmem (fun _ => rfl) (e := e) (d := setCore d u c) h

theorem ports_of_report {d e : Device} {u : Nat} {c : Core} (h : bare e = bare (setCore d u c)) : e.ports = d.ports :=
  eq_of_erased bare Device.ports (fun _ => rfl) (e := e) (d := setCore d u c) h

/-! ### Passes -/

/-- The core after a pass. -/
def passDone (c : Core) (e : Ins) (mode : Nat) : Core :=
  { unfly { c with acc := passAcc c e, accUse := nins c.accUse (mmaAcc e) } e with arr := { c.arr with split := mode != 0 } }

theorem passDone_fields (c : Core) (e : Ins) (mode : Nat) :
    (passDone c e mode).fl = c.fl.filter (fun o => o.seq != e.seq) ∧ (passDone c e mode).acc = passAcc c e ∧ mmaAcc e ∈ (passDone c e mode).accUse
      ∧ (passDone c e mode).tile = c.tile ∧ (passDone c e mode).smem = c.smem ∧ (passDone c e mode).x = c.x
      ∧ (passDone c e mode).arr.banks = c.arr.banks := ⟨rfl, rfl, mem_nins.2 (.inl rfl), rfl, rfl, rfl, rfl⟩

section
variable {d : Device} {u mode : Nat} {e : Ins}

theorem bare_passComplete (he : frontPass (core d u) mode = some e) (hon : coreOn d u = true) (hw : passWaits (core d u) e = false) :
    bare (passComplete u mode d) = bare (setCore d u (passDone (core d u) e mode)) := by
  simp only [passComplete, he, hon, hw, Bool.not_true, Bool.or_self, Bool.false_eq_true, if_false, bare_tilePoison, bare_coreParity, bare_bump64]
  rfl

theorem passComplete_waits (he : frontPass (core d u) mode = some e) (hw : passWaits (core d u) e = true) : passComplete u mode d = d := by
  simp [passComplete, he, hw]

/-! ### Drains -/

/-- The core as a drain releases its accumulator, or not (R151). -/
def drainReleased (c : Core) (e : Ins) : Core :=
  if drRelease e && !(bit e.w 21 && drZero e) then { c with accUse := ndel c.accUse (e.f 57 57) } else c

theorem drainReleased_fields (c : Core) (e : Ins) :
    (drainReleased c e).fl = c.fl ∧ (drainReleased c e).tile = c.tile ∧ (drainReleased c e).acc = c.acc ∧ (drainReleased c e).smem = c.smem
      ∧ (drainReleased c e).x = c.x ∧ (drainReleased c e).inUse = c.inUse := by
  unfold drainReleased; split <;> exact ⟨rfl, rfl, rfl, rfl, rfl, rfl⟩

theorem drainReleased_releases {c : Core} {e : Ins} (h : drRelease e = true) (hz : bit e.w 21 = false ∨ drZero e = false) :
    e.f 57 57 ∉ (drainReleased c e).accUse := by
  have hc : (drRelease e && !(bit e.w 21 && drZero e)) = true := by rcases hz with hz | hz <;> simp [h, hz]
  rw [drainReleased, if_pos hc]
  exact fun hm => (mem_ndel.1 hm).2 rfl

theorem drainReleased_keeps {c : Core} {e : Ins} (h : drRelease e = false ∨ (bit e.w 21 = true ∧ drZero e = true)) :
    (drainReleased c e).accUse = c.accUse := by
  have hc : ¬(drRelease e && !(bit e.w 21 && drZero e)) = true := by
    rcases h with h | ⟨hb, hz⟩
    · simp [h]
    · simp [hb, hz]
  rw [drainReleased, if_neg hc]

/-- What a drain writes does not depend on which accumulators are in use. -/
theorem drainTile_accUse (c : Core) (e : Ins) (l : List Nat) : drainTile { c with accUse := l } e = drainTile c e := rfl

/-- The core after a drain into a tile. -/
def drainedToTile (c : Core) (e : Ins) (m : Mem) : Core :=
  let c := unfly { drainReleased c e with tile := m } e
  if drZero e then c else uncache { c with inUse := nins c.inUse (e.f 20 14) } (e.f 20 14)

theorem drainedToTile_fields (c : Core) (e : Ins) (m : Mem) :
    (drainedToTile c e m).fl = c.fl.filter (fun o => o.seq != e.seq) ∧ (drainedToTile c e m).tile = m ∧ (drainedToTile c e m).acc = c.acc
      ∧ (drainedToTile c e m).smem = c.smem ∧ (drainedToTile c e m).x = c.x ∧ (drainedToTile c e m).accUse = (drainReleased c e).accUse
      ∧ (drZero e = false → e.f 20 14 ∈ (drainedToTile c e m).inUse) := by
  obtain ⟨hfl, -, hacc, hsmem, hx, -⟩ := drainReleased_fields c e
  rcases Bool.eq_false_or_eq_true (drZero e) with hz | hz
  · simp [drainedToTile, hz, unfly, hfl, hacc, hsmem, hx]
  · simp [drainedToTile, hz, unfly, uncache, hfl, hacc, hsmem, hx, mem_nins]

theorem bare_drainComplete_tile (he : (core d u).fl.find? (fun x => x.isDrain && x.stage == 0) = some e) (hon : coreOn d u = true)
    (hw : drainWaits (core d u) e = false) (hb : bit e.w 21 = false) :
    bare (drainComplete u d) = bare (setCore d u (drainedToTile (core d u) e (drainTile (core d u) e).mem)) := by
  rcases Bool.eq_false_or_eq_true (drRelease e) with hr | hr <;>
    simp [drainComplete, drainedToTile, drainReleased, drainTile_accUse, he, hon, hw, hb, hr, bare_setCore]

theorem bare_drainComplete_desc (he : (core d u).fl.find? (fun x => x.isDrain && x.stage == 0) = some e) (hon : coreOn d u = true)
    (hw : drainWaits (core d u) e = false) (hb : bit e.w 21 = true) :
    bare (drainComplete u d)
      = bare (setCore d u (refly (drainReleased (core d u) e) { e with stage := 1, vals := drainVals (core d u) e })) := by
  simp [drainComplete, drainReleased, he, hon, hw, hb, bare_setCore]

theorem drainComplete_waits (he : (core d u).fl.find? (fun x => x.isDrain && x.stage == 0) = some e) (hw : drainWaits (core d u) e = true) :
    drainComplete u d = d := by
  simp [drainComplete, he, hw]

end

/-- Settles O19: the core after each command, and reports. -/
theorem passesAndDrains : Obligations.PassesAndDrains := by
  unfold Obligations.PassesAndDrains
  intro u mode e s
  dsimp only
  intro hu hmode hon
  refine ⟨fun he hw => ⟨_, exec_passComplete hu hmode, ?_⟩, fun he hw => ?_, fun he hw hb => ⟨_, exec_drainComplete hu, ?_⟩,
    fun he hw hb => ⟨_, exec_drainComplete hu, ?_⟩, fun he hw => ?_⟩
  · have hr := bare_passComplete he hon hw
    obtain ⟨hcore, hothers⟩ := core_of_report hr
    obtain ⟨hfl, hacc, huse, htile, hsmem, hx, hbanks⟩ := passDone_fields (core s.dev u) e mode
    rw [hcore]
    exact ⟨hfl, hacc, huse, htile, hsmem, hx, hbanks, stack_of_report hr, hothers⟩
  · rw [exec_passComplete hu hmode, passComplete_waits he hw]
  · have hr := bare_drainComplete_tile he hon hw hb
    obtain ⟨hcore, hothers⟩ := core_of_report hr
    obtain ⟨hfl, htile, hacc, hsmem, hx, haccUse, huse⟩ := drainedToTile_fields (core s.dev u) e (drainTile (core s.dev u) e).mem
    rw [hcore, haccUse]
    exact ⟨hfl, htile, huse, hacc, hsmem, hx, stack_of_report hr, fun h => drainReleased_releases h (.inl hb), fun h => drainReleased_keeps (.inl h),
      hothers⟩
  · have hr := bare_drainComplete_desc he hon hw hb
    obtain ⟨hcore, hothers⟩ := core_of_report hr
    obtain ⟨hfl, htile, hacc, hsmem, -, -⟩ := drainReleased_fields (core s.dev u) e
    rw [hcore]
    refine ⟨congrArg (List.map _) hfl, htile, hacc, hsmem, stack_of_report hr, fun h => drainReleased_releases h.1 (.inr h.2), fun h => drainReleased_keeps ?_,
      hothers⟩
    rcases Bool.eq_false_or_eq_true (drRelease e) with hrel | hrel
    · exact .inr ⟨hb, by simpa [hrel] using h⟩
    · exact .inl hrel
  · rw [exec_drainComplete hu, drainComplete_waits he hw]

/-! ### Vector instructions -/

/-- Tiles are written: they are in use and out of the operand cache. -/
def tilesWritten (c : Core) (ts : List Nat) : Core := ts.foldl (fun c t => uncache { c with inUse := nins c.inUse t } t) c

theorem tilesWritten_fields (c : Core) (ts : List Nat) :
    (tilesWritten c ts).fl = c.fl ∧ (tilesWritten c ts).tile = c.tile ∧ (tilesWritten c ts).acc = c.acc ∧ (tilesWritten c ts).smem = c.smem
      ∧ ∀ t, t ∈ (tilesWritten c ts).inUse ↔ t ∈ ts ∨ t ∈ c.inUse := by
  induction ts generalizing c with
  | nil => simp [tilesWritten]
  | cons x ts ih =>
    obtain ⟨hfl, htile, hacc, hsmem, huse⟩ := ih (uncache { c with inUse := nins c.inUse x } x)
    refine ⟨hfl, htile, hacc, hsmem, fun t => (huse t).trans ?_⟩
    simp only [uncache, mem_nins, List.mem_cons]
    tauto

theorem bare_vectorComplete {d : Device} {u : Nat} {e : Ins} (he : (core d u).fl.find? Ins.isVec = some e) (hon : coreOn d u = true) :
    bare (vectorComplete u d)
      = bare (setCore d u (tilesWritten (clearInUse (unfly { core d u with tile := (vecResult (core d u) e).mem } e) e.deads) e.writes)) := by
  simp only [vectorComplete, he, hon, Bool.not_true, Bool.false_eq_true, if_false, bare_tilePoison, bare_coreParity, bare_bump]
  rfl

/-- Settles O20: the core after the command, and reports. -/
theorem vectorCompletes : Obligations.VectorCompletes := by
  unfold Obligations.VectorCompletes
  intro u e s
  dsimp only
  intro hu hon he
  refine ⟨_, exec_vectorComplete hu, ?_⟩
  obtain ⟨hcore, hothers⟩ := core_of_report (bare_vectorComplete he hon)
  obtain ⟨hfl, htile, hacc, hsmem, huse⟩ :=
    tilesWritten_fields (clearInUse (unfly { core s.dev u with tile := (vecResult (core s.dev u) e).mem } e) e.deads) e.writes
  rw [hcore]
  exact ⟨hfl, htile, fun t ht => (huse t).2 (.inl ht), hacc, hsmem, hothers⟩

/-! ### Transfers -/

section
variable {d : Device} {u i : Nat} {e : Ins} {x : Desc}

theorem xferComplete_moves (he : ((core d u).fl.filter Ins.isStream)[i]? = some e) (hon : coreOn d u = true) (hop : e.op ≠ 0x20) (hl : e.land ≠ 1)
    (hd : e.isDrain = false ∨ e.stage ≠ 0) :
    xferComplete u i d = transferSignal (setCore (transferMove d u e.d e) u (unfly (core (transferMove d u e.d e) u) e)) u e.d := by
  have hd' : (e.isDrain && e.stage == 0) = false := by rcases hd with h | h <;> simp [h]
  simp [xferComplete, he, hon, hl, hd', show ¬e.op = opFTLD from hop]

theorem xferComplete_ftld (he : ((core d u).fl.filter Ins.isStream)[i]? = some e) (hon : coreOn d u = true) (hop : e.op = 0x20) (hl : e.land ≠ 1) :
    xferComplete u i d = ftldComplete d u e := by
  have hd : e.isDrain = false := by simp [Ins.isDrain, hop, opDRAIN]
  simp [xferComplete, he, hon, hl, hd, show e.op = opFTLD from hop]

theorem xferComplete_stays (he : ((core d u).fl.filter Ins.isStream)[i]? = some e) (h : e.land = 1 ∨ (e.isDrain = true ∧ e.stage = 0)) :
    xferComplete u i d = d := by
  rcases h with h | ⟨h, h0⟩
  · simp [xferComplete, he, h]
  · simp [xferComplete, he, h, h0]

theorem transferMove_nothing (h : ¬(x.zero = false ∧ e.land ≠ 3)) :
    (transferMove d u x e).stack = d.stack ∧ (transferMove d u x e).hmem = d.hmem ∧ (transferMove d u x e).ports = d.ports
      ∧ (core (transferMove d u x e) u).tile = (core d u).tile ∧ (core (transferMove d u x e) u).acc = (core d u).acc := by
  rcases Bool.eq_false_or_eq_true x.zero with hz | hz
  · simp only [transferMove, hz, if_true, core_setCore]
    split <;> exact ⟨rfl, rfl, rfl, rfl, rfl⟩
  · have hl : e.land = 3 := by simpa [hz] using h
    have hr : bare (transferMove d u x e) = bare (setCore d u (clearInUse (core d u) e.deads)) := by simp [transferMove, hz, hl]
    rw [(core_of_report hr).1]
    exact ⟨stack_of_report hr, hmem_of_report hr, ports_of_report hr, rfl, rfl⟩

theorem transferMove_drain (h : x.zero = false ∧ e.land ≠ 3) (hd : e.isDrain = true) : transferMove d u x e = storeRows d u x e e.vals := by
  simp [transferMove, h, hd]

theorem transferMove_copy (h : x.zero = false ∧ e.land ≠ 3) (hd : e.isDrain = false) (hm : x.memToMem = true) :
    transferMove d u x e = copyMem d u x e := by
  simp [transferMove, h, hd, hm]

theorem transferMove_store (h : x.zero = false ∧ e.land ≠ 3) (hd : e.isDrain = false) (hm : x.memToMem = false) (hs : x.store = true) :
    transferMove d u x e = storeTile d u x e := by
  simp [transferMove, h, hd, hm, hs]

theorem transferMove_load (h : x.zero = false ∧ e.land ≠ 3) (hd : e.isDrain = false) (hm : x.memToMem = false) (hs : x.store = false) :
    transferMove d u x e = loadTile d u x e := by
  simp [transferMove, h, hd, hm, hs]

/-- A load ends by marking its tile written, and reports. -/
theorem bare_loadTile (d : Device) (u : Nat) (x : Desc) (e : Ins) :
    ∃ f, bare (loadTile d u x e) = bare (setCore f u (uncache { core f u with inUse := nins (core f u).inUse x.tile } x.tile)) := by
  simp only [loadTile, bare_tilePoison, bare_bump]
  exact ⟨_, rfl⟩

theorem mem_inUse_loadTile (d : Device) (u : Nat) (x : Desc) (e : Ins) : x.tile ∈ (core (loadTile d u x e) u).inUse := by
  obtain ⟨f, hf⟩ := bare_loadTile d u x e
  rw [(core_of_report hf).1]
  exact mem_nins.2 (.inl rfl)

end

section
variable {d : Device} {u : Nat} {e : Ins} {r : List (Byte × Bool) × Device}

theorem ftldComplete_header_poison (hr : streamRead d u e.pages e.a 6208 = r) (h : (r.1.take 64).any Prod.snd = true) :
    ftldComplete d u e = firedFault r.2 u e 10 := by
  simp only [ftldComplete, hr, h, if_true]

theorem ftldComplete_header_bad (hr : streamRead d u e.pages e.a 6208 = r) (h : (r.1.take 64).any Prod.snd = false)
    (hh : slotHeaderOk (r.1.map Prod.fst) = false) : ftldComplete d u e = firedFault r.2 u e 4 := by
  simp only [ftldComplete, hr, h, hh, Bool.false_eq_true, if_false, Bool.not_false, if_true]

theorem ftldComplete_poison (hr : streamRead d u e.pages e.a 6208 = r) (h : (r.1.take 64).any Prod.snd = false)
    (hh : slotHeaderOk (r.1.map Prod.fst) = true) (hp : r.1.any Prod.snd = true) :
    ftldComplete d u e = firedFault (setCore r.2 u { core r.2 u with slots := tdrop (· == e.f 57 55) (core r.2 u).slots }) u e 10 := by
  simp only [ftldComplete, hr, h, hh, hp, Bool.false_eq_true, if_false, Bool.not_true, if_true]

theorem ftldComplete_fills (hr : streamRead d u e.pages e.a 6208 = r) (hh : slotHeaderOk (r.1.map Prod.fst) = true) (hp : r.1.any Prod.snd = false) :
    ftldComplete d u e = setCore r.2 u { unfly (core r.2 u) e with slots := tset (core r.2 u).slots (e.f 57 55) ⟨some e.a, r.1.map Prod.fst⟩ } := by
  have h : (r.1.take 64).any Prod.snd = false := List.any_eq_false.2 fun x hx => List.any_eq_false.1 hp x (List.mem_of_mem_take hx)
  simp only [ftldComplete, hr, h, hh, hp, Bool.false_eq_true, if_false, Bool.not_true]
  rfl

end

/-- Settles O21: `xferComplete` by the kind of transfer. -/
theorem transferCompletes : Obligations.TransferCompletes := by
  unfold Obligations.TransferCompletes
  intro u i e s
  dsimp only
  intro hu hi hon he
  rw [exec_xferComplete hu hi]
  refine ⟨fun hop hl hd => ?_, fun hop hl => ?_, fun h => by rw [xferComplete_stays he h]⟩
  · rw [xferComplete_moves he hon hop hl hd]
    refine ⟨rfl, transferMove_nothing, transferMove_drain, transferMove_copy, transferMove_store, fun h hdr hm hs => ?_⟩
    rw [transferMove_load h hdr hm hs]
    exact ⟨rfl, mem_inUse_loadTile _ _ _ _⟩
  · rw [xferComplete_ftld he hon hop hl]
    exact ⟨fun h => by rw [ftldComplete_header_poison rfl h], fun h hh => by rw [ftldComplete_header_bad rfl h hh],
      fun h hh hp => by rw [ftldComplete_poison rfl h hh hp], fun hp hh => by rw [ftldComplete_fills rfl hh hp]⟩

end Sys2Proof.Machine
end

section
/-!
What accesses of memory leave of a core: everything but the run-ahead copies that it holds.
-/
namespace Sys2Proof.Machine

/-! ### 64-bit pairs -/

theorem get64_set64 (d : Device) (o v : Nat) : get64 (set64 d o v) o = v % 2 ^ 64 := by
  have hlo : getR (set64 d o v) o = v % 2 ^ 32 := by
    rw [set64, getR_setR_ne _ _ _ _ (by omega), getR_setR]
    omega
  have hhi : getR (set64 d o v) (o + 4) = v / 2 ^ 32 % 2 ^ 32 := by rw [set64, getR_setR]
  rw [get64, hlo, hhi]
  omega

theorem getR_set64_ne (d : Device) {o o' : Nat} (v : Nat) (h : o' ≠ o) (h4 : o' ≠ o + 4) : getR (set64 d o v) o' = getR d o' := by
  rw [set64, getR_setR_ne _ _ _ _ h4, getR_setR_ne _ _ _ _ h]

theorem getR_bump64_ne (d : Device) {o o' : Nat} (n : Nat) (h : o' ≠ o) (h4 : o' ≠ o + 4) : getR (bump64 d o n) o' = getR d o' := by
  unfold bump64
  split
  · rfl
  · exact getR_set64_ne _ _ h h4

/-! ### Cores without their copies -/

/-- A core without its run-ahead copies. -/
def sansCopies (c : Core) : Core := { c with copies := [] }

/-- An operation leaves every core as it is but for its run-ahead copies. -/
def KeepsCores (d e : Device) : Prop := ∀ v, sansCopies (core e v) = sansCopies (core d v)

theorem KeepsCores.refl (d : Device) : KeepsCores d d := fun _ => rfl
theorem KeepsCores.trans {d e f : Device} (h : KeepsCores d e) (h' : KeepsCores e f) : KeepsCores d f := fun v => (h' v).trans (h v)
theorem KeepsCores.of_bare {d e : Device} (h : bare e = bare d) : KeepsCores d e := fun v => by rw [core_eq_of_bare h]
theorem KeepsCores.of_cores {d e : Device} (h : e.cores = d.cores) : KeepsCores d e := fun v => by rw [core, core, h]

theorem KeepsCores.job {d e : Device} (h : KeepsCores d e) (v : Nat) : (core e v).job = (core d v).job := by
  rw [← show (sansCopies (core e v)).job = (core e v).job from rfl, h v]
  rfl

theorem KeepsCores.foldl {α : Type} {g : Device → α → Device} (hg : ∀ d x, KeepsCores d (g d x)) (l : List α) (d : Device) :
    KeepsCores d (l.foldl g d) := by
  induction l generalizing d with
  | nil => exact .refl d
  | cons x t ih => exact (hg d x).trans (ih _)

theorem KeepsCores.setCore_copies (d : Device) (u : Nat) (l : List RaCopy) : KeepsCores d (setCore d u { core d u with copies := l }) := by
  intro v
  rcases eq_or_ne v u with rfl | h
  · rw [core_setCore]; rfl
  · rw [core_setCore_ne _ _ _ _ h]

theorem keepsCores_bump (d : Device) (o n : Nat) : KeepsCores d (bump d o n) := .of_bare (bare_bump _ _ _)

theorem keepsCores_dropCopies (d : Device) (h blk : Nat) : KeepsCores d (dropCopies d h blk) := by
  refine KeepsCores.foldl (fun d e => ?_) _ _
  split
  · exact .refl d
  · dsimp only
    split
    · exact .refl d
    · exact (KeepsCores.setCore_copies d _ _).trans (keepsCores_bump _ _ _)

theorem keepsCores_watchInvalidate (d : Device) (blk : Nat) : KeepsCores d (watchInvalidate d blk) := by
  refine KeepsCores.foldl (fun d e => ?_) _ _
  split
  · exact ((keepsCores_dropCopies d _ _).trans (keepsCores_bump _ _ _)).trans (.of_cores rfl)
  · exact .refl d

@[simp] theorem bare_sectorParity (d : Device) (sec : Nat) : bare (sectorParity d sec) = bare d := by
  unfold sectorParity; dsimp only
  split
  · rfl
  · split <;> simp

theorem KeepsCores.with_stack {d e : Device} (h : KeepsCores d e) (m : Mem) : KeepsCores d { e with stack := m } := h

theorem keepsCores_sectorWrite (d : Device) (sec a : Nat) (bs : List (Byte × Bool)) : KeepsCores d (sectorWrite d sec a bs) := by
  unfold sectorWrite; dsimp only
  split
  · split
    · exact KeepsCores.with_stack ((KeepsCores.of_bare (bare_sectorParity _ _)).trans (keepsCores_bump _ _ _)) _
    · exact KeepsCores.with_stack (.refl d) _
  · exact KeepsCores.with_stack (.refl d) _

theorem keepsCores_stackWrite (d : Device) (a : Nat) (bs : List (Byte × Bool)) : KeepsCores d (stackWrite d a bs) := by
  unfold stackWrite; dsimp only
  split
  · exact .refl d
  · exact ((KeepsCores.foldl (fun d s => keepsCores_sectorWrite d s a bs) _ d).trans (.of_bare (bare_bump64 _ _ _))).trans
      (KeepsCores.foldl keepsCores_watchInvalidate _ _)

@[simp] theorem bare_readPeak (d : Device) (s : Nat) : bare (readPeak d s) = bare d := rfl
@[simp] theorem bare_sectorRead (d : Device) (sec : Nat) : bare (sectorRead d sec) = bare d := by simp [sectorRead]

@[simp] theorem bare_stackRead (d : Device) (a n : Nat) : bare (stackRead d a n).2 = bare d := by
  unfold stackRead
  split
  · rfl
  · rw [bare_readPeak, bare_foldl bare_sectorRead]

@[simp] theorem bare_tableReads (d : Device) (rs : List Nat) : bare (tableReads d rs) = bare d := bare_foldl (fun _ _ => bare_stackRead _ _ _) _ _

theorem keepsCores_cacheWalk (d : Device) (hall j page : Nat) (w : Walked) : KeepsCores d (cacheWalk d hall j page w) := by
  unfold cacheWalk; dsimp only
  split
  · exact .refl d
  · split <;> exact .of_cores rfl

theorem KeepsCores.with_xcache {d e : Device} (h : KeepsCores d e) (x : Tab (List XEnt)) : KeepsCores d { e with xcache := x } := h

theorem keepsCores_markLeaf (d : Device) (hall j : Nat) (wr : Bool) (l : Nat × Walked × Bool) : KeepsCores d (markLeaf d hall j wr l) := by
  unfold markLeaf
  dsimp only
  generalize 16 ||| (if wr then 32 else 0) = m
  rcases Bool.eq_false_or_eq_true l.2.2 with hl | hl
  · rw [hl, if_pos rfl]
    split
    · exact .with_xcache (.refl d) _
    · exact (KeepsCores.with_xcache (.refl d) _).trans (keepsCores_stackWrite _ _ _)
  · rw [hl, if_neg Bool.false_ne_true]
    split
    · exact keepsCores_cacheWalk _ _ _ _ _
    · exact (keepsCores_cacheWalk _ _ _ _ _).trans (keepsCores_stackWrite _ _ _)

theorem keepsCores_translate {d d' : Device} {hall j : Nat} {wr peer : Bool} {pages : List Nat} {t : Tab Nat}
    (h : translate d hall j wr peer pages = .ok (t, d')) : KeepsCores d d' := by
  unfold translate at h
  split at h
  · cases h
  · cases h
    exact ((KeepsCores.of_bare (bare_tableReads _ _)).trans (KeepsCores.foldl (fun d e => keepsCores_markLeaf d hall j wr e) _ _)).trans (.of_cores rfl)

theorem bare_readVirt (d : Device) (pages : Tab Nat) (a n : Nat) : bare (readVirt d pages a n).2 = bare d := by
  unfold readVirt
  generalize (pieces a n) = l
  have hfold (p : List (Byte × Bool) × Device) : bare (l.foldl (fun (acc : List (Byte × Bool) × Device) p =>
      let r := stackRead acc.2 (phys pages p.1) p.2
      (acc.1 ++ r.1, r.2)) p).2 = bare p.2 := by
    induction l generalizing p with
    | nil => rfl
    | cons x t ih => rw [List.foldl_cons, ih, bare_stackRead]
  exact hfold _

theorem keepsCores_recRead {d d' : Device} {u j n a : Nat} {b : Option (List Byte)} (h : recRead d u j n a = .ok (b, d')) : KeepsCores d d' := by
  unfold recRead at h
  split at h
  · cases h; exact .refl d
  · split at h
    · cases h
    · next pg d1 ht =>
      have hk : KeepsCores d (readVirt d1 pg a 32).2 := (keepsCores_translate ht).trans (.of_bare (bare_readVirt _ _ _ _))
      dsimp only at h
      split at h
      · cases h; exact hk
      · cases h; exact hk.trans (.of_cores rfl)

end Sys2Proof.Machine
end

section
/-!
The landing: lookups and resets (R243 to R256): O22.
-/
namespace Sys2Proof.Machine

section
variable {u i waited n : Nat} {e : Ins} {d : Device}

/-- What a lookup does, from the counted wait on: `d1` is the module with the wait counted (R243 to R247). -/
def landingOn (d1 : Device) (u j : Nat) (e : Ins) : Device :=
  if getR d1 (landWin j + 0x18) ≤ e.d.record then landFault d1 u e fBounds
  else
    match recRead d1 u j e.d.record ((job d1 j).landDir + 32 * e.d.record) with
    | .error (f, p) => xferFault d1 u e f (max ((job d1 j).landDir + 32 * e.d.record) (p * 65536)) false
    | .ok (none, d) => landFault (poisonSeen d (seqPage 2) (some j)) u e 10
    | .ok (some b, d) =>
      match recordCheck (landEpoch d j) (landRec b) e.d with
      | some f => landFault d u e f
      | none => landLookup d u e e.d.record ((job d1 j).landDir + 32 * e.d.record) b

theorem landingPlace_eq (he : ((core d u).fl.filter Ins.isStream)[i]? = some e) (hon : coreOn d u = true) (hl : e.land = 1) :
    landingPlace u i waited d = landingOn (bump d (corePage u + 0x794) waited) u ((core d u).job.getD 16) e := by
  simp only [landingPlace, he, hon, hl]
  rfl

end

section
variable {u j n a : Nat} {e : Ins} {d d2 : Device} {b : List Byte}

theorem landingOn_outside (h : getR d (landWin j + 0x18) ≤ e.d.record) : landingOn d u j e = landFault d u e 4 := if_pos h

section
variable (h : e.d.record < getR d (landWin j + 0x18))
include h

theorem landingOn_checkFails {f : Nat} (hr : recRead d u j e.d.record ((job d j).landDir + 32 * e.d.record) = .ok (some b, d2))
    (hf : recordCheck (landEpoch d2 j) (landRec b) e.d = some f) : landingOn d u j e = landFault d2 u e f := by
  simp [landingOn, Nat.not_le.2 h, hr, hf]

theorem landingOn_looks (hr : recRead d u j e.d.record ((job d j).landDir + 32 * e.d.record) = .ok (some b, d2))
    (hf : recordCheck (landEpoch d2 j) (landRec b) e.d = none) :
    landingOn d u j e = landLookup d2 u e e.d.record ((job d j).landDir + 32 * e.d.record) b := by
  simp [landingOn, Nat.not_le.2 h, hr, hf]

theorem landingOn_poison (hr : recRead d u j e.d.record ((job d j).landDir + 32 * e.d.record) = .ok (none, d2)) :
    landingOn d u j e = landFault (poisonSeen d2 (seqPage 2) (some j)) u e 10 := by
  simp [landingOn, Nat.not_le.2 h, hr]

theorem landingOn_untranslated {f : XFault} {p : Nat} (hr : recRead d u j e.d.record ((job d j).landDir + 32 * e.d.record) = .error (f, p)) :
    landingOn d u j e = xferFault d u e f (max ((job d j).landDir + 32 * e.d.record) (p * 65536)) false := by
  simp [landingOn, Nat.not_le.2 h, hr]

end

/-- The state of a record in the job's epoch. -/
def recState (d : Device) (j : Nat) (k : LandRec) : Nat := if k.epoch = landEpoch d j then k.state else 0

variable (hj : (core d u).job.getD 16 = j)
include hj

theorem landLookup_placed (hst : recState d j (landRec b) = 1) : landLookup d u e n a b = landReady d u e (landRec b) (landRec b).offset := by
  simp only [recState, ← hj] at hst
  rcases Bool.eq_false_or_eq_true e.d.store with hs | hs <;> simp [landLookup, hst, hs]

theorem landLookup_dropped (hs : e.d.store = true) (hst : recState d j (landRec b) = 2) :
    landLookup d u e n a b = setCore d u (refly (core d u) { e with land := 3 }) := by
  simp only [recState, ← hj] at hst
  simp [landLookup, hst, hs]

theorem landLookup_fits (hs : e.d.store = true) (h1 : recState d j (landRec b) ≠ 1) (h2 : recState d j (landRec b) ≠ 2)
    (hfit : get64 d (landWin j + 0x20) + landBytes (landRec b) ≤ get64 d (landWin j + 8)) :
    landLookup d u e n a b = landPlace d u e n a b (landRec b) := by
  simp only [recState, ← hj] at h1 h2 hfit
  simp [landLookup, h1, h2, hs, hfit]

theorem landLookup_unplaced (hs : e.d.store = false) (h1 : recState d j (landRec b) ≠ 1) :
    landLookup d u e n a b = taint (landFault (bump d (landWin j + 0x34) 1) u e 11) ((core d u).job.getD 16) 2 11 := by
  subst hj
  simp only [recState] at h1
  simp [landLookup, h1, hs]

end

/-! ### Landing resets -/

section
variable {j : Nat} {d : Device}

theorem landEpoch_setJob (d : Device) (j k : Nat) (x : Job) : landEpoch (setJob d k x) j = landEpoch d j := rfl

theorem landEpoch_landEnd (d : Device) (j : Nat) : landEpoch (landEnd d j) j = (if landEpoch d j = 0xFFFFFFFF then 1 else landEpoch d j + 1) % 2 ^ 32 := by
  rw [landEpoch, landEnd, getR_set64_ne _ _ (by omega) (by omega), getR_setR]
  simp [landEpoch_setJob]

theorem landUsed_landEnd (d : Device) (j : Nat) : get64 (landEnd d j) (landWin j + 0x20) = 0 := get64_set64 _ _ _

theorem job_landEnd (d : Device) (j : Nat) :
    job (landEnd d j) j = { job d j with landBusy := false, landFull := false, landSweep := false } := job_setJob _ _ _

/-- A reset that begins with the epoch below its top. -/
theorem landBegin_eq (h : landEpoch d j ≠ 0xFFFFFFFF) :
    landBegin d j = setJob d j { job d j with landBase := get64 d (landWin j), landDir := get64 d (landWin j + 0x10), landRecs := [] } :=
  if_neg (by simpa [landEpoch_setJob] using h)

theorem landSweep_landBegin (h : landEpoch d j = 0xFFFFFFFF) : (job (landBegin d j) j).landSweep = true := by
  have hb : landEpoch (setJob d j { job d j with landBase := get64 d (landWin j), landDir := get64 d (landWin j + 0x10), landRecs := [] }) j
      = 0xFFFFFFFF := h
  simp [landBegin, hb]

theorem landReset_result (h : landEpoch d j ≠ 0xFFFFFFFF ∨ (job d j).landSweep = true) :
    landEpoch (landReset d j) j = (if landEpoch d j = 0xFFFFFFFF then 1 else landEpoch d j + 1) % 2 ^ 32
      ∧ get64 (landReset d j) (landWin j + 0x20) = 0 ∧ (job (landReset d j) j).landBusy = false ∧ (job (landReset d j) j).landFull = false
      ∧ (job (landReset d j) j).landSweep = false
      ∧ ((job d j).landSweep = false → (job (landReset d j) j).landBase = get64 d (landWin j)
        ∧ (job (landReset d j) j).landDir = get64 d (landWin j + 0x10)) := by
  rcases Bool.eq_false_or_eq_true (job d j).landSweep with hs | hs
  · rw [landReset, if_pos hs, landEpoch_landEnd, landUsed_landEnd, job_landEnd]
    exact ⟨rfl, rfl, rfl, rfl, rfl, fun h => by simp [hs] at h⟩
  · have he : landEpoch d j ≠ 0xFFFFFFFF := by simpa [hs] using h
    rw [landReset, if_neg (by simp [hs]), landEpoch_landEnd, landUsed_landEnd, job_landEnd, landBegin_eq he, landEpoch_setJob, job_setJob]
    exact ⟨rfl, rfl, rfl, rfl, rfl, fun _ => ⟨rfl, rfl⟩⟩

end

/-- Settles O22: `landingOn` by what the directory gives, and a reset by the epoch. -/
theorem landingRecords : Obligations.LandingRecords := by
  unfold Obligations.LandingRecords
  refine ⟨fun u i waited e s => ?_, fun j s => ?_⟩
  · dsimp only
    intro hu hi hon he hl
    have hrun : exec (.landingPlace u i waited) s = .next { s with dev := landingPlace u i waited s.dev } := run_wf _ _ (by simp [Instr.wf, hu, hi])
    rw [hrun, landingPlace_eq he hon hl]
    refine ⟨fun h => by rw [landingOn_outside h], fun d2 b h hr => ?_, fun d2 h hr => by rw [landingOn_poison h hr],
      fun f p h hr => by rw [landingOn_untranslated h hr]⟩
    have hj : (core d2 u).job.getD 16 = (core s.dev u).job.getD 16 := by
      rw [(keepsCores_recRead hr).job, (keepsCores_bump _ _ _).job]
    refine ⟨fun f hf => by rw [landingOn_checkFails h hr hf], fun hf => ⟨by rw [landingOn_looks h hr hf], ?_, ?_, ?_, ?_⟩⟩
    · exact landLookup_placed hj
    · exact landLookup_dropped hj
    · exact landLookup_fits hj
    · exact landLookup_unplaced hj
  · dsimp only
    intro hj
    have hrun : exec (.landingReset j) s = .next { s with dev := landingReset j s.dev } := run_wf _ _ (by simp [Instr.wf, hj])
    rw [hrun]
    refine ⟨run_wf _ _ (by simp [Instr.wf, hj]), fun hb hf h => ⟨_, rfl, ?_⟩, fun hb hf h hs => ⟨_, rfl, ?_⟩, fun hb => ?_, fun hb hf => ?_⟩
    · have hc : (landEpoch s.dev j == 0xFFFFFFFF && !(job s.dev j).landSweep) = false := by
        rcases h with h | h <;> simp [h]
      dsimp only
      rw [landingReset, if_neg (by simp [hb, hf]), if_neg (by simp [hc])]
      exact landReset_result h
    · dsimp only
      rw [landingReset, if_neg (by simp [hb, hf]), if_pos (by simp [h, hs])]
      exact landSweep_landBegin h
    · rw [landingReset, if_pos (by simp [hb])]
    · rw [landingReset, if_pos (by simp [hf])]

end Sys2Proof.Machine
end

section
/-!
Signal words: what an operation leaves of a store, and the commands of the signal stores (R316 to R319, R322, R342): O24.
-/
namespace Sys2Proof.Machine

/-! ### Stores -/

theorem sigs_of_bare {d e : Device} (h : bare e = bare d) : e.sigs = d.sigs := eq_of_erased bare Device.sigs (fun _ => rfl) h

theorem sigWord_of_sigs {d e : Device} (h : e.sigs = d.sigs) (p k : Nat) : sigWord e p k = sigWord d p k := by rw [sigWord, sigWord, sigStore, sigStore, h]

@[simp] theorem sigs_bump64 (d : Device) (o n : Nat) : (bump64 d o n).sigs = d.sigs := sigs_of_bare (bare_bump64 _ _ _)
@[simp] theorem sigs_bump (d : Device) (o n : Nat) : (bump d o n).sigs = d.sigs := sigs_of_bare (bare_bump _ _ _)

@[simp] theorem sigs_wakeWaiter (d : Device) (u g : Nat) : (wakeWaiter d u g).sigs = d.sigs := by
  unfold wakeWaiter; dsimp only
  split
  · rfl
  · split
    · split <;> rfl
    · rfl

theorem sigs_wakeWaiters (l : List Monitor) (d : Device) : (l.foldl (fun d m => wakeWaiter d m.u m.g) d).sigs = d.sigs := by
  induction l generalizing d with
  | nil => rfl
  | cons m t ih => rw [List.foldl_cons, ih, sigs_wakeWaiter]

/-- The monitors that a change of a word reaches are removed, and every store is otherwise as it was. -/
theorem sigs_monitorCheck (d : Device) (h i : Nat) : (monitorCheck d h i).sigs
    = (setSig d h { sigStore d h with mons := (sigStore d h).mons.filter (fun m => !(m.i == i && m.target ≤ (sigWord d h i).count)) }).sigs := sigs_wakeWaiters _ _

@[simp] theorem sigWord_monitorCheck (d : Device) (h i k : Nat) : sigWord (monitorCheck d h i) h k = sigWord d h k := by
  rw [sigWord_of_sigs (sigs_monitorCheck d h i), sigWord, sigStore_setSig]
  rfl

@[simp] theorem ops_monitorCheck (d : Device) (h i : Nat) : (sigStore (monitorCheck d h i) h).ops = (sigStore d h).ops := by
  have h' := sigs_monitorCheck d h i
  rw [sigStore, h', ← sigStore, sigStore_setSig]

@[simp] theorem ops_setWord (d : Device) (h i : Nat) (w : SigWord) : (sigStore (setWord d h i w) h).ops = (sigStore d h).ops := by
  rw [setWord, sigStore_setSig]

theorem sigWord_setWord (d : Device) (h i k : Nat) (w : SigWord) : sigWord (setWord d h i w) h k = if k = i then w else sigWord d h k := by
  rw [sigWord, setWord, sigStore_setSig]
  exact tget_tset _ _ _ _ _

/-- A set writes COUNT and clears OVF of its word, and leaves every other word of the store (R316). -/
theorem sigWord_applySet (d : Device) (h i v k : Nat) :
    sigWord (applyOp d h (.set i v)) h k = if k = i then { sigWord d h i with count := v, ovf := false } else sigWord d h k := by
  rw [applyOp, sigWord_monitorCheck, sigWord_setWord]
  simp only [sigWord_of_sigs (sigs_bump64 _ _ _)]

theorem ops_applySet (d : Device) (h i v : Nat) : (sigStore (applyOp d h (.set i v)) h).ops = (sigStore d h).ops := by
  rw [applyOp, ops_monitorCheck, ops_setWord, sigStore, sigs_bump64]
  rfl

theorem applyCycle_set {d : Device} {h i v : Nat} (ho : (sigStore d h).ops = [.set i v]) :
    applyCycle d h 1 = applyOp (setSig d h { sigStore d h with ops := [] }) h (.set i v) := by simp [applyCycle, ho]

theorem sigWord_withoutOps (d : Device) (h k : Nat) : sigWord (setSig d h { sigStore d h with ops := [] }) h k = sigWord d h k := by
  rw [sigWord, sigStore_setSig]
  rfl

/-! ### Windows -/

theorem sigWord_sigWindowSet {d : Device} {h : Nat} (hb : backed d h = true) (src i k : Nat) (v : Word) :
    sigWord (sigWindowSet src h i v d) h k = if k = i then { sigWord (flushStore d h) h i with count := v.toNat % 2 ^ 48, ovf := bit v.toNat 56 }
      else sigWord (flushStore d h) h k := by
  unfold sigWindowSet
  rw [hb, Bool.not_true, if_neg Bool.false_ne_true]
  dsimp only
  rw [sigWord_of_sigs (sigs_of_bare (bare_log _ _ _ _)), sigWord_of_sigs (sigs_bump _ _ _), sigWord_monitorCheck, sigWord_setWord]
  simp only [sigWord_of_sigs (sigs_bump64 _ _ _)]

/-! ### Polls -/

section
variable {d : Device} {u g h i : Nat} {b : Binding} (ho : (sigStore d h).ops = [])
include ho

theorem flushStore_idle : flushStore d h = setSig d h { sigStore d h with ops := [] } := by simp [flushStore, ho]

theorem sigWord_readOp : sigWord (readOp d h) h i = sigWord d h i := by
  rw [readOp, sigWord_of_sigs (sigs_bump64 _ _ _), flushStore_idle ho, sigWord_withoutOps]

theorem core_readOp : core (readOp d h) u = core d u := by
  rw [readOp, core_eq_of_bare (bare_bump64 _ _ _), flushStore_idle ho]
  rfl

theorem wordHome_readOp (w : Nat) : wordHome (readOp d h) w = wordHome d w := by
  have hp : (readOp d h).plan = d.plan := by
    rw [readOp, eq_of_erased bare Device.plan (fun _ => rfl) (bare_bump64 _ _ _), flushStore_idle ho]
    rfl
  rw [wordHome, wordHome, hp]

variable (hw : wordHome d b.word = some (h, i))
include hw

theorem reached_readOp (t : Nat) : reached (readOp d h) b.word t = decide (t ≤ (sigWord d h i).count) := by
  rw [reached, wordHome_readOp ho, hw]
  dsimp only
  rw [sigWord_readOp ho]

theorem sigPoll_swait (hb : (core d u).swait = some b) (hm : b.mon = false) (hs : (core d u).st = .swait) :
    sigPoll u 0 d = if b.target ≤ (sigWord d h i).count then setCore (readOp d h) u { core d u with swait := none, st := .running }
      else readOp d h := by
  unfold sigPoll
  simp [hb, hm, readWord, hw, reached_readOp ho hw, core_readOp ho, hs]

theorem gates_sigPoll (hg : g ≠ 0) (hgs : (core d u).gates = [(g, b)]) (hwin : (core d u).win = []) (hm : b.mon = false) (hb : b.seen = false) :
    (core (sigPoll u g d) u).gates = [(g, if b.target ≤ (sigWord d h i).count then { b with seen := true } else b)] := by
  unfold sigPoll
  simp only [beq_iff_eq, hg, if_false, hgs, hwin]
  simp only [List.filter, beq_self_eq_true, List.map, List.filterMap, List.append_nil, hm, hb, Bool.not_false, Bool.and_self, List.foldl, readWord, hw,
    Option.map_some, Option.getD_some, core_setCore, core_readOp ho, hgs, reached_readOp ho hw, Bool.true_and, decide_eq_true_eq]
  split <;> rfl

end

/-- Settles O24: a set's word, and a poll by whether its word has reached its target. -/
theorem signalStore : Obligations.SignalStore := by
  unfold Obligations.SignalStore
  refine ⟨fun h n s hh hn => run_wf _ _ (by simp [Instr.wf, hh, hn]), fun h i v s hh _ ho _ => ?_, fun src h i v s hsrc hh hi => ?_,
    fun u h i b s hu hb hm hw ho hs => ?_, fun u g h i b s hu hg hg0 hgs hwin hm hb hw ho => ?_⟩
  · refine ⟨_, run_wf _ _ (by simp [Instr.wf, hh]), ?_⟩
    dsimp only [sigStoreApply]
    rw [applyCycle_set ho, ops_applySet]
    simp only [sigWord_applySet, sigWord_withoutOps, sigStore_setSig, if_true]
    exact ⟨trivial, trivial, trivial, trivial, fun k hk => if_neg hk⟩
  · dsimp only
    have hrun : exec (.sigWindowSet src h i v) s = .next { s with dev := sigWindowSet src h i v s.dev } := run_wf _ _ (by simp [Instr.wf, hsrc, hh, hi])
    refine ⟨fun hb => ⟨_, hrun, ?_⟩, fun hb => ?_⟩
    · simp only [sigWord_sigWindowSet hb, if_true]
      exact ⟨trivial, trivial, trivial, fun k hk => if_neg hk⟩
    · rw [hrun, sigWindowSet, if_pos (by rw [hb]; rfl)]
  · have hrun : exec (.sigPoll u 0) s = .next { s with dev := sigPoll u 0 s.dev } := run_wf _ _ (by simp [Instr.wf, hu])
    refine ⟨fun ht => ⟨_, hrun, ?_⟩, fun ht => ?_⟩
    · rw [sigPoll_swait ho hw hb hm hs, if_pos ht, core_setCore]
      exact ⟨rfl, rfl, rfl⟩
    · rw [hrun, sigPoll_swait ho hw hb hm hs, if_neg (Nat.not_le.2 ht)]
  · exact ⟨_, run_wf _ _ (by simp [Instr.wf, hu, hg]), gates_sigPoll ho hw hg0 hgs hwin hm hb⟩

end Sys2Proof.Machine
end

section
/-!
Translation invalidations and the run-ahead (R290, R293 to R297): O26.
-/
namespace Sys2Proof.Machine

section
variable {d : Device} {x : Xinv}

theorem xinvStart_idle (h : d.xinv = none) : xinvStart x d = { d with xinv := some x } := by simp [xinvStart, h]
theorem xinvStart_busy (h : d.xinv ≠ none) : xinvStart x d = d := if_pos (Option.isSome_iff_ne_none.2 h)

theorem xinvComplete_waits (hx : d.xinv = some x) (hu : xinvUsed d x = true) : xinvComplete d = d := by simp [xinvComplete, hx, hu]

/-- Whether a cached leaf is outside an invalidation. -/
def keepsLeaf (x : Xinv) (e : XEnt) : Bool := if e.big then !(List.range 32).any (fun i => x.covers e.job (e.key * 32 + i)) else !x.covers e.job e.key

theorem xinvComplete_ends (hx : d.xinv = some x) (hu : xinvUsed d x = false) : xinvComplete d
    = { d with xinv := none
               xcache := d.xcache.map (fun e => (e.1, e.2.filter (keepsLeaf x)))
               xptr := d.xptr.map (fun e => (e.1, e.2.filter (fun p => !x.covers p.job (p.key * 32)))) } := by
  simp only [xinvComplete, hx, hu, Bool.false_eq_true, if_false]
  rfl

theorem keepsLeaf_small {e : XEnt} (h : keepsLeaf x e = true) (hb : e.big = false) : x.covers e.job e.key = false := by simpa [keepsLeaf, hb] using h

theorem keepsLeaf_big {e : XEnt} (h : keepsLeaf x e = true) (hb : e.big = true) {i : Nat} (hi : i < 32) : x.covers e.job (e.key * 32 + i) = false := by
  simp only [keepsLeaf, hb, if_true, Bool.not_eq_true', List.any_eq_false, List.mem_range] at h
  exact Bool.of_not_eq_true (h i hi)

end

/-- What is left in tables whose lists are filtered has passed the filter. -/
theorem mem_filtered {α : Type} {p : α → Bool} {t : Tab (List α)} {l : Nat × List α} (hl : l ∈ t.map (fun e => (e.1, e.2.filter p))) {e : α} (he : e ∈ l.2) :
    p e = true := by
  obtain ⟨k, -, rfl⟩ := List.mem_map.1 hl
  exact (List.mem_filter.1 he).2

/-- A core follows descriptor `q` at its place `k` for its job `j`. -/
structure Follows (d : Device) (u k j : Nat) (q : RaDesc) : Prop where
  desc : (core d u).ra[k]? = some q
  job : (core d u).job = some j

theorem runaheadFetch_predicts {d : Device} {u k j p : Nat} {q : RaDesc} (h : Follows d u k j q) (hon : coreOn d u = true) (hp : q.prev = some p)
    (hne : p ≠ q.last) (hr : raUnits d (u / 48) j ≠ 0) : runaheadFetch u k d
      = settleWatch ((raBlocks q ((q.last + q.last + 2 ^ 48 - p) % 2 ^ 48)).foldl
        (fun e b => raRequest e u j q ((core d u).copies.map (·.at_)) (b.1 * 256) b.2) d) (u / 48) := by
  obtain ⟨hq, hj⟩ := h
  simp only [runaheadFetch, hq, hj, hp, hon]
  rw [if_neg (by simp [hne, hr])]

theorem runaheadFetch_none {d : Device} {u k j : Nat} {q : RaDesc} (h : Follows d u k j q)
    (hn : q.prev = none ∨ q.prev = some q.last ∨ raUnits d (u / 48) j = 0) : runaheadFetch u k d = d := by
  obtain ⟨hq, hj⟩ := h
  rcases hn with hn | hn | hn
  · simp [runaheadFetch, hq, hj, hn]
  · simp [runaheadFetch, hq, hj, hn]
  · cases hp : q.prev <;> simp [runaheadFetch, hq, hj, hp, hn]

/-- Settles O26: an invalidation by whether one is under way, and the run-ahead by its prediction. -/
theorem invalidationsAndRunAhead : Obligations.InvalidationsAndRunAhead := by
  unfold Obligations.InvalidationsAndRunAhead
  have hall (s : State) : exec .xinvAllJobs s = .next { s with dev := xinvAllJobs s.dev } := run_wf xinvAllJobs _ (c := .xinvAllJobs) rfl
  have hjob (j : Nat) (s : State) (hj : j < 16) : exec (.xinvJob j) s = .next { s with dev := xinvJob j s.dev } := run_wf _ _ (by simp [Instr.wf, hj])
  have hrange (j : Nat) (s : State) (hj : j < 16) : exec (.xinvRange j) s = .next { s with dev := xinvRange j s.dev } := run_wf _ _ (by simp [Instr.wf, hj])
  refine ⟨fun j s hx => ⟨?_, fun hj => ?_, fun hj => ?_⟩, fun j s hx => ⟨?_, fun hj => ⟨?_, ?_⟩⟩, fun x s hx => ⟨fun hu => ?_, fun hu => ?_⟩,
    fun u k j q s hu hk hq hj hon => ?_⟩
  · rw [hall, xinvAllJobs, xinvStart_idle hx]
  · rw [hjob j s hj, xinvJob, xinvStart_idle hx]
  · rw [hrange j s hj, xinvRange, xinvStart_idle hx]
  · rw [hall, xinvAllJobs, xinvStart_busy hx]
  · rw [hjob j s hj, xinvJob, xinvStart_busy hx]
  · rw [hrange j s hj, xinvRange, xinvStart_busy hx]
  · refine ⟨{ s with dev := xinvComplete s.dev }, run_wf xinvComplete _ (c := .xinvComplete) rfl, ?_⟩
    rw [xinvComplete_ends hx hu]
    exact ⟨rfl, rfl, fun l hl e he => ⟨fun hb => keepsLeaf_small (mem_filtered hl he) hb, fun hb i hi => keepsLeaf_big (mem_filtered hl he) hb hi⟩,
      fun l hl e he => Bool.of_not_eq_true fun hc => by simpa [hc] using mem_filtered hl he⟩
  · rw [show exec .xinvComplete s = .next { s with dev := xinvComplete s.dev } from run_wf xinvComplete _ (c := .xinvComplete) rfl, xinvComplete_waits hx hu]
  · have hrun : exec (.runaheadFetch u k) s = .next { s with dev := runaheadFetch u k s.dev } := run_wf _ _ (by simp [Instr.wf, hu, hk])
    dsimp only
    exact ⟨fun p hp hne hr => by rw [hrun, runaheadFetch_predicts ⟨hq, hj⟩ hon hp hne hr], fun hn => by rw [hrun, runaheadFetch_none ⟨hq, hj⟩ hn]⟩

end Sys2Proof.Machine
end

section
/-!
Registers that reports and the links' own work leave alone, and Harlon reception (R330 to R334, R350, R362, R375): O27.
-/
namespace Sys2Proof.Machine

/-! ### Registers -/

theorem getR_of_regs {d e : Device} (h : e.regs = d.regs) (o : Nat) : getR e o = getR d o := by rw [getR, getR, h]

/-- Only the count of lost events may change with an event. -/
theorem getR_pushEv_ne (d : Device) (e : Ev) {o : Nat} (h : o ≠ foyPage + 0x124) : getR (pushEv d e) o = getR d o := by
  unfold pushEv
  split
  · rfl
  · rw [getR_bump_ne _ _ h]
    rfl

theorem getR_jobEv_ne (d : Device) (j ty c a : Nat) (l : List Byte) {o : Nat} (h : o ≠ foyPage + 0x124) : getR (jobEv d j ty c a l) o = getR d o :=
  getR_pushEv_ne _ _ h

theorem getR_taint_ne (d : Device) (j n c : Nat) {o : Nat} (h : o ≠ foyPage + 0x124) : getR (taint d j n c) o = getR d o := by
  unfold taint
  dsimp only
  split
  · rfl
  · split
    · rw [getR_jobEv_ne _ _ _ _ _ _ h, getR_setJob, getR_jobEv_ne _ _ _ _ _ _ h, getR_setJob]
    · rw [getR_jobEv_ne _ _ _ _ _ _ h, getR_setJob]

theorem regs_setEvt (d : Device) (o n : Nat) : (setEvt d o n).regs = d.regs := rfl

theorem regs_sendCtrl (d : Device) (p l : Nat) (nak : Bool) : (sendCtrl d p l nak).regs = d.regs := by
  unfold sendCtrl; dsimp only
  split <;> rfl

theorem regs_freeUnits (d : Device) (p l c n : Nat) : (freeUnits d p l c n).regs = d.regs := regs_sendCtrl _ _ _ _

/-! ### Reception -/

section
variable {d : Device} {rx : Rx} {type : Nat} {f : Device → Device}

theorem receive_accepted (h : accepts d rx type = true) : receive type rx (fun _ _ => false) f d = f (arrived d rx) := by
  simp only [accepts, Bool.and_eq_true, bne_iff_ne, beq_iff_eq, Bool.not_eq_true'] at h
  obtain ⟨⟨⟨⟨⟨-, h0⟩, ht⟩, hb⟩, hh⟩, hdup⟩ := h
  simp only [tookBlock] at hdup
  simp [receive, h0, ht, blockOk, hb, hh, hdup, arrived, tookBlock]

/-- A NULL unit, and a packet in a block that is not the link's next, is no packet (R350, R362). -/
theorem receive_skipped (h : rx.hdr.toNat = 0 ∨ blockNext (link d rx.port rx.link) rx.seq = false) : receive type rx (fun _ _ => false) f d = d := by
  unfold receive
  dsimp only
  split
  · rfl
  · next hs =>
    have hb : blockNext (link d rx.port rx.link) rx.seq = false := h.resolve_left fun h0 => hs (by simp [h0])
    rw [blockOk, hb]
    rfl

theorem accepts_wf (h : accepts d rx type = true) : rx.wf = true := by simp_all [accepts]

theorem accepts_port (h : accepts d rx type = true) : rx.port < 6 := by
  have hw := accepts_wf h
  simp only [Rx.wf, Bool.and_eq_true, decide_eq_true_eq] at hw
  omega

theorem writeRx_accepted (h : accepts d rx 1 = true) (hlen : rx.payload.length = hLen rx.hdr.toNat) : writeRx rx d
    = let h := rx.hdr.toNat; let p := rx.port; let n := hLen h
      let fin (d : Device) : Device := delivered (freeUnits d p rx.link (hCls h) (units n)) p (hCls h) n
      match translate (arrived d rx) noHall (hJob h) true true (pagesOf (hAddr h) n) with
      | .ok (pg, d) => fin (writeVirt d pg (hAddr h) (clean rx.payload))
      | .error (f, pgno) =>
        let d := recordXFault (arrived d rx) (hJob h) (max (hAddr h) (pgno * 65536)) f true true 0xFFFF
        let d := jobEv d (hJob h) 0x52 f.code (hAddr h) (toLE 4 (getR d (devPage 1 + 0x220)))
        let d := taint d (hJob h) 6 f.code
        fin (queuePkt d p { hdr := mkHdr 4 (hCls h) (fld h 43 40) 0 (hTag h) (hAddr h + f.cause * 2 ^ 48), job := hJob h }) := by
  have hl : lenOk rx = true := by simp [lenOk, hlen]
  rw [writeRx, if_neg (by simp [hl]), receive_accepted h] <;> rfl

/-- What a WRITE_ERR leaves in its port's registers: its count, and its report when none was held (R375). -/
def writeErrNoted (d : Device) (p info a : Nat) : Device :=
  let d := setEvt (bump d (portPage p + 0x12C) 1) (portPage p) 17
  if bit (getR d (portPage p + 0x120)) 31 then d else set64 (setR d (portPage p + 0x120) info) (portPage p + 0x124) a

theorem getR_writeErrNoted_count (d : Device) (p info a : Nat) :
    getR (writeErrNoted d p info a) (portPage p + 0x12C) = min (getR d (portPage p + 0x12C) + 1) 0xFFFFFFFF := by
  unfold writeErrNoted; dsimp only
  split
  · rw [getR_of_regs (regs_setEvt _ _ _), getR_bump]
  · rw [getR_set64_ne _ _ (by omega) (by omega), getR_setR_ne _ _ _ _ (by omega), getR_of_regs (regs_setEvt _ _ _), getR_bump]

theorem getR_writeErrNoted_info (d : Device) (p a : Nat) {info : Nat} (hi : info < 2 ^ 32) :
    getR (writeErrNoted d p info a) (portPage p + 0x120) = if fld (getR d (portPage p + 0x120)) 31 31 = 1 then getR d (portPage p + 0x120) else info := by
  have hk : getR (setEvt (bump d (portPage p + 0x12C) 1) (portPage p) 17) (portPage p + 0x120) = getR d (portPage p + 0x120) := by
    rw [getR_of_regs (regs_setEvt _ _ _), getR_bump_ne _ _ (by omega)]
  unfold writeErrNoted; dsimp only
  rw [hk, bit_eq_fld]
  split
  · next h => rw [hk, if_pos (by simpa using h)]
  · next h => rw [getR_set64_ne _ _ (by omega) (by omega), getR_setR, Nat.mod_eq_of_lt hi, if_neg (by simpa using h)]

theorem writeErrRx_accepted (h : accepts d rx 4 = true) : writeErrRx rx d
    = let h := rx.hdr.toNat; let j := fld h 43 40; let info := fld h 114 112 + j * 8 + fld h 47 44 * 128 + fld h 53 48 * 2048 + 2 ^ 31
      let code := if fld h 114 112 < 4 then 5 else 6
      taint (jobEv (writeErrNoted (freeUnits (arrived d rx) rx.port rx.link (hCls h) (units 0)) rx.port info (hAddr h)) j 0x51 code (hAddr h) (toLE 4 info))
        j 6 code := by
  rw [writeErrRx, receive_accepted h]
  rfl

theorem signalRx_accepted (h : accepts d rx 2 = true) : signalRx rx d
    = let h := rx.hdr.toNat; let p := rx.port; let a := freeUnits (arrived d rx) p rx.link (hCls h) (units 0); let x := port a p
      promote (setPort a p { x with held := x.held ++ [⟨hCls h, fld h 52 40, hJob h, hAddr h, fld h 127 112⟩] }) p := by
  rw [signalRx, receive_accepted h]

end

theorem fld_lt (n hi lo : Nat) : fld n hi lo < 2 ^ (hi - lo + 1) := by
  unfold fld
  exact Nat.mod_lt _ (by positivity)

/-- Settles O27: an accepted packet by its type, and one that is not the link's next. -/
theorem harlonReception : Obligations.HarlonReception := by
  unfold Obligations.HarlonReception
  refine ⟨fun rx pg d2 s => ?_, fun rx f pg s => ?_, fun rx s hw hs => ⟨?_, ?_, ?_⟩, fun rx s => ?_, fun rx s => ?_, fun p cls i q s => ?_⟩
  · intro h p ha hl ht stored
    rw [show exec (.writeRx rx) s = .next { s with dev := writeRx rx s.dev } from run_wf _ _ (accepts_wf ha), writeRx_accepted ha hl]
    dsimp only
    rw [ht]
    rfl
  · intro h p a ha hl ht
    dsimp only
    rw [show exec (.writeRx rx) s = .next { s with dev := writeRx rx s.dev } from run_wf _ _ (accepts_wf ha), writeRx_accepted ha hl]
    dsimp only
    rw [ht]
  · rw [show exec (.writeRx rx) s = .next { s with dev := writeRx rx s.dev } from run_wf _ _ hw, writeRx, receive_skipped hs, ite_self]
  · rw [show exec (.writeErrRx rx) s = .next { s with dev := writeErrRx rx s.dev } from run_wf _ _ hw, writeErrRx, receive_skipped hs]
  · rw [show exec (.signalRx rx) s = .next { s with dev := signalRx rx s.dev } from run_wf _ _ hw, signalRx, receive_skipped hs]
  · dsimp only
    intro ha
    refine ⟨_, run_wf _ _ (accepts_wf ha), ?_⟩
    have hp := accepts_port ha
    dsimp only
    rw [writeErrRx_accepted ha]
    dsimp only
    have hne (o : Nat) (ho : o < 0x1000) : portPage rx.port + o ≠ foyPage + 0x124 := by unfold portPage foyPage; omega
    have hi : fld rx.hdr.toNat 114 112 + fld rx.hdr.toNat 43 40 * 8 + fld rx.hdr.toNat 47 44 * 128 + fld rx.hdr.toNat 53 48 * 2048 + 2 ^ 31 < 2 ^ 32 := by
      have h1 := fld_lt rx.hdr.toNat 114 112
      have h2 := fld_lt rx.hdr.toNat 43 40
      have h3 := fld_lt rx.hdr.toNat 47 44
      have h4 := fld_lt rx.hdr.toNat 53 48
      omega
    refine ⟨?_, ?_⟩
    · rw [getR_taint_ne _ _ _ _ (hne _ (by decide)), getR_jobEv_ne _ _ _ _ _ _ (hne _ (by decide)), getR_writeErrNoted_count,
        getR_of_regs (regs_freeUnits _ _ _ _ _)]
    · rw [getR_taint_ne _ _ _ _ (hne _ (by decide)), getR_jobEv_ne _ _ _ _ _ _ (hne _ (by decide)), getR_writeErrNoted_info _ _ _ hi,
        getR_of_regs (regs_freeUnits _ _ _ _ _)]
  · dsimp only
    intro ha
    rw [show exec (.signalRx rx) s = .next { s with dev := signalRx rx s.dev } from run_wf _ _ (accepts_wf ha), signalRx_accepted ha]
  · dsimp only
    intro hp hc hi hq
    rw [show exec (.remoteSignalRelease p cls) s = .next { s with dev := remoteSignalRelease p cls s.dev } from run_wf _ _ (by simp [Instr.wf, hp, hc]),
      remoteSignalRelease]
    simp only [hi, hq]

end Sys2Proof.Machine
end

section
/-!
What a command at the head of a ring does, by case (R467, R468), and the rings' registers (R466, R467): O35.
-/
namespace Sys2Proof.Machine

/-! ### Reports leave the jobs alone -/

@[simp] theorem jobs_bump (d : Device) (o n : Nat) : (bump d o n).jobs = d.jobs := by unfold bump; split <;> rfl
@[simp] theorem jobs_bump64 (d : Device) (o n : Nat) : (bump64 d o n).jobs = d.jobs := by unfold bump64; split <;> rfl
@[simp] theorem jobs_recordErr (d : Device) (o c a : Nat) : (recordErr d o c a).jobs = d.jobs := by unfold recordErr; dsimp only; split <;> rfl

@[simp] theorem jobs_pushEv (d : Device) (e : Ev) : (pushEv d e).jobs = d.jobs := by
  unfold pushEv
  split
  · rfl
  · rw [jobs_bump]

@[simp] theorem jobs_jobEv (d : Device) (j ty c a : Nat) (l : List Byte) : (jobEv d j ty c a l).jobs = d.jobs := jobs_pushEv _ _

@[simp] theorem jobs_causeEv (d : Device) (j ty c a : Nat) : (causeEv d j ty c a).jobs = d.jobs := by
  unfold causeEv; dsimp only
  split
  · rw [jobs_jobEv]; rfl
  · rw [jobs_pushEv]; rfl

@[simp] theorem jobs_cmdDone (d : Device) (j t : Nat) (n : Bool) : (cmdDone d j t n).jobs = d.jobs := by
  unfold cmdDone; split
  · exact jobs_pushEv _ _
  · rfl

@[simp] theorem bare_causeEv (d : Device) (j ty c a : Nat) : bare (causeEv d j ty c a) = bare d := by
  unfold causeEv; dsimp only
  split <;> simp

@[simp] theorem bare_cmdFault (d : Device) (j t c : Nat) : bare (cmdFault d j t c) = bare d := by unfold cmdFault; split <;> simp
@[simp] theorem bare_cmdDone (d : Device) (j t : Nat) (n : Bool) : bare (cmdDone d j t n) = bare d := by unfold cmdDone; split <;> simp
@[simp] theorem bare_ringPop (d : Device) (r : Nat) : bare (ringPop d r) = bare d := rfl

theorem job_of_jobs {d e : Device} (h : e.jobs = d.jobs) (k : Nat) : job e k = job d k := by rw [job, job, h]

theorem getR_cmdFault_ne (d : Device) (j t c : Nat) {o : Nat} (h : o ≠ foyPage + 0x124) : getR (cmdFault d j t c) o = getR d o := by
  unfold cmdFault; split <;> exact getR_pushEv_ne _ _ h

theorem getR_causeEv_ne (d : Device) (j ty c a : Nat) {o : Nat} (h : o ≠ foyPage + 0x124) : getR (causeEv d j ty c a) o = getR d o := by
  unfold causeEv; dsimp only
  split
  · rw [getR_jobEv_ne _ _ _ _ _ _ h]; rfl
  · rw [getR_pushEv_ne _ _ h]; rfl

/-! ### The command at the head of a ring -/

section
variable {d d1 : Device} {r op : Nat} {e : List Byte} {wait : Device → List Byte → Bool}
  {f : Device → List Byte → Nat → Nat → Bool → Except (Nat × Device) Device}

theorem command_empty (h : ringHas d r = false) : command r op wait f d = d := by simp [command, h]

section
variable (hh : ringHas d r = true) (he : ringEntry d r = .ok (e, d1))
include hh he

theorem command_other (h : leAt e 0 1 ≠ op ∨ wait d e = true) : command r op wait f d = d := by
  simp only [command, hh, he]
  rw [if_neg (by simp), if_pos (by simpa using h)]

/-- The entry is consumed and checked. -/
theorem command_own (hop : leAt e 0 1 = op) (hw : wait d e = false) : command r op wait f d
    = if entryOk e = false then cmdFault (ringPop d1 r) (entryJob r e) (entryTag e) 4
      else if r < 16 ∧ jobRunning (ringPop d1 r) (entryJob r e) = false then cmdFault (ringPop d1 r) (entryJob r e) (entryTag e) 14
      else match f (ringPop d1 r) e (entryJob r e) (entryTag e) (entryNotify e) with
        | .error (code, d) => if code == 0 then d else cmdFault d (entryJob r e) (entryTag e) code
        | .ok d => d := by
  simp only [command, hh, he]
  rw [if_neg (by simp), if_neg (by simp [hop, hw])]
  simp only [entryJob, entryTag, entryNotify, Bool.not_eq_true', Bool.and_eq_true, decide_eq_true_eq]
  rfl

theorem command_bad (hop : leAt e 0 1 = op) (hw : wait d e = false) (h : entryOk e = false) :
    command r op wait f d = cmdFault (ringPop d1 r) (entryJob r e) (entryTag e) 4 := by
  rw [command_own hh he hop hw, if_pos h]

theorem command_idle (hop : leAt e 0 1 = op) (hw : wait d e = false) (h : entryOk e = true) (hr : r < 16) (hj : jobRunning (ringPop d1 r) r = false) :
    command r op wait f d = cmdFault (ringPop d1 r) r (entryTag e) 14 := by
  have hej : entryJob r e = r := if_pos hr
  rw [command_own hh he hop hw, if_neg (by simp [h]), hej, if_pos ⟨hr, hj⟩]

end

/-- An entry that is well formed is carried out. -/
theorem command_takes (h : takes d r op e d1) (hw : wait d e = false) : command r op wait f d
    = match f (ringPop d1 r) e (entryJob r e) (entryTag e) (entryNotify e) with
      | .error (code, d) => if code == 0 then d else cmdFault d (entryJob r e) (entryTag e) code
      | .ok d => d := by
  obtain ⟨hh, he, hop, hok, hj⟩ := h
  have hrun : ¬(r < 16 ∧ jobRunning (ringPop d1 r) (entryJob r e) = false) := fun ⟨hr, hn⟩ => by
    rw [entryJob, if_pos hr, hj hr] at hn
    cases hn
  rw [command_own hh he hop hw, if_neg (by simp [hok]), if_neg hrun]

theorem cmdReserved_empty (h : ringHas d r = false) : cmdReserved r d = d := by simp [cmdReserved, h]

theorem cmdReserved_unread {code : Nat} (hh : ringHas d r = true) (he : ringEntry d r = .error (code, d1)) :
    cmdReserved r d = cmdFault (ringPop d1 r) (ringJob r) 0 code := by simp [cmdReserved, hh, he]

theorem cmdReserved_read (hh : ringHas d r = true) (he : ringEntry d r = .ok (e, d1)) :
    cmdReserved r d = if leAt e 0 1 ∈ ringOps r then d else cmdFault (ringPop d1 r) (entryJob r e) (entryTag e) 4 := by
  simp only [cmdReserved, hh, he, List.contains_eq_mem, decide_eq_true_eq]
  rfl

end

/-! ### The commands of the rings -/

section
variable {s : State}

theorem exec_jobStart : exec .jobStart s = .next { s with dev := jobStart s.dev } := run_wf (c := .jobStart) jobStart s rfl
theorem exec_jobEnd : exec .jobEnd s = .next { s with dev := jobEnd s.dev } := run_wf (c := .jobEnd) jobEnd s rfl
theorem exec_preemptBoundary : exec .preemptBoundary s = .next { s with dev := preemptBoundary s.dev } := run_wf (c := .preemptBoundary) preemptBoundary s rfl
theorem exec_preemptSafept : exec .preemptSafept s = .next { s with dev := preemptSafept s.dev } := run_wf (c := .preemptSafept) preemptSafept s rfl
theorem exec_resume : exec .resume s = .next { s with dev := resume s.dev } := run_wf (c := .resume) resume s rfl

variable {r : Nat}

theorem exec_stepCmd (h : r < 16) : exec (.stepCmd r) s = .next { s with dev := stepCmd r s.dev } := run_wf _ _ (by simp [Instr.wf, h])
theorem exec_checkpoint (h : r < 16) : exec (.checkpoint r) s = .next { s with dev := checkpoint r s.dev } := run_wf _ _ (by simp [Instr.wf, h])
theorem exec_reimage (h : r < 16) : exec (.reimage r) s = .next { s with dev := reimage r s.dev } := run_wf _ _ (by simp [Instr.wf, h])
theorem exec_cmdReserved (h : r < 17) : exec (.cmdReserved r) s = .next { s with dev := cmdReserved r s.dev } := run_wf _ _ (by simp [Instr.wf, h])

end

/-! ### Registers of the rings -/

section
variable {d : Device} {r : Nat} (v : Reg)

/-- A value too far ahead is refused with ERR (R467). -/
theorem doorbell_refused (hr : r < 17) (h : ringSize (wake d 1) r < (v.toNat + 2 ^ 32 - ringHead (wake d 1) r) % 2 ^ 32) :
    fld (getR (doorbell r v d) (ringReg r + 8)) 31 31 = 1 ∧ ringTail (doorbell r v d) r = ringTail (wake d 1) r
      ∧ ringHead (doorbell r v d) r = ringHead (wake d 1) r := by
  have hlt := getR_lt (wake d 1) (ringReg r + 8)
  have hgone (x : Device) {o : Nat} (ho : 0x200 ≤ o) : getR (cmdFault x (ringJob r) 0 4) (foyPage + o) = getR x (foyPage + o) :=
    getR_cmdFault_ne _ _ _ _ (by omega)
  have e1 : ringReg r + 8 = foyPage + (0x208 + r * 0x10) := by rw [ringReg]; omega
  have e2 : ringReg r + 0xC = foyPage + (0x20C + r * 0x10) := by rw [ringReg]; omega
  have e3 : foyPage + 0x400 + r * 4 = foyPage + (0x400 + r * 4) := by omega
  unfold doorbell; dsimp only
  rw [if_pos h, ringTail, ringTail, ringHead, ringHead, e2, e3, e1, hgone _ (by omega), hgone _ (by omega), hgone _ (by omega)]
  rw [e1] at hlt
  by_cases hb : bit (getR (wake d 1) (foyPage + (0x208 + r * 0x10))) 31 = true
  · rw [if_pos hb]
    rw [bit_eq_fld] at hb
    exact ⟨by simpa using hb, rfl, rfl⟩
  · rw [if_neg hb, getR_setR, getR_setR_ne _ _ _ _ (by omega), getR_setR_ne _ _ _ _ (by omega)]
    refine ⟨?_, rfl, rfl⟩
    simp only [bit, Nat.shiftRight_eq_div_pow, beq_iff_eq] at hb
    simp only [fld, Nat.shiftRight_eq_div_pow]
    omega

/-- A value that the ring can hold is taken (R467). -/
theorem doorbell_taken (h : (v.toNat + 2 ^ 32 - ringHead (wake d 1) r) % 2 ^ 32 ≤ ringSize (wake d 1) r) :
    ((v.toNat + 2 ^ 32 - ringHead (wake d 1) r) % 2 ^ 32 ≠ 0 → ringTail (doorbell r v d) r = v.toNat)
      ∧ ringHead (doorbell r v d) r = ringHead (wake d 1) r
      ∧ ∀ k, k < 17 → k ≠ r → ringTail (doorbell r v d) k = ringTail (wake d 1) k ∧ ringSize (doorbell r v d) k = ringSize (wake d 1) k := by
  unfold doorbell; dsimp only
  rw [if_neg (Nat.not_lt.2 h)]
  by_cases h0 : ((v.toNat + 2 ^ 32 - ringHead (wake d 1) r) % 2 ^ 32 == 0) = true
  · rw [if_pos h0]
    exact ⟨fun hn => absurd (by simpa using h0) hn, rfl, fun k _ _ => ⟨rfl, rfl⟩⟩
  · rw [if_neg h0]
    simp only [ringTail, ringHead, ringSize, ringReg]
    refine ⟨fun _ => ?_, getR_setR_ne _ _ _ _ (by omega), fun k hk hkr => ⟨getR_setR_ne _ _ _ _ (by omega), ?_⟩⟩
    · rw [getR_setR]
      exact Nat.mod_eq_of_lt v.isLt
    · rw [getR_setR_ne _ _ _ _ (by omega)]

theorem ringSizeWrite_taken (h0 : ringLoad d r = 0) (hs : ringSizeOk 16 (v.toNat % 2 ^ 17) = true) :
    ringSize (ringSizeWrite r v d) r = v.toNat % 2 ^ 17 ∧ ringTail (ringSizeWrite r v d) r = ringTail d r
      ∧ ∀ k, k < 17 → k ≠ r → ringTail (ringSizeWrite r v d) k = ringTail d k ∧ ringSize (ringSizeWrite r v d) k = ringSize d k := by
  unfold ringSizeWrite; dsimp only
  rw [if_neg (by simp [h0]), if_pos hs]
  generalize (bit (getR d (ringReg r + 8)) 31 && !bit v.toNat 31) = b
  simp only [ringTail, ringSize, ringReg]
  refine ⟨?_, getR_setR_ne _ _ _ _ (by omega), fun k hk hkr => ⟨getR_setR_ne _ _ _ _ (by omega), ?_⟩⟩
  · rw [getR_setR]
    split <;> omega
  · rw [getR_setR_ne _ _ _ _ (by omega)]

theorem ringSizeWrite_refused (h0 : ringLoad d r = 0) (hs : ringSizeOk 16 (v.toNat % 2 ^ 17) = false) : (ringSizeWrite r v d).jobs = d.jobs
    ∧ ∀ k, k < 17 → ringTail (ringSizeWrite r v d) k = ringTail d k ∧ ringSize (ringSizeWrite r v d) k = ringSize d k := by
  have he : ringSizeWrite r v d = causeEv d 0xFF 0x90 0 (cfgAddr (ringReg r + 8)) := by
    rw [ringSizeWrite, if_neg (by simp [h0]), hs, if_neg Bool.false_ne_true]
  rw [he]
  refine ⟨jobs_causeEv _ _ _ _ _, fun k _ => ⟨?_, ?_⟩⟩
  · rw [ringTail, getR_causeEv_ne _ _ _ _ _ (by unfold ringReg; omega), ringTail]
  · rw [ringSize, getR_causeEv_ne _ _ _ _ _ (by unfold ringReg; omega), ringSize]

end

theorem ringSizeWrite_busy {d : Device} {r : Nat} (v : Reg) (h : ringLoad d r ≠ 0) : ringSizeWrite r v d = d := by simp [ringSizeWrite, h]

/-- A command of another opcode, or for another mode of PREEMPT, leaves its ring as it is. -/
theorem device_others {s : State} {e : List Byte} {d1 : Device} (hh : ringHas s.dev 16 = true) (he : ringEntry s.dev 16 = .ok (e, d1)) :
    (leAt e 0 1 ≠ 1 → exec .jobStart s = .next s) ∧ (leAt e 0 1 ≠ 2 → exec .jobEnd s = .next s) ∧ (leAt e 0 1 ≠ 4 → exec .resume s = .next s)
      ∧ ((leAt e 0 1 ≠ 3 ∨ leAt e 8 1 % 2 = 1) → exec .preemptBoundary s = .next s)
      ∧ ((leAt e 0 1 ≠ 3 ∨ leAt e 8 1 % 2 = 0) → exec .preemptSafept s = .next s) := by
  refine ⟨fun h => ?_, fun h => ?_, fun h => ?_, fun h => ?_, fun h => ?_⟩
  · rw [exec_jobStart, jobStart, command_other hh he (.inl h)]
  · rw [exec_jobEnd, jobEnd, command_other hh he (.inl h)]
  · rw [exec_resume, resume, command_other hh he (.inl h)]
  · rw [exec_preemptBoundary, preemptBoundary, preemptCmd, command_other hh he (by simpa using h)]
  · rw [exec_preemptSafept, preemptSafept, preemptCmd, command_other hh he (h.imp_right fun h => by simp [h])]

/-- A malformed entry of the device ring. -/
theorem device_bad {s : State} {e : List Byte} {d1 : Device} (hh : ringHas s.dev 16 = true) (he : ringEntry s.dev 16 = .ok (e, d1)) (hb : entryOk e = false) :
    let bad : State := { s with dev := cmdFault (ringPop d1 16) (entryJob 16 e) (entryTag e) 4 }
    (leAt e 0 1 = 1 → exec .jobStart s = .next bad) ∧ (leAt e 0 1 = 2 → exec .jobEnd s = .next bad)
      ∧ (leAt e 0 1 = 3 → leAt e 8 1 % 2 = 0 → exec .preemptBoundary s = .next bad) ∧ (leAt e 0 1 = 3 → leAt e 8 1 % 2 = 1 → exec .preemptSafept s = .next bad)
      ∧ (leAt e 0 1 = 4 → exec .resume s = .next bad) := by
  refine ⟨fun h => ?_, fun h => ?_, fun h hm => ?_, fun h hm => ?_, fun h => ?_⟩
  · rw [exec_jobStart, jobStart, command_bad hh he h rfl hb]
  · rw [exec_jobEnd, jobEnd, command_bad hh he h rfl hb]
  · rw [exec_preemptBoundary, preemptBoundary, preemptCmd, command_bad hh he h (by simp [hm]) hb]
  · rw [exec_preemptSafept, preemptSafept, preemptCmd, command_bad hh he h (by simp [hm]) hb]
  · rw [exec_resume, resume, command_bad hh he h rfl hb]

theorem step_room {d : Device} {r : Nat} (h : (job d r).queue.length < 2) : decide (2 ≤ (job d r).queue.length) = false := by simpa using h

/-- Settles O35: the rings' registers, and an entry by what is wrong with it. -/
theorem commandRings : Obligations.CommandRings := by
  unfold Obligations.CommandRings
  refine ⟨fun r v s hr => ⟨?_, fun h0 hs => ?_, fun h0 => ?_, fun h0 hs => ?_⟩, fun r e d1 s => ⟨fun hh c hc => ?_, fun hr hh c hc => ?_, fun hr hh => ⟨fun code he => ?_, fun he => ?_⟩⟩⟩
  · dsimp only
    have hrun : exec (.doorbell r v) s = .next { s with dev := doorbell r v s.dev } := run_wf _ _ (by simp [Instr.wf, hr])
    exact ⟨fun h => ⟨_, hrun, doorbell_taken v h⟩, fun h => ⟨_, hrun, doorbell_refused v hr h⟩⟩
  · exact ⟨_, run_wf _ _ (by simp [Instr.wf, hr]), ringSizeWrite_taken v h0 hs⟩
  · rw [show exec (.ringSizeWrite r v) s = .next { s with dev := ringSizeWrite r v s.dev } from run_wf _ _ (by simp [Instr.wf, hr]), ringSizeWrite_busy v h0]
  · exact ⟨_, run_wf _ _ (by simp [Instr.wf, hr]), ringSizeWrite_refused v h0 hs⟩
  · simp only [List.mem_cons, List.not_mem_nil, or_false] at hc
    rcases hc with rfl | rfl | rfl | rfl | rfl | rfl
    · rw [exec_jobStart, jobStart, command_empty hh]
    · rw [exec_jobEnd, jobEnd, command_empty hh]
    · rw [exec_preemptBoundary, preemptBoundary, preemptCmd, command_empty hh]
    · rw [exec_preemptSafept, preemptSafept, preemptCmd, command_empty hh]
    · rw [exec_resume, resume, command_empty hh]
    · rw [exec_cmdReserved (by omega), cmdReserved_empty hh]
  · simp only [List.mem_cons, List.not_mem_nil, or_false] at hc
    rcases hc with rfl | rfl | rfl | rfl
    · rw [exec_stepCmd hr, stepCmd, command_empty hh]
    · rw [exec_checkpoint hr, checkpoint, command_empty hh]
    · rw [exec_reimage hr, reimage, command_empty hh]
    · rw [exec_cmdReserved (by omega), cmdReserved_empty hh]
  · rw [exec_cmdReserved hr, cmdReserved_unread hh he]
  · dsimp only
    refine ⟨fun h => ?_, fun h => ?_, fun h => ?_, fun h16 => ⟨fun h => ?_, fun h => ?_, fun h => ?_⟩, fun hb => ?_, fun hok h16 hi => ⟨fun h => ?_, fun h => ?_, fun h hq => ?_⟩⟩
    · rw [exec_cmdReserved hr, cmdReserved_read hh he, if_neg h]
    · rw [exec_cmdReserved hr, cmdReserved_read hh he, if_pos h]
    · subst h
      exact device_others hh he
    · rw [exec_stepCmd h16, stepCmd, command_other hh he (.inl h)]
    · rw [exec_checkpoint h16, checkpoint, command_other hh he (.inl h)]
    · rw [exec_reimage h16, reimage, command_other hh he (.inl h)]
    · refine ⟨fun h => ?_, fun h => ?_, fun h => ?_, fun h => ?_, fun h => ?_, fun h16 h => ?_, fun h16 h => ?_, fun h16 h hq => ?_⟩
      · subst h; exact (device_bad hh he hb).1
      · subst h; exact (device_bad hh he hb).2.1
      · subst h; exact (device_bad hh he hb).2.2.1
      · subst h; exact (device_bad hh he hb).2.2.2.1
      · subst h; exact (device_bad hh he hb).2.2.2.2
      · rw [exec_checkpoint h16, checkpoint, command_bad hh he h rfl hb]
      · rw [exec_reimage h16, reimage, command_bad hh he h rfl hb]
      · rw [exec_stepCmd h16, stepCmd, command_bad hh he h (step_room hq) hb]
    · rw [exec_checkpoint h16, checkpoint, command_idle hh he h rfl hok h16 hi]
    · rw [exec_reimage h16, reimage, command_idle hh he h rfl hok h16 hi]
    · rw [exec_stepCmd h16, stepCmd, command_idle hh he h (step_room hq) hok h16 hi]

end Sys2Proof.Machine
end

section
/-!
What the step sequencer's housekeeping leaves alone: taints and wakes reach jobs only in their taint, and no memory.
-/
namespace Sys2Proof.Machine

/-- A module without what the sequencer's housekeeping touches. -/
def still (d : Device) : Device :=
  { bare d with cores := [], sigs := [], watch := [], ctxs := [], uctx := [], rdTodo := [], rdOut := [], reduceHeld := [], links := [], ports := [] }

/-- A job without what a taint changes. -/
def untainted (x : Job) : Job := { x with taint := 0, kept := false }

/-- Memories, clocks, power and plan are as they were, and every job but for its taint. -/
structure Quiet (d e : Device) : Prop where
  still_eq : still e = still d
  jobs_eq : ∀ k, untainted (job e k) = untainted (job d k)

theorem Quiet.refl (d : Device) : Quiet d d := ⟨rfl, fun _ => rfl⟩
theorem Quiet.trans {d e f : Device} (h : Quiet d e) (h' : Quiet e f) : Quiet d f := ⟨h'.still_eq.trans h.still_eq, fun k => (h'.jobs_eq k).trans (h.jobs_eq k)⟩
theorem Quiet.of_eq {d e : Device} (h : still e = still d) (hj : e.jobs = d.jobs) : Quiet d e := ⟨h, fun k => by rw [job_of_jobs hj]⟩

theorem still_of_bare {d e : Device} (h : bare e = bare d) : still e = still d := by unfold still; rw [h]

theorem Quiet.of_report {d e : Device} (h : bare e = bare d) (hj : e.jobs = d.jobs) : Quiet d e := .of_eq (still_of_bare h) hj

theorem Quiet.foldl {α : Type} {g : Device → α → Device} (hg : ∀ d x, Quiet d (g d x)) (l : List α) (d : Device) : Quiet d (l.foldl g d) := by
  induction l generalizing d with
  | nil => exact .refl d
  | cons x t ih => exact (hg d x).trans (ih _)

theorem Quiet.stack {d e : Device} (h : Quiet d e) : e.stack = d.stack := eq_of_erased still Device.stack (fun _ => rfl) h.still_eq
theorem Quiet.boot {d e : Device} (h : Quiet d e) : e.boot = d.boot := eq_of_erased still Device.boot (fun _ => rfl) h.still_eq
theorem Quiet.plan {d e : Device} (h : Quiet d e) : e.plan = d.plan := eq_of_erased still Device.plan (fun _ => rfl) h.still_eq

/-- A part of a job that taints leave alone. -/
theorem Quiet.job {α : Type} {d e : Device} (h : Quiet d e) (f : Job → α) (hf : ∀ x, f (untainted x) = f x) (k : Nat) :
    f (Machine.job e k) = f (Machine.job d k) := by
  rw [← hf, h.jobs_eq, hf]

theorem quiet_taint (d : Device) (j n c : Nat) : Quiet d (taint d j n c) := by
  refine ⟨still_of_bare (bare_taint _ _ _ _), fun k => ?_⟩
  have hset (d : Device) (x : Job) (hx : untainted x = untainted (job d j)) : untainted (job (setJob d j x) k) = untainted (job d k) := by
    rcases eq_or_ne k j with rfl | hk
    · rw [job_setJob, hx]
    · rw [job_setJob_ne _ _ _ _ hk]
  unfold taint
  dsimp only
  split
  · rfl
  · split
    · rw [job_of_jobs (jobs_jobEv _ _ _ _ _ _), hset, job_of_jobs (jobs_jobEv _ _ _ _ _ _), hset]
      all_goals rfl
    · rw [job_of_jobs (jobs_jobEv _ _ _ _ _ _), hset]
      rfl

theorem quiet_bump (d : Device) (o n : Nat) : Quiet d (bump d o n) := .of_report (bare_bump _ _ _) (jobs_bump _ _ _)
theorem quiet_bump64 (d : Device) (o n : Nat) : Quiet d (bump64 d o n) := .of_report (bare_bump64 _ _ _) (jobs_bump64 _ _ _)
theorem quiet_causeEv (d : Device) (j ty c a : Nat) : Quiet d (causeEv d j ty c a) := .of_report (bare_causeEv _ _ _ _ _) (jobs_causeEv _ _ _ _ _)
theorem quiet_pushEv (d : Device) (e : Ev) : Quiet d (pushEv d e) := .of_report (bare_pushEv _ _) (jobs_pushEv _ _)
theorem quiet_cmdDone (d : Device) (j t : Nat) (n : Bool) : Quiet d (cmdDone d j t n) := .of_report (bare_cmdDone _ _ _ _) (jobs_cmdDone _ _ _ _)
theorem quiet_setSig (d : Device) (h : Nat) (s : SigStore) : Quiet d (setSig d h s) := .of_eq rfl rfl
theorem quiet_setR (d : Device) (o v : Nat) : Quiet d (setR d o v) := .of_eq rfl rfl
theorem quiet_setCore (d : Device) (u : Nat) (c : Core) : Quiet d (setCore d u c) := .of_eq rfl rfl
theorem quiet_setEvt (d : Device) (o n : Nat) : Quiet d (setEvt d o n) := .of_eq rfl rfl
theorem quiet_setWord (d : Device) (h i : Nat) (w : SigWord) : Quiet d (setWord d h i w) := .of_eq rfl rfl

/-! ### Signal words -/

theorem quiet_wakeWaiter (d : Device) (u g : Nat) : Quiet d (wakeWaiter d u g) := by
  unfold wakeWaiter; dsimp only
  split
  · exact .refl d
  · split
    · split
      · exact quiet_setCore _ _ _
      · exact .refl d
    · exact quiet_setCore _ _ _

theorem quiet_monitorCheck (d : Device) (h i : Nat) : Quiet d (monitorCheck d h i) :=
  (quiet_setSig d h _).trans (.foldl (fun (d : Device) (m : Monitor) => quiet_wakeWaiter d m.u m.g) _ _)

theorem quiet_rejectArrival (d : Device) (j w c ctr : Nat) : Quiet d (rejectArrival d j w c ctr) :=
  ((quiet_bump d ctr 1).trans (quiet_causeEv _ _ _ _ _)).trans (quiet_taint _ _ _ _)

theorem quiet_recordErr (d : Device) (o c a : Nat) : Quiet d (recordErr d o c a) := .of_report (bare_recordErr _ _ _ _) (jobs_recordErr _ _ _ _)

theorem quiet_arriveOwned (d : Device) (h i n : Nat) (w : SigWord) : Quiet d (applyOp.arriveOwned d h i n w) := by
  unfold applyOp.arriveOwned; dsimp only
  split
  · exact .refl d
  · split
    · exact (quiet_setWord d h i _).trans (quiet_monitorCheck _ _ _)
    · split
      · refine .trans ?_ (quiet_taint _ _ _ _)
        exact (((((quiet_setWord d h i _).trans (quiet_monitorCheck _ _ _)).trans (quiet_recordErr _ _ _ _)).trans (quiet_setEvt _ _ _)).trans
          (quiet_bump _ _ _)).trans (quiet_causeEv _ _ _ _ _)
      · exact (((((quiet_setWord d h i _).trans (quiet_monitorCheck _ _ _)).trans (quiet_recordErr _ _ _ _)).trans (quiet_setEvt _ _ _)).trans
          (quiet_bump _ _ _)).trans (quiet_causeEv _ _ _ _ _)

theorem quiet_applyOp (d : Device) (h : Nat) (op : SigOp) : Quiet d (applyOp d h op) := by
  unfold applyOp
  refine (quiet_bump64 d (hallPage h + 0x404) 1).trans ?_
  cases op with
  | set i v => exact (quiet_setWord _ _ _ _).trans (quiet_monitorCheck _ _ _)
  | arrive i n j p =>
    dsimp only
    cases j with
    | none => exact quiet_arriveOwned _ _ _ _ _
    | some j =>
      dsimp only
      split
      · exact quiet_arriveOwned _ _ _ _ _
      · cases p with
        | none => exact (quiet_setEvt _ _ _).trans (quiet_rejectArrival _ _ _ _ _)
        | some p => exact quiet_rejectArrival _ _ _ _ _

theorem quiet_flushStore (d : Device) (h : Nat) : Quiet d (flushStore d h) := (quiet_setSig d h _).trans (.foldl (fun d o => quiet_applyOp d h o) _ _)
theorem quiet_seqSet (d : Device) (h i : Nat) (w : SigWord) : Quiet d (seqSet d h i w) :=
  ((quiet_flushStore d h).trans (quiet_bump64 _ _ _)).trans (quiet_setWord _ _ _ _)

theorem quiet_releaseWord (d : Device) (h i : Nat) : Quiet d
    (seqSet (setSig (flushStore d h) h { sigStore (flushStore d h) h with mons := (sigStore (flushStore d h) h).mons.filter (fun m => m.i != i) }) h i {}) :=
  ((quiet_flushStore d h).trans (quiet_setSig _ _ _)).trans (quiet_seqSet _ _ _ _)

theorem quiet_releaseWords (d : Device) (j : Nat) : Quiet d (releaseWords d j) := by
  unfold releaseWords
  refine Quiet.foldl (fun d hi => ?_) _ _
  exact quiet_releaseWord d hi.1 hi.2

theorem quiet_giveWords (d : Device) (j a n : Nat) : Quiet d (giveWords d j a n) := by
  refine .foldl (fun d w => ?_) _ _
  split
  · exact .refl d
  · exact quiet_seqSet _ _ _ _

/-! ### What a job holds -/

theorem quiet_partActive (d : Device) (j : Nat) (on : Bool) (hs : List Nat) : Quiet d (partActive d j on hs) := .foldl (fun _ _ => quiet_setR _ _ _) _ _
theorem quiet_dropMonitors (d : Device) (u : Nat) : Quiet d (dropMonitors d u) := .of_eq rfl rfl
theorem quiet_clearCore (d : Device) (u : Nat) : Quiet d (clearCore d u) := .of_eq rfl rfl

theorem quiet_sendCtrl (d : Device) (p l : Nat) (nak : Bool) : Quiet d (sendCtrl d p l nak) := by
  unfold sendCtrl; dsimp only
  split <;> exact .of_eq rfl rfl

theorem quiet_setLink (d : Device) (p l : Nat) (x : Link) : Quiet d (setLink d p l x) := .of_eq rfl rfl

theorem quiet_freeUnits (d : Device) (p l c n : Nat) : Quiet d (freeUnits d p l c n) := by
  unfold freeUnits; dsimp only
  exact (quiet_setLink d p l _).trans (quiet_sendCtrl _ _ _ _)

theorem quiet_discardRx (ctr : Nat) (d : Device) (x : Rx) : Quiet d (discardRx ctr d x) := by
  unfold discardRx
  exact (quiet_freeUnits _ _ _ _ _).trans (quiet_bump _ _ _)

theorem quiet_dropCtx (d : Device) (r : Nat) : Quiet d (dropCtx d r) := by
  have h : Quiet d (dropHeld d r) := .trans (.foldl (fun d x => quiet_discardRx 0x120 d x) _ _) (.of_eq rfl rfl)
  exact (h.trans (quiet_dropMonitors _ (864 + r))).trans (.of_eq rfl rfl)

theorem quiet_arcadeUnload (d : Device) (j : Nat) : Quiet d (arcadeUnload d j) := .foldl (fun d r => quiet_dropCtx d r) _ _
theorem quiet_dropUctx (d : Device) (j : Nat) : Quiet d (dropUctx d j) := .of_eq rfl rfl
theorem quiet_dropReads (d : Device) (j : Nat) : Quiet d (dropReads d j) := .of_eq rfl rfl

end Sys2Proof.Machine
end

section
/-!
What accesses of memory by a unit leave alone: everything but memory, its caches, the run-ahead copies, and reports.
-/
namespace Sys2Proof.Machine

/-- A module without what an access of memory touches. -/
def apart (d : Device) : Device :=
  { d with regs := [], hdrs := [], evQ := [], evLost := 0, tests := [], logFront := [], logRing := [], logNext := 0, free := 0, cores := [], stack := {},
           xcache := [], xptr := [], watch := [] }

@[simp] theorem apart_setR (d : Device) (o v : Nat) : apart (setR d o v) = apart d := rfl
@[simp] theorem apart_set64 (d : Device) (o v : Nat) : apart (set64 d o v) = apart d := rfl
@[simp] theorem apart_setHdr (d : Device) (p : Nat) (h : Hdr) : apart (setHdr d p h) = apart d := rfl
@[simp] theorem apart_setCore (d : Device) (u : Nat) (c : Core) : apart (setCore d u c) = apart d := rfl
@[simp] theorem apart_freeVal (d : Device) : apart (freeVal d).2 = apart d := rfl
@[simp] theorem apart_bump (d : Device) (o n : Nat) : apart (bump d o n) = apart d := by unfold bump; split <;> rfl
@[simp] theorem apart_bump64 (d : Device) (o n : Nat) : apart (bump64 d o n) = apart d := by unfold bump64; split <;> rfl
@[simp] theorem apart_recordErr (d : Device) (o c a : Nat) : apart (recordErr d o c a) = apart d := by unfold recordErr; dsimp only; split <;> rfl

@[simp] theorem apart_pushEv (d : Device) (e : Ev) : apart (pushEv d e) = apart d := by
  unfold pushEv; split
  · rfl
  · rw [apart_bump]; rfl

@[simp] theorem apart_jobEv (d : Device) (j ty c a : Nat) (l : List Byte) : apart (jobEv d j ty c a l) = apart d := apart_pushEv _ _

@[simp] theorem apart_flushLog (d : Device) : apart (flushLog d) = apart d := by
  unfold flushLog; dsimp only
  split
  · rfl
  · exact apart_bump _ _ _

@[simp] theorem apart_log (d : Device) (ty sv : Nat) (p : List Byte) : apart (log d ty sv p) = apart d := by
  unfold log; dsimp only
  split
  · rw [apart_flushLog]; rfl
  · rfl

@[simp] theorem apart_needTest (d : Device) (r : UnitRef) (c a : Nat) : apart (needTest d r c a) = apart d := by
  unfold needTest
  split
  · split <;> rfl
  · rfl

@[simp] theorem apart_parityErr (d : Device) (o a : Nat) (r : UnitRef) : apart (parityErr d o a r) = apart d := by simp [parityErr, parityLog]

theorem apart_foldl {α : Type} {g : Device → α → Device} (hg : ∀ d x, apart (g d x) = apart d) (l : List α) (d : Device) : apart (l.foldl g d) = apart d := by
  induction l generalizing d with
  | nil => rfl
  | cons x t ih => rw [List.foldl_cons, ih, hg]

/-! ### Stack memory -/

@[simp] theorem apart_dropCopies (d : Device) (h blk : Nat) : apart (dropCopies d h blk) = apart d := by
  refine apart_foldl (fun d e => ?_) _ _
  split
  · rfl
  · dsimp only
    split
    · rfl
    · rw [apart_bump, apart_setCore]

@[simp] theorem apart_watchInvalidate (d : Device) (blk : Nat) : apart (watchInvalidate d blk) = apart d := by
  refine apart_foldl (fun d e => ?_) _ _
  split
  · exact (apart_bump _ _ _).trans (apart_dropCopies _ _ _)
  · rfl

@[simp] theorem apart_sectorParity (d : Device) (sec : Nat) : apart (sectorParity d sec) = apart d := by
  unfold sectorParity; dsimp only
  split
  · rfl
  · split
    · exact apart_bump _ _ _
    · exact apart_parityErr _ _ _ _

theorem apart_with_stack (d : Device) (m : Mem) : apart { d with stack := m } = apart d := rfl

@[simp] theorem apart_sectorWrite (d : Device) (sec a : Nat) (bs : List (Byte × Bool)) : apart (sectorWrite d sec a bs) = apart d := by
  unfold sectorWrite; dsimp only
  split
  · split
    · rw [apart_with_stack, apart_bump, apart_sectorParity]
    · exact apart_with_stack _ _
  · exact apart_with_stack _ _

@[simp] theorem apart_stackWrite (d : Device) (a : Nat) (bs : List (Byte × Bool)) : apart (stackWrite d a bs) = apart d := by
  unfold stackWrite; dsimp only
  split
  · rfl
  · rw [apart_foldl apart_watchInvalidate, apart_bump64, apart_foldl (fun d s => apart_sectorWrite d s a bs)]

@[simp] theorem apart_readPeak (d : Device) (s : Nat) : apart (readPeak d s) = apart d := rfl
@[simp] theorem apart_sectorRead (d : Device) (sec : Nat) : apart (sectorRead d sec) = apart d := by simp [sectorRead]

@[simp] theorem apart_stackRead (d : Device) (a n : Nat) : apart (stackRead d a n).2 = apart d := by
  unfold stackRead
  split
  · rfl
  · rw [apart_readPeak, apart_foldl apart_sectorRead]

@[simp] theorem apart_tableReads (d : Device) (rs : List Nat) : apart (tableReads d rs) = apart d := apart_foldl (fun _ _ => apart_stackRead _ _ _) _ _

/-! ### Virtual memory -/

@[simp] theorem apart_cacheWalk (d : Device) (hall j page : Nat) (w : Walked) : apart (cacheWalk d hall j page w) = apart d := by
  unfold cacheWalk; dsimp only
  split
  · rfl
  · split <;> rfl

@[simp] theorem apart_markLeaf (d : Device) (hall j : Nat) (wr : Bool) (l : Nat × Walked × Bool) : apart (markLeaf d hall j wr l) = apart d := by
  unfold markLeaf
  dsimp only
  generalize 16 ||| (if wr then 32 else 0) = m
  rcases Bool.eq_false_or_eq_true l.2.2 with hl | hl
  · rw [hl, if_pos rfl]
    split
    · rfl
    · rw [apart_stackWrite]; rfl
  · rw [hl, if_neg Bool.false_ne_true]
    split
    · exact apart_cacheWalk _ _ _ _ _
    · rw [apart_stackWrite, apart_cacheWalk]

theorem apart_translate {d d' : Device} {hall j : Nat} {wr peer : Bool} {pages : List Nat} {t : Tab Nat}
    (h : translate d hall j wr peer pages = .ok (t, d')) : apart d' = apart d := by
  unfold translate at h
  split at h
  · cases h
  · cases h
    have hm := apart_foldl (fun d e => apart_markLeaf d hall j wr e)
    exact (hm _ _).trans (apart_tableReads _ _)

@[simp] theorem apart_recordXFault (d : Device) (j va : Nat) (f : XFault) (peer wr : Bool) (who : Nat) :
    apart (recordXFault d j va f peer wr who) = apart d := by
  have hb (d : Device) (n : Nat) : apart (bump { d with free := n } (devPage 1 + 0x22C) 1) = apart d := (apart_bump _ _ _).trans rfl
  unfold recordXFault; dsimp only
  split
  · rw [hb, apart_tableReads]
  · rw [apart_set64, apart_setR, hb, apart_tableReads]

@[simp] theorem apart_writeVirt (d : Device) (pages : Tab Nat) (a : Nat) (bs : List (Byte × Bool)) : apart (writeVirt d pages a bs) = apart d :=
  apart_foldl (fun _ _ => apart_stackWrite _ _ _) _ _

@[simp] theorem apart_readVirt (d : Device) (pages : Tab Nat) (a n : Nat) : apart (readVirt d pages a n).2 = apart d := by
  unfold readVirt
  generalize (pieces a n) = l
  have hfold (p : List (Byte × Bool) × Device) : apart (l.foldl (fun (acc : List (Byte × Bool) × Device) p =>
      let r := stackRead acc.2 (phys pages p.1) p.2
      (acc.1 ++ r.1, r.2)) p).2 = apart p.2 := by
    induction l generalizing p with
    | nil => rfl
    | cons x t ih => rw [List.foldl_cons, ih, apart_stackRead]
  exact hfold _

theorem apart_unitWrite {d d' : Device} {j a who : Nat} {bs : List (Byte × Bool)} (h : unitWrite d j a bs who = .ok d') : apart d' = apart d := by
  unfold unitWrite at h
  split at h
  · cases h
  · next ht => cases h; rw [apart_writeVirt, apart_translate ht]

theorem apart_unitWrite_error {d d' : Device} {j a who c : Nat} {bs : List (Byte × Bool)} (h : unitWrite d j a bs who = .error (c, d')) :
    apart d' = apart d := by
  unfold unitWrite at h
  split at h
  · cases h; exact apart_recordXFault _ _ _ _ _ _ _
  · cases h

theorem apart_unitRead {d d' : Device} {j a n who : Nat} {b : List (Byte × Bool)} (h : unitRead d j a n who = .ok (b, d')) : apart d' = apart d := by
  unfold unitRead at h
  split at h
  · cases h
  · next ht =>
    simp only [Except.ok.injEq] at h
    rw [← show (readVirt _ _ _ _).2 = d' from congrArg Prod.snd h, apart_readVirt, apart_translate ht]

theorem jobs_of_apart {d e : Device} (h : apart e = apart d) : e.jobs = d.jobs := eq_of_erased apart Device.jobs (fun _ => rfl) h

end Sys2Proof.Machine
end

section
/-!
The commands of a job's life: JOB_START and JOB_END (R470, R471), STEP, CHECKPOINT and REIMAGE (R472, R473, R481), PREEMPT and RESUME (R482 to R484):
O36, O37, O38.
-/
namespace Sys2Proof.Machine

/-! ### JOB_START -/

section
variable {d e : Device} {j tag : Nat} {b : List Byte} {imgs : Tab Nat}

/-- The job that JOB_START leaves: it runs its descriptor from step 0 (R470). -/
structure Begun (d e : Device) (j : Nat) (b : List Byte) (imgs : Tab Nat) : Prop where
  st : (job e j).st = 2
  desc : (job e j).desc = b
  images : (job e j).images = imgs
  phase : (job e j).phase = 0
  locked : e.boot.locked = true
  stack : e.stack = d.stack

theorem begun_of_jobBegin (h : jobBegin d j tag b imgs = .ok e) : Begun d e j b imgs := by
  unfold jobBegin at h
  dsimp only at h
  split at h
  · cases h
  · split at h
    · cases h
    · cases h
      have hq (y : Job) (first n : Nat) (hs : List Nat) : Quiet (setJob d j y) (partActive (giveWords (setJob d j y) j first n) j true hs) :=
        (quiet_giveWords _ _ _ _).trans (quiet_partActive _ _ _ _)
      have hjob {α : Type} (f : Job → α) (hf : ∀ x, f (untainted x) = f x) (y : Job) (first n : Nat) (hs : List Nat) :
          f (job (partActive (giveWords (setJob d j y) j first n) j true hs) j) = f y := by
        rw [(hq y first n hs).job f hf, job_setJob]
      exact ⟨hjob Job.st (fun _ => rfl) _ _ _ _, hjob Job.desc (fun _ => rfl) _ _ _ _, hjob Job.images (fun _ => rfl) _ _ _ _,
        hjob Job.phase (fun _ => rfl) _ _ _ _, rfl, (hq _ _ _ _).stack⟩

theorem bare_of_jobBegin_error {c : Nat} (h : jobBegin d j tag b imgs = .error (c, e)) : bare e = bare d ∧ e.jobs = d.jobs := by
  unfold jobBegin at h
  dsimp only at h
  split at h
  · cases h; exact ⟨bare_pushEv _ _, jobs_pushEv _ _⟩
  · split at h
    · cases h; exact ⟨bare_pushEv _ _, jobs_pushEv _ _⟩
    · cases h

end

section
variable {d d1 : Device} {e : List Byte}

/-- What JOB_START does of a free job, by the check of its descriptor. -/
theorem jobStart_free (h : takes d 16 1 e d1) (hst : (job (ringPop d1 16) (entryJob 16 e)).st = 0) (hm : (ringPop d1 16).boot.moduleFault = false) : jobStart d
    = match (match descCheckJob (ringPop d1 16) (entryJob 16 e) (leAt e 8 8) true with
        | .error f => Except.error f
        | .ok (b, imgs, d) => match jobBegin d (entryJob 16 e) (entryTag e) b imgs with
          | .error f => .error f
          | .ok d => .ok (cmdDone d (entryJob 16 e) (entryTag e) (entryNotify e))) with
      | .error (code, d) => if code == 0 then d else cmdFault d (entryJob 16 e) (entryTag e) code
      | .ok d => d := by
  rw [jobStart, command_takes h rfl]
  simp only [hst, hm, bne_self_eq_false, Bool.or_self, Bool.false_eq_true, if_false] <;> rfl

theorem jobStart_refused (h : takes d 16 1 e d1) (hn : (job (ringPop d1 16) (entryJob 16 e)).st ≠ 0 ∨ (ringPop d1 16).boot.moduleFault = true) :
    jobStart d = cmdFault (ringPop d1 16) (entryJob 16 e) (entryTag e) 14 := by
  rw [jobStart, command_takes h rfl, if_pos (by simpa using hn)]
  rfl

theorem jobEnd_takes (h : takes d 16 2 e d1) : jobEnd d
    = if (job (ringPop d1 16) (entryJob 16 e)).st = 0 then cmdFault (ringPop d1 16) (entryJob 16 e) (entryTag e) 14
      else if entryNotify e then pushEv (jobEndAll (ringPop d1 16) (entryJob 16 e)) { type := 1, job := entryJob 16 e, tag := entryTag e }
      else jobEndAll (ringPop d1 16) (entryJob 16 e) := by
  rw [jobEnd, command_takes h rfl]
  by_cases hst : (job (ringPop d1 16) (entryJob 16 e)).st = 0
  · rw [if_pos hst, if_pos (by simp [hst])]
    rfl
  · rw [if_neg hst, if_neg (by simp [hst])]

end

/-! ### JOB_END -/

section
variable (d : Device) (j : Nat)

/-- Every other job has the descriptor that it had. -/
def KeepsDescs (j : Nat) (d e : Device) : Prop := ∀ k, k ≠ j → (job e k).desc = (job d k).desc

theorem KeepsDescs.trans {d e f : Device} {j : Nat} (h : KeepsDescs j d e) (h' : KeepsDescs j e f) : KeepsDescs j d f :=
  fun k hk => (h' k hk).trans (h k hk)
theorem KeepsDescs.of_jobs {d e : Device} {j : Nat} (h : e.jobs = d.jobs) : KeepsDescs j d e := fun k _ => by rw [job_of_jobs h]
theorem KeepsDescs.of_quiet {d e : Device} {j : Nat} (h : Quiet d e) : KeepsDescs j d e := fun k _ => h.job Job.desc (fun _ => rfl) k
theorem KeepsDescs.setJob (x : Job) : KeepsDescs j d (setJob d j x) := fun k hk => by rw [job_setJob_ne _ _ _ _ hk]

theorem jobs_sweepOne (a : Device × Bool) (n : Nat) : (sweepOne j a n).1.jobs = a.1.jobs := by
  unfold sweepOne; dsimp only
  split
  · next h => exact jobs_of_apart (apart_unitWrite h)
  · next h =>
    have hj := jobs_of_apart (apart_unitWrite_error h)
    split
    · exact hj
    · rw [jobs_jobEv]; exact hj

theorem jobs_sweep (l : List Nat) (a : Device × Bool) : (l.foldl (sweepOne j) a).1.jobs = a.1.jobs := by
  induction l generalizing a with
  | nil => rfl
  | cons n t ih => rw [List.foldl_cons, ih, jobs_sweepOne]

theorem keepsDescs_landReset : KeepsDescs j d (landReset d j) := by
  have hend (d : Device) : KeepsDescs j d (landEnd d j) := KeepsDescs.setJob d j _
  have hbegin : KeepsDescs j d (landBegin d j) := by
    unfold landBegin; dsimp only
    split
    · exact ((KeepsDescs.setJob d j _).trans (.of_jobs (jobs_sweep j _ _))).trans (KeepsDescs.setJob _ j _)
    · exact KeepsDescs.setJob d j _
  unfold landReset
  split
  · exact hend d
  · exact hbegin.trans (hend _)

/-- What is left when every core of the job is given up. -/
def coresCleared : Device := (loadedCores d j).foldl clearCore d

theorem quiet_coresCleared : Quiet d (coresCleared d j) := .foldl (fun d u => quiet_clearCore d u) _ _

/-- What a job that ends gives up after its cores and its landing: contexts, words, requests and partitions. -/
def givenUp : Device :=
  let d := dropReads (releaseWords (dropUctx (arcadeUnload d j) j) j) j
  partActive d j false ((List.range 18).filter (fun h => bit (partB d h j) 31))

theorem quiet_givenUp : Quiet d (givenUp d j) :=
  ((((quiet_arcadeUnload d j).trans (quiet_dropUctx _ _)).trans (quiet_releaseWords _ _)).trans (quiet_dropReads _ _)).trans (quiet_partActive _ _ _ _)

theorem jobEndAll_eq : jobEndAll d j
    = let e := givenUp (if (job (coresCleared d j) j).landBusy then landReset (coresCleared d j) j else coresCleared d j) j
      setJob e j { landBase := (job e j).landBase, landDir := (job e j).landDir, landFull := (job e j).landFull, landSweep := (job e j).landSweep } := rfl

theorem job_jobEndAll : (job (jobEndAll d j) j).st = 0 ∧ (job (jobEndAll d j) j).desc = [] := by
  rw [jobEndAll_eq]
  dsimp only
  rw [job_setJob]
  exact ⟨rfl, rfl⟩

theorem keepsDescs_jobEndAll : KeepsDescs j d (jobEndAll d j) := by
  have hl : KeepsDescs j (coresCleared d j) (if (job (coresCleared d j) j).landBusy then landReset (coresCleared d j) j else coresCleared d j) := by
    split
    · exact keepsDescs_landReset _ j
    · exact fun _ _ => rfl
  rw [jobEndAll_eq]
  exact (((KeepsDescs.of_quiet (quiet_coresCleared d j)).trans hl).trans (.of_quiet (quiet_givenUp _ j))).trans (KeepsDescs.setJob _ j _)

theorem stack_jobEndAll (h : (job d j).landBusy = false) : (jobEndAll d j).stack = d.stack := by
  have hb : (job (coresCleared d j) j).landBusy = false := by rw [(quiet_coresCleared d j).job Job.landBusy (fun _ => rfl), h]
  rw [jobEndAll_eq, hb, if_neg Bool.false_ne_true]
  exact (quiet_givenUp _ j).stack.trans (quiet_coresCleared d j).stack

end

/-- Settles O36: JOB_START by what its checks find, and JOB_END by what the job gives up. -/
theorem jobStartAndEnd : Obligations.JobStartAndEnd := by
  unfold Obligations.JobStartAndEnd
  intro e d1 s
  dsimp only
  refine ⟨fun ht hst hm => ⟨fun b imgs d2 hd => ⟨fun d3 hb => ?_, fun d3 hb => ?_⟩, fun f d2 hd hf => ?_⟩, fun ht hn => ?_, fun ht hst => ?_, fun ht hst => ?_⟩
  · refine ⟨_, exec_jobStart, ?_⟩
    dsimp only
    rw [jobStart_free ht hst hm, hd]
    dsimp only
    rw [hb]
    dsimp only
    have hq := quiet_cmdDone d3 (entryJob 16 e) (entryTag e) (entryNotify e)
    obtain ⟨h1, h2, h3, h4, h5, h6⟩ := begun_of_jobBegin hb
    rw [job_of_jobs (jobs_cmdDone _ _ _ _), hq.boot, hq.stack]
    exact ⟨h1, h2, h3, h4, h5, eq_of_erased bare Device.cores (fun _ => rfl) (bare_cmdDone _ _ _ _), h6⟩
  · obtain ⟨h1, h2⟩ := bare_of_jobBegin_error hb
    refine ⟨?_, h2, sigs_of_bare h1, eq_of_erased bare Device.cores (fun _ => rfl) h1⟩
    rw [exec_jobStart, jobStart_free ht hst hm, hd]
    dsimp only
    rw [hb]
    rfl
  · rw [exec_jobStart, jobStart_free ht hst hm, hd]
    dsimp only
    rw [if_neg (by simpa using hf)]
  · rw [exec_jobStart, jobStart_refused ht hn]
  · refine ⟨_, exec_jobEnd, ?_⟩
    dsimp only
    rw [jobEnd_takes ht, if_neg hst]
    have hend : Quiet (jobEndAll (ringPop d1 16) (entryJob 16 e)) (if entryNotify e then
        pushEv (jobEndAll (ringPop d1 16) (entryJob 16 e)) { type := 1, job := entryJob 16 e, tag := entryTag e } else jobEndAll (ringPop d1 16) (entryJob 16 e)) := by
      split
      · exact quiet_pushEv _ _
      · exact .refl _
    obtain ⟨h1, h2⟩ := job_jobEndAll (ringPop d1 16) (entryJob 16 e)
    refine ⟨?_, ?_, fun k hk => ?_, fun hl => ?_⟩
    · rw [hend.job Job.st (fun _ => rfl), h1]
    · rw [hend.job Job.desc (fun _ => rfl), h2]
    · rw [hend.job Job.desc (fun _ => rfl), keepsDescs_jobEndAll _ _ k hk]
    · rw [hend.stack, stack_jobEndAll _ _ hl]
  · rw [exec_jobEnd, jobEnd_takes ht, if_pos hst]

/-! ### STEP, CHECKPOINT and REIMAGE -/

section
variable {d d1 : Device} {e : List Byte} {j : Nat} (hj : j < 16)
include hj

theorem stepCmd_queued (h : takes d j 0x10 e d1) (hq : (job d j).queue.length < 2) (h1 : 1 ≤ leAt e 0xC 1) (h2 : leAt e 0xC 1 ≤ 64) : stepCmd j d
    = cmdDone (setJob (ringPop d1 j) j { job (ringPop d1 j) j with queue := (job (ringPop d1 j) j).queue
        ++ [{ n := leAt e 8 4, nmicro := leAt e 0xC 1, list := leAt e 0x10 8, nbatch := leAt e 0x18 4, tag := entryTag e }] }) j (entryTag e) (entryNotify e) := by
  rw [stepCmd, command_takes h (by simpa using hq), show entryJob j e = j from if_pos hj]
  dsimp only
  rw [if_neg]
  simp only [Bool.or_eq_true, beq_iff_eq, decide_eq_true_eq]
  omega

theorem stepCmd_refused (h : takes d j 0x10 e d1) (hq : (job d j).queue.length < 2) (hn : leAt e 0xC 1 = 0 ∨ 64 < leAt e 0xC 1) :
    stepCmd j d = cmdFault (ringPop d1 j) j (entryTag e) 4 := by
  rw [stepCmd, command_takes h (by simpa using hq), show entryJob j e = j from if_pos hj]
  dsimp only
  rw [if_pos (by simpa using hn)]
  rfl

theorem checkpoint_held (h : takes d j 0x11 e d1) : checkpoint j d = ckptKick (setJob (ringPop d1 j) j { job (ringPop d1 j) j with ckpts := (job (ringPop d1 j) j).ckpts
    ++ [{ atStep := leAt e 8 4, list := leAt e 0x10 8, nreg := leAt e 0x18 4, tag := entryTag e, notify := entryNotify e }] }) j := by
  rw [checkpoint, command_takes h rfl, show entryJob j e = j from if_pos hj]

theorem reimage_takes (h : takes d j 0x12 e d1) : reimage j d
    = match (match descCheckJob (ringPop d1 j) j (leAt e 8 8) false with
        | .error f => Except.error f
        | .ok (b, imgs, d) =>
          let d := setJob d j { job d j with reimage := some (b, imgs, entryTag e, entryNotify e) }
          .ok (if atBoundary (job d j) then applyReimage d j else d)) with
      | .error (code, d) => if code == 0 then d else cmdFault d j (entryTag e) code
      | .ok d => d := by
  rw [reimage, command_takes h rfl, show entryJob j e = j from if_pos hj] <;> rfl

end

theorem stepCmd_full {d d1 : Device} {e : List Byte} {j : Nat} (h : takes d j 0x10 e d1) (hq : 2 ≤ (job d j).queue.length) : stepCmd j d = d := by
  obtain ⟨hh, he, -⟩ := h
  exact command_other hh he (.inr (by simpa using hq))

/-- What a checkpoint's command asked for, without how far it has come. -/
def asked (c : Ckpt) : Nat × Nat × Nat × Nat × Bool := (c.atStep, c.list, c.nreg, c.tag, c.notify)

theorem asked_mapCkpt (d : Device) (j : Nat) {f : Ckpt → Ckpt} (hf : ∀ c, asked (f c) = asked c) :
    (job (mapCkpt d j f) j).ckpts.map asked = (job d j).ckpts.map asked := by
  rw [mapCkpt, job_setJob]
  dsimp only
  split
  · next h => rw [h]
  · next h => rw [h, List.map_cons, List.map_cons, hf]

theorem asked_ckptKick (d : Device) (j : Nat) : (job (ckptKick d j) j).ckpts.map asked = (job d j).ckpts.map asked := by
  unfold ckptKick
  dsimp only
  split
  · rfl
  · split
    · rfl
    · split <;> exact asked_mapCkpt d j fun _ => rfl

/-- A checkpoint that starts changes its own job alone. -/
theorem ckptKick_else (d : Device) (j : Nat) :
    (ckptKick d j).stack = d.stack ∧ (ckptKick d j).cores = d.cores ∧ ∀ i, i ≠ j → job (ckptKick d j) i = job d i := by
  unfold ckptKick
  dsimp only
  split
  · exact ⟨rfl, rfl, fun _ _ => rfl⟩
  · split
    · exact ⟨rfl, rfl, fun _ _ => rfl⟩
    · split <;> exact ⟨rfl, rfl, fun i hi => job_setJob_ne _ _ _ _ hi⟩

theorem cores_cmdDone (d : Device) (j t : Nat) (n : Bool) : (cmdDone d j t n).cores = d.cores :=
  eq_of_erased bare Device.cores (fun _ => rfl) (bare_cmdDone _ _ _ _)
theorem stack_cmdDone (d : Device) (j t : Nat) (n : Bool) : (cmdDone d j t n).stack = d.stack :=
  eq_of_erased bare Device.stack (fun _ => rfl) (bare_cmdDone _ _ _ _)
theorem job_cmdDone (d : Device) (j t : Nat) (n : Bool) (k : Nat) : job (cmdDone d j t n) k = job d k := job_of_jobs (jobs_cmdDone _ _ _ _) k

/-- A REIMAGE that takes effect (R472). -/
theorem job_applyReimage {d : Device} {j : Nat} {b : List Byte} {imgs : Tab Nat} {tag : Nat} {n : Bool} (h : (job d j).reimage = some (b, imgs, tag, n)) :
    (job (applyReimage d j) j).reimage = none ∧ (job (applyReimage d j) j).images = imgs ∧ (job (applyReimage d j) j).desc = b := by
  simp only [applyReimage, h]
  rw [job_cmdDone, job_setJob]
  exact ⟨rfl, rfl, rfl⟩

/-- Settles O37: each command by `command_takes`. -/
theorem jobCommands : Obligations.JobCommands := by
  unfold Obligations.JobCommands
  intro j e d1 s
  dsimp only
  intro hj
  refine ⟨fun ht hq h1 h2 => ⟨_, exec_stepCmd hj, ?_⟩, fun ht hq hn => ?_, fun ht hq => ?_, fun ht => ⟨_, exec_checkpoint hj, ?_⟩,
    fun ht => ⟨fun f d2 hd hf => ?_, fun b imgs d2 hd => ⟨fun hb => ⟨_, exec_reimage hj, ?_⟩, fun hb => ⟨_, exec_reimage hj, ?_⟩⟩⟩⟩
  · dsimp only
    rw [stepCmd_queued hj ht hq h1 h2]
    simp only [job_cmdDone, cores_cmdDone, stack_cmdDone, job_setJob]
    exact ⟨trivial, trivial, fun k hk => job_setJob_ne _ _ _ _ hk, rfl, rfl⟩
  · rw [exec_stepCmd hj, stepCmd_refused hj ht hq hn]
  · rw [exec_stepCmd hj, stepCmd_full ht hq]
  · dsimp only
    rw [checkpoint_held hj ht]
    obtain ⟨hs, hc, ho⟩ := ckptKick_else (setJob (ringPop d1 j) j { job (ringPop d1 j) j with ckpts := (job (ringPop d1 j) j).ckpts
      ++ [{ atStep := leAt e 8 4, list := leAt e 0x10 8, nreg := leAt e 0x18 4, tag := entryTag e, notify := entryNotify e }] }) j
    refine ⟨?_, hs, hc, fun i hi => (ho i hi).trans (job_setJob_ne _ _ _ _ hi)⟩
    refine (asked_ckptKick _ j).trans ?_
    rw [job_setJob, List.map_append]
    rfl
  · rw [exec_reimage hj, reimage_takes hj ht, hd]
    dsimp only
    rw [if_neg (by simpa using hf)]
  · have hb' (x) : atBoundary { job d2 j with reimage := x } = false := hb
    dsimp only
    rw [reimage_takes hj ht, hd]
    dsimp only
    rw [job_setJob, hb', if_neg Bool.false_ne_true, job_setJob]
    exact ⟨rfl, rfl, rfl⟩
  · have hb' (x) : atBoundary { job d2 j with reimage := x } = true := hb
    dsimp only
    rw [reimage_takes hj ht, hd]
    dsimp only
    rw [job_setJob, hb', if_pos rfl]
    exact job_applyReimage (by rw [job_setJob])

/-! ### PREEMPT, PREEMPTED and RESUME -/

section
variable {d d1 : Device} {e : List Byte} {mode : Nat}

theorem preemptCmd_takes (h : takes d 16 3 e d1) (hm : leAt e 8 1 = mode) (hlt : mode < 2) : preemptCmd mode d
    = let p := ringPop d1 16; let j := entryJob 16 e; let x := job p j
      if ¬(x.st = 2 ∨ x.st = 3) ∨ x.preempt ≠ none then cmdFault p j (entryTag e) 14
      else
        let q := setJob p j { x with preempt := some (mode, entryTag e, entryNotify e) }
        if mode = 1 ∨ x.phase = 0 then preemptBegin q j else q := by
  have hw : (leAt e 8 1 % 2 != mode) = false := by rw [hm, Nat.mod_eq_of_lt hlt, bne_self_eq_false]
  rw [preemptCmd, command_takes h hw]
  dsimp only
  by_cases hs : ¬((job (ringPop d1 16) (entryJob 16 e)).st = 2 ∨ (job (ringPop d1 16) (entryJob 16 e)).st = 3) ∨ (job (ringPop d1 16) (entryJob 16 e)).preempt ≠ none
  · rw [if_pos hs, if_pos (by simpa [Option.isSome_iff_ne_none] using hs)]
    rfl
  · rw [if_neg hs, if_neg (by simpa [Option.isSome_iff_ne_none] using hs)]
    simp only [Bool.or_eq_true, beq_iff_eq]

end

/-- The job is preempted (R482): its words are saved, or not. -/
def preemptEnd (x : Job) (e : Device) (k : Nat) (sig : Bool) : Device :=
  let t := match x.preempt with
    | some (_, t, n) => (t, n)
    | none => (0, false)
  cmdDone (pushEv (setJob e k { job e k with st := 5, preempt := none, sigSaved := sig }) { type := 0xA0, job := k, attempt := x.attempt, step := x.step, tag := t.1 })
    k t.1 t.2

theorem job_preemptEnd (x : Job) (e : Device) (k : Nat) (sig : Bool) (i : Nat) :
    job (preemptEnd x e k sig) i = job (setJob e k { job e k with st := 5, preempt := none, sigSaved := sig }) i := by
  rw [preemptEnd, job_cmdDone, job_of_jobs (jobs_pushEv _ _)]

theorem bare_preemptEnd (x : Job) (e : Device) (k : Nat) (sig : Bool) : bare (preemptEnd x e k sig) = bare e := by simp [preemptEnd]

section
variable {d : Device} {k : Nat}

theorem preempted_waits (h : ¬((job d k).st = 4 ∧ applying d k = false ∧ (loadedCores d k).all (fun u => (core d u).saved) = true)) : preempted k d = d := by
  unfold preempted
  dsimp only
  rw [if_pos]
  simp only [Bool.or_eq_true, bne_iff_ne, ne_eq, Bool.not_eq_true']
  rcases Bool.eq_false_or_eq_true (applying d k) with ha | ha
  · exact .inl (.inr ha)
  · rcases Bool.eq_false_or_eq_true ((loadedCores d k).all (fun u => (core d u).saved)) with hl | hl
    · exact .inl (.inl fun hst => h ⟨hst, ha, hl⟩)
    · exact .inr hl

variable (h : (job d k).st = 4 ∧ applying d k = false ∧ (loadedCores d k).all (fun u => (core d u).saved) = true)
include h

theorem preempted_plain (hb : getR d (sigJob k) % 2 = 0) : preempted k d = preemptEnd (job d k) d k false := by
  obtain ⟨h1, h2, h3⟩ := h
  have hbit : bit (getR d (sigJob k)) 0 = false := by simp [bit, hb]
  unfold preempted
  dsimp only
  rw [if_neg (by simp [h1, h2, h3]), hbit, if_neg Bool.false_ne_true]
  rfl

theorem preempted_saving (hb : getR d (sigJob k) % 2 = 1) : preempted k d
    = let d0 := (ownedWords d k).foldl (fun d hi => flushStore d hi.1) d
      match unitWrite d0 k (sigRecAt d0 k) (clean (signalRecord d0 k)) 0xFFFF with
      | .error (code, e) => saveFault e k code
      | .ok e => preemptEnd (job d k) (releaseWords e k) k true := by
  obtain ⟨h1, h2, h3⟩ := h
  have hbit : bit (getR d (sigJob k)) 0 = true := by simp [bit, hb]
  unfold preempted
  dsimp only
  rw [if_neg (by simp [h1, h2, h3]), hbit, if_pos rfl]
  rfl

end

section
variable {d d1 : Device} {e : List Byte}

theorem resume_refused (h : takes d 16 4 e d1) (hst : (job (ringPop d1 16) (entryJob 16 e)).st ≠ 5) :
    resume d = cmdFault (ringPop d1 16) (entryJob 16 e) (entryTag e) 14 := by
  rw [resume, command_takes h rfl]
  dsimp only
  rw [if_pos (by simpa using hst)]
  rfl

/-- What a failed resume gives back: the cores, the words and the watch filters as they were (R484). -/
def unresumed (d e : Device) : Device := { e with cores := d.cores, sigs := d.sigs, watch := d.watch }

/-- The job returns to the state that it left (R484). -/
def resumed (x : Job) (e : Device) (j tag : Nat) (n : Bool) : Device :=
  cmdDone (pushEv (setJob e j { job e j with st := x.resumeSt, saved := [], sigSaved := false })
    { type := 0xA1, job := j, attempt := x.attempt, step := x.step, tag := tag }) j tag n

theorem resume_takes (h : takes d 16 4 e d1) (hst : (job (ringPop d1 16) (entryJob 16 e)).st = 5) : resume d
    = let p := ringPop d1 16; let j := entryJob 16 e; let x := job p j
      match resumeWords p j with
      | .error (f, w) => if f = 0 then unresumed p w else cmdFault (unresumed p w) j (entryTag e) f
      | .ok w => match resumeCores j (if x.verdict = 0 then x.saved else []) w with
        | .error (f, c) => if f = 0 then unresumed p c else cmdFault (unresumed p c) j (entryTag e) f
        | .ok c => resumed x c j (entryTag e) (entryNotify e) := by
  rw [resume, command_takes h rfl]
  dsimp only
  rw [if_neg (by simp [hst])]
  simp only [beq_iff_eq]
  cases resumeWords (ringPop d1 16) (entryJob 16 e) with
  | error f => simp [unresumed]
  | ok w =>
    dsimp only
    cases resumeCores (entryJob 16 e) (if (job (ringPop d1 16) (entryJob 16 e)).verdict = 0 then (job (ringPop d1 16) (entryJob 16 e)).saved else []) w with
    | error f => simp [unresumed]
    | ok c => rfl

theorem unresumed_keeps (p w : Device) (j tag f : Nat) (hf : f ≠ 0) : (if f = 0 then unresumed p w else cmdFault (unresumed p w) j tag f).cores = p.cores
    ∧ (if f = 0 then unresumed p w else cmdFault (unresumed p w) j tag f).sigs = p.sigs := by
  rw [if_neg hf]
  have hb := bare_cmdFault (unresumed p w) j tag f
  exact ⟨(eq_of_erased bare Device.cores (fun _ => rfl) hb).trans rfl, (sigs_of_bare hb).trans rfl⟩

end

/-- Settles O38: PREEMPT by its mode and the job's state, PREEMPTED by whether words are saved, RESUME by what can be restored. -/
theorem preemption : Obligations.Preemption := by
  unfold Obligations.Preemption
  intro e d1 s
  dsimp only
  have hb : preemptBoundary s.dev = preemptCmd 0 s.dev := rfl
  have hs : preemptSafept s.dev = preemptCmd 1 s.dev := rfl
  refine ⟨fun ht hst hp => ⟨fun hm => ?_, fun hm => ?_⟩, fun ht hn => ⟨fun hm => ?_, fun hm => ?_⟩, fun k hk => ?_, fun ht hst => ⟨fun w c hw hc => ?_, fun f w hw hf => ?_, fun f w c hw hc hf => ?_⟩, fun ht hst => ?_⟩
  · rw [exec_preemptBoundary, hb, preemptCmd_takes ht hm (by decide)]
    dsimp only
    rw [if_neg (by simp [hst, hp]), hm]
    simp
  · rw [exec_preemptSafept, hs, preemptCmd_takes ht hm (by decide)]
    dsimp only
    rw [if_neg (by simp [hst, hp]), hm]
    simp
  · rw [exec_preemptBoundary, hb, preemptCmd_takes ht hm (by decide)]
    dsimp only
    rw [if_pos hn]
  · rw [exec_preemptSafept, hs, preemptCmd_takes ht hm (by decide)]
    dsimp only
    rw [if_pos hn]
  · have hrun : exec (.preempted k) s = .next { s with dev := preempted k s.dev } := run_wf _ _ (by simp [Instr.wf, hk])
    have hcores (x : Job) (e : Device) (sig : Bool) : (preemptEnd x e k sig).cores = e.cores := eq_of_erased bare Device.cores (fun _ => rfl) (bare_preemptEnd _ _ _ _)
    have hstack (x : Job) (e : Device) (sig : Bool) : (preemptEnd x e k sig).stack = e.stack := eq_of_erased bare Device.stack (fun _ => rfl) (bare_preemptEnd _ _ _ _)
    refine ⟨fun hr h0 => ⟨_, hrun, ?_⟩, fun hr h1 => ⟨fun d2 hd => ⟨_, hrun, ?_⟩, fun f d2 hd => ?_⟩, fun hn => by rw [hrun, preempted_waits hn]⟩
    · dsimp only
      rw [preempted_plain hr h0, hcores, hstack]
      simp only [job_preemptEnd, job_setJob]
      exact ⟨trivial, trivial, trivial, trivial, fun i hi => job_setJob_ne _ _ _ _ hi⟩
    · dsimp only
      rw [preempted_saving hr h1]
      dsimp only
      rw [hd]
      dsimp only
      rw [hstack, sigs_of_bare (bare_preemptEnd _ _ _ _), job_preemptEnd, job_setJob]
      exact ⟨rfl, rfl, (quiet_releaseWords d2 k).stack, rfl⟩
    · rw [hrun, preempted_saving hr h1]
      dsimp only
      rw [hd]
  · refine ⟨_, exec_resume, ?_⟩
    dsimp only
    rw [resume_takes ht hst]
    dsimp only
    rw [hw]
    dsimp only
    rw [hc]
    dsimp only [resumed]
    rw [job_cmdDone, job_of_jobs (jobs_pushEv _ _), job_setJob, cores_cmdDone, stack_cmdDone,
      eq_of_erased bare Device.cores (fun _ => rfl) (bare_pushEv _ _), eq_of_erased bare Device.stack (fun _ => rfl) (bare_pushEv _ _)]
    exact ⟨rfl, rfl, rfl, rfl⟩
  · refine ⟨_, exec_resume, ?_⟩
    dsimp only
    rw [resume_takes ht hst]
    dsimp only
    rw [hw]
    exact unresumed_keeps _ _ _ _ _ hf
  · refine ⟨_, exec_resume, ?_⟩
    dsimp only
    rw [resume_takes ht hst]
    dsimp only
    rw [hw]
    dsimp only
    rw [hc]
    exact unresumed_keeps _ _ _ _ _ hf
  · rw [exec_resume, resume_refused ht hst]

end Sys2Proof.Machine
end

section
/-!
The step loop (R473 to R479): attempts, micro-batches, verdicts and the commit: O39, O40.
-/
namespace Sys2Proof.Machine

/-! ### What reports of a job leave of it -/

theorem apart_normDetail (d : Device) (j : Nat) : apart (normDetail d j).2 = apart d := by
  unfold normDetail
  dsimp only
  split
  · rfl
  · split
    · rfl
    · next h =>
      split at h
      · exact apart_unitRead h
      · cases h

/-! ### STEP_READY -/

section
variable {d : Device} {j : Nat}

/-- An attempt is due for its step 4: it has ended, or is tainted before that (R474, R477). -/
def readyDue (d : Device) (j : Nat) : Prop :=
  let x := job d j
  x.st = 2 ∧ x.verdict = 0 ∧ x.phase ≠ 0 ∧ x.phase < 4 ∧ (x.taint ≠ 0 ∨ (x.phase = 3 ∧ normReady d j = true))

/-- The module with STEP_READY sent. -/
def readySent (d : Device) (j : Nat) : Device :=
  jobEv (setJob (normDetail d j).2 j { job d j with phase := 4 }) j 0x10 0 0 (toLE 4 (job d j).taint ++ (normDetail d j).1)

theorem stepReady_waits (h : ¬readyDue d j) : stepReady j d = d := by
  unfold stepReady
  dsimp only
  rw [if_pos]
  by_contra hc
  refine h ?_
  simp only [Bool.or_eq_true, bne_iff_ne, beq_iff_eq, decide_eq_true_eq, Bool.not_eq_true', not_or, not_not, Nat.not_le, Bool.not_eq_false, Bool.and_eq_true] at hc
  obtain ⟨⟨⟨⟨h1, h2⟩, h3⟩, h4⟩, h5⟩ := hc
  exact ⟨h1, h2, h3, h4, h5⟩

theorem stepReady_due (h : readyDue d j) : stepReady j d
    = if holdCode (readySent d j) j ≠ 0 then holdJob (readySent d j) j (holdCode (readySent d j) j)
      else if dLocal (job d j).desc = true then
        if (job d j).taint = 0 then setJob (readySent d j) j { job (readySent d j) j with kept := true }
        else abandon (readySent d j) j (if (job d j).taint = 16 then 3 else 2)
      else if (job d j).kept = true ∧ (job d j).taint ≠ 0 then
        taintEv (setJob (readySent d j) j { job (readySent d j) j with kept := false }) j 0x14 0
      else readySent d j := by
  obtain ⟨h1, h2, h3, h4, h5⟩ := h
  unfold stepReady
  dsimp only
  rw [if_neg]
  · simp only [bne_iff_ne, beq_iff_eq, Bool.and_eq_true]
    rfl
  · simp only [h1, h2, h3, Nat.not_le.2 h4, bne_self_eq_false, Bool.or_eq_true, beq_iff_eq, decide_eq_true_eq, or_false, false_or, Bool.not_eq_true',
      Bool.or_eq_false_iff, bne_eq_false_iff_eq, Bool.and_eq_false_iff, beq_eq_false_iff_ne, not_and, not_or, Bool.false_eq_true]
    intro ht
    have := h5.resolve_left (not_not.2 ht)
    exact ⟨not_not.2 this.1, by simp [this.2]⟩

theorem job_readySent : job (readySent d j) j = { job d j with phase := 4 } := by rw [readySent, job_of_jobs (jobs_jobEv _ _ _ _ _ _), job_setJob]

theorem ctxs_readySent : (readySent d j).ctxs = d.ctxs := by
  rw [readySent, eq_of_erased bare Device.ctxs (fun _ => rfl) (bare_jobEv _ _ _ _ _ _)]
  exact (show _ = (normDetail d j).2.ctxs from rfl).trans (eq_of_erased apart Device.ctxs (fun _ => rfl) (apart_normDetail d j))

theorem holdCode_clean (ht : (job d j).taint = 0) (hh : (job d j).hold = 0) (hb : (ctxsOf d j).all (fun r => !(ctxOf d r).any Ctx.broken) = true) :
    holdCode (readySent d j) j = 0 := by
  have hc : ctxsOf (readySent d j) j = ctxsOf d j := by rw [ctxsOf, ctxs_readySent, ctxsOf]
  have ho (r : Nat) : ctxOf (readySent d j) r = ctxOf d r := by rw [ctxOf, ctxs_readySent, ctxOf]
  have hbroken : (ctxsOf d j).any (fun r => (ctxOf d r).any Ctx.broken) = false := by
    rw [List.any_eq_false]
    intro r hr
    simpa using List.all_eq_true.1 hb r hr
  simp [holdCode, job_readySent, ht, hh, hc, ho, hbroken, bit]

/-- A clean attempt waits at step 4 for its verdict (R474). -/
theorem stepReady_clean (h : readyDue d j) (ht : (job d j).taint = 0) (hh : (job d j).hold = 0)
    (hb : (ctxsOf d j).all (fun r => !(ctxOf d r).any Ctx.broken) = true) :
    job (stepReady j d) j = { job d j with phase := 4, kept := (job d j).kept || dLocal (job d j).desc } := by
  rw [stepReady_due h, holdCode_clean ht hh hb, if_neg (by simp)]
  rcases Bool.eq_false_or_eq_true (dLocal (job d j).desc) with hl | hl
  · rw [if_pos hl, if_pos ht, job_setJob, job_readySent, hl, Bool.or_true]
  · rw [if_neg (by simp [hl]), if_neg (by simp [ht]), job_readySent, hl, Bool.or_false]

end

/-! ### Verdicts -/

section
variable {d : Device} {src j a dec : Nat}

/-- The module with the HI half of VERDICT written. -/
def verdictPair (d : Device) (src j a dec : Nat) : Device := commitPair d src (jobWin j + 8) 0xFFFFFFFF 0x3F (a + 16 * dec)

theorem bare_verdictPair : bare (verdictPair d src j a dec) = bare d := by
  unfold verdictPair commitPair
  dsimp only
  split <;> rfl

theorem jobs_verdictPair : (verdictPair d src j a dec).jobs = d.jobs := by
  unfold verdictPair commitPair
  dsimp only
  split <;> rfl

theorem cores_verdictPair : (verdictPair d src j a dec).cores = d.cores := eq_of_erased bare Device.cores (fun _ => rfl) bare_verdictPair

theorem job_verdictPair (k : Nat) : job (verdictPair d src j a dec) k = job d k := job_of_jobs jobs_verdictPair k

/-- The verdict names the attempt that the job waits for. -/
def fitsJob (d : Device) (src j a dec : Nat) : Bool := verdictFits (job d j) (getR (verdictPair d src j a dec) (jobWin j + 8)) a

theorem verdict_stale (h : dec = 0 ∨ fitsJob d src j a dec = false) : verdict src j a dec d = bump (verdictPair d src j a dec) (jobWin j + 0x18) 1 := by
  have hv : verdictPair d src j a dec = commitPair d src (jobWin j + 8) 0xFFFFFFFF 0x3F (a + 16 * dec) := rfl
  unfold verdict
  dsimp only
  rw [← hv, job_verdictPair, ← fitsJob, if_pos (by simpa using h)]

theorem verdict_fits (h0 : dec ≠ 0) (h : fitsJob d src j a dec = true) : verdict src j a dec d
    = let v := verdictPair d src j a dec; let x := job d j
      if dec = 1 then (if heldJob x = true ∨ x.taint ≠ 0 then taintEv (setJob v j { x with kept := false }) j 0x14 0 else setJob v j { x with kept := true })
      else if x.phase = 0 then
        setJob v j { x with hold := 0, verdict := if dec = 3 then 3 else 0, st := if x.st = 3 then 2 else x.st
                            resumeSt := if x.resumeSt = 3 then 2 else x.resumeSt }
      else abandon v j dec := by
  have hv : verdictPair d src j a dec = commitPair d src (jobWin j + 8) 0xFFFFFFFF 0x3F (a + 16 * dec) := rfl
  unfold verdict
  dsimp only
  rw [← hv, job_verdictPair, ← fitsJob, if_neg (by simp [h0, h])]
  simp only [beq_iff_eq, Bool.or_eq_true, bne_iff_ne]

/-- What a verdict counted as stale does (R476). -/
theorem stale_of {c : Instr} {s : State} (hrun : exec c s = .next { s with dev := verdict src j a dec s.dev }) (h : dec = 0 ∨ fitsJob s.dev src j a dec = false) :
    ∃ t, exec c s = .next t ∧ getR t.dev (jobWin j + 0x18) = min (getR (verdictPair s.dev src j a dec) (jobWin j + 0x18) + 1) 0xFFFFFFFF
      ∧ t.dev.jobs = s.dev.jobs ∧ t.dev.cores = s.dev.cores := by
  refine ⟨_, hrun, ?_⟩
  dsimp only
  rw [verdict_stale h, getR_bump, jobs_bump, eq_of_erased bare Device.cores (fun _ => rfl) (bare_bump _ _ _), cores_verdictPair, jobs_verdictPair]
  exact ⟨rfl, rfl, rfl⟩

/-- What ends a wait before an attempt has begun (R478). -/
theorem ended_of {c : Instr} {s : State} (hrun : exec c s = .next { s with dev := verdict src j a dec s.dev }) (h2 : 2 ≤ dec)
    (h : fitsJob s.dev src j a dec = true) (hp : (job s.dev j).phase = 0) : ∃ t, exec c s = .next t ∧ (job t.dev j).hold = 0
      ∧ (job t.dev j).verdict = (if dec = 3 then 3 else 0) ∧ (job t.dev j).st = (if (job s.dev j).st = 3 then 2 else (job s.dev j).st)
      ∧ t.dev.cores = s.dev.cores := by
  refine ⟨_, hrun, ?_⟩
  dsimp only
  rw [verdict_fits (by omega) h]
  dsimp only
  rw [if_neg (by omega), if_pos hp, job_setJob]
  exact ⟨rfl, rfl, rfl, cores_verdictPair⟩

theorem abandoned_of {c : Instr} {s : State} (hrun : exec c s = .next { s with dev := verdict src j a dec s.dev }) (h2 : 2 ≤ dec)
    (h : fitsJob s.dev src j a dec = true) (hp : (job s.dev j).phase ≠ 0) :
    exec c s = .next { s with dev := abandon (verdictPair s.dev src j a dec) j dec } := by
  rw [hrun, verdict_fits (by omega) h]
  dsimp only
  rw [if_neg (by omega), if_neg hp]

end

/-! ### The commit -/

section
variable {d : Device} {j : Nat}

/-- A step whose update is done (R474 step 6). -/
def granted (d : Device) (j : Nat) : Prop := (job d j).phase = 5 ∧ ((job d j).st = 2 ∨ (job d j).st = 4) ∧ gatherDone d j = true ∧ applying d j = false

theorem stepCommit_granted (hv : (job d j).verdict ≠ 3) (h : granted d j) : stepCommit j d = commitStep d j := by
  obtain ⟨h1, h2, h3, h4⟩ := h
  unfold stepCommit
  dsimp only
  rw [if_neg (by simpa using hv), if_pos (by simp [h1, h2, h3, h4])]

theorem stepCommit_waits (hv : (job d j).verdict ≠ 3) (h : ¬granted d j) : stepCommit j d = d := by
  unfold stepCommit
  dsimp only
  rw [if_neg (by simpa using hv), if_neg (by simpa [granted, and_assoc] using h)]

theorem stepCommit_skip (hv : (job d j).verdict = 3) (h : (job d j).st = 2 ∧ abandonDone d j = true) :
    stepCommit j d = commitStep (if (job d j).phase = 0 then d else restoreWords d j) j := by
  unfold stepCommit
  dsimp only
  rw [if_pos (by simp [hv]), if_neg (by simp [h.1, h.2])]
  simp only [beq_iff_eq]

theorem stepCommit_skip_waits (hv : (job d j).verdict = 3) (h : ¬((job d j).st = 2 ∧ abandonDone d j = true)) : stepCommit j d = d := by
  unfold stepCommit
  dsimp only
  rw [if_pos (by simp [hv]), if_pos]
  simp only [Bool.or_eq_true, bne_iff_ne, Bool.not_eq_true']
  by_contra hc
  simp only [not_or, not_not, Bool.not_eq_false] at hc
  exact h hc

theorem jobs_arcadeStop (d : Device) (j : Nat) : (arcadeStop d j).jobs = d.jobs ∧ (arcadeStop d j).regs = d.regs := by
  unfold arcadeStop
  generalize ctxsOf d j = l
  induction l generalizing d with
  | nil => exact ⟨rfl, rfl⟩
  | cons r t ih =>
    rw [List.foldl_cons]
    split
    · exact ih _
    · exact ih _

/-- The counts of a commit, its event and its repair hold. -/
def commitCounted (d : Device) (j : Nat) : Device :=
  let e := taintEv (bump64 (bump d (jobWin j + 0x14) 1) (seqPage 0 + 0x108) 1) j 0x11 0
  arcadeStop (if (job d j).repair then putBit e (devPage 2 + 0x118) j true else e) j

theorem jobs_commitCounted : (commitCounted d j).jobs = d.jobs := by
  unfold commitCounted
  dsimp only
  rw [(jobs_arcadeStop _ _).1]
  have he : (taintEv (bump64 (bump d (jobWin j + 0x14) 1) (seqPage 0 + 0x108) 1) j 0x11 0).jobs = d.jobs := by
    rw [taintEv, jobs_jobEv, jobs_bump64, jobs_bump]
  split
  · exact he
  · exact he

theorem getR_commitCounted {o : Nat} (h1 : o ≠ foyPage + 0x124) (h2 : o ≠ devPage 2 + 0x118) :
    getR (commitCounted d j) o = getR (bump64 (bump d (jobWin j + 0x14) 1) (seqPage 0 + 0x108) 1) o := by
  have he : getR (taintEv (bump64 (bump d (jobWin j + 0x14) 1) (seqPage 0 + 0x108) 1) j 0x11 0) o
      = getR (bump64 (bump d (jobWin j + 0x14) 1) (seqPage 0 + 0x108) 1) o := getR_jobEv_ne _ _ _ _ _ _ h1
  unfold commitCounted
  dsimp only
  rw [getR_of_regs (jobs_arcadeStop _ _).2]
  split
  · rw [putBit]
    rw [getR_setR_ne _ _ _ _ h2, he]
  · exact he

/-- The job's record when its step has committed. -/
def committed (x : Job) : Job :=
  { x with lastDone := some x.step, cur := none, phase := 0, verdict := 0, kept := false, hold := 0, repair := false }

theorem commitStep_plain (hp : (job d j).preempt = none) (hr : (job d j).reimage = none) (hc : (job d j).ckpts = []) :
    commitStep d j = setJob (commitCounted d j) j (committed (job d j)) := by
  have hj : job (commitCounted d j) j = job d j := job_of_jobs jobs_commitCounted j
  have hset : commitStep d j = (let d' := ckptKick (applyReimage (setJob (commitCounted d j) j { job (commitCounted d j) j with
      lastDone := some (job d j).step, cur := none, phase := 0, verdict := 0, kept := false, hold := 0, repair := false }) j) j
    match (job d' j).preempt with
    | some (0, _, _) => if (job d' j).st == 2 then preemptBegin d' j else d'
    | _ => d') := rfl
  rw [hset, hj]
  have h1 : applyReimage (setJob (commitCounted d j) j (committed (job d j))) j = setJob (commitCounted d j) j (committed (job d j)) := by
    simp [applyReimage, committed, hr]
  have h2 : ckptKick (setJob (commitCounted d j) j (committed (job d j))) j = setJob (commitCounted d j) j (committed (job d j)) := by
    simp [ckptKick, committed, hc]
  dsimp only [committed] at h1 h2 ⊢
  rw [h1, h2, job_setJob]
  simp only [hp]

theorem moduleSteps_commitCounted : moduleSteps (commitCounted d j) = (moduleSteps d + 1) % 2 ^ 64 := by
  have hw (o : Nat) (ho : o = seqPage 0 + 0x108 ∨ o = seqPage 0 + 0x108 + 4) : o ≠ foyPage + 0x124 ∧ o ≠ devPage 2 + 0x118 ∧ o ≠ jobWin j + 0x14 := by
    unfold foyPage devPage jobWin seqPage at *
    omega
  obtain ⟨a1, a2, a3⟩ := hw _ (.inl rfl)
  obtain ⟨b1, b2, b3⟩ := hw _ (.inr rfl)
  have hd : get64 (bump d (jobWin j + 0x14) 1) (seqPage 0 + 0x108) = get64 d (seqPage 0 + 0x108) := by
    rw [get64, getR_bump_ne _ _ a3, getR_bump_ne _ _ b3, get64]
  have he : get64 (commitCounted d j) (seqPage 0 + 0x108) = get64 (bump64 (bump d (jobWin j + 0x14) 1) (seqPage 0 + 0x108) 1) (seqPage 0 + 0x108) := by
    rw [get64, getR_commitCounted a1 a2, getR_commitCounted b1 b2, get64]
  rw [moduleSteps, he, bump64, if_neg (by decide), get64_set64, hd, moduleSteps]
  omega

end

section
variable {s : State} {src j a : Nat}

theorem exec_stepReady (h : j < 16) : exec (.stepReady j) s = .next { s with dev := stepReady j s.dev } := run_wf _ _ (by simp [Instr.wf, h])
theorem exec_stepCommit (h : j < 16) : exec (.stepCommit j) s = .next { s with dev := stepCommit j s.dev } := run_wf _ _ (by simp [Instr.wf, h])

variable (hs : src < 3) (hj : j < 16) (ha : a < 16)
include hs hj ha

theorem exec_verdictNone : exec (.verdictNone src j a) s = .next { s with dev := verdict src j a 0 s.dev } := run_wf _ _ (by simp [Instr.wf, hs, hj, ha])
theorem exec_verdictApply : exec (.verdictApply src j a) s = .next { s with dev := verdict src j a 1 s.dev } := run_wf _ _ (by simp [Instr.wf, hs, hj, ha])
theorem exec_verdictRepeat : exec (.verdictRepeat src j a) s = .next { s with dev := verdict src j a 2 s.dev } := run_wf _ _ (by simp [Instr.wf, hs, hj, ha])
theorem exec_verdictSkip : exec (.verdictSkip src j a) s = .next { s with dev := verdict src j a 3 s.dev } := run_wf _ _ (by simp [Instr.wf, hs, hj, ha])

end

/-- Settles O40: STEP_READY by the attempt's taint, a verdict by whether it fits, and the commit by its grant. -/
theorem verdictsAndCommit : Obligations.VerdictsAndCommit := by
  unfold Obligations.VerdictsAndCommit
  refine ⟨fun src j a s => ?_, fun j s => ?_⟩
  · dsimp only
    intro hs hj ha
    refine ⟨fun h1 h2 h3 h4 h5 h6 h7 => ⟨_, exec_stepReady hj, ?_⟩, ⟨fun hn => ?_, fun hd hc => ?_, fun hd hc hl ht => ?_, fun hd hc hl ht => ?_,
      fun hd hc hl hk ht => ?_, fun hd hc hl hk => ?_⟩, ?_, ⟨fun hv h => ?_, fun hv h => ?_, fun hv h => ?_, fun hv h => ?_⟩⟩
    · dsimp only
      rw [stepReady_clean ⟨h1, h2, by omega, by omega, .inr ⟨h3, h6⟩⟩ h4 h5 h7]
      exact ⟨rfl, h1, rfl⟩
    · rw [exec_stepReady hj, stepReady_waits hn]
    · rw [exec_stepReady hj, stepReady_due hd, if_pos (show holdCode (readySent s.dev j) j ≠ 0 from hc)]
      rfl
    · rw [exec_stepReady hj, stepReady_due hd, if_neg (not_not.2 (show holdCode (readySent s.dev j) j = 0 from hc)), if_pos hl, if_pos ht]
      rfl
    · rw [exec_stepReady hj, stepReady_due hd, if_neg (not_not.2 (show holdCode (readySent s.dev j) j = 0 from hc)), if_pos hl, if_neg ht]
      rfl
    · rw [exec_stepReady hj, stepReady_due hd, if_neg (not_not.2 (show holdCode (readySent s.dev j) j = 0 from hc)), if_neg (by simp [hl]), if_pos ⟨hk, ht⟩]
      rfl
    · rw [exec_stepReady hj, stepReady_due hd, if_neg (not_not.2 (show holdCode (readySent s.dev j) j = 0 from hc)), if_neg (by simp [hl]),
        if_neg fun ⟨h1, h2⟩ => hk.elim (fun hk => by simp [hk] at h1) (fun hk => h2 hk)]
      rfl
    · have hn := exec_verdictNone (s := s) hs hj ha
      have hap := exec_verdictApply (s := s) hs hj ha
      have hre := exec_verdictRepeat (s := s) hs hj ha
      have hsk := exec_verdictSkip (s := s) hs hj ha
      refine ⟨stale_of hn (.inl rfl), fun h => stale_of hap (.inr h), fun h => stale_of hre (.inr h), fun h => stale_of hsk (.inr h), fun h hh ht => ?_,
        fun h ht => ?_, fun h hp => ended_of hre (by decide) h hp, fun h hp => ended_of hsk (by decide) h hp,
        fun h hp => abandoned_of hre (by decide) h hp, fun h hp => abandoned_of hsk (by decide) h hp⟩
      · rw [hap, verdict_fits (by decide) h]
        dsimp only
        rw [if_pos rfl, if_neg (by simp [hh, ht])]
        rfl
      · rw [hap, verdict_fits (by decide) h]
        dsimp only
        rw [if_pos rfl, if_pos ht]
        rfl
    · rw [exec_stepCommit hj, stepCommit_granted hv h]
    · rw [exec_stepCommit hj, stepCommit_waits hv h]
    · rw [exec_stepCommit hj, stepCommit_skip hv h]
    · rw [exec_stepCommit hj, stepCommit_skip_waits hv h]
  · dsimp only
    intro hj hv hp hst hpre hre hck hg hap
    refine ⟨_, exec_stepCommit hj, ?_⟩
    dsimp only
    rw [stepCommit_granted hv ⟨hp, .inl hst, hg, hap⟩, commitStep_plain hpre hre hck, job_setJob]
    refine ⟨rfl, rfl, rfl, ?_, moduleSteps_commitCounted, fun k hk => ?_⟩
    · have hne : jobWin j + 0x14 ≠ foyPage + 0x124 ∧ jobWin j + 0x14 ≠ devPage 2 + 0x118 ∧ jobWin j + 0x14 ≠ seqPage 0 + 0x108
          ∧ jobWin j + 0x14 ≠ seqPage 0 + 0x108 + 4 := by
        unfold foyPage devPage jobWin seqPage
        omega
      obtain ⟨n1, n2, n3, n4⟩ := hne
      rw [getR_setJob, getR_commitCounted n1 n2, getR_bump64_ne _ _ n3 n4, getR_bump]
    · rw [job_setJob_ne _ _ _ _ hk, job_of_jobs jobs_commitCounted]

end Sys2Proof.Machine
end

section
/-!
A step's batch, attempts and micro-batches (R473 to R475, R254): O39.
-/
namespace Sys2Proof.Machine

section
variable {d : Device} {j : Nat}

/-- The first of the two oldest steps whose batch has not been fetched (R473). -/
def batchDue (d : Device) (j : Nat) : Option StepReq := (((job d j).cur.toList ++ (job d j).queue).take 2).find? (fun q => q.batch == 0)

theorem batchFetch_none (h : batchDue d j = none ∨ (job d j).st = 0) : batchFetch j d = d := by
  have hb : batchFetch j d = match batchDue d j with
    | none => d
    | some q => if (job d j).st == 0 then d else if q.nbatch == 0 then mapStep d j q.n (fun q => { q with batch := 3 })
      else { mapStep d j q.n (fun q => { q with batch := 1, left := 32 * q.nbatch }) with
        rdTodo := d.rdTodo ++ [⟨0, j, q.n, q.list, 0, 32 * q.nbatch⟩] } := rfl
  rw [hb]
  split
  · rfl
  · next hq => rw [if_pos (by simpa [hq] using h)]

theorem batchFetch_some {q : StepReq} (h : batchDue d j = some q) (hst : (job d j).st ≠ 0) : batchFetch j d
    = if q.nbatch = 0 then mapStep d j q.n (fun q => { q with batch := 3 })
      else { mapStep d j q.n (fun q => { q with batch := 1, left := 32 * q.nbatch }) with
        rdTodo := d.rdTodo ++ [⟨0, j, q.n, q.list, 0, 32 * q.nbatch⟩] } := by
  unfold batchDue at h
  unfold batchFetch
  dsimp only
  rw [h]
  dsimp only
  rw [if_neg (by simpa using hst)]
  simp only [beq_iff_eq]

/-! ### Attempts -/

/-- No attempt of the job is held back (R28, R267, R482, R504, R565). -/
def attemptOpen (d : Device) (j : Nat) : Prop :=
  (job d j).st = 2 ∧ (job d j).stuck = false ∧ awake d = true ∧ hallTested d j = false ∧ changeDue d j = false

theorem attemptStart_shut (h : ¬attemptOpen d j) : attemptStart j d = d := by
  unfold attemptStart
  dsimp only
  rw [if_pos]
  by_contra hc
  simp only [Bool.or_eq_true, bne_iff_ne, ne_eq, Bool.not_eq_true', not_or, not_not, Bool.not_eq_true, Bool.not_eq_false] at hc
  obtain ⟨⟨⟨⟨h1, h2⟩, h3⟩, h4⟩, h5⟩ := hc
  exact h ⟨h1, h2, h3, h4, h5⟩

theorem attemptStart_open (h : attemptOpen d j) : attemptStart j d
    = if (job d j).verdict = 2 ∧ (job d j).phase ≠ 0 then
        if abandonDone d j = false then d
        else
          let r := landReset (restoreWords d j) j
          let c := (loadedCores r j).foldl clearCore r
          attemptBegin (setJob c j { job c j with attempt := ((job d j).attempt + 1) % 16 }) j
      else if (job d j).phase ≠ 0 ∨ (job d j).verdict ≠ 0 ∨ fld (getR d (devPage 2 + 0x118)) j j ≠ 0 then d
      else match (job d j).cur with
        | some _ => attemptBegin d j
        | none => match (job d j).queue with
          | [] => d
          | q :: rest =>
            if q.batch ≠ 3 then d
            else attemptBegin (setJob d j { job d j with cur := some q, queue := rest, step := q.n, attempt := 0, latched := false }) j := by
  obtain ⟨h1, h2, h3, h4, h5⟩ := h
  unfold attemptStart
  dsimp only
  rw [if_neg (by simp [h1, h2, h3, h4, h5])]
  simp only [Bool.and_eq_true, Bool.or_eq_true, beq_iff_eq, bne_iff_ne, Bool.not_eq_true', bit_eq_fld_ne_zero, or_assoc] <;> rfl

/-- The repeat of an abandoned attempt waits for what is left of it (R478). -/
theorem attemptStart_repeats (h : attemptOpen d j) (hp : (job d j).phase ≠ 0) (hv : (job d j).verdict = 2) : attemptStart j d
    = if abandonDone d j = false then d
      else
        let r := landReset (restoreWords d j) j
        let c := (loadedCores r j).foldl clearCore r
        attemptBegin (setJob c j { job c j with attempt := ((job d j).attempt + 1) % 16 }) j := by
  rw [attemptStart_open h, if_pos ⟨hv, hp⟩]

section
variable (h : attemptOpen d j) (hf : (job d j).phase = 0 ∧ (job d j).verdict = 0 ∧ fld (getR d (devPage 2 + 0x118)) j j = 0)
include h hf

theorem attemptStart_free : attemptStart j d = match (job d j).cur with
    | some _ => attemptBegin d j
    | none => match (job d j).queue with
      | [] => d
      | q :: rest =>
        if q.batch ≠ 3 then d
        else attemptBegin (setJob d j { job d j with cur := some q, queue := rest, step := q.n, attempt := 0, latched := false }) j := by
  obtain ⟨h1, h2, h3⟩ := hf
  rw [attemptStart_open h, if_neg (by simp [h1]), if_neg (by simp [h1, h2, h3])]

end

theorem attemptStart_busy (h : attemptOpen d j) (hr : ¬((job d j).phase ≠ 0 ∧ (job d j).verdict = 2))
    (hf : ¬((job d j).phase = 0 ∧ (job d j).verdict = 0 ∧ fld (getR d (devPage 2 + 0x118)) j j = 0)) : attemptStart j d = d := by
  rw [attemptStart_open h, if_neg (fun hc => hr hc.symm), if_pos]
  by_contra hc
  simp only [not_or, not_not] at hc
  exact hf hc

/-! ### Micro-batches -/

/-- A micro-batch can start (R254, R474). -/
def microDue (d : Device) (j : Nat) : Prop :=
  (job d j).st = 2 ∧ (job d j).stuck = false ∧ (job d j).phase = 1 ∧ (job d j).verdict = 0 ∧ landInFlight d j = false

theorem microBatchStart_waits (h : ¬microDue d j) : microBatchStart j d = d := by
  unfold microBatchStart
  dsimp only
  rw [if_pos]
  by_contra hc
  simp only [Bool.or_eq_true, bne_iff_ne, ne_eq, not_or, not_not, Bool.not_eq_true] at hc
  obtain ⟨⟨⟨⟨h1, h2⟩, h3⟩, h4⟩, h5⟩ := hc
  exact h ⟨h1, h2, h3, h4, h5⟩

theorem microBatchStart_due (h : microDue d j) : microBatchStart j d
    = let a := landReset d j
      let b := setJob a j { job a j with phase := 2, mStart := controlCycles a, mFirst := none, mLast := [] }
      (jobCores b j).foldl (coreBegin j) b := by
  obtain ⟨h1, h2, h3, h4, h5⟩ := h
  unfold microBatchStart
  dsimp only
  rw [if_neg (by simp [h1, h2, h3, h4, h5])]

/-- Every core of the micro-batch has ended (R474). -/
def microEnded (d : Device) (j : Nat) : Prop :=
  (job d j).st = 2 ∧ (job d j).phase = 2 ∧ (job d j).verdict = 0 ∧ ∀ e ∈ jobCores d j, (core d e.2).job = some j ∧ (core d e.2).st = .atEnd

theorem all_ended_iff : (jobCores d j).all (fun e => (core d e.2).job == some j && (core d e.2).st == .atEnd) = true
    ↔ ∀ e ∈ jobCores d j, (core d e.2).job = some j ∧ (core d e.2).st = .atEnd := by
  simp only [List.all_eq_true, Bool.and_eq_true, beq_iff_eq]

theorem microBatchDone_waits (h : ¬microEnded d j) : microBatchDone j d = d := by
  unfold microBatchDone
  dsimp only
  split
  · rfl
  · next hc =>
    simp only [Bool.or_eq_true, bne_iff_ne, ne_eq, not_or, not_not] at hc
    obtain ⟨⟨h1, h2⟩, h3⟩ := hc
    rw [if_pos]
    rw [Bool.not_eq_true', ← Bool.not_eq_true, all_ended_iff]
    exact fun ha => h ⟨h1, h2, h3, ha⟩

theorem microBatchDone_ended (h : microEnded d j) {q : StepReq} (hq : (job d j).cur = some q) : microBatchDone j d
    = setJob (paceBarrier d j) j (if q.nmicro ≤ (job d j).micro + 1 then { job (paceBarrier d j) j with phase := 3 }
      else { job (paceBarrier d j) j with phase := 1, micro := (job d j).micro + 1 }) := by
  obtain ⟨h1, h2, h3, h4⟩ := h
  unfold microBatchDone
  dsimp only
  rw [if_neg (by simp [h1, h2, h3]), if_neg (by rw [Bool.not_eq_true', all_ended_iff.2 h4]; decide), hq]
  simp only [decide_eq_true_eq]

end

/-- Settles O39: each command by whether its condition holds. -/
theorem stepAttempts : Obligations.StepAttempts := by
  unfold Obligations.StepAttempts
  intro j s
  dsimp only
  intro hj
  have hbf : exec (.batchFetch j) s = .next { s with dev := batchFetch j s.dev } := run_wf _ _ (by simp [Instr.wf, hj])
  have has : exec (.attemptStart j) s = .next { s with dev := attemptStart j s.dev } := run_wf _ _ (by simp [Instr.wf, hj])
  have hms : exec (.microBatchStart j) s = .next { s with dev := microBatchStart j s.dev } := run_wf _ _ (by simp [Instr.wf, hj])
  have hmd : exec (.microBatchDone j) s = .next { s with dev := microBatchDone j s.dev } := run_wf _ _ (by simp [Instr.wf, hj])
  refine ⟨⟨fun h => ?_, fun q hq hst hn => ?_, fun q hq hst hn => ⟨_, hbf, ?_⟩⟩, ⟨fun h => ?_, fun h hp hv ha => ?_, fun h hp hv ha => ?_, fun h hr hf => ?_,
    fun q h hf hc => ?_, fun q r h hf hc hq hb => ?_, fun h hf hc hq => ?_⟩, ⟨fun h => ?_, fun h => ?_⟩, ⟨fun q h hq => ?_, fun h => ?_⟩⟩
  · rw [hbf, batchFetch_none h]
  · rw [hbf, batchFetch_some hq hst, if_pos hn]
  · dsimp only
    rw [batchFetch_some hq hst, if_neg hn]
    exact ⟨rfl, rfl, rfl⟩
  · rw [has, attemptStart_shut h]
  · rw [has, attemptStart_repeats h hp hv, if_pos ha]
  · rw [has, attemptStart_repeats h hp hv, if_neg (by simp [ha])]
  · rw [has, attemptStart_busy h hr hf]
  · rw [has, attemptStart_free h hf, hc]
  · rw [has, attemptStart_free h hf, hc, hq]
    dsimp only
    rw [if_neg (not_not.2 hb)]
  · rw [has, attemptStart_free h hf, hc]
    dsimp only
    split
    · rfl
    · next hq' => rw [if_pos (hq _ (by rw [hq']; rfl))]
  · rw [hms, microBatchStart_due h]
  · rw [hms, microBatchStart_waits h]
  · rw [hmd, microBatchDone_ended h hq]
  · rw [hmd, microBatchDone_waits h]

end Sys2Proof.Machine
end

section
/-!
Registers by source (R574 to R577, R593): O42 fails at a read of a signal window, O43 holds.
-/
namespace Sys2Proof.Machine

/-! ### A read of a signal window -/

/-- Core 0 waits for 5 in word 0 of hall 0, and a set of that word to 5 waits at the store. -/
def windowRead : State :=
  { pending := []
    dev := { boot := { logicReady := true }
             sigs := [(0, { ops := [.set 0 5], mons := [⟨0, 5, 0, 0⟩] })]
             cores := [(0, { st := .swait, swait := some { word := 0, target := 5, mon := true, seen := false } })] } }

theorem windowRead_wakes : (core (rcRead 0 0x138000 windowRead.dev) 0).swait.isSome = false := by decide

/-- Refutes O42: a read through a signal window is an operation of the store (R319), which applies those that wait first; the set that waits here wakes
core 0, so that the cores are not as they were. -/
theorem not_registerAccess : ¬ Obligations.RegisterAccess := by
  unfold Obligations.RegisterAccess
  intro h
  obtain ⟨hgood, -⟩ := h.1 0 0x138000 0 windowRead (by decide) (by decide) (by decide)
  obtain ⟨-, -, t, hrun, -, -, hcores, -⟩ := hgood (by decide) (by decide)
  have hexec : exec (.rcRead 0 0x138000) windowRead = .next { windowRead with dev := rcRead 0 0x138000 windowRead.dev } :=
    run_wf (c := .rcRead 0 0x138000) (rcRead 0 0x138000) windowRead (by decide)
  rw [hexec] at hrun
  cases hrun
  have hwait : (core (rcRead 0 0x138000 windowRead.dev) 0).swait.isSome = true := by
    rw [core, hcores]
    decide
  rw [windowRead_wakes] at hwait
  cases hwait

end Sys2Proof.Machine
end

section
/-!
Plain storage, the LO half of a pair, and counters that clear when read (R8, R10, R118, R576, R593): O43.
-/
namespace Sys2Proof.Machine

/-- A wake changes the boot state alone. -/
theorem wake_boot (d : Device) (c : Nat) : wake d c = { d with boot := (wake d c).boot } := by
  unfold wake
  dsimp only
  split
  · rfl
  · split
    · split <;> rfl
    · split <;> rfl

/-- A module in RUN with no entry under way has nothing to wake from. -/
theorem wake_run {d : Device} (hs : d.boot.stage = 0) (hp : d.boot.pm = 0) (c : Nat) : wake d c = d := by
  simp [wake, hs, hp, wakes]

theorem find?_tset_self {α : Type} (t : Tab α) (k : Nat) (v : α) : (tset t k v).find? (fun e => e.1 == k) = some (k, v) := by
  induction t with
  | nil => simp [tset]
  | cons e t ih =>
    obtain ⟨k', v'⟩ := e
    simp only [tset]
    split
    · simp
    · split
      · simp
      · next h => rw [List.find?_cons_of_neg (by simpa using fun hk => h hk.symm), ih]

theorem hdr_setHdr_ne (d : Device) {p q : Nat} (x : Hdr) (h : q ≠ p) : hdr (setHdr d p x) q = hdr d q := tget_tset_ne _ _ _ _ _ h

section
variable {d : Device} {src off v : Nat}

/-- A write that reaches its page goes through the one write path (R576, R577, R631). -/
theorem writeBy_reaches (hr : reaches d src (off / 0x1000) = true) (h1 : src = 1 → off / 0x1000 ≠ dbgPage / 0x1000)
    (h0 : src = 0 → d.boot.running = true ∨ earlyPage (off / 0x1000) = true) (hoff : off ≠ dbgPage + 0x10C) :
    writeBy src off v d = cfgWrite src off v (wake d (if src = 2 then 4 else 1)) := by
  unfold writeBy
  dsimp only
  rw [if_neg, if_neg (by simpa using hoff)]
  · simp only [beq_iff_eq]
  · simp only [hr, Bool.not_true, Bool.false_or, Bool.or_eq_true, Bool.and_eq_true, beq_iff_eq, Bool.not_eq_true', not_or, not_and]
    exact ⟨fun hs hp => h1 hs hp, fun ⟨hs, hrun⟩ => by rcases h0 hs with h | h <;> simp_all⟩

section
variable (hlo : 0x10000 ≤ off) (hw : sigWindowHall off = none) (hp : (pageInfo (off / 0x1000)).isSome = true) (hr : 0x100 ≤ off % 0x1000)
include hlo hw hp hr

theorem cfgWrite_block : cfgWrite src off v d
    = if pairLo (off / 0x1000) (off % 0x1000) = true then (if (pairMask (off / 0x1000) (off % 0x1000)).isSome then holdLo src off v d else d)
      else if pairHi (off / 0x1000) (off % 0x1000) then commit src (off - 4) v d
      else if rwMask (off / 0x1000) (off % 0x1000) != 0 then setR d off (v &&& rwMask (off / 0x1000) (off % 0x1000))
      else specialWrite src (off / 0x1000) (off % 0x1000) v d := by
  unfold cfgWrite
  dsimp only
  rw [if_neg (Nat.not_lt.2 hlo), hw]
  dsimp only
  rw [if_neg (by rw [Option.isNone_eq_false_iff.2 hp]; exact Bool.false_ne_true), if_neg (Nat.not_lt.2 hr)]

theorem cfgWrite_plain (h1 : pairLo (off / 0x1000) (off % 0x1000) = false) (h2 : pairHi (off / 0x1000) (off % 0x1000) = false)
    (hm : rwMask (off / 0x1000) (off % 0x1000) ≠ 0) : cfgWrite src off v d = setR d off (v &&& rwMask (off / 0x1000) (off % 0x1000)) := by
  rw [cfgWrite_block hlo hw hp hr, h1, if_neg Bool.false_ne_true, h2, if_neg Bool.false_ne_true, if_pos (by simpa using hm)]

theorem cfgWrite_lo (h1 : pairLo (off / 0x1000) (off % 0x1000) = true) (hm : (pairMask (off / 0x1000) (off % 0x1000)).isSome = true) :
    cfgWrite src off v d = holdLo src off v d := by
  rw [cfgWrite_block hlo hw hp hr, h1, if_pos rfl, if_pos hm]

end

/-- A counter that clears when read answers its value and leaves zero (R8, R10, R118). -/
theorem cfgRead_counter (hlo : 0x10000 ≤ off) (hw : sigWindowHall off = none) (hr : 0x100 ≤ off % 0x1000) (hc : isRC (off / 0x1000) (off % 0x1000) = true)
    (h1 : pairLo (off / 0x1000) (off % 0x1000) = false) (h2 : pairHi (off / 0x1000) (off % 0x1000) = false)
    (hb : blockView d (off / 0x1000) (off % 0x1000) = none) :
    (cfgRead src off d).2 = { setR d off 0 with readOut := tset d.readOut src (BitVec.ofNat 32 (getR d off)), free := d.free + 1 } := by
  have hp : (pageInfo (off / 0x1000)).isNone = false := by
    rw [Bool.eq_false_iff]
    intro hn
    rw [isRC, Option.isNone_iff_eq_none.1 hn] at hc
    cases hc
  have hv : regValue d off = getR d off := by
    unfold regValue
    dsimp only
    rw [if_neg (Nat.not_lt.2 hr), hb]
    rfl
  have hclear : readClears d (off / 0x1000) off = setR d off 0 := by
    unfold readClears
    dsimp only
    rw [if_neg (by simp only [beq_iff_eq]; omega), if_pos hc]
  unfold cfgRead
  simp only [Nat.not_lt.2 hlo, if_false, hw, hp, Bool.false_eq_true, h1, h2, readCapture, hv, hclear]
  rfl

theorem isRC_dbg (r : Nat) : isRC (dbgPage / 0x1000) r = false := by
  have h : pageInfo (dbgPage / 0x1000) = some (16, 0, 0) := by decide
  rw [isRC, h]
  rfl

end

/-- Settles O43: a plain write, a held LO half, and a counter's read. -/
theorem plainRegistersAndCounters : Obligations.PlainRegistersAndCounters := by
  unfold Obligations.PlainRegistersAndCounters
  refine ⟨fun src off v s => ?_, fun src off s => ?_⟩
  · dsimp only
    intro hs ho h4 hlo hw hp hr hne hreach h1 h0
    have hwrite : writeBy src off v.toNat s.dev = cfgWrite src off v.toNat (wake s.dev (if src = 2 then 4 else 1)) := writeBy_reaches hreach h1 h0 hne
    refine ⟨fun hl hh hm => ⟨{ s with dev := registerWrite src off v s.dev }, run_wf _ _ (by simp [Instr.wf, hs, h4]; omega), ?_⟩,
      fun hl hm => ⟨{ s with dev := reg64LoWrite src off v s.dev }, run_wf _ _ (by simp [Instr.wf, hs, h4]; omega), ?_⟩⟩
    · dsimp only
      rw [registerWrite, hwrite, cfgWrite_plain hlo hw hp hr hl hh hm, wake_boot]
      refine ⟨?_, fun o ho => getR_setR_ne _ _ _ _ ho, rfl, rfl, rfl⟩
      rw [getR_setR]
      exact Nat.mod_eq_of_lt (lt_of_le_of_lt Nat.and_le_left v.isLt)
    · have hlo' : isLo off = true := by rw [isLo, hw]; exact hl
      dsimp only
      rw [reg64LoWrite, if_pos hlo', hwrite, cfgWrite_lo hlo hw hp hr hl hm, wake_boot]
      refine ⟨rfl, ?_, fun q hq => hdr_setHdr_ne _ _ hq⟩
      rw [holdLo, hdr_setHdr, find?_tset_self, BitVec.ofNat_toNat]
      simp
  · dsimp only
    intro hs ho h4 hlo hw hr hc h1 h2 hb hreach hst hpm
    refine ⟨{ s with dev := rcRead src off s.dev }, run_wf _ _ (by simp [Instr.wf, hs, h4]; omega), ?_⟩
    have hread : rcRead src off s.dev = (cfgRead src off s.dev).2 := by
      unfold rcRead readBy
      dsimp only
      rw [if_neg, hreach, if_neg (by decide), wake_run hst hpm]
      intro hd
      simp only [Bool.and_eq_true, beq_iff_eq] at hd
      rw [hd.2, isRC_dbg] at hc
      cases hc
    dsimp only
    rw [hread, cfgRead_counter hlo hw hr hc h1 h2 hb]
    exact ⟨tget_tset_self _ _ _ _, getR_setR _ _ _, fun o ho => getR_setR_ne _ _ _ _ ho⟩

end Sys2Proof.Machine
end

section
/-!
The Porter's messages (R518, R526, R539 to R541): what a message does on a transport that hears it and on one that does not, and where a response
stands. They settle O45.
-/
namespace Sys2Proof.Machine

/-! ### Bytes in a run of registers -/

theorem ofLE_lt (bs : List Byte) : ofLE bs < 256 ^ bs.length := by
  induction bs with
  | nil => simp [ofLE]
  | cons b t ih =>
    have := b.isLt
    simp only [ofLE, List.length_cons, Nat.pow_succ]
    omega

theorem toLE_ofLE (bs : List Byte) : toLE bs.length (ofLE bs) = bs := by
  induction bs with
  | nil => rfl
  | cons b t ih =>
    have hb := b.isLt
    have hlow : BitVec.ofNat 8 (b.toNat + 256 * ofLE t) = b := BitVec.eq_of_toNat_eq (by rw [BitVec.toNat_ofNat]; omega)
    have hhigh : (b.toNat + 256 * ofLE t) / 256 = ofLE t := by omega
    simp only [List.length_cons, toLE, ofLE, hlow, hhigh, ih]

@[simp] theorem length_toLE (n w : Nat) : (toLE n w).length = n := by
  induction n generalizing w with
  | zero => rfl
  | succ n ih => simp [toLE, ih]

theorem take_toLE {k n : Nat} (h : k ≤ n) (w : Nat) : (toLE n w).take k = toLE k w := by
  induction k generalizing n w with
  | zero => simp [toLE]
  | succ k ih =>
    obtain ⟨m, rfl⟩ : ∃ m, n = m + 1 := ⟨n - 1, by omega⟩
    simp [toLE, ih (Nat.le_of_succ_le_succ h)]

/-- What a register that took up to four bytes reads back. -/
theorem read_bytes (d : Device) (off : Nat) {bs : List Byte} (h : bs.length ≤ 4) :
    (toLE 4 (getR (setR d off (ofLE bs)) off)).take bs.length = bs := by
  have hlt : ofLE bs < 2 ^ 32 := lt_of_lt_of_le (ofLE_lt bs) (le_of_le_of_eq (Nat.pow_le_pow_right (by decide) h) (by decide))
  rw [getR_setR, Nat.mod_eq_of_lt hlt, take_toLE h, toLE_ofLE]

theorem regRead_step (d : Device) (off n : Nat) : regRead d off (n + 4) = toLE 4 (getR d off) ++ regRead d (off + 4) n := by
  have hn : (n + 4 + 3) / 4 = (n + 3) / 4 + 1 := by omega
  have htake : ∀ x y : List Byte, x.length = 4 → (x ++ y).take (n + 4) = x ++ y.take n := by
    intro x y hx
    rw [List.take_append, hx, List.take_of_length_le (by omega), Nat.add_sub_cancel]
  simp only [regRead, hn, List.range_succ_eq_map, List.map_cons, List.map_map, List.flatten_cons, Nat.mul_zero, Nat.add_zero]
  rw [htake _ _ (length_toLE _ _)]
  congr 4
  funext k
  simp only [Function.comp_apply, Nat.mul_succ]
  congr 2
  omega

theorem regRead_last (d : Device) (off : Nat) {n : Nat} (h0 : 0 < n) (h : n < 4) : regRead d off n = (toLE 4 (getR d off)).take n := by
  have hn : (n + 3) / 4 = 1 := by omega
  simp [regRead, hn]

/-- Bytes written to a run of registers change no register outside it. -/
theorem getR_regBytes_ne (d : Device) (off : Nat) (bs : List Byte) {o : Nat} (h : o < off ∨ off + bs.length ≤ o) : getR (regBytes d off bs) o = getR d o := by
  fun_induction regBytes d off bs with
  | case1 d off a b c e t ih =>
    simp only [List.length_cons] at h
    rw [ih (by omega), getR_setR_ne _ _ _ _ (by omega)]
  | case2 => rfl
  | case3 d off t _ hne =>
    have : t.length ≠ 0 := fun h0 => hne (List.length_eq_zero_iff.mp h0)
    exact getR_setR_ne _ _ _ _ (by omega)

/-- Bytes written to a run of registers are read back. -/
theorem regRead_regBytes (d : Device) (off : Nat) (bs : List Byte) : regRead (regBytes d off bs) off bs.length = bs := by
  fun_induction regBytes d off bs with
  | case1 d off a b c e t ih =>
    have hword := read_bytes d off (bs := [a, b, c, e]) (by simp)
    rw [List.take_of_length_le (by simp)] at hword
    rw [show (a :: b :: c :: e :: t).length = t.length + 4 from rfl, regRead_step, ih, getR_regBytes_ne _ _ _ (by omega), hword]
    rfl
  | case2 => rfl
  | case3 d off t hlong hne =>
    have h0 : t.length ≠ 0 := fun h0 => hne (List.length_eq_zero_iff.mp h0)
    have h4 : t.length < 4 := by
      by_contra hc
      match t, hlong, hc with
      | a :: b :: c :: e :: t, hlong, _ => exact hlong _ _ _ _ _ rfl
      | [], _, hc | [_], _, hc | [_, _], _, hc | [_, _, _], _, hc => simp at hc
    rw [regRead_last _ _ (by omega) h4, read_bytes _ _ (by omega)]

@[simp] theorem bare_regBytes (d : Device) (off : Nat) (bs : List Byte) : bare (regBytes d off bs) = bare d := by
  fun_induction regBytes d off bs with
  | case1 d off a b c e t ih => rw [ih, bare_setR]
  | case2 => rfl
  | case3 d off t => exact bare_setR _ _ _

theorem jobs_regBytes (d : Device) (off : Nat) (bs : List Byte) : (regBytes d off bs).jobs = d.jobs := by
  fun_induction regBytes d off bs with
  | case1 d off a b c e t ih => rw [ih]; rfl
  | case2 => rfl
  | case3 d off t => rfl

/-! ### Messages on their transport -/

/-- A wake leaves what the Porter runs. -/
theorem wake_porter (d : Device) (c : Nat) : (wake d c).boot.porterReady = d.boot.porterReady ∧ (wake d c).boot.recovery = d.boot.recovery := by
  have hexit : ∀ b : Boot, (startExit b).porterReady = b.porterReady ∧ (startExit b).recovery = b.recovery := by
    intro b
    unfold startExit
    dsimp only
    split
    · exact ⟨rfl, rfl⟩
    · split <;> exact ⟨rfl, rfl⟩
  unfold wake
  dsimp only
  split
  · exact ⟨rfl, rfl⟩
  · split
    · split <;> exact ⟨rfl, rfl⟩
    · split
      · exact hexit _
      · exact ⟨rfl, rfl⟩

section
variable {d : Device} {t : Transport} {cmd lo hi : Nat} {p : List Byte} {f : Device → Answer}

/-- A message that the Porter hears is carried out when its length is right, and answers BAD_LEN when it is not (R539). -/
theorem message_heard (h : heard d t cmd p = true) :
    message t cmd lo hi p f d = if p.length < lo ∨ hi < p.length then respond (listening d t) t cmd 2 [] else finish t cmd (f (listening d t)) := by
  cases t with
  | sideband =>
    obtain ⟨hready, hrec⟩ := wake_porter d 3
    simp only [heard, Bool.and_eq_true, Bool.not_eq_true', bne_iff_ne, ne_eq] at h
    obtain ⟨hw, ⟨⟨hv, hpm⟩, hrun⟩, hcmd⟩ := h
    have hbusy : ¬((d.porter.waits.any (fun w => w.1 == Transport.sideband)
        || (!(wake d 3).boot.porterReady && !(wake d 3).boot.recovery)) = true) := by
      rw [hready, hrec, hw]; simpa [or_iff_not_imp_left] using hrun
    have hbar : ¬(((wake d 3).boot.recovery && cmd != 1 && !(decide (0x10 ≤ cmd) && decide (cmd ≤ 0x14))) = true) := by
      rw [hrec]
      intro hc
      simp only [Bool.and_eq_true, Bool.not_eq_true', bne_iff_ne, ne_eq] at hc
      obtain ⟨⟨h1, h2⟩, h3⟩ := hc
      simp [h1, h2, h3] at hcmd
    show message Transport.sideband cmd lo hi p f d = _
    simp only [message]
    rw [if_neg (by simp [hv, hpm]), if_neg hbusy, if_neg hbar]
    simp only [Bool.or_eq_true, decide_eq_true_eq]
    rfl
  | mailbox =>
    simp only [heard, Bool.and_eq_true, Bool.not_eq_true'] at h
    obtain ⟨hw, hheld, hready⟩ := h
    simp only [message]
    rw [if_neg (by simp [hw, hheld, hready])]
    simp only [Bool.or_eq_true, decide_eq_true_eq]
    rfl

/-- A sideband without power answers nothing. -/
theorem message_unpowered (h : d.boot.vin = false ∨ d.boot.pm = 4) : message .sideband cmd lo hi p f d = d := by
  simp only [message]
  rw [if_pos (by simpa using h)]

/-- A Porter that restarts, or that has a request of the sideband waiting, answers BUSY. -/
theorem message_busy (hv : d.boot.vin = true) (hpm : d.boot.pm ≠ 4)
    (h : (d.porter.waits.any (fun w => w.1 == Transport.sideband) || (!(wake d 3).boot.porterReady && !(wake d 3).boot.recovery)) = true) :
    message .sideband cmd lo hi p f d = respond (wake d 3) .sideband cmd 1 [] := by
  simp only [message]
  rw [if_neg (by simp [hv, hpm]), if_pos h]

/-- Recovery refuses all but GET_STATUS and the FW_ messages (R526). -/
theorem message_recovery (hv : d.boot.vin = true) (hpm : d.boot.pm ≠ 4)
    (h : (d.porter.waits.any (fun w => w.1 == Transport.sideband) || (!(wake d 3).boot.porterReady && !(wake d 3).boot.recovery)) = false)
    (hr : (wake d 3).boot.recovery = true) (h1 : cmd ≠ 1) (hfw : cmd < 0x10 ∨ 0x14 < cmd) :
    message .sideband cmd lo hi p f d = respond (wake d 3) .sideband cmd 4 [] := by
  have hout : ¬(0x10 ≤ cmd ∧ cmd ≤ 0x14) := by omega
  simp only [message]
  rw [if_neg (by simp [hv, hpm]), if_neg (by rw [h]; exact Bool.false_ne_true),
    if_pos (by rw [hr]; simpa [h1] using hfw.imp (fun h => by omega) (fun h => by omega))]

/-- A mailbox request that the Porter does not hear changes nothing. -/
theorem message_unheard (h : heard d .mailbox cmd p = false) : message .mailbox cmd lo hi p f d = d := by
  simp only [message]
  refine if_pos ?_
  by_contra hc
  simp only [Bool.or_eq_true, Bool.not_eq_true', not_or, Bool.not_eq_false, Bool.not_eq_true] at hc
  obtain ⟨⟨hheld, hw⟩, hready⟩ := hc
  have hw' : d.porter.waits.any (fun w => w.1 == Transport.mailbox) = false := hw
  simp [heard, hheld, hw', hready] at h

end

section
variable (t : Transport) (p : List Byte) (s : State)

theorem exec_getStatus : exec (.getStatus t p) s = .next { s with dev := getStatus t p s.dev } := run_wf (c := .getStatus t p) (getStatus t p) s rfl

theorem exec_alertAck : exec (.alertAck t p) s = .next { s with dev := alertAck t p s.dev } := run_wf (c := .alertAck t p) (alertAck t p) s rfl

theorem exec_readSensor (fresh : Option (BitVec 16)) : exec (.readSensor t p fresh) s = .next { s with dev := readSensor t p fresh s.dev } :=
  run_wf (c := .readSensor t p fresh) (readSensor t p fresh) s rfl

theorem exec_setChassisTemp : exec (.setChassisTemp t p) s = .next { s with dev := setChassisTemp t p s.dev } := run_wf (c := .setChassisTemp t p) (setChassisTemp t p) s rfl

theorem exec_readLog : exec (.readLog t p) s = .next { s with dev := readLog t p s.dev } := run_wf (c := .readLog t p) (readLog t p) s rfl

theorem exec_wakeMsg : exec (.wakeMsg t p) s = .next { s with dev := wakeMsg t p s.dev } := run_wf (c := .wakeMsg t p) (wakeMsg t p) s rfl

theorem exec_resetModule : exec (.resetModule t p) s = .next { s with dev := resetModule t p s.dev } := run_wf (c := .resetModule t p) (resetModule t p) s rfl

theorem exec_setRtc : exec (.setRtc t p) s = .next { s with dev := setRtc t p s.dev } := run_wf (c := .setRtc t p) (setRtc t p) s rfl

theorem exec_setAlarm : exec (.setAlarm t p) s = .next { s with dev := setAlarm t p s.dev } := run_wf (c := .setAlarm t p) (setAlarm t p) s rfl

theorem exec_fwBegin : exec (.fwBegin t p) s = .next { s with dev := fwBegin t p s.dev } := run_wf (c := .fwBegin t p) (fwBegin t p) s rfl

theorem exec_fwData : exec (.fwData t p) s = .next { s with dev := fwData t p s.dev } := run_wf (c := .fwData t p) (fwData t p) s rfl

theorem exec_fwVerify : exec (.fwVerify t p) s = .next { s with dev := fwVerify t p s.dev } := run_wf (c := .fwVerify t p) (fwVerify t p) s rfl

theorem exec_fwActivate : exec (.fwActivate t p) s = .next { s with dev := fwActivate t p s.dev } := run_wf (c := .fwActivate t p) (fwActivate t p) s rfl

theorem exec_fwCommit : exec (.fwCommit t p) s = .next { s with dev := fwCommit t p s.dev } := run_wf (c := .fwCommit t p) (fwCommit t p) s rfl

theorem exec_getIdentity : exec (.getIdentity t p) s = .next { s with dev := getIdentity t p s.dev } := run_wf (c := .getIdentity t p) (getIdentity t p) s rfl

theorem exec_attestReq : exec (.attestReq t p) s = .next { s with dev := attestReq t p s.dev } := run_wf (c := .attestReq t p) (attestReq t p) s rfl

theorem exec_attestRead : exec (.attestRead t p) s = .next { s with dev := attestRead t p s.dev } := run_wf (c := .attestRead t p) (attestRead t p) s rfl

theorem exec_fenceUnit : exec (.fenceUnit t p) s = .next { s with dev := fenceUnit t p s.dev } := run_wf (c := .fenceUnit t p) (fenceUnit t p) s rfl

theorem exec_releaseUnit : exec (.releaseUnit t p) s = .next { s with dev := releaseUnit t p s.dev } := run_wf (c := .releaseUnit t p) (releaseUnit t p) s rfl

theorem exec_selfTest : exec (.selfTest t p) s = .next { s with dev := selfTest t p s.dev } := run_wf (c := .selfTest t p) (selfTest t p) s rfl

end

/-- The commands of the message set with their codes and the bounds of their lengths (R542). -/
def messageRows (t : Transport) (p : List Byte) (fresh : Option (BitVec 16)) : List (Instr × Nat × Nat × Nat) :=
  [(Instr.getStatus t p, 1, 0, 0), (.alertAck t p, 2, 4, 4), (.readSensor t p fresh, 3, 2, 2), (.setChassisTemp t p, 4, 4, 4),
   (.readLog t p, 5, 5, 5), (.wakeMsg t p, 6, 0, 0), (.resetModule t p, 7, 1, 1), (.setRtc t p, 8, 8, 8), (.setAlarm t p, 9, 8, 8),
   (.fwBegin t p, 0x10, 5, 5), (.fwData t p, 0x11, 4, if t = .sideband then 255 else 1028), (.fwVerify t p, 0x12, 0, 0),
   (.fwActivate t p, 0x13, 0, 0), (.fwCommit t p, 0x14, 1, 1), (.getIdentity t p, 0x20, 4, 4), (.attestReq t p, 0x21, 48, 48),
   (.attestRead t p, 0x22, 4, 4), (.fenceUnit t p, 0x30, 5, 5), (.releaseUnit t p, 0x31, 5, 5), (.selfTest t p, 0x32, 5, 5)]

/-- Every command of the set is a message of its code and its bounds. -/
theorem exec_messageRows (t : Transport) (p : List Byte) (fresh : Option (BitVec 16)) (s : State) {row : Instr × Nat × Nat × Nat}
    (h : row ∈ messageRows t p fresh) : ∃ f, exec row.1 s = .next { s with dev := message t row.2.1 row.2.2.1 row.2.2.2 p f s.dev } := by
  simp only [messageRows, List.mem_cons, List.not_mem_nil, or_false] at h
  rcases h with rfl | rfl | rfl | rfl | rfl | rfl | rfl | rfl | rfl | rfl | rfl | rfl | rfl | rfl | rfl | rfl | rfl | rfl | rfl | rfl
  · exact ⟨_, exec_getStatus t p s⟩
  · exact ⟨_, exec_alertAck t p s⟩
  · exact ⟨_, exec_readSensor t p s fresh⟩
  · exact ⟨_, exec_setChassisTemp t p s⟩
  · exact ⟨_, exec_readLog t p s⟩
  · exact ⟨_, exec_wakeMsg t p s⟩
  · exact ⟨_, exec_resetModule t p s⟩
  · exact ⟨_, exec_setRtc t p s⟩
  · exact ⟨_, exec_setAlarm t p s⟩
  · exact ⟨_, exec_fwBegin t p s⟩
  · obtain rfl | rfl : t = .sideband ∨ t = .mailbox := by cases t <;> simp
    all_goals exact ⟨_, exec_fwData _ p s⟩
  · exact ⟨_, exec_fwVerify t p s⟩
  · exact ⟨_, exec_fwActivate t p s⟩
  · exact ⟨_, exec_fwCommit t p s⟩
  · exact ⟨_, exec_getIdentity t p s⟩
  · exact ⟨_, exec_attestReq t p s⟩
  · exact ⟨_, exec_attestRead t p s⟩
  · exact ⟨_, exec_fenceUnit t p s⟩
  · exact ⟨_, exec_releaseUnit t p s⟩
  · exact ⟨_, exec_selfTest t p s⟩

/-- A response over the mailbox stands in MBX_RESP. -/
theorem respond_mailbox (d : Device) (cmd status : Nat) (payload : List Byte) : let e := respond d .mailbox cmd status payload
    regRead e (porterPage + 0x900) (4 + payload.length) = toLE 1 status ++ toLE 1 cmd ++ toLE 2 payload.length ++ payload
    ∧ e.stack = d.stack ∧ e.cores = d.cores ∧ e.jobs = d.jobs
    ∧ ∀ o, (o < porterPage + 0x900 ∨ porterPage + 0x900 + (4 + payload.length) ≤ o) → getR e o = getR d o := by
  have hlen : (toLE 1 status ++ toLE 1 cmd ++ toLE 2 payload.length ++ payload).length = 4 + payload.length := by simp; omega
  refine ⟨?_, ?_, ?_, jobs_regBytes _ _ _, fun o ho => ?_⟩
  · rw [← hlen]
    exact regRead_regBytes _ _ _
  · exact (show _ = (regBytes d _ _).stack from rfl).trans (eq_of_erased bare Device.stack (fun _ => rfl) (bare_regBytes d _ _))
  · exact (show _ = (regBytes d _ _).cores from rfl).trans (eq_of_erased bare Device.cores (fun _ => rfl) (bare_regBytes d _ _))
  · rw [← hlen] at ho
    exact getR_regBytes_ne _ _ _ ho

/-- Settles O45: every command of the set goes through `message`, and a response over the mailbox is a run of registers. -/
theorem porterResponses : Obligations.PorterResponses := by
  refine ⟨fun d cmd status payload => ⟨rfl, fun hlen _ _ => ?_⟩, fun t p fresh s => ?_⟩
  · obtain ⟨hread, hstack, hcores, hjobs, hreg⟩ := respond_mailbox d cmd status payload
    refine ⟨hread, rfl, rfl, hstack, hcores, hjobs, fun o ho => hreg o (ho.imp_right fun h => ?_)⟩
    have hend : 0x900 + (4 + payload.length) ≤ 0xE00 := by omega
    rw [Nat.add_assoc]
    exact (Nat.add_le_add_left hend porterPage).trans h
  · intro d row hrow c cmd
    obtain ⟨f, hexec⟩ := exec_messageRows t p fresh s hrow
    rw [show exec c s = _ from hexec]
    refine ⟨fun hh hlen => ?_, fun ht hv => ?_, fun ht hv hpm => ⟨fun hb => ?_, fun hb hr h1 hfw => ?_⟩, fun ht hh => ?_⟩
    · rw [message_heard hh, if_pos hlen]
    · subst ht; rw [message_unpowered hv]
    · subst ht; rw [message_busy hv hpm hb]; rfl
    · subst ht; rw [message_recovery hv hpm hb hr h1 hfw]; rfl
    · subst ht; rw [message_unheard hh]

end Sys2Proof.Machine
end

section
/-!
The Porter's messages that read and that control (R534, R537, R542 to R546, R624): O46 and O47.
-/
namespace Sys2Proof.Machine

/-! ### The answer of a message that is heard -/

section
variable {d : Device} {t : Transport} {cmd lo hi : Nat} {p : List Byte} {f : Device → Answer}

/-- A message that the Porter hears, with a length within its bounds, is carried out. -/
theorem message_runs (h : heard d t cmd p = true) (hlo : lo ≤ p.length) (hhi : p.length ≤ hi) :
    message t cmd lo hi p f d = finish t cmd (f (listening d t)) := by
  rw [message_heard h, if_neg (by omega)]

/-- An answer of a message that changes no state. -/
theorem finish_answer (e : Device) (t : Transport) (cmd status : Nat) (payload : List Byte) :
    finish t cmd (answer e status payload) = respond e t cmd status payload := rfl

end

/-- What the Porter keeps, without the response that a transport holds. -/
def unanswered (x : Porter) : Porter := { x with side := none, mbxBusy := false, mbxDone := false }

theorem porter_log (d : Device) (ty sv : Nat) (p : List Byte) : (log d ty sv p).porter = d.porter :=
  eq_of_erased bare Device.porter (fun _ => rfl) (bare_log d ty sv p)

theorem unanswered_respond (d : Device) (t : Transport) (cmd status : Nat) (payload : List Byte) :
    unanswered (respond d t cmd status payload).porter = unanswered d.porter := by
  cases t
  · rfl
  · have h := eq_of_erased bare Device.porter (fun _ => rfl) (bare_regBytes d (porterPage + 0x900)
      (toLE 1 status ++ toLE 1 cmd ++ toLE 2 payload.length ++ payload))
    simp only [respond, h]
    rfl

theorem unanswered_finish (d : Device) (t : Transport) (cmd status : Nat) (payload : List Byte) (ch : Bool) :
    unanswered (finish t cmd (answer d status payload ch)).porter = unanswered d.porter := by
  simp only [finish, answer]
  rw [unanswered_respond]
  split
  · rw [porter_log]
  · rfl

/-- A part of the Porter that holds no response is the same after an answer. -/
theorem porter_finish {β : Type} (F : Porter → β) (hF : ∀ x, F (unanswered x) = F x) (d : Device) (t : Transport) (cmd status : Nat)
    (payload : List Byte) (ch : Bool) : F (finish t cmd (answer d status payload ch)).porter = F d.porter := by
  rw [← hF, unanswered_finish, hF]

theorem stack_respond (d : Device) (t : Transport) (cmd status : Nat) (payload : List Byte) : (respond d t cmd status payload).stack = d.stack := by
  cases t
  · rfl
  · exact (respond_mailbox d cmd status payload).2.1

theorem stack_finish (d : Device) (t : Transport) (cmd status : Nat) (payload : List Byte) (ch : Bool) :
    (finish t cmd (answer d status payload ch)).stack = d.stack := by
  simp only [finish, answer]
  rw [stack_respond]
  split
  · exact eq_of_erased bare Device.stack (fun _ => rfl) (bare_log d _ _ _)
  · rfl

theorem getR_log_ne (d : Device) (ty sv : Nat) (p : List Byte) {o : Nat} (h0 : o ≠ porterPage + 0x120) (h4 : o ≠ porterPage + 0x124) :
    getR (log d ty sv p) o = getR d o := by
  have hset : ∀ (e : Device), e.regs = d.regs → getR (setR e (porterPage + 0x120) d.logNext) o = getR d o := fun e he => by
    rw [getR_setR_ne _ _ _ _ h0, getR_of_regs he]
  simp only [log]
  split
  · unfold flushLog
    dsimp only
    split
    · exact hset _ rfl
    · exact (getR_bump_ne _ _ h4).trans (hset _ rfl)
  · exact hset _ rfl

/-- An answer leaves the RTC. -/
theorem rtc_finish (d : Device) (t : Transport) (cmd status : Nat) (ch : Bool) :
    get64 (finish t cmd (answer d status [] ch)) (porterPage + 0x118) = get64 d (porterPage + 0x118) := by
  have hrespond : ∀ e : Device, ∀ o, o < porterPage + 0x900 → getR (respond e t cmd status []) o = getR e o := fun e o ho => by
    cases t
    · rfl
    · obtain ⟨-, -, -, -, hreg⟩ := respond_mailbox e cmd status []
      exact hreg o (Or.inl ho)
  simp only [finish, answer, get64]
  rw [hrespond _ _ (by decide), hrespond _ _ (by decide)]
  split
  · rw [getR_log_ne _ _ _ _ (by decide) (by decide), getR_log_ne _ _ _ _ (by decide) (by decide)]
  · rfl

/-! ### READ_SENSOR -/

section
variable {d : Device} {t : Transport} {p : List Byte} (h : heard d t 3 p = true) (hlen : p.length = 2)
include h hlen

theorem readSensor_none {fresh : Option (BitVec 16)} (hx : sensorDesc (ofLE p) = none) : readSensor t p fresh d = respond (listening d t) t 3 3 [] := by
  rw [readSensor, message_runs h hlen.ge hlen.le]
  dsimp only
  rw [hx]
  rfl

theorem readSensor_last {x : SensorDesc} (hx : sensorDesc (ofLE p) = some x) :
    readSensor t p none d = finish t 3 (sensorReply (listening d t) (ofLE p) x false) := by
  rw [readSensor, message_runs h hlen.ge hlen.le]
  dsimp only
  rw [hx]

/-- A sensor that the hub does not convert now answers its last sample. -/
theorem readSensor_kept {x : SensorDesc} {v : BitVec 16} (hx : sensorDesc (ofLE p) = some x)
    (hc : x.locKind = 1 ∨ 5 ≤ x.locKind ∨ (listening d t).boot.oscReady = false ∨ asleep (listening d t) = true) :
    readSensor t p (some v) d = finish t 3 (sensorReply (listening d t) (ofLE p) x false) := by
  rw [readSensor, message_runs h hlen.ge hlen.le]
  dsimp only
  rw [hx]
  dsimp only
  rw [if_pos (by simpa [or_assoc] using hc)]

theorem readSensor_converted {x : SensorDesc} {v : BitVec 16} (hx : sensorDesc (ofLE p) = some x) (hk : x.locKind ≠ 1) (hl : x.locKind < 5)
    (ho : (listening d t).boot.oscReady = true) (ha : asleep (listening d t) = false) :
    readSensor t p (some v) d = finish t 3 (sensorReply (sensorSample (listening d t) (ofLE p) v.toNat) (ofLE p) x true) := by
  rw [readSensor, message_runs h hlen.ge hlen.le]
  dsimp only
  rw [hx]
  dsimp only
  rw [if_neg (by simp [hk, hl, ho, ha])]

end

/-! ### The messages that read -/

section
variable {d : Device} {t : Transport} {p : List Byte}

theorem readLog_records (h : heard d t 5 p = true) (hlen : p.length = 5) (h1 : 1 ≤ leAt p 4 1) (h2 : leAt p 4 1 ≤ if t = .sideband then 3 else 16) :
    readLog t p d = respond (listening d t) t 5 0 ((((listening d t).logRing ++ (listening d t).logFront).filter
      (fun r => (r.seq + 2 ^ 32 - leAt p 0 4) % 2 ^ 32 < leAt p 4 1)).map recordBytes).flatten := by
  rw [readLog, message_runs h hlen.ge hlen.le]
  dsimp only
  rw [if_neg, finish_answer]
  simp only [Bool.or_eq_true, beq_iff_eq, decide_eq_true_eq]
  omega

theorem readLog_range (h : heard d t 5 p = true) (hlen : p.length = 5) (hn : leAt p 4 1 = 0 ∨ (if t = .sideband then 3 else 16) < leAt p 4 1) :
    readLog t p d = respond (listening d t) t 5 3 [] := by
  rw [readLog, message_runs h hlen.ge hlen.le]
  dsimp only
  rw [if_pos (by simpa using hn), finish_answer]

theorem getIdentity_runs (h : heard d t 0x20 p = true) (hlen : p.length = 4) : getIdentity t p d =
    if 17120 ≤ ofLE p then respond (listening d t) t 0x20 3 []
    else respond (listening d t) t 0x20 0 (((Config.identity.take 17120).drop (ofLE p)).take (replyMax t)) := by
  rw [getIdentity, message_runs h hlen.ge hlen.le]
  split <;> rfl

theorem attestRead_asleep (h : heard d t 0x22 p = true) (hlen : p.length = 4) (ha : asleep (listening d t) = true) :
    attestRead t p d = respond (listening d t) t 0x22 4 [] := by
  rw [attestRead, message_runs h hlen.ge hlen.le]
  rw [if_pos ha, finish_answer]

/-- ATTEST_READ of a module that does not sleep, by the state of its report. -/
theorem attestRead_awake (h : heard d t 0x22 p = true) (hlen : p.length = 4) (ha : asleep (listening d t) = false) : attestRead t p d =
    finish t 0x22 (if (listening d t).porter.attest == 0 then answer (listening d t) 7
      else if (listening d t).porter.attest == 1 then answer (listening d t) 1
      else if 16928 ≤ ofLE p then answer (listening d t) 3
      else answer (listening d t) 0 ((((listening d t).porter.report.take 16928).drop (ofLE p)).take (replyMax t))) := by
  rw [attestRead, message_runs h hlen.ge hlen.le]
  rw [if_neg (by rw [ha]; exact Bool.false_ne_true)]

theorem attestReq_asleep (h : heard d t 0x21 p = true) (hlen : p.length = 48) (ha : asleep (listening d t) = true) :
    attestReq t p d = respond (listening d t) t 0x21 4 [] := by
  rw [attestReq, message_runs h hlen.ge hlen.le]
  dsimp only
  rw [if_pos ha, finish_answer]

/-- The module with a report over a nonce asked for. -/
def attesting (d : Device) (nonce : List Byte) : Device :=
  { d with porter := { d.porter with
      attest := 1, nonce := nonce, report := reportHead d nonce ++ Config.rsaSign (reportHead d nonce) ++ Config.slhSign (reportHead d nonce) } }

theorem attestReq_awake (h : heard d t 0x21 p = true) (hlen : p.length = 48) (ha : asleep (listening d t) = false) :
    attestReq t p d = finish t 0x21 (answer (attesting (listening d t) p) 0 [] true) := by
  rw [attestReq, message_runs h hlen.ge hlen.le]
  dsimp only
  rw [if_neg (by rw [ha]; exact Bool.false_ne_true)]
  rfl

end

/-- The messages that read, with a sensor's sample. -/
theorem porterReads (t : Transport) (p : List Byte) (s : State) (h : heard s.dev t 3 p = true) (hlen : p.length = 2) :
    let d := listening s.dev t
    ∃ r, exec (.readSensor t p none) s = .next r
      ∧ (sensorDesc (ofLE p) = none → r.dev = respond d t 3 3 [])
      ∧ (∀ x k v, sensorDesc (ofLE p) = some x → d.porter.samples.find? (fun e => e.1 == ofLE p) = some (k, v) →
        r.dev = respond d t 3 0 (toLE 2 v.1 ++ toLE 4 (min (porterTicks d - v.2) 0xFFFFFFFF)
          ++ toLE 1 (1 + 4 * b2n (pastLimit x x.warn v.1) + 8 * b2n (pastLimit x x.trip v.1))))
      ∧ (∀ x, sensorDesc (ofLE p) = some x → d.porter.samples.find? (fun e => e.1 == ofLE p) = none →
        r.dev = respond (freeVal d).2 t 3 0 (toLE 2 (freeVal d).1.toNat ++ toLE 4 ((freeVal d).1.toNat / 65536) ++ [0])) := by
  intro d
  refine ⟨_, exec_readSensor t p s none, fun hx => readSensor_none (fresh := none) h hlen hx, fun x k v hx hv => ?_, fun x hx hv => ?_⟩
  · have hv' : (listening s.dev t).porter.samples.find? (fun e => e.1 == ofLE p) = some (k, v) := hv
    show readSensor t p none s.dev = _
    rw [readSensor_last h hlen hx, sensorReply, hv']
    rfl
  · have hv' : (listening s.dev t).porter.samples.find? (fun e => e.1 == ofLE p) = none := hv
    show readSensor t p none s.dev = _
    rw [readSensor_last h hlen hx, sensorReply, hv']
    rfl

/-- Settles O46: each message that reads, by the case of its argument. -/
theorem porterQueries : Obligations.PorterQueries := by
  refine ⟨fun t p s => ?_, fun t p s => ?_⟩
  · intro d
    refine ⟨fun h hp => ?_, fun h hlen h1 h2 => ?_, fun h hlen hn => ?_, fun h hlen ho => ?_, fun h hlen ha hr ho => ?_, fun h hlen ho => ?_,
      fun h hlen ha hr ho => ?_, porterReads t p s, fun v h hlen => ⟨fun hx => ?_, fun x hx hc => ?_⟩, fun v h hlen ho ha => ?_, fun h hp => ?_⟩
    · subst hp
      rw [exec_getStatus, getStatus, message_runs h (le_refl 0) (le_refl 0)]
      rfl
    · rw [exec_readLog, readLog_records h hlen h1 h2]
    · rw [exec_readLog, readLog_range h hlen hn]
    · rw [exec_getIdentity, getIdentity_runs h hlen, if_pos ho]
    · have hr' : (listening s.dev t).porter.attest = 2 := hr
      rw [exec_attestRead, attestRead_awake h hlen ha, hr', if_neg (by decide), if_neg (by decide), if_pos ho, finish_answer]
    · rw [exec_getIdentity, getIdentity_runs h hlen, if_neg (by omega)]
    · have hr' : (listening s.dev t).porter.attest = 2 := hr
      rw [exec_attestRead, attestRead_awake h hlen ha, hr', if_neg (by decide), if_neg (by decide), if_neg (by omega), finish_answer]
    · rw [exec_readSensor, readSensor_none h hlen hx]
    · rw [exec_readSensor, readSensor_kept h hlen hx hc]
    · exact ⟨_, exec_readSensor t p s (some v), fun x hx hk hl => readSensor_converted h hlen hx hk hl ho ha⟩
    · subst hp
      rw [exec_wakeMsg, wakeMsg, message_runs h (le_refl 0) (le_refl 0)]
      cases t <;> rfl
  · intro d
    refine ⟨fun h hlen ha => ?_, fun ha hlen h => ?_, fun ha hlen h => ?_, fun hn => ?_, fun h1 => ?_, fun h hlen ha hr => ?_, fun h hlen ha hr => ?_⟩
    · have hreq : (attestReq t p s.dev) = _ := attestReq_awake h hlen ha
      refine ⟨_, exec_attestReq t p s, ?_⟩
      show (attestReq t p s.dev).porter.attest = 1 ∧ (attestReq t p s.dev).porter.nonce = p ∧ (attestReq t p s.dev).porter.report = _
        ∧ (attestReq t p s.dev).stack = _
      rw [hreq]
      exact ⟨porter_finish Porter.attest (fun _ => rfl) _ _ _ _ _ _, porter_finish Porter.nonce (fun _ => rfl) _ _ _ _ _ _,
        porter_finish Porter.report (fun _ => rfl) _ _ _ _ _ _, stack_finish _ _ _ _ _ _⟩
    · rw [exec_attestReq, attestReq_asleep h hlen ha]
    · rw [exec_attestRead, attestRead_asleep h hlen ha]
    · rw [show exec .attestReady s = .next { s with dev := attestReady s.dev } from run_wf (c := .attestReady) attestReady s rfl, attestReady,
        if_neg (by simpa using hn)]
    · rw [show exec .attestReady s = .next { s with dev := attestReady s.dev } from run_wf (c := .attestReady) attestReady s rfl, attestReady,
        if_pos (by simpa using h1)]
    · have hr' : (listening s.dev t).porter.attest = 0 := hr
      rw [exec_attestRead, attestRead_awake h hlen ha, hr', if_pos (by decide), finish_answer]
    · have hr' : (listening s.dev t).porter.attest = 1 := hr
      rw [exec_attestRead, attestRead_awake h hlen ha, hr', if_neg (by decide), if_pos (by decide), finish_answer]

/-! ### The messages that control -/

section
variable {d : Device} {t : Transport} {p : List Byte}

/-- A message that names no unit answers BAD_ARG. -/
theorem unit_messages_none (hlen : p.length = 5) (hu : unitOf p = none) :
    (heard d t 0x30 p = true → fenceUnit t p d = respond (listening d t) t 0x30 3 [])
    ∧ (heard d t 0x31 p = true → releaseUnit t p d = respond (listening d t) t 0x31 3 [])
    ∧ (heard d t 0x32 p = true → selfTest t p d = respond (listening d t) t 0x32 3 []) := by
  refine ⟨fun h => ?_, fun h => ?_, fun h => ?_⟩
  · rw [fenceUnit, message_runs h hlen.ge hlen.le, hu]; rfl
  · rw [releaseUnit, message_runs h hlen.ge hlen.le, hu]; rfl
  · rw [selfTest, message_runs h hlen.ge hlen.le, hu]; rfl

/-- RELEASE_UNIT of a unit, by the fence that holds it. -/
theorem releaseUnit_unit {r : UnitRef} (h : heard d t 0x31 p = true) (hlen : p.length = 5) (hu : unitOf p = some r) : releaseUnit t p d =
    finish t 0x31 (match (listening d t).plan.maps.fences.find? (fun f => f.unit == r) with
      | some f => if f.reason == 0 then answer (listening d t) 4 else askTest t 0x31 1 r (listening d t)
      | none => askTest t 0x31 2 r (listening d t)) := by
  rw [releaseUnit, message_runs h hlen.ge hlen.le, hu] <;> rfl

theorem resetModule_bad {x : Byte} (h : heard d t 7 [x] = true) (hx : x ≠ 0xA5) : resetModule t [x] d = respond (listening d t) t 7 3 [] := by
  have hne : ofLE [x] ≠ 0xA5 := fun he => hx (BitVec.eq_of_toNat_eq (by simpa [ofLE] using he))
  rw [resetModule, message_runs h (le_refl 1) (le_refl 1)]
  rw [if_pos (by simpa using hne), finish_answer]

theorem resetModule_good (h : heard d t 7 [0xA5] = true) : resetModule t [0xA5] d =
    moduleReset (if t = .sideband then log (listening d t) 11 0 (toLE 1 7 ++ toLE 1 0) else listening d t) 2 := by
  rw [resetModule, message_runs h (le_refl 1) (le_refl 1)]
  rw [if_neg (by decide)]
  cases t <;> rfl

end

section
variable {d : Device} {t : Transport} {cmd : Byte} {p : List Byte}

theorem unknownCmd_listed (h : cmd.toNat ∈ messageSet) : unknownCmd t cmd p d = d := by
  simp only [unknownCmd]
  rw [if_pos (by simpa using h)]

/-- A command that the set does not list is heard as one without bounds of length that answers UNKNOWN_CMD. -/
theorem unknownCmd_unlisted (h : cmd.toNat ∉ messageSet) : unknownCmd t cmd p d = match t with
    | .sideband =>
      if !d.boot.vin || d.boot.pm == 4 then d
      else if d.porter.waits.any (fun w => w.1 == Transport.sideband) || (!(wake d 3).boot.porterReady && !(wake d 3).boot.recovery) then
        respond (wake d 3) t cmd.toNat 1 []
      else respond (wake d 3) t cmd.toNat 6 []
    | .mailbox =>
      if !mbxHolds d cmd.toNat p || d.porter.waits.any (fun w => w.1 == Transport.mailbox) || !d.boot.porterReady then d
      else respond d t cmd.toNat 6 [] := by
  simp only [unknownCmd]
  rw [if_neg (by simpa using h)]
  cases t <;> rfl

theorem unknownCmd_unpowered (h : cmd.toNat ∉ messageSet) (hv : d.boot.vin = false ∨ d.boot.pm = 4) : unknownCmd .sideband cmd p d = d := by
  rw [unknownCmd_unlisted h]
  exact if_pos (by simpa using hv)

theorem unknownCmd_busy (h : cmd.toNat ∉ messageSet) (hv : d.boot.vin = true) (hpm : d.boot.pm ≠ 4)
    (hb : d.porter.waits.any (fun w => w.1 == Transport.sideband) = true ∨ (d.boot.porterReady = false ∧ d.boot.recovery = false)) :
    unknownCmd .sideband cmd p d = respond (wake d 3) .sideband cmd.toNat 1 [] := by
  obtain ⟨hready, hrec⟩ := wake_porter d 3
  rw [unknownCmd_unlisted h]
  dsimp only
  rw [if_neg (by simp [hv, hpm]), if_pos]
  rw [hready, hrec]
  rcases hb with hb | ⟨h1, h2⟩
  · rw [hb]; rfl
  · rw [h1, h2]; simp

theorem unknownCmd_sideband (h : cmd.toNat ∉ messageSet) (hv : d.boot.vin = true) (hpm : d.boot.pm ≠ 4)
    (hw : d.porter.waits.any (fun w => w.1 == Transport.sideband) = false) (hb : d.boot.porterReady = true ∨ d.boot.recovery = true) :
    unknownCmd .sideband cmd p d = respond (wake d 3) .sideband cmd.toNat 6 [] := by
  obtain ⟨hready, hrec⟩ := wake_porter d 3
  rw [unknownCmd_unlisted h]
  dsimp only
  rw [if_neg (by simp [hv, hpm]), if_neg]
  rw [hready, hrec, hw]
  rcases hb with h1 | h1 <;> simp [h1]

theorem unknownCmd_mailbox (h : cmd.toNat ∉ messageSet) :
    unknownCmd .mailbox cmd p d = if heard d .mailbox cmd.toNat p = true then respond d .mailbox cmd.toNat 6 [] else d := by
  rw [unknownCmd_unlisted h]
  have hcond : (!mbxHolds d cmd.toNat p || d.porter.waits.any (fun w => w.1 == Transport.mailbox) || !d.boot.porterReady)
      = !heard d .mailbox cmd.toNat p := by
    simp only [heard, Bool.not_and, Bool.not_not]
    cases mbxHolds d cmd.toNat p <;> cases d.porter.waits.any (fun w => w.1 == Transport.mailbox) <;> rfl
  dsimp only
  rw [hcond]
  cases heard d .mailbox cmd.toNat p <;> rfl

end

theorem exec_unknownCmd (t : Transport) (cmd : Byte) (p : List Byte) (s : State) :
    exec (.unknownCmd t cmd p) s = .next { s with dev := unknownCmd t cmd p s.dev } := run_wf (c := .unknownCmd t cmd p) (unknownCmd t cmd p) s rfl

/-- Settles O47: each message that controls, by the case of its argument. -/
theorem porterControls : Obligations.PorterControls := by
  intro t p s d
  refine ⟨fun h hlen => ?_, fun h hlen ht => ?_, fun h hlen ht => ?_, fun x h hp hx => ?_, fun hlen hu => ?_, fun h hlen => ?_, fun h hlen => ?_,
    fun h hp => ?_, fun r h hlen hu => ?_, fun r h hlen hu => ⟨fun hf => ?_, fun f hf hr => ?_, fun f hf hr => ?_⟩, fun r h hlen hu => ?_,
    fun cmd hc => ?_, fun cmd hc => ⟨fun ht hv => ?_, fun ht hv hpm hb => ?_, fun ht hh => ?_, fun ht hv hpm hw hb => ?_, fun ht hh => ?_⟩⟩
  · rw [exec_alertAck, alertAck, message_runs h hlen.ge hlen.le]
  · subst ht
    rw [exec_setChassisTemp, setChassisTemp, message_runs h hlen.ge hlen.le]
    rfl
  · subst ht
    rw [exec_setChassisTemp, setChassisTemp, message_runs h hlen.ge hlen.le]
    rfl
  · subst hp; rw [exec_resetModule, resetModule_bad h hx]
  · obtain ⟨h1, h2, h3⟩ := unit_messages_none (d := s.dev) (t := t) hlen hu
    exact ⟨fun h => by rw [exec_fenceUnit, h1 h], fun h => by rw [exec_releaseUnit, h2 h], fun h => by rw [exec_selfTest, h3 h]⟩
  · have hrtc : setRtc t p s.dev = finish t 8 (answer (set64 (listening s.dev t) (porterPage + 0x118) (ofLE p)) 0 [] true) := by
      rw [setRtc, message_runs h hlen.ge hlen.le]
    refine ⟨_, exec_setRtc t p s, ?_⟩
    show get64 (setRtc t p s.dev) _ = _ ∧ (setRtc t p s.dev).stack = _
    have hlt : ofLE p < 2 ^ 64 := by simpa [hlen] using ofLE_lt p
    rw [hrtc, rtc_finish, stack_finish, get64_set64, Nat.mod_eq_of_lt hlt]
    exact ⟨rfl, rfl⟩
  · have halarm : setAlarm t p s.dev
        = finish t 9 (answer { listening s.dev t with porter := { (listening s.dev t).porter with alarm := ofLE p } } 0 [] true) := by
      rw [setAlarm, message_runs h hlen.ge hlen.le]
    refine ⟨_, exec_setAlarm t p s, ?_⟩
    show (setAlarm t p s.dev).porter.alarm = _ ∧ (setAlarm t p s.dev).stack = _
    rw [halarm, stack_finish]
    exact ⟨porter_finish Porter.alarm (fun _ => rfl) _ _ _ _ _ _, rfl⟩
  · subst hp; rw [exec_resetModule, resetModule_good h]
  · rw [exec_fenceUnit, fenceUnit, message_runs h hlen.ge hlen.le, hu]
  · have hfind : (listening s.dev t).plan.maps.fences.find? (fun f => f.unit == r) = none :=
      List.find?_eq_none.mpr fun f hm => by simpa using hf f hm
    rw [exec_releaseUnit, releaseUnit_unit h hlen hu, hfind]
  · have hf' : (listening s.dev t).plan.maps.fences.find? (fun f => f.unit == r) = some f := hf
    rw [exec_releaseUnit, releaseUnit_unit h hlen hu, hf']
    dsimp only
    rw [if_neg (by simpa using hr)]
  · have hf' : (listening s.dev t).plan.maps.fences.find? (fun f => f.unit == r) = some f := hf
    rw [exec_releaseUnit, releaseUnit_unit h hlen hu, hf']
    dsimp only
    rw [if_pos (by simpa using hr), finish_answer]
  · rw [exec_selfTest, selfTest, message_runs h hlen.ge hlen.le, hu]
  · rw [exec_unknownCmd, unknownCmd_listed hc]
  · subst ht; rw [exec_unknownCmd, unknownCmd_unpowered hc hv]
  · subst ht; rw [exec_unknownCmd, unknownCmd_busy hc hv hpm hb]; rfl
  · subst ht; rw [exec_unknownCmd, unknownCmd_mailbox hc, hh, if_neg (by decide)]
  · subst ht; rw [exec_unknownCmd, unknownCmd_sideband hc hv hpm hw hb]; rfl
  · subst ht; rw [exec_unknownCmd, unknownCmd_mailbox hc, hh, if_pos rfl]; rfl

end Sys2Proof.Machine
end

section
/-!
Firmware update (R524, R526 to R532): what refuses a FW_ message, and what each does of the Porter's slots and session. They settle O48.
-/
namespace Sys2Proof.Machine

/-! ### Tables and sets -/

theorem tget_writes_ne {α : Type} (z : α) (off : Nat) {k : Nat} (l : List (Nat × α)) (m : Tab α) (h : ∀ e ∈ l, off + e.1 ≠ k) :
    tget z (l.foldl (fun m e => tset m (off + e.1) e.2) m) k = tget z m k := by
  induction l generalizing m with
  | nil => rfl
  | cons e l ih =>
    simp only [List.forall_mem_cons] at h
    rw [List.foldl_cons, ih _ h.2, tget_tset_ne _ _ _ _ _ (Ne.symm h.1)]

/-- A table reads back what a run of writes put at a number, when every write there puts the same. -/
theorem tget_writes {α : Type} (z v : α) (off : Nat) {k : Nat} (l : List (Nat × α)) (m : Tab α) (hv : ∀ e ∈ l, off + e.1 = k → e.2 = v)
    (hk : ∃ e ∈ l, off + e.1 = k) : tget z (l.foldl (fun m e => tset m (off + e.1) e.2) m) k = v := by
  induction l generalizing m with
  | nil => simp at hk
  | cons e l ih =>
    simp only [List.forall_mem_cons] at hv
    rw [List.foldl_cons]
    by_cases hl : ∃ e ∈ l, off + e.1 = k
    · exact ih _ hv.2 hl
    · have hlast : off + e.1 = k := by
        obtain ⟨e', he', hk'⟩ := hk
        rcases List.mem_cons.mp he' with rfl | he'
        · exact hk'
        · exact absurd ⟨e', he', hk'⟩ hl
      rw [tget_writes_ne _ _ _ _ fun e' he' hk' => hl ⟨e', he', hk'⟩, ← hlast, tget_tset_self, hv.1 hlast]

/-- Bytes written from an offset on are read there. -/
theorem tget_chunk (bs : List Byte) (off : Nat) (m : Tab Byte) {i : Nat} (h : i < bs.length) :
    tget 0xFF (((List.range bs.length).zip bs).foldl (fun m e => tset m (off + e.1) e.2) m) (off + i) = bs[i] := by
  have hat : ∀ j (hj : j < ((List.range bs.length).zip bs).length), ((List.range bs.length).zip bs)[j] = (j, bs[j]'(by simpa using hj)) := by
    intro j hj
    simp
  refine tget_writes _ _ _ _ _ (fun e he hk => ?_) ⟨(i, bs[i]), ?_, rfl⟩
  · obtain ⟨j, hj, rfl⟩ := List.getElem_of_mem he
    rw [hat j hj] at hk ⊢
    have hji : j = i := Nat.add_left_cancel hk
    subst hji
    rfl
  · have hi : i < ((List.range bs.length).zip bs).length := by simpa using h
    rw [← hat i hi]
    exact List.getElem_mem hi

theorem contains_nins (l : List Nat) (k : Nat) : (nins l k).contains k = true := by
  induction l with
  | nil => simp [nins]
  | cons x l ih =>
    simp only [nins]
    split
    · simp
    · split
      · next h => simp [h]
      · simpa using Or.inr (by simpa using ih)

/-! ### What a FW_ message keeps of the module -/

@[simp] theorem bare_fwState (d : Device) (kind slot state code : Nat) : bare (fwState d kind slot state code) = bare d := by
  simp only [fwState, bare_pushEv, bare_log]

@[simp] theorem porter_fwState (d : Device) (kind slot state code : Nat) : (fwState d kind slot state code).porter = d.porter :=
  eq_of_erased bare Device.porter (fun _ => rfl) (bare_fwState d kind slot state code)

@[simp] theorem porter_flushLog (d : Device) : (flushLog d).porter = d.porter := eq_of_erased bare Device.porter (fun _ => rfl) (bare_flushLog d)

@[simp] theorem porter_porterRestart (d : Device) (cause : Nat) : (porterRestart d cause).porter = d.porter := porter_flushLog d

theorem activeSlot_lt (d : Device) (kind : Nat) : activeSlot d kind < 2 := Nat.mod_lt _ (by decide)

theorem activeSlot_closeSession (d : Device) (kind : Nat) : activeSlot (closeSession d) kind = activeSlot d kind := by
  unfold closeSession
  split <;> rfl

/-- What closing a session keeps of the Porter. -/
theorem porter_closeSession (d : Device) : (closeSession d).porter.act = d.porter.act ∧ (closeSession d).porter.svn = d.porter.svn := by
  unfold closeSession
  split <;> exact ⟨rfl, rfl⟩

theorem closeSession_none {d : Device} (h : d.porter.session = none) : closeSession d = d := by
  rw [closeSession, h]

/-! ### The messages -/

section
variable {d : Device} {t : Transport} {p : List Byte}

theorem fwBegin_runs (h : heard d t 0x10 p = true) (hlen : p.length = 5) : fwBegin t p d =
    let e := listening d t
    if fwRefused e t = true ∨ (e.boot.recovery = true ∧ leAt p 0 1 = 2) then respond e t 0x10 4 []
    else if (leAt p 0 1 ≠ 1 ∧ leAt p 0 1 ≠ 2) ∨ slotSize (leAt p 0 1) < leAt p 1 4 then respond e t 0x10 3 []
    else
      let c := closeSession e
      let c := eraseSlot c (leAt p 0 1) (1 - activeSlot c (leAt p 0 1)) (leAt p 1 4)
      finish t 0x10 (answer { c with porter := { c.porter with session := some { via := t, kind := leAt p 0 1, len := leAt p 1 4 } } } 0 [] true) := by
  rw [fwBegin, message_runs h hlen.ge hlen.le]
  simp only [Bool.or_eq_true, Bool.and_eq_true, bne_iff_ne, beq_iff_eq, decide_eq_true_eq]
  rw [apply_ite (finish t 0x10), apply_ite (finish t 0x10)]
  rfl

/-- The module with a chunk of an image taken into the slot of its session. -/
def takeChunk (d : Device) (x : Session) (off : Nat) (bs : List Byte) : Device :=
  let k := 2 * x.kind + (1 - activeSlot d x.kind)
  let s := tget {} d.porter.slots k
  let new := ((List.range bs.length).zip bs).foldl (fun m e => tset m (off + e.1) e.2) s.bytes
  let d := { d with porter := { d.porter with slots := tset d.porter.slots k { s with bytes := new }
                                              session := some { x with verified := false } } }
  if s.bytes.length < x.len && new.length == x.len then fwState d x.kind (1 - activeSlot d x.kind) 1 0 else d

theorem fwData_none (h : heard d t 0x11 p = true) (h4 : 4 ≤ p.length) (hmax : p.length ≤ if t = .sideband then 255 else 1028) (hs : (listening d t).porter.session = none) :
    fwData t p d = respond (listening d t) t 0x11 4 [] := by
  have hmax' : p.length ≤ if (t == Transport.sideband) = true then 255 else 1028 := by simpa using hmax
  rw [fwData, message_runs h h4 hmax']
  dsimp only
  rw [hs]
  rfl

theorem fwData_some (h : heard d t 0x11 p = true) (h4 : 4 ≤ p.length) (hmax : p.length ≤ if t = .sideband then 255 else 1028) {x : Session} (hs : (listening d t).porter.session = some x) :
    fwData t p d =
    let e := listening d t
    if fwRefused e t then respond e t 0x11 4 []
    else if x.len < leAt p 0 4 + (p.drop 4).length then respond e t 0x11 3 []
    else finish t 0x11 (answer (takeChunk e x (leAt p 0 4) (p.drop 4)) 0 [] true) := by
  have hmax' : p.length ≤ if (t == Transport.sideband) = true then 255 else 1028 := by simpa using hmax
  rw [fwData, message_runs h h4 hmax']
  dsimp only
  rw [hs]
  dsimp only
  rw [apply_ite (finish t 0x11), apply_ite (finish t 0x11)]
  rfl

theorem fwVerify_none (h : heard d t 0x12 [] = true) (hs : (listening d t).porter.session = none) :
    fwVerify t [] d = respond (listening d t) t 0x12 4 [] := by
  rw [fwVerify, message_runs h (le_refl 0) (le_refl 0)]
  dsimp only
  rw [hs]
  rfl

theorem fwVerify_some (h : heard d t 0x12 [] = true) {x : Session} (hs : (listening d t).porter.session = some x) :
    fwVerify t [] d =
    let e := listening d t
    if fwRefused e t || asleep e then respond e t 0x12 4 []
    else if imageOk e x.kind (1 - activeSlot e x.kind) then
      finish t 0x12 (answer (fwState { e with porter := { e.porter with session := some { x with verified := true } } } x.kind (1 - activeSlot e x.kind)
        2 0) 0 (toLE 2 0) true)
    else
      finish t 0x12 (answer (rejectImage { e with porter := { e.porter with session := some { x with verified := false } } } x.kind
        (1 - activeSlot e x.kind)) 5 (toLE 2 16) true) := by
  rw [fwVerify, message_runs h (le_refl 0) (le_refl 0)]
  dsimp only
  rw [hs]
  dsimp only
  rw [apply_ite (finish t 0x12), apply_ite (finish t 0x12)]
  rfl

/-- The module with the image of a session ACTIVE in TRIAL (R529). -/
def activated (d : Device) (x : Session) : Device :=
  let slot := 1 - activeSlot d x.kind
  fwState { d with porter := { d.porter with act := tset d.porter.act x.kind slot, trial := nins d.porter.trial x.kind
                                             tries := tset d.porter.tries x.kind 0, session := none } } x.kind slot 3 0

theorem fwActivate_none (h : heard d t 0x13 [] = true) (hs : (listening d t).porter.session = none) :
    fwActivate t [] d = respond (listening d t) t 0x13 4 [] := by
  rw [fwActivate, message_runs h (le_refl 0) (le_refl 0)]
  dsimp only
  rw [hs]
  rfl

theorem fwActivate_some (h : heard d t 0x13 [] = true) {x : Session} (hs : (listening d t).porter.session = some x) :
    fwActivate t [] d =
    let e := listening d t
    if fwRefused e t || asleep e || !x.verified then respond e t 0x13 4 []
    else if x.kind == 1 then
      porterRestart (finish t 0x13 (answer { activated e x with boot := { (activated e x).boot with recovery := false } } 0 [] true)) 0
    else finish t 0x13 (answer (activated e x) 0 [] true) := by
  rw [fwActivate, message_runs h (le_refl 0) (le_refl 0)]
  dsimp only
  rw [hs]
  dsimp only
  rw [apply_ite (finish t 0x13), apply_ite (finish t 0x13)]
  rfl

theorem fwCommit_runs (h : heard d t 0x14 p = true) (hlen : p.length = 1) : fwCommit t p d =
    let e := listening d t
    let kind := leAt p 0 1
    if fwRefused e t || asleep e then respond e t 0x14 4 []
    else if kind != 1 && kind != 2 then respond e t 0x14 3 []
    else if inTrial e kind || (e.boot.recovery && kind == 2) then respond e t 0x14 4 []
    else
      let n := max (fusedSvn e kind) (min 64 (imageSvn e kind (activeSlot e kind)))
      finish t 0x14 (answer (fwState { e with porter := { e.porter with svn := tset e.porter.svn kind n } } kind (activeSlot e kind) 6 0) 0 (toLE 1 n) true) := by
  rw [fwCommit, message_runs h hlen.ge hlen.le]
  dsimp only
  rw [apply_ite (finish t 0x14), apply_ite (finish t 0x14), apply_ite (finish t 0x14)]
  rfl

/-! ### What a message that is taken does -/

theorem porter_takeChunk (e : Device) (x : Session) (off : Nat) (bs : List Byte) :
    (takeChunk e x off bs).porter.session = some { x with verified := false } ∧ (takeChunk e x off bs).porter.svn = e.porter.svn
    ∧ ∀ i (hi : i < bs.length), tget 0xFF (tget {} (takeChunk e x off bs).porter.slots (2 * x.kind + (1 - activeSlot e x.kind))).bytes (off + i) = bs[i] := by
  have hslot : ∀ m : Tab FwSlot, m = tset e.porter.slots (2 * x.kind + (1 - activeSlot e x.kind))
      { tget {} e.porter.slots (2 * x.kind + (1 - activeSlot e x.kind)) with
        bytes := ((List.range bs.length).zip bs).foldl (fun m e => tset m (off + e.1) e.2) (tget {} e.porter.slots (2 * x.kind + (1 - activeSlot e x.kind))).bytes } →
      ∀ i (hi : i < bs.length), tget 0xFF (tget {} m (2 * x.kind + (1 - activeSlot e x.kind))).bytes (off + i) = bs[i] := by
    rintro m rfl i hi
    rw [tget_tset_self]
    exact tget_chunk bs off _ hi
  unfold takeChunk
  dsimp only
  split
  · rw [porter_fwState]
    exact ⟨rfl, rfl, hslot _ rfl⟩
  · exact ⟨rfl, rfl, hslot _ rfl⟩

/-- A part of the Porter that holds no response is the same after FW_STATE and an answer. -/
theorem porter_finish_fwState {β : Type} (F : Porter → β) (hF : ∀ x, F (unanswered x) = F x) (e : Device) (kind slot state code : Nat)
    (t : Transport) (cmd status : Nat) (payload : List Byte) (ch : Bool) :
    F (finish t cmd (answer (fwState e kind slot state code) status payload ch)).porter = F e.porter := by
  rw [porter_finish F hF, porter_fwState]

/-- The session after FW_VERIFY is verified when the image is accepted; the slots stay. -/
theorem fwVerify_taken {x : Session} (h : heard d t 0x12 [] = true) (hs : (listening d t).porter.session = some x)
    (hr : fwRefused (listening d t) t = false) (ha : asleep (listening d t) = false) : let r := fwVerify t [] d
    r.porter.session = some { x with verified := imageOk (listening d t) x.kind (1 - activeSlot (listening d t) x.kind) }
    ∧ r.porter.slots = (listening d t).porter.slots ∧ r.porter.act = (listening d t).porter.act := by
  dsimp only
  rw [fwVerify_some h hs]
  dsimp only
  rw [if_neg (by simp [hr, ha])]
  by_cases hok : imageOk (listening d t) x.kind (1 - activeSlot (listening d t) x.kind) = true
  · rw [if_pos hok, hok]
    exact ⟨porter_finish_fwState Porter.session (fun _ => rfl) .., porter_finish_fwState Porter.slots (fun _ => rfl) ..,
      porter_finish_fwState Porter.act (fun _ => rfl) ..⟩
  · rw [if_neg hok, Bool.eq_false_iff.mpr hok, rejectImage]
    exact ⟨porter_finish_fwState Porter.session (fun _ => rfl) .., porter_finish_fwState Porter.slots (fun _ => rfl) ..,
      porter_finish_fwState Porter.act (fun _ => rfl) ..⟩

/-- What an activation does of the Porter (R529). -/
theorem porter_activated (e : Device) (x : Session) : (activated e x).porter.session = none ∧ activeSlot (activated e x) x.kind = 1 - activeSlot e x.kind
    ∧ inTrial (activated e x) x.kind = true ∧ tget 9 (activated e x).porter.tries x.kind = 0 ∧ (activated e x).porter.svn = e.porter.svn := by
  have hslot := activeSlot_lt e x.kind
  unfold activated activeSlot inTrial
  dsimp only
  rw [porter_fwState]
  refine ⟨rfl, ?_, contains_nins _ _, tget_tset_self _ _ _ _, rfl⟩
  rw [tget_tset_self]
  exact Nat.mod_eq_of_lt (by unfold activeSlot at hslot; omega)

theorem fwActivate_taken {x : Session} (h : heard d t 0x13 [] = true) (hs : (listening d t).porter.session = some x)
    (hr : fwRefused (listening d t) t = false) (ha : asleep (listening d t) = false) (hv : x.verified = true) : let r := fwActivate t [] d
    r.porter.session = none ∧ activeSlot r x.kind = 1 - activeSlot (listening d t) x.kind ∧ inTrial r x.kind = true
    ∧ tget 9 r.porter.tries x.kind = 0 ∧ r.porter.svn = (listening d t).porter.svn ∧ (x.kind = 1 → r.boot.porterReady = false) := by
  obtain ⟨h1, h2, h3, h4, h5⟩ := porter_activated (listening d t) x
  have hall : ∀ r : Device, unanswered r.porter = unanswered (activated (listening d t) x).porter → r.porter.session = none
      ∧ activeSlot r x.kind = 1 - activeSlot (listening d t) x.kind ∧ inTrial r x.kind = true
      ∧ tget 9 r.porter.tries x.kind = 0 ∧ r.porter.svn = (listening d t).porter.svn := fun r hr => by
    have key : ∀ {β : Type} (F : Porter → β), (∀ y, F (unanswered y) = F y) → F r.porter = F (activated (listening d t) x).porter :=
      fun F hF => by rw [← hF, hr, hF]
    exact ⟨(key Porter.session fun _ => rfl).trans h1, (key (fun y => tget 0 y.act x.kind % 2) fun _ => rfl).trans h2,
      (key (fun y => y.trial.contains x.kind) fun _ => rfl).trans h3, (key (fun y => tget 9 y.tries x.kind) fun _ => rfl).trans h4,
      (key Porter.svn fun _ => rfl).trans h5⟩
  dsimp only
  rw [fwActivate_some h hs]
  dsimp only
  rw [if_neg (by simp [hr, ha, hv])]
  by_cases hk : x.kind = 1
  · rw [if_pos (by simpa using hk)]
    obtain ⟨a1, a2, a3, a4, a5⟩ := hall (porterRestart (finish t 0x13
      (answer { activated (listening d t) x with boot := { (activated (listening d t) x).boot with recovery := false } } 0 [] true)) 0)
      (by rw [porter_porterRestart, unanswered_finish])
    exact ⟨a1, a2, a3, a4, a5, fun _ => rfl⟩
  · rw [if_neg (by simpa using hk)]
    obtain ⟨a1, a2, a3, a4, a5⟩ := hall (finish t 0x13 (answer (activated (listening d t) x) 0 [] true)) (unanswered_finish ..)
    exact ⟨a1, a2, a3, a4, a5, fun h1 => absurd h1 hk⟩

theorem fwCommit_taken {kind : Nat} (h : heard d t 0x14 p = true) (hlen : p.length = 1) (hp : leAt p 0 1 = kind)
    (hk : kind = 1 ∨ kind = 2 ∧ (listening d t).boot.recovery = false) (hr : fwRefused (listening d t) t = false)
    (ha : asleep (listening d t) = false) (ht : inTrial (listening d t) kind = false) : let r := fwCommit t p d; let e := listening d t
    fusedSvn r kind = max (fusedSvn e kind) (min 64 (imageSvn e kind (activeSlot e kind)))
    ∧ (∀ k, k ≠ kind → fusedSvn r k = fusedSvn e k) ∧ r.porter.slots = e.porter.slots := by
  have hkind : ¬(kind ≠ 1 ∧ kind ≠ 2) := by omega
  have hbar : ¬((listening d t).boot.recovery = true ∧ kind = 2) := by
    rintro ⟨h1, h2⟩
    rcases hk with h | ⟨-, h⟩
    · omega
    · simp [h] at h1
  dsimp only
  rw [fwCommit_runs h hlen, hp]
  dsimp only
  rw [if_neg (by simp [hr, ha]), if_neg (by simpa using hkind), if_neg (by simpa [ht] using hbar)]
  refine ⟨?_, fun k hne => ?_, porter_finish_fwState Porter.slots (fun _ => rfl) ..⟩
  · exact (porter_finish_fwState (fun y => tget 0 y.svn kind) (fun _ => rfl) ..).trans (tget_tset_self _ _ _ _)
  · exact (porter_finish_fwState (fun y => tget 0 y.svn k) (fun _ => rfl) ..).trans (tget_tset_ne _ _ _ _ _ hne)

theorem fwBegin_taken (h : heard d t 0x10 p = true) (hlen : p.length = 5) (hr : fwRefused (listening d t) t = false)
    (hk : leAt p 0 1 = 1 ∨ leAt p 0 1 = 2 ∧ (listening d t).boot.recovery = false) (hl : leAt p 1 4 ≤ slotSize (leAt p 0 1)) : let r := fwBegin t p d
    r.porter.session = some { via := t, kind := leAt p 0 1, len := leAt p 1 4 }
    ∧ tget {} r.porter.slots (2 * leAt p 0 1 + (1 - activeSlot (listening d t) (leAt p 0 1))) = { shipped := false, len := leAt p 1 4 }
    ∧ r.porter.act = (listening d t).porter.act ∧ r.porter.svn = (listening d t).porter.svn := by
  have hshut : ¬(fwRefused (listening d t) t = true ∨ ((listening d t).boot.recovery = true ∧ leAt p 0 1 = 2)) := by
    rintro (h1 | ⟨h1, h2⟩)
    · simp [hr] at h1
    · rcases hk with h | ⟨-, h⟩
      · omega
      · simp [h] at h1
  obtain ⟨hact, hsvn⟩ := porter_closeSession (listening d t)
  dsimp only
  rw [fwBegin_runs h hlen]
  dsimp only
  rw [if_neg hshut, if_neg (by omega), activeSlot_closeSession]
  refine ⟨porter_finish Porter.session (fun _ => rfl) .., ?_, (porter_finish Porter.act (fun _ => rfl) ..).trans hact,
    (porter_finish Porter.svn (fun _ => rfl) ..).trans hsvn⟩
  rw [porter_finish Porter.slots (fun _ => rfl)]
  exact tget_tset_self _ _ _ _

/-- A session that times out leaves its slot without a valid image (R528). -/
theorem fwSessionTimeout_closes {x : Session} (hv : d.boot.vin = true) (hs : d.porter.session = some x) : let r := fwSessionTimeout d
    r.porter.session = none ∧ tget {} r.porter.slots (2 * x.kind + (1 - activeSlot d x.kind)) = { shipped := false } ∧ r.regs = d.regs := by
  have hclose : fwSessionTimeout d = eraseSlot { d with porter := { d.porter with session := none } } x.kind (1 - activeSlot d x.kind) 0 := by
    rw [fwSessionTimeout, if_pos hv, closeSession, hs]
  dsimp only
  rw [hclose]
  exact ⟨rfl, tget_tset_self _ _ _ _, rfl⟩

end

theorem exec_fwSessionTimeout (s : State) : exec .fwSessionTimeout s = .next { s with dev := fwSessionTimeout s.dev } :=
  run_wf (c := .fwSessionTimeout) fwSessionTimeout s rfl

/-- The refusals of a firmware update. -/
theorem firmwareRefusals (t : Transport) (p : List Byte) (s : State) : let d := listening s.dev t; let shut := fwRefused d t = true
    let no (cmd st : Nat) : State := { s with dev := respond d t cmd st [] }
    (heard s.dev t 0x10 p = true → p.length = 5 →
      let kind := leAt p 0 1; let barred := shut ∨ (d.boot.recovery = true ∧ kind = 2)
      (barred → exec (.fwBegin t p) s = .next (no 0x10 4))
      ∧ (¬barred → ((kind ≠ 1 ∧ kind ≠ 2) ∨ slotSize kind < leAt p 1 4) → exec (.fwBegin t p) s = .next (no 0x10 3)))
    ∧ (heard s.dev t 0x11 p = true → 4 ≤ p.length → p.length ≤ (if t = .sideband then 255 else 1028) →
      ((shut ∨ d.porter.session = none) → exec (.fwData t p) s = .next (no 0x11 4))
      ∧ (∀ x, ¬shut → d.porter.session = some x → x.len < leAt p 0 4 + (p.length - 4) → exec (.fwData t p) s = .next (no 0x11 3)))
    ∧ (heard s.dev t 0x12 p = true → p = [] → (shut ∨ d.porter.session = none ∨ asleep d = true) → exec (.fwVerify t p) s = .next (no 0x12 4))
    ∧ (heard s.dev t 0x13 p = true → p = [] → (shut ∨ asleep d = true ∨ ∀ x ∈ d.porter.session, x.verified = false) →
      exec (.fwActivate t p) s = .next (no 0x13 4))
    ∧ (heard s.dev t 0x14 p = true → p.length = 1 →
      let kind := leAt p 0 1
      ((shut ∨ asleep d = true) → exec (.fwCommit t p) s = .next (no 0x14 4))
      ∧ (¬shut → asleep d = false → kind ≠ 1 → kind ≠ 2 → exec (.fwCommit t p) s = .next (no 0x14 3))
      ∧ ((kind = 1 ∨ kind = 2) → (inTrial d kind = true ∨ (d.boot.recovery = true ∧ kind = 2)) → exec (.fwCommit t p) s = .next (no 0x14 4))) := by
  intro d shut no
  refine ⟨fun h hlen => ⟨fun hb => ?_, fun hb hk => ?_⟩, fun h h4 hmax => ⟨fun hb => ?_, fun x hb hx hl => ?_⟩, fun h hp hb => ?_, fun h hp hb => ?_,
    fun h hlen => ⟨fun hb => ?_, fun hb ha h1 h2 => ?_, fun hk hb => ?_⟩⟩
  · rw [exec_fwBegin, fwBegin_runs h hlen]; dsimp only; rw [if_pos hb]
  · rw [exec_fwBegin, fwBegin_runs h hlen]; dsimp only; rw [if_neg hb, if_pos hk]
  · rw [exec_fwData]
    cases hx : (listening s.dev t).porter.session with
    | none => rw [fwData_none h h4 hmax hx]
    | some x =>
      have hshut : fwRefused (listening s.dev t) t = true := hb.resolve_right fun hn => by simp [show (listening s.dev t).porter.session = none from hn] at hx
      rw [fwData_some h h4 hmax hx]; dsimp only; rw [if_pos hshut]
  · rw [exec_fwData, fwData_some h h4 hmax hx]
    dsimp only
    rw [if_neg hb, if_pos (by rwa [List.length_drop])]
  · subst hp
    rw [exec_fwVerify]
    cases hx : (listening s.dev t).porter.session with
    | none => rw [fwVerify_none h hx]
    | some x =>
      rw [fwVerify_some h hx]; dsimp only; rw [if_pos]
      rcases hb with hb | hb | hb
      · simp [show fwRefused (listening s.dev t) t = true from hb]
      · simp [show (listening s.dev t).porter.session = none from hb] at hx
      · simp [show asleep (listening s.dev t) = true from hb]
  · subst hp
    rw [exec_fwActivate]
    cases hx : (listening s.dev t).porter.session with
    | none => rw [fwActivate_none h hx]
    | some x =>
      rw [fwActivate_some h hx]; dsimp only; rw [if_pos]
      rcases hb with hb | hb | hb
      · simp [show fwRefused (listening s.dev t) t = true from hb]
      · simp [show asleep (listening s.dev t) = true from hb]
      · simp [hb x hx]
  · rw [exec_fwCommit, fwCommit_runs h hlen]
    dsimp only
    rw [if_pos (by simpa using hb)]
  · have hshut : fwRefused (listening s.dev t) t = false := Bool.eq_false_iff.mpr hb
    rw [exec_fwCommit, fwCommit_runs h hlen]
    dsimp only
    rw [if_neg (by rw [hshut, show asleep (listening s.dev t) = false from ha]; decide), if_pos (by simp [h1, h2])]
  · rw [exec_fwCommit, fwCommit_runs h hlen]
    dsimp only
    by_cases hshut : (fwRefused (listening s.dev t) t || asleep (listening s.dev t)) = true
    · rw [if_pos hshut]
    · rw [if_neg hshut, if_neg (by simpa [or_iff_not_imp_left] using hk), if_pos (by simpa using hb)]

/-- Settles O48: the refusals of each FW_ message, and what one that is taken does of the slots and the session. -/
theorem firmwareUpdate : Obligations.FirmwareUpdate := by
  refine ⟨fun t p s => ?_, fun t p s => ?_⟩
  · intro d shut no
    obtain ⟨h1, h2, h3, h4, h5⟩ := firmwareRefusals t p s
    refine ⟨h1, h2, h3, h4, h5, fun hv => ?_, fun hs => ?_⟩
    · rw [exec_fwSessionTimeout, fwSessionTimeout, if_neg (by simp [hv])]
    · rw [exec_fwSessionTimeout, fwSessionTimeout, closeSession_none hs, ite_self]
  · intro d hr
    refine ⟨fun h hlen hk hl => ⟨_, exec_fwBegin t p s, fwBegin_taken h hlen hr hk hl⟩, fun x h h4 hmax hx hl => ⟨_, exec_fwData t p s, ?_⟩,
      fun x h hp hx ha => ?_, fun x h hp hx ha hv => ?_, fun kind h hp hk ha ht => ⟨_, exec_fwCommit t p s, ?_⟩,
      fun x hv hx => ⟨_, exec_fwSessionTimeout s, fwSessionTimeout_closes hv hx⟩⟩
    · have hrun : fwData t p s.dev = finish t 0x11 (answer (takeChunk d x (leAt p 0 4) (p.drop 4)) 0 [] true) := by
        rw [fwData_some h h4 hmax hx]
        dsimp only
        rw [if_neg (by rw [show fwRefused (listening s.dev t) t = false from hr]; decide), if_neg (by rw [List.length_drop]; omega)]
      obtain ⟨c1, c2, c3⟩ := porter_takeChunk d x (leAt p 0 4) (p.drop 4)
      show (fwData t p s.dev).porter.session = _ ∧ (fwData t p s.dev).porter.svn = _ ∧ ∀ i, i < p.length - 4 →
        tget 0xFF (tget {} (fwData t p s.dev).porter.slots _).bytes _ = _
      rw [hrun, porter_finish Porter.session (fun _ => rfl), porter_finish Porter.svn (fun _ => rfl), porter_finish Porter.slots (fun _ => rfl)]
      refine ⟨c1, c2, fun i hi => ?_⟩
      rw [c3 i (by simpa using hi), List.getElem_drop, List.getD_eq_getElem]
    · subst hp; exact ⟨_, exec_fwVerify t [] s, fwVerify_taken h hx hr ha⟩
    · subst hp; exact ⟨_, exec_fwActivate t [] s, fwActivate_taken h hx hr ha hv⟩
    · subst hp
      have hkind : leAt [BitVec.ofNat 8 kind] 0 1 = kind := by
        have : kind < 256 := by omega
        simp [leAt, ofLE, Nat.mod_eq_of_lt this]
      exact fwCommit_taken h rfl hkind hk hr ha ht

end Sys2Proof.Machine
end

section
/-!
The module right after reset (R8, R116, R261, R376, R458, R487, R488, R514, R515, R548): O3.
-/
namespace Sys2Proof.Machine

/-- The rings of the module after reset hold 16 entries and none waits. -/
theorem reset_rings (r : Nat) (h : r < 17) :
    ringSize State.reset.dev r = 16 ∧ ringHead State.reset.dev r = 0 ∧ ringTail State.reset.dev r = 0 := by
  revert r
  decide

/-- The job windows after reset. -/
theorem reset_jobs (j : Nat) (h : j < 16) : let d := State.reset.dev
    getR d (pwrPage 1 + 0x400 + 4 * j) = 0x00330300 ∧ getR d (landWin j + 0x1C) = 1 ∧ getR d (updWin j + 0x14) = 0xFFFFFFFF
    ∧ getR d (updWin j + 0x20) = 0xFFFFFFFF ∧ (job d j).st = 0 := by
  revert j
  decide

/-- The ports after reset. -/
theorem reset_ports (p : Nat) (h : p < 6) :
    getR State.reset.dev (portPage p + 0x104) = 3 ∧ getR State.reset.dev (portPage p + 0x108) = 0x20202020 := by
  revert p
  decide

theorem reset_sound : Sound (fun _ => 0) State.reset.dev :=
  ⟨by decide, by decide, by decide, by decide, by decide, fun _ => Nat.zero_le _⟩

/-- Settles O3: the table values are computed over the pages they stand in; what the module holds of words and cores is empty. -/
theorem resetState : Obligations.ResetState := by
  refine ⟨?_, reset_sound⟩
  intro d
  refine ⟨rfl, by decide, by decide, by decide, reset_rings, by decide, by decide, by decide, reset_jobs, reset_ports, fun h i _ _ => ⟨rfl, rfl⟩,
    fun u r _ => ⟨?_, rfl, rfl⟩, rfl, rfl, rfl⟩
  show (if r == 0 then 0 else 0) = 0
  exact ite_self 0

end Sys2Proof.Machine
end

section
/-!
Voltage and frequency of a hall (R492 to R496): the target that the requests settle, the steps toward it and the override. They settle O49.
-/
namespace Sys2Proof.Machine

/-! ### A hall's clock -/

@[simp] theorem dvfs_setDvfs (d : Device) (h : Nat) (x : Dvfs) : dvfs (setDvfs d h x) h = x := tget_tset_self _ _ _ _

theorem dvfs_setDvfs_ne (d : Device) {g h : Nat} (x : Dvfs) (hne : g ≠ h) : dvfs (setDvfs d h x) g = dvfs d g := tget_tset_ne _ _ _ _ _ hne

/-- The next step moves neither the clock, the voltage nor the target. -/
theorem nextStep_keeps (h : Nat) (x : Dvfs) : (nextStep h x).cur = x.cur ∧ (nextStep h x).volt = x.volt ∧ (nextStep h x).target = x.target := by
  unfold nextStep
  split
  · exact ⟨rfl, rfl, rfl⟩
  · split
    · split <;> exact ⟨rfl, rfl, rfl⟩
    · split <;> exact ⟨rfl, rfl, rfl⟩

/-- The order of a change (R494): the clock rises at a voltage that is high enough, and the voltage falls at the target's clock. -/
theorem nextStep_order (h : Nat) (x : Dvfs) : let y := nextStep h x
    (y.phase = 4 → x.cur < y.goal ∧ minV h y.goal ≤ x.volt) ∧ (y.phase = 1 → y.goal < x.cur) ∧ (y.phase = 2 → x.cur = x.target ∧ y.vGoal < x.volt) := by
  dsimp only
  unfold nextStep
  by_cases hdown : x.target < x.cur
  · rw [if_pos hdown]
    exact ⟨nofun, fun _ => hdown, nofun⟩
  · rw [if_neg hdown]
    by_cases hup : x.cur < x.target
    · rw [if_pos hup]
      split
      · next hv =>
        simp only [Bool.and_eq_true, decide_eq_true_eq] at hv
        exact ⟨fun _ => ⟨hup, hv.1⟩, nofun, nofun⟩
      · exact ⟨nofun, nofun, nofun⟩
    · rw [if_neg hup]
      by_cases hv : x.volt = targetVolt h x
      · rw [if_pos (by simpa using hv)]
        exact ⟨nofun, nofun, nofun⟩
      · rw [if_neg (by simpa using hv)]
        by_cases hlow : x.volt < targetVolt h x
        · simp [hlow]
        · simp only [if_neg hlow]
          exact ⟨nofun, nofun, fun _ => ⟨by omega, by omega⟩⟩

theorem nextStep_rest {h : Nat} {x : Dvfs} (hc : x.cur = x.target) (hv : x.volt = targetVolt h x) : (nextStep h x).phase = 0 := by
  rw [nextStep, if_neg (by omega), if_neg (by omega), if_pos (by simpa using hv)]

/-! ### The target -/

/-- The lowest of the requests that count (R493). -/
def lowest (d : Device) (h : Nat) : Nat := (dvfsCands d h).foldl (fun m e => min m e.2) (maxArith d)

theorem foldl_min_le (l : List (Nat × Nat)) (m : Nat) :
    l.foldl (fun m e => min m e.2) m ≤ m ∧ ∀ e ∈ l, l.foldl (fun m e => min m e.2) m ≤ e.2 := by
  induction l generalizing m with
  | nil => simp
  | cons e l ih =>
    obtain ⟨h1, h2⟩ := ih (min m e.2)
    refine ⟨h1.trans (min_le_left _ _), ?_⟩
    simp only [List.forall_mem_cons]
    exact ⟨h1.trans (min_le_right _ _), h2⟩

theorem lowest_le_maxArith (d : Device) (h : Nat) : lowest d h ≤ maxArith d := (foldl_min_le _ _).1

theorem lowest_le_request (d : Device) (h : Nat) {k : Nat} (hk : k < 4) (hne : effReq d h k ≠ 0) : lowest d h ≤ effReq d h k := by
  refine (foldl_min_le (dvfsCands d h) (maxArith d)).2 (k + 1, effReq d h k) ?_
  simp only [dvfsCands, List.mem_cons, List.mem_filter, List.mem_map, List.mem_range]
  exact Or.inr ⟨⟨k, hk, rfl⟩, by simpa using hne⟩

/-- The requests of a hall settle its target at the lowest; nothing else of the module is touched but the open values. -/
theorem dvfsSettle_target {d : Device} (h : Nat) (ho : d.boot.oscReady = true) :
    ∃ x n, dvfsSettle d h = setDvfs { d with free := n } h x ∧ x.target = lowest d h := by
  have hstop : ∀ (e : Device) (x : Dvfs), ∃ y n, stopSlew e h x = setDvfs { e with free := n } h y ∧ y.target = x.target := fun e x =>
    ⟨_, _, rfl, (nextStep_keeps h _).2.2⟩
  unfold dvfsSettle
  rw [if_neg (by simp [ho])]
  dsimp only
  split
  · exact ⟨_, _, rfl, (nextStep_keeps h _).2.2⟩
  · split
    · obtain ⟨y, n, hy, ht⟩ := hstop (freeVal d).2 _
      exact ⟨y, n, hy, ht⟩
    · split
      · obtain ⟨y, n, hy, ht⟩ := hstop (freeVal d).2 _
        exact ⟨y, n, hy, ht⟩
      · split
        · exact ⟨_, _, rfl, rfl⟩
        · exact ⟨_, _, rfl, rfl⟩

theorem dvfsSettle_waits {d : Device} (h : Nat) (ho : d.boot.oscReady = false) : dvfsSettle d h = d := by
  rw [dvfsSettle, if_pos (by simp [ho])]

/-- What a request does once the clocks have locked. -/
theorem dvfsReq_locked {d : Device} (h who v : Nat) (ho : d.boot.oscReady = true) : let e := dvfsReq d h who v
    getR e (dvfsWin h + 4 * who) = v % 4096 ∧ (∀ k, k < 4 → effReq e h k ≠ 0 → (dvfs e h).target ≤ effReq e h k)
    ∧ (dvfs e h).target ≤ maxArith d ∧ (∀ g, g ≠ h → dvfs e g = dvfs d g) ∧ e.stack = d.stack := by
  obtain ⟨x, n, hset, ht⟩ := dvfsSettle_target (d := setR d (dvfsWin h + 4 * who) (v % 4096)) h ho
  have heff : ∀ k, effReq (setDvfs { setR d (dvfsWin h + 4 * who) (v % 4096) with free := n } h x) h k
      = effReq (setR d (dvfsWin h + 4 * who) (v % 4096)) h k := fun k => rfl
  dsimp only
  rw [dvfsReq, hset, dvfs_setDvfs, ht]
  refine ⟨?_, fun k hk hne => lowest_le_request _ h hk (by rwa [heff] at hne), lowest_le_maxArith _ h, fun g hg => dvfs_setDvfs_ne _ _ hg, rfl⟩
  exact (getR_setR _ _ _).trans (Nat.mod_eq_of_lt (by omega))

/-! ### Steps and the override -/

theorem dvfsStepDone_rest {d : Device} {h : Nat} (hp : (dvfs d h).phase = 0) : dvfsStepDone h d = d := by
  rw [dvfsStepDone, if_pos (by simpa using hp)]

/-- The step that follows the one in progress. -/
def stepAfter (h : Nat) (x : Dvfs) : Dvfs := nextStep h (if x.phase = 1 ∨ x.phase = 4 then clockAt h x.goal x else { x with volt := x.vGoal })

theorem dvfsStepDone_moves {d : Device} {h : Nat} (hp : (dvfs d h).phase ≠ 0) : dvfsStepDone h d =
    let y := stepAfter h (dvfs d h)
    if y.phase = 0 then bump (setDvfs d h y) (dvfsWin h + 0x1C) 1 else setDvfs d h y := by
  have hy : (if (dvfs d h).phase == 1 || (dvfs d h).phase == 4 then nextStep h (clockAt h (dvfs d h).goal (dvfs d h))
      else nextStep h { dvfs d h with volt := (dvfs d h).vGoal }) = stepAfter h (dvfs d h) := by
    simp only [stepAfter, Bool.or_eq_true, beq_iff_eq]
    split <;> rfl
  rw [dvfsStepDone, if_neg (by simpa using hp)]
  dsimp only
  rw [hy]
  simp only [beq_iff_eq]

theorem voltOvrWrite_cases (h : Nat) (v : Reg) (d : Device) : let x := dvfs d h; let n := v.toNat % 4096
    voltOvrWrite h v d =
      if n = 0 then setDvfs d h (ovrApply h { x with ovr := 0, ovrWait := 0 })
      else if minV h x.cur ≤ n ∧ minV h x.target ≤ n then setDvfs d h (ovrApply h { x with ovr := n, ovrWait := 0 })
      else if minV h x.target ≤ n ∧ x.target < x.cur then setDvfs d h { x with ovrWait := n }
      else recordErr d (pwrPage 1) 15 h := by
  dsimp only
  simp only [voltOvrWrite, beq_iff_eq, Bool.and_eq_true, decide_eq_true_eq]
  split
  · rfl
  · split
    · rfl
    · next hno =>
      congr 1
      exact propext ⟨fun ⟨⟨_, h2⟩, h3⟩ => ⟨h3, h2⟩, fun ⟨h1, h2⟩ => ⟨⟨by omega, h2⟩, h1⟩⟩

/-- Settles O49: requests, steps and overrides by their equations, the order of a change by `nextStep_order`. -/
theorem voltageAndFrequency : Obligations.VoltageAndFrequency := by
  refine ⟨fun h s => ?_, fun h x => ?_⟩
  · intro d x hh
    have hstep : exec (.dvfsStepDone h) s = .next { s with dev := dvfsStepDone h s.dev } := run_wf (c := .dvfsStepDone h) _ _ (by simp [Instr.wf, hh])
    have hreq : ∀ (who : Nat) (v : Reg), who < 4 → exec (.dvfsRequest h who v) s = .next { s with dev := dvfsReq s.dev h who v.toNat } := fun who v hw =>
      run_wf (c := .dvfsRequest h who v) (dvfsRequest h who v) _ (by simp [Instr.wf, hh, hw])
    refine ⟨fun who v hw ho => ?_, fun who v hw ho => ?_, fun hp => ?_, fun hp => ?_, fun v => ?_⟩
    · exact ⟨_, hreq who v hw, dvfsReq_locked h who v.toNat ho⟩
    · rw [hreq who v hw, dvfsReq, dvfsSettle_waits h (by exact ho)]
    · rw [hstep, dvfsStepDone_rest hp]
    · intro y
      refine ⟨_, hstep, ?_⟩
      rw [dvfsStepDone_moves hp]
      show dvfs (if y.phase = 0 then bump (setDvfs d h y) (dvfsWin h + 0x1C) 1 else setDvfs d h y) h = y
        ∧ (∀ g, g ≠ h → dvfs (if y.phase = 0 then bump (setDvfs d h y) (dvfsWin h + 0x1C) 1 else setDvfs d h y) g = dvfs d g)
        ∧ (y.phase = 0 → getR (if y.phase = 0 then bump (setDvfs d h y) (dvfsWin h + 0x1C) 1 else setDvfs d h y) (dvfsWin h + 0x1C) = _)
      by_cases h0 : y.phase = 0
      · have hdv : ∀ g, dvfs (bump (setDvfs d h y) (dvfsWin h + 0x1C) 1) g = dvfs (setDvfs d h y) g := fun g =>
          eq_of_erased bare (fun e => dvfs e g) (fun _ => rfl) (bare_bump _ _ _)
        rw [if_pos h0, hdv, dvfs_setDvfs]
        exact ⟨rfl, fun g hg => (hdv g).trans (dvfs_setDvfs_ne _ _ hg), fun _ => getR_bump _ _ _⟩
      · rw [if_neg h0, dvfs_setDvfs]
        exact ⟨rfl, fun g hg => dvfs_setDvfs_ne _ _ hg, fun h => absurd h h0⟩
    · intro n e
      rw [show exec (.voltOvrWrite h v) s = .next { s with dev := voltOvrWrite h v s.dev } from
        run_wf (c := .voltOvrWrite h v) _ _ (by simp [Instr.wf, hh]), voltOvrWrite_cases]
  · obtain ⟨h4, h1, h2⟩ := nextStep_order h x
    obtain ⟨k1, k2, k3⟩ := nextStep_keeps h x
    exact ⟨h4, h1, h2, k1, k2, k3, nextStep_rest⟩

end Sys2Proof.Machine
end

section
/-!
The thermal loop, the power loop, the current limiter and the thermal trip (R499 to R503): O50.
-/
namespace Sys2Proof.Machine

/-! ### Loops -/

/-- THERMAL_LOOP acts on every active hall once the hot stacks are known. -/
theorem thermalLoop_runs {d : Device} (h : loopsRun d = true) :
    thermalLoop d = (activeHalls { d with porter := { d.porter with hot := hotStacks d } }).foldl thermalHall
      { d with porter := { d.porter with hot := hotStacks d } } := by
  rw [thermalLoop, if_neg (by simp [h])]

/-- The module with a power sample taken by the power loop. -/
def powerSeen (d : Device) (w : Nat) : Device :=
  setR { d with boot := { d.boot with limSeen := getR d (pwrPage 0 + 0x124) != 0 } } (pwrPage 0 + 0x11C) w

/-- POWER_LOOP while it runs, by the sample and the ceiling. -/
theorem powerLoop_runs {d : Device} (w : Nat) (h : loopsRun d = true) : powerLoop w d =
    if d.porter.rails ≠ [] then powerSeen d w
    else if ceiling (powerSeen d w) < w then
      (activeHalls (powerSeen d w)).foldl (fun e h => dvfsReq e h 3 (lowered e h 3 (if d.boot.limSeen then 50 else 25))) (powerSeen d w)
    else if w * 100 < ceiling (powerSeen d w) * 95 then
      (activeHalls (powerSeen d w)).foldl (fun e h => if getR e (dvfsWin h + 0xC) = 0 then e else dvfsReq e h 3 (raised e h 3)) (powerSeen d w)
    else powerSeen d w := by
  have hrails : (!(powerSeen d w).porter.rails.isEmpty) = true ↔ d.porter.rails ≠ [] := by simp [powerSeen]
  rw [powerLoop, if_neg (by simp [h])]
  dsimp only
  change (if (!(powerSeen d w).porter.rails.isEmpty) = true then powerSeen d w else _) = _
  simp only [hrails, beq_iff_eq]
  rfl

/-! ### The current limiter -/

/-- What the limiter's count of half microseconds leaves alone. -/
theorem getR_limCount_ne (d : Device) {o : Nat} (h : o ≠ pwrPage 0 + 0x12C) : getR (limCount d) o = getR d o := by
  unfold limCount
  split
  · rfl
  · split
    · rfl
    · rw [getR_bump_ne _ _ h]; rfl

theorem limCount_keeps (d : Device) : (limCount d).dvfs = d.dvfs ∧ (limCount d).stack = d.stack := by
  unfold limCount
  split
  · exact ⟨rfl, rfl⟩
  · split
    · exact ⟨rfl, rfl⟩
    · have hb : ∀ e : Device, ∀ o n, (bump e o n).dvfs = e.dvfs ∧ (bump e o n).stack = e.stack := fun e o n =>
        ⟨eq_of_erased bare Device.dvfs (fun _ => rfl) (bare_bump e o n), eq_of_erased bare Device.stack (fun _ => rfl) (bare_bump e o n)⟩
      exact hb _ _ _

/-- The module with the limiter's runs of samples begun again. -/
def limStill (d : Device) : Device := { d with boot := { d.boot with limHigh := 0, limLow := 0 } }

section
variable {d : Device} {w : Nat}

theorem currentLimiter_off (h : d.boot.oscReady = false ∨ d.boot.tripped = true) : currentLimiterCheck w d = d := by
  rw [currentLimiterCheck, if_pos (by simpa using h)]

variable (ho : d.boot.oscReady = true) (ht : d.boot.tripped = false)
include ho ht

/-- Above 110 % of the ceiling the limiter starts or stretches further. -/
theorem currentLimiter_high (hw : ceiling d * 110 < w * 100) : currentLimiterCheck w d = limCount
    (if getR d (pwrPage 0 + 0x124) = 0 then setEvt (bump (setR (limStill d) (pwrPage 0 + 0x124) 1) (pwrPage 0 + 0x128) 1) (pwrPage 0) 16
     else if d.boot.limHigh + 1 < 4 then { d with boot := { d.boot with limHigh := d.boot.limHigh + 1, limLow := 0 } }
     else setR (limStill d) (pwrPage 0 + 0x124) (min 4 (getR d (pwrPage 0 + 0x124) + 1))) := by
  rw [currentLimiterCheck, if_neg (by simp [ho, ht])]
  dsimp only
  rw [if_pos hw]
  simp only [beq_iff_eq]
  rfl

/-- Below the ceiling a limiter that stretches releases. -/
theorem currentLimiter_low (hw : w * 100 ≤ ceiling d * 110) (hl : w < ceiling d) (hk : getR d (pwrPage 0 + 0x124) ≠ 0) : currentLimiterCheck w d = limCount
    (if d.boot.limLow + 1 < 40 then { d with boot := { d.boot with limHigh := 0, limLow := d.boot.limLow + 1 } }
     else setR (limStill d) (pwrPage 0 + 0x124) (getR d (pwrPage 0 + 0x124) - 1)) := by
  rw [currentLimiterCheck, if_neg (by simp [ho, ht])]
  dsimp only
  rw [if_neg (by omega), if_pos (by simp [hl, hk])]
  rfl

theorem currentLimiter_still (hw : w * 100 ≤ ceiling d * 110) (hl : ceiling d ≤ w ∨ getR d (pwrPage 0 + 0x124) = 0) :
    currentLimiterCheck w d = limCount (limStill d) := by
  rw [currentLimiterCheck, if_neg (by simp [ho, ht])]
  dsimp only
  rw [if_neg (by omega), if_neg]
  · rfl
  · rintro hc
    simp only [Bool.and_eq_true, decide_eq_true_eq, bne_iff_ne, ne_eq] at hc
    rcases hl with hl | hl
    · omega
    · exact hc.2 hl

/-- The limiter starts at one edge in 8, and counts that it did. -/
theorem currentLimiter_starts (hw : ceiling d * 110 < w * 100) (hk : getR d (pwrPage 0 + 0x124) = 0) : let e := currentLimiterCheck w d
    getR e (pwrPage 0 + 0x124) = 1 ∧ getR e (pwrPage 0 + 0x128) = min (getR d (pwrPage 0 + 0x128) + 1) 0xFFFFFFFF ∧ e.dvfs = d.dvfs ∧ e.stack = d.stack := by
  dsimp only
  rw [currentLimiter_high ho ht hw, if_pos hk]
  have hbare : bare (setEvt (bump (setR (limStill d) (pwrPage 0 + 0x124) 1) (pwrPage 0 + 0x128) 1) (pwrPage 0) 16) = bare (limStill d) := by
    rw [bare_setEvt, bare_bump, bare_setR]
  have hevt : ∀ e o, getR (setEvt e (pwrPage 0) 16) o = getR e o := fun _ _ => rfl
  obtain ⟨hdvfs, hstack⟩ := limCount_keeps (setEvt (bump (setR (limStill d) (pwrPage 0 + 0x124) 1) (pwrPage 0 + 0x128) 1) (pwrPage 0) 16)
  have hdvfs' := eq_of_erased bare Device.dvfs (fun _ => rfl) hbare
  have hstack' := eq_of_erased bare Device.stack (fun _ => rfl) hbare
  refine ⟨?_, ?_, hdvfs.trans hdvfs', hstack.trans hstack'⟩
  · rw [getR_limCount_ne _ (by decide), hevt, getR_bump_ne _ _ (by decide), getR_setR, Nat.mod_eq_of_lt (by decide)]
  · rw [getR_limCount_ne _ (by decide), hevt, getR_bump, getR_setR_ne _ _ _ _ (by decide)]
    rfl

end

/-! ### The trip -/

/-- The registers of the Porter's page and of the cycle counters outlive the rails. -/
theorem getR_railsOff (d : Device) {o : Nat} (h : o / 0x1000 = 0xD00) : getR (railsOff d) o = getR d o := by
  have hfind : (railsOff d).regs.find? (fun e => e.1 == o) = d.regs.find? (fun e => e.1 == o) := by
    show (d.regs.filter _).find? _ = _
    rw [List.find?_filter]
    congr 1
    funext e
    by_cases he : e.1 = o
    · simp [he, h]
    · simp [he]
  simp only [getR, hfind]

theorem fld_or_pow (v n : Nat) : fld (v ||| 2 ^ n) n n = 1 := by
  have hbit : (v ||| 2 ^ n).testBit n = true := by simp
  simp only [Nat.testBit, bne_iff_ne, ne_eq] at hbit
  simp only [fld, Nat.sub_self, Nat.zero_add, Nat.pow_one]
  rw [Nat.and_comm, Nat.and_one_is_mod] at hbit
  omega

/-- An alert stands in ALERT_CAUSE. -/
theorem fld_alert (d : Device) {n : Nat} (h : n < 32) : fld (getR (alert d n) (porterPage + 0x108)) n n = 1 := by
  have hlt : getR d (porterPage + 0x108) ||| 2 ^ n < 2 ^ 32 := Nat.or_lt_two_pow (getR_lt _ _) (Nat.pow_lt_pow_right (by decide) h)
  rw [alert, getR_setR, Nat.mod_eq_of_lt hlt, fld_or_pow]

theorem getR_flushLog_ne (d : Device) {o : Nat} (h : o ≠ porterPage + 0x124) : getR (flushLog d) o = getR d o := by
  unfold flushLog
  dsimp only
  split
  · rfl
  · exact getR_bump_ne _ _ h

/-- What a trip leaves: no rails, no cores, no jobs, and its alert. -/
theorem trip_off (d : Device) (k l v : Nat) : let e := trip d k l v
    e.boot.tripped = true ∧ e.boot.vrPgood = false ∧ e.boot.running = false ∧ e.cores = [] ∧ e.jobs = []
    ∧ fld (getR e (porterPage + 0x108)) 2 2 = 1 := by
  refine ⟨rfl, rfl, rfl, rfl, rfl, ?_⟩
  have key : ∀ (e : Device) (b : Boot), fld (getR (railsOff { flushLog (alert e 2) with boot := b }) (porterPage + 0x108)) 2 2 = 1 := fun e b => by
    rw [getR_railsOff _ (by decide), show getR { flushLog (alert e 2) with boot := b } (porterPage + 0x108) = getR (flushLog (alert e 2)) _ from rfl,
      getR_flushLog_ne _ (by decide), fld_alert _ (by decide)]
  exact key _ _

/-- The trip point of a sensor by its number: the stacks come last. -/
theorem trip_limit (n : Nat) : (if (if n < 18 then (0, n) else if n < 22 then (2, n - 18) else (1, n - 22) : Nat × Nat).1 == 1 then 440 else 460 : Int)
    = if n < 22 then 460 else 440 := by
  by_cases h1 : n < 18
  · simp [h1, show n < 22 by omega]
  · by_cases h2 : n < 22 <;> simp [h1, h2]

section
variable {d : Device} {n : Nat} {v : BitVec 16}

theorem thermalTrip_not (h : d.boot.vin = false ∨ d.boot.tripped = true ∨ d.boot.pm = 4 ∨ signed 16 v.toNat < (if n < 22 then 460 else 440)) :
    thermalTrip n v d = d := by
  unfold thermalTrip
  dsimp only
  rw [trip_limit, if_pos (by simpa [or_assoc] using h)]

/-- A sample at its trip point trips the module. -/
theorem thermalTrip_at (hv : d.boot.vin = true) (ht : d.boot.tripped = false) (hp : d.boot.pm ≠ 4) (hs : (if n < 22 then 460 else 440) ≤ signed 16 v.toNat) :
    ∃ k l, thermalTrip n v d = trip d k l v.toNat := by
  unfold thermalTrip
  dsimp only
  rw [trip_limit, if_neg (by simpa [hv, ht, hp] using hs)]
  exact ⟨_, _, rfl⟩

end

section
variable (s : State)

theorem exec_powerLoop {w : Nat} (h : w < 65536) : exec (.powerLoop w) s = .next { s with dev := powerLoop w s.dev } :=
  run_wf (c := .powerLoop w) _ _ (by simpa [Instr.wf] using h)

theorem exec_thermalLoop : exec .thermalLoop s = .next { s with dev := thermalLoop s.dev } := run_wf (c := .thermalLoop) thermalLoop s rfl

theorem exec_currentLimiter {w : Nat} (h : w < 65536) : exec (.currentLimiterCheck w) s = .next { s with dev := currentLimiterCheck w s.dev } :=
  run_wf (c := .currentLimiterCheck w) _ _ (by simpa [Instr.wf] using h)

theorem exec_thermalTrip {n : Nat} (v : BitVec 16) (h : n < 38) : exec (.thermalTrip n v) s = .next { s with dev := thermalTrip n v s.dev } :=
  run_wf (c := .thermalTrip n v) _ _ (by simpa [Instr.wf] using h)

theorem exec_thermalTarget (v : Reg) : exec (.thermTargetWrite v) s = .next { s with dev := thermTargetWrite v s.dev } :=
  run_wf (c := .thermTargetWrite v) (thermTargetWrite v) s rfl

end

/-- Settles O50: each loop by its equations, the trip by `trip_off`. -/
theorem loopsAndTrip : Obligations.LoopsAndTrip := by
  intro s d
  refine ⟨fun v => ⟨fun h1 h2 => ?_, fun h => ?_⟩, fun hoff => ⟨?_, fun w hw => ?_⟩, fun w hrun hw hr => ?_, fun hrun => ?_, fun w hrun hw hr => ?_,
    fun w hw ho ht hc hk => ?_, fun w hw ho ht => ?_, fun w hw hoff => ?_, fun n v hn h => ?_, fun n v hn hv ht hp hs => ?_, fun n v hlo hn hv ht hp hs => ?_⟩
  · rw [exec_thermalTarget, thermTargetWrite, if_pos (by simp [h1, h2])]
  · rw [exec_thermalTarget, thermTargetWrite, if_neg (by simp only [Bool.and_eq_true, decide_eq_true_eq]; omega)]
  · rw [exec_thermalLoop, thermalLoop, if_pos (by rw [hoff]; rfl)]
  · rw [exec_powerLoop s hw, powerLoop, if_pos (by rw [hoff]; rfl)]
  · rw [exec_powerLoop s hw, powerLoop_runs w hrun, if_pos hr]; rfl
  · rw [exec_thermalLoop, thermalLoop_runs hrun]
  · intro b a
    rw [exec_powerLoop s hw, powerLoop_runs w hrun, if_neg (fun h => h hr), show powerSeen s.dev w = a from rfl]
    refine ⟨fun h1 => ?_, fun h1 => ?_, fun h1 h2 => ?_⟩
    · rw [if_pos h1]
    · rw [if_neg (show ¬ceiling a < w by omega), if_pos h1]
    · rw [if_neg (Nat.not_lt.mpr h1), if_neg (Nat.not_lt.mpr h2)]
  · exact ⟨_, exec_currentLimiter s hw, currentLimiter_starts ho ht hc hk⟩
  · intro r k b still
    rw [exec_currentLimiter s hw]
    refine ⟨fun h1 h2 h3 => ?_, fun h1 h2 h3 => ?_, fun h1 h2 h3 h4 => ?_, fun h1 h2 h3 h4 => ?_, fun h1 h2 => ?_⟩
    · have hlt : s.dev.boot.limHigh + 1 < 4 := Nat.succ_lt_succ h3
      rw [currentLimiter_high ho ht h1, if_neg h2, if_pos hlt]
    · have hlt : ¬s.dev.boot.limHigh + 1 < 4 := Nat.not_lt.mpr (Nat.succ_le_succ h3)
      rw [currentLimiter_high ho ht h1, if_neg h2, if_neg hlt]; rfl
    · have hlt : s.dev.boot.limLow + 1 < 40 := Nat.succ_lt_succ h4
      rw [currentLimiter_low ho ht h1 h2 h3, if_pos hlt]
    · have hlt : ¬s.dev.boot.limLow + 1 < 40 := Nat.not_lt.mpr (Nat.succ_le_succ h4)
      rw [currentLimiter_low ho ht h1 h2 h3, if_neg hlt]; rfl
    · rw [currentLimiter_still ho ht h1 h2]; rfl
  · rw [exec_currentLimiter s hw, currentLimiter_off hoff]
  · rw [exec_thermalTrip s v hn, thermalTrip_not h]
  · obtain ⟨k, l, he⟩ := thermalTrip_at (n := n) hv ht hp (by rwa [if_pos hn])
    rw [exec_thermalTrip s v (by omega), he]
    exact ⟨_, rfl, trip_off _ _ _ _⟩
  · obtain ⟨k, l, he⟩ := thermalTrip_at (n := n) hv ht hp (by rwa [if_neg (by omega)])
    obtain ⟨t1, t2, -, t4, t5, -⟩ := trip_off s.dev k l v.toNat
    rw [exec_thermalTrip s v hn, he]
    exact ⟨_, rfl, t1, t2, t4, t5⟩

end Sys2Proof.Machine
end

section
/-!
What a link's change of state leaves alone (R335, R363, R369, R426): it reaches links, ports, reports and contexts, and no core, memory or power state.
-/
namespace Sys2Proof.Machine

/-- A module without its links, its ports and what the loss of a link reports. -/
def wired (d : Device) : Device := { bare d with links := [], ports := [], ctxs := [], plan := { d.plan with dirty := false } }

theorem wired_of_bare {d e : Device} (h : bare e = bare d) : wired e = wired d := by
  have hp : e.plan = d.plan := eq_of_erased bare Device.plan (fun _ => rfl) h
  unfold wired
  rw [h, hp]

@[simp] theorem wired_setLink (d : Device) (p l : Nat) (x : Link) : wired (setLink d p l x) = wired d := rfl
@[simp] theorem wired_setPort (d : Device) (p : Nat) (x : Port) : wired (setPort d p x) = wired d := rfl
@[simp] theorem wired_bump (d : Device) (o n : Nat) : wired (bump d o n) = wired d := wired_of_bare (bare_bump _ _ _)
@[simp] theorem wired_setR (d : Device) (o v : Nat) : wired (setR d o v) = wired d := rfl
@[simp] theorem wired_setEvt (d : Device) (o n : Nat) : wired (setEvt d o n) = wired d := rfl
@[simp] theorem wired_pushEv (d : Device) (e : Ev) : wired (pushEv d e) = wired d := wired_of_bare (bare_pushEv _ _)
@[simp] theorem wired_jobEv (d : Device) (j ty c a : Nat) (l : List Byte) : wired (jobEv d j ty c a l) = wired d := wired_of_bare (bare_jobEv _ _ _ _ _ _)
@[simp] theorem wired_taint (d : Device) (j n c : Nat) : wired (taint d j n c) = wired d := wired_of_bare (bare_taint _ _ _ _)
@[simp] theorem wired_alert (d : Device) (n : Nat) : wired (alert d n) = wired d := rfl
@[simp] theorem wired_putBit (d : Device) (o n : Nat) (on : Bool) : wired (putBit d o n on) = wired d := rfl
@[simp] theorem wired_needTest (d : Device) (r : UnitRef) (a b : Nat) : wired (needTest d r a b) = wired d := wired_of_bare (bare_needTest _ _ _ _)

theorem wired_foldl {α : Type} {f : Device → α → Device} (hf : ∀ d x, wired (f d x) = wired d) (l : List α) (d : Device) :
    wired (l.foldl f d) = wired d := by
  induction l generalizing d with
  | nil => rfl
  | cons x t ih => rw [List.foldl_cons, ih, hf]

@[simp] theorem wired_breakRing (d : Device) (r : Nat) : wired (breakRing d r) = wired d := by
  unfold breakRing
  split
  · rfl
  · split
    · rfl
    · rw [wired_taint, wired_jobEv, wired_setEvt]; rfl

@[simp] theorem wired_degradeRings (d : Device) (p : Nat) : wired (degradeRings d p) = wired d := by
  unfold degradeRings
  dsimp only
  rw [wired_foldl, wired_foldl]
  · exact fun _ _ => rfl
  · intro d j
    split
    · exact wired_jobEv _ _ _ _ _ _
    · rfl

@[simp] theorem wired_portDown (d : Device) (p : Nat) : wired (portDown d p) = wired d := by
  unfold portDown
  dsimp only
  split
  · rfl
  · rw [wired_foldl, wired_foldl, wired_foldl, wired_bump, wired_setPort]
    · exact fun d j => by rw [wired_taint, wired_jobEv]
    · intro d k
      split
      · rw [wired_taint, wired_jobEv]
      · rfl
    · exact fun d e => wired_breakRing d e.1

/-- What is reported of a link that has left a state (R465). -/
def linkReport (d : Device) (p l old portWas : Nat) : Device :=
  let new := (link d p l).st
  let d := if p < 6 && old != new then
      setEvt (pushEv d { type := 0x50, unitKind := 5, unit := unitNum (unitLink p l), detail := toLE 4 new }) (linkPage p l) 16
    else d
  let d := if p < 6 && portState d p != portWas then setEvt d (portPage p) 16 else d
  { d with plan := { d.plan with dirty := d.plan.dirty || (p < 6 && old != new) } }

theorem wired_linkReport (d : Device) (p l old was : Nat) : wired (linkReport d p l old was) = wired d := by
  have hev : ∀ e : Device, wired (if p < 6 && portState e p != was then setEvt e (portPage p) 16 else e) = wired e := fun e => by
    split <;> rfl
  unfold linkReport
  dsimp only
  refine (hev _).trans ?_
  split
  · rw [wired_setEvt, wired_pushEv]
  · rfl

/-- After a link has left a state: its report, and what its loss or its return brings. -/
theorem afterLink_eq (d : Device) (p l old was : Nat) (whole : Bool) : afterLink d p l old was whole =
    let e := linkReport d p l old was
    if old == 0 && !((link d p l).st == 0) then
      (if portUp e p then (if whole then e else degradeRings e p) else (if p == 6 then alert (portDown e p) 6 else portDown e p))
    else if p == 6 && (link d p l).st == 0 then putBit e (porterPage + 0x108) 6 false
    else e := rfl

@[simp] theorem wired_afterLink (d : Device) (p l old was : Nat) (whole : Bool) : wired (afterLink d p l old was whole) = wired d := by
  rw [afterLink_eq]
  dsimp only
  rw [← wired_linkReport d p l old was]
  split
  · split
    · split
      · rfl
      · exact wired_degradeRings _ _
    · split
      · rw [wired_alert, wired_portDown]
      · exact wired_portDown _ _
  · split
    · exact wired_putBit _ _ _ _
    · rfl

@[simp] theorem wired_moveLink (d : Device) (p l : Nat) (f : Link → Link) (whole : Bool) : wired (moveLink d p l f whole) = wired d := by
  unfold moveLink
  dsimp only
  rw [wired_afterLink, wired_setPort, wired_setLink]

@[simp] theorem wired_trainLink (d : Device) (p l : Nat) (whole : Bool) : wired (trainLink d p l whole) = wired d := wired_moveLink _ _ _ _ _

@[simp] theorem wired_leaveIdle (d : Device) (p l : Nat) (f whole : Bool) : wired (leaveIdle d p l f whole) = wired d := wired_moveLink _ _ _ _ _

@[simp] theorem wired_leaveFailed (d : Device) (p l : Nat) : wired (leaveFailed d p l) = wired d := by
  unfold leaveFailed
  dsimp only
  split <;> split <;> simp

@[simp] theorem wired_takeDown (d : Device) (p : Nat) (train : Bool) : wired (takeDown d p train) = wired d := by
  unfold takeDown
  refine wired_foldl (fun d l => ?_) _ _
  split
  · split
    · rfl
    · exact wired_leaveIdle _ _ _ _ _
  · split
    · exact wired_trainLink _ _ _ _
    · exact wired_moveLink _ _ _ _ _

@[simp] theorem wired_portsOff (d : Device) : wired (portsOff d) = wired d := by
  unfold portsOff
  rw [wired_takeDown, wired_foldl fun d p => wired_takeDown d p false]

/-- A part of the module that is neither a link's nor a report is the same wherever the wires alone differ. -/
theorem of_wired {α : Type} (F : Device → α) (hF : ∀ d, F (wired d) = F d) {d e : Device} (h : wired e = wired d) : F e = F d :=
  eq_of_erased wired F hF h

end Sys2Proof.Machine
end

section
/-!
Power states (R504 to R510): O51. PACE_JOB, sensor conversions, the flush of the log and the RTC alarm (R504, R516, R533 to R538, R544): O52.
-/
namespace Sys2Proof.Machine

/-! ### Entry -/

theorem bare_putBit (d : Device) (o n : Nat) (on : Bool) : bare (putBit d o n on) = bare d := rfl

@[simp] theorem bare_selfRefresh (d : Device) (on : Bool) : bare (selfRefresh d on) = bare d := by
  refine bare_foldl (fun d s => ?_) _ _
  split
  · exact bare_putBit _ _ _ _
  · rfl

@[simp] theorem bare_powerRecord (d : Device) (sev : Nat) : bare (powerRecord d sev) = bare d := bare_log _ _ _ _

theorem boot_powerRecord (d : Device) (sev : Nat) : (powerRecord d sev).boot = d.boot := eq_of_erased bare Device.boot (fun _ => rfl) (bare_powerRecord d sev)

/-- The stages before the last leave stack memory alone. -/
theorem stack_stageEffect (d : Device) {k : Nat} (h0 : 1 ≤ k) (h6 : k < 6) : (stageEffect d k).stack = d.stack := by
  match k, h0, h6 with
  | 1, _, _ => rfl
  | 2, _, _ => rfl
  | 3, _, _ =>
    simp only [stageEffect]
    exact eq_of_erased bare Device.stack (fun _ => rfl) (bare_selfRefresh d true)
  | 4, _, _ =>
    simp only [stageEffect]
    exact of_wired Device.stack (fun _ => rfl) (wired_portsOff d)
  | 5, _, _ => rfl

/-- The module with a stage of its entry ended. -/
def stageEnded (d : Device) : Device :=
  let e := stageEffect d d.boot.stage
  { e with boot := { e.boot with stage := 0, done := d.boot.stage } }

theorem pmStageDone_waits {d : Device} (h : d.boot.stage = 0 ∨ ∃ e ∈ d.dvfs, e.2.phase ≠ 0) : pmStageDone d = d := by
  unfold pmStageDone
  dsimp only
  rw [if_pos]
  simpa using h

/-- A stage that ends, no change of voltage or frequency being in progress. -/
theorem pmStageDone_ends {d : Device} (h0 : d.boot.stage ≠ 0) (hd : d.dvfs.all (fun e => e.2.phase == 0) = true) : pmStageDone d =
    if d.boot.stage = 6 then (if d.boot.wake ≠ 0 then { stageEnded d with boot := startExit (stageEnded d).boot } else stageEnded d)
    else if d.boot.wake ≠ 0 then abandonEntry (stageEnded d) d.boot.stage
    else if d.boot.stage < depthStages d.boot.target then { stageEnded d with boot := { (stageEnded d).boot with stage := d.boot.stage + 1 } }
    else stageEnded d := by
  have hcond : ¬((d.boot.stage == 0 || d.dvfs.any (fun e => e.2.phase != 0)) = true) := by
    simp only [Bool.or_eq_true, beq_iff_eq, List.any_eq_true, bne_iff_ne]
    rintro (h | ⟨e, he, hne⟩)
    · exact h0 h
    · exact hne (by simpa using List.all_eq_true.mp hd e he)
  rw [pmStageDone, if_neg hcond]
  simp only [beq_iff_eq, bne_iff_ne]
  rfl

theorem depthStages_le (t : Nat) : depthStages t ≤ 6 := by
  unfold depthStages
  split_ifs <;> decide

theorem pmEntryStart_not {d : Device} (h : d.boot.accepting = false ∨ d.boot.pwrEn = false ∨ d.boot.heldOff = true ∨ d.boot.stage ≠ 0 ∨ d.boot.exit ≠ 0
    ∨ quiescent d = false ∨ pmTarget d ≤ d.boot.pm) : pmEntryStart d = d := by
  unfold pmEntryStart
  dsimp only
  rw [if_pos]
  simpa [or_assoc] using h

theorem pmEntryStart_starts {d : Device} (ha : d.boot.accepting = true) (hp : d.boot.pwrEn = true) (hh : d.boot.heldOff = false) (hs : d.boot.stage = 0)
    (he : d.boot.exit = 0) (hq : quiescent d = true) (ht : d.boot.pm < pmTarget d) : let e := pmEntryStart d
    e.boot.target = pmTarget d ∧ e.boot.stage = depthStages d.boot.pm + 1 ∧ e.boot.pm = d.boot.pm
    ∧ getR e (pwrPage 0 + 0x114) = min (getR d (pwrPage 0 + 0x114) + 1) 0xFFFFFFFF ∧ e.cores = d.cores := by
  have hrun : ∃ b : Boot, b.target = pmTarget d ∧ b.stage = depthStages d.boot.pm + 1 ∧ b.pm = d.boot.pm
      ∧ pmEntryStart d = bump { d with boot := b } (pwrPage 0 + 0x114) 1 := by
    refine ⟨{ d.boot with target := pmTarget d, stage := depthStages d.boot.pm + 1, done := depthStages d.boot.pm, lastDepth := d.boot.pm, wake := 0 },
      rfl, rfl, rfl, ?_⟩
    unfold pmEntryStart
    dsimp only
    rw [if_neg (by simpa [ha, hp, hh, hs, he, hq] using ht)]
  obtain ⟨b, h1, h2, h3, hb⟩ := hrun
  have hboot : ∀ e : Device, (bump e (pwrPage 0 + 0x114) 1).boot = e.boot ∧ (bump e (pwrPage 0 + 0x114) 1).cores = e.cores := fun e =>
    ⟨eq_of_erased bare Device.boot (fun _ => rfl) (bare_bump _ _ _), eq_of_erased bare Device.cores (fun _ => rfl) (bare_bump _ _ _)⟩
  obtain ⟨hboot', hcores⟩ := hboot { d with boot := b }
  dsimp only
  rw [hb, hboot', hcores, getR_bump]
  exact ⟨h1, h2, h3, rfl, rfl⟩

/-! ### Exit -/

/-- The fourth step of the exit returns the module to RUN; links that E4 took down train again. -/
theorem pmExitStep_last {d : Device} (h : 4 ≤ d.boot.exit) : pmExitStep d =
    let r := powerRecord { d with boot := { d.boot with exit := 0, exitRetried := false, pm := 0, done := 0, target := 0, logicReady := true } } 0
    if 4 ≤ d.boot.done then trainPorts (trainLink r 6 0) else r := by
  obtain ⟨n, hn⟩ : ∃ n, d.boot.exit = n + 4 := ⟨d.boot.exit - 4, by omega⟩
  unfold pmExitStep
  dsimp only
  rw [hn]
  rfl

theorem pmExitTimeout_first {d : Device} (h : d.boot.exit ≠ 0) (hr : d.boot.exitRetried = false) :
    (pmExitTimeout d).boot.exit = 1 ∧ (pmExitTimeout d).boot.exitRetried = true := by
  rw [pmExitTimeout, if_neg (by simpa using h)]
  dsimp only
  rw [if_neg (by rw [boot_powerRecord, hr]; decide)]
  exact ⟨rfl, rfl⟩

theorem pmExitTimeout_second {d : Device} (h : d.boot.exit ≠ 0) (hr : d.boot.exitRetried = true) :
    (pmExitTimeout d).boot.pm = 3 ∧ (pmExitTimeout d).boot.heldOff = true ∧ (pmExitTimeout d).boot.exit = 0 := by
  rw [pmExitTimeout, if_neg (by simpa using h)]
  dsimp only
  rw [if_pos (by rw [boot_powerRecord, hr])]
  exact ⟨rfl, rfl, rfl⟩

section
variable (s : State)

theorem exec_pmEntryStart : exec .pmEntryStart s = .next { s with dev := pmEntryStart s.dev } := run_wf (c := .pmEntryStart) pmEntryStart s rfl
theorem exec_pmStageDone : exec .pmStageDone s = .next { s with dev := pmStageDone s.dev } := run_wf (c := .pmStageDone) pmStageDone s rfl
theorem exec_pmExitStep : exec .pmExitStep s = .next { s with dev := pmExitStep s.dev } := run_wf (c := .pmExitStep) pmExitStep s rfl
theorem exec_pmExitTimeout : exec .pmExitTimeout s = .next { s with dev := pmExitTimeout s.dev } := run_wf (c := .pmExitTimeout) pmExitTimeout s rfl

end

/-- Settles O51: each stage of an entry and of an exit by its equation. -/
theorem powerStates : Obligations.PowerStates := by
  intro s d b
  refine ⟨fun h => ?_, fun h => ?_, fun h => ⟨?_, ?_⟩, fun ha hp hh hs he hq ht => ⟨_, exec_pmEntryStart s, pmEntryStart_starts ha hp hh hs he hq ht⟩,
    fun h1 h6 hd hw hall => ?_, fun h1 h6 hw hall => ?_, fun h1 hlast hall => ?_, fun c h1 h6 => ?_, fun h => ?_, fun h => ?_, fun h => ?_,
    fun h hd => ?_, fun h hd => ?_, fun h hr => ⟨_, exec_pmExitTimeout s, pmExitTimeout_first h hr⟩,
    fun h hr => ⟨_, exec_pmExitTimeout s, pmExitTimeout_second h hr⟩⟩
  · rw [exec_pmEntryStart, pmEntryStart_not h]
  · rw [exec_pmStageDone, pmStageDone_waits h]
  · rw [exec_pmExitStep, pmExitStep]; dsimp only; rw [show s.dev.boot.exit = 0 from h]; rfl
  · rw [exec_pmExitTimeout, pmExitTimeout, if_pos (by simpa using h)]
  · have h6' : s.dev.boot.stage ≠ 6 := Nat.ne_of_lt h6
    have hw' : ¬s.dev.boot.wake ≠ 0 := not_not.mpr hw
    refine ⟨_, exec_pmStageDone s, ?_⟩
    rw [pmStageDone_ends (Nat.one_le_iff_ne_zero.mp h1) hall, if_neg h6', if_neg hw', if_pos hd]
    exact ⟨rfl, rfl, stack_stageEffect _ h1 h6⟩
  · rw [exec_pmStageDone, pmStageDone_ends (Nat.one_le_iff_ne_zero.mp h1) hall, if_neg h6, if_pos hw]
    rfl
  · intro e r
    refine ⟨fun hw => ?_, fun hw h6 => ?_⟩
    · have hw' : ¬s.dev.boot.wake ≠ 0 := not_not.mpr hw
      have hdone : ¬s.dev.boot.stage < depthStages s.dev.boot.target := by
        have := depthStages_le s.dev.boot.target
        rcases hlast with h | h
        · exact Nat.not_lt.mpr (this.trans h)
        · exact Nat.not_lt.mpr h
      rw [exec_pmStageDone, pmStageDone_ends (Nat.one_le_iff_ne_zero.mp h1) hall, if_neg hw', if_neg hw', if_neg hdone, ite_self]
      rfl
    · rw [exec_pmStageDone, pmStageDone_ends (Nat.one_le_iff_ne_zero.mp h1) hall, if_pos h6, if_pos hw]
      rfl
  · exact run_wf (c := .pmWake c) _ _ (by simp [Instr.wf, h1, h6])
  · rw [exec_pmExitStep, pmExitStep]; dsimp only; rw [show s.dev.boot.exit = 1 from h]; rfl
  · rw [exec_pmExitStep, pmExitStep]; dsimp only; rw [show s.dev.boot.exit = 2 from h]; rfl
  · refine ⟨_, exec_pmExitStep s, ?_⟩
    have hrun : pmExitStep s.dev = selfRefresh { s.dev with boot := { s.dev.boot with exit := 4, memReady := true } } false := by
      rw [pmExitStep]; dsimp only; rw [show s.dev.boot.exit = 3 from h]; rfl
    have hb := bare_selfRefresh { s.dev with boot := { s.dev.boot with exit := 4, memReady := true } } false
    have hboot := eq_of_erased bare Device.boot (fun _ => rfl) hb
    have hstack := eq_of_erased bare Device.stack (fun _ => rfl) hb
    show (pmExitStep s.dev).boot.exit = 4 ∧ (pmExitStep s.dev).boot.memReady = true ∧ (pmExitStep s.dev).stack = _
    rw [hrun, hboot, hstack]
    exact ⟨rfl, rfl, rfl⟩
  · refine ⟨_, exec_pmExitStep s, ?_⟩
    have hdone : ¬4 ≤ s.dev.boot.done := Nat.not_le.mpr hd
    have hkeep : ∀ e : Device, (powerRecord e 0).boot = e.boot ∧ (powerRecord e 0).stack = e.stack ∧ (powerRecord e 0).cores = e.cores := fun e =>
      ⟨boot_powerRecord e 0, eq_of_erased bare Device.stack (fun _ => rfl) (bare_powerRecord e 0),
        eq_of_erased bare Device.cores (fun _ => rfl) (bare_powerRecord e 0)⟩
    rw [pmExitStep_last h]
    dsimp only
    rw [if_neg hdone]
    obtain ⟨k1, k2, k3⟩ := hkeep { s.dev with boot :=
      { s.dev.boot with exit := 0, exitRetried := false, pm := 0, done := 0, target := 0, logicReady := true } }
    rw [k1, k2, k3]
    exact ⟨rfl, rfl, rfl, rfl, rfl⟩
  · rw [exec_pmExitStep, pmExitStep_last h]
    dsimp only
    rw [if_pos hd]

/-! ### Samples -/

theorem dvfsSettle_wired (d : Device) (h : Nat) : ∃ x n, dvfsSettle d h = { d with dvfs := x, free := n } := by
  cases ho : d.boot.oscReady
  · exact ⟨d.dvfs, d.free, dvfsSettle_waits h ho⟩
  · obtain ⟨x, n, hs, -⟩ := dvfsSettle_target h ho
    exact ⟨_, n, hs⟩

/-- A request changes the hall's clock and its registers. -/
theorem dvfsReq_keeps (d : Device) (h who v : Nat) : let e := dvfsReq d h who v
    e.stack = d.stack ∧ e.cores = d.cores ∧ e.porter = d.porter ∧ ∀ o, o ≠ dvfsWin h + 4 * who → getR e o = getR d o := by
  obtain ⟨x, n, hs⟩ := dvfsSettle_wired (setR d (dvfsWin h + 4 * who) (v % 4096)) h
  dsimp only
  rw [dvfsReq, hs]
  exact ⟨rfl, rfl, rfl, fun o ho => getR_setR_ne _ _ _ _ ho⟩

end Sys2Proof.Machine
end

section
/-!
PACE_JOB, sensor conversions, the flush of the log and the RTC alarm (R504, R516, R533 to R538, R544): O52.
-/
namespace Sys2Proof.Machine

/-! ### PACE_JOB -/

theorem getR_paceJobWrite (h : Nat) (v : Reg) (d : Device) : getR (paceJobWrite h v d) (pacePage h + 0x100) = v.toNat % 16
    ∧ (∀ o ∈ [0x104, 0x108, 0x10C, 0x110, 0x114, 0x118], getR (paceJobWrite h v d) (pacePage h + o) = 0)
    ∧ ∀ o, (o < pacePage h + 0x100 ∨ pacePage h + 0x11C ≤ o) → getR (paceJobWrite h v d) o = getR d o := by
  have hzero : ∀ (l : List Nat) (e : Device) (o : Nat), getR (l.foldl (fun d k => setR d (pacePage h + k) 0) e) o
      = if ∃ k ∈ l, pacePage h + k = o then 0 else getR e o := by
    intro l
    induction l with
    | nil => simp
    | cons k l ih =>
      intro e o
      rw [List.foldl_cons, ih, getR_setR_eq]
      by_cases hl : ∃ k ∈ l, pacePage h + k = o
      · obtain ⟨k', hk', rfl⟩ := hl
        rw [if_pos ⟨k', hk', rfl⟩, if_pos ⟨k', List.mem_cons_of_mem _ hk', rfl⟩]
      · rw [if_neg hl]
        by_cases hk : o = pacePage h + k
        · rw [if_pos hk, if_pos ⟨k, List.mem_cons_self, hk.symm⟩, Nat.zero_mod]
        · rw [if_neg hk, if_neg]
          rintro ⟨k', hk', he⟩
          rcases List.mem_cons.mp hk' with rfl | hk'
          · exact hk he.symm
          · exact hl ⟨k', hk', he⟩
  unfold paceJobWrite
  dsimp only
  refine ⟨?_, fun o ho => ?_, fun o ho => ?_⟩
  · rw [hzero, if_neg, getR_setR, Nat.mod_eq_of_lt (by omega)]
    rintro ⟨k, hk, he⟩
    have : k = 0x100 := Nat.add_left_cancel he
    subst this
    simp at hk
  · rw [hzero, if_pos ⟨o, ho, rfl⟩]
  · rw [hzero, if_neg, getR_setR_ne _ _ _ _ (by omega)]
    rintro ⟨k, hk, he⟩
    simp only [List.mem_cons, List.not_mem_nil, or_false] at hk
    omega

theorem jobs_paceJobWrite (h : Nat) (v : Reg) (d : Device) : (paceJobWrite h v d).jobs = d.jobs := rfl

/-! ### Samples -/

theorem fld_bit_iff (w n : Nat) : fld w n n = 1 ↔ w.testBit n = true := by
  simp only [fld, Nat.sub_self, Nat.zero_add, Nat.pow_one, Nat.testBit, bne_iff_ne, ne_eq]
  rw [Nat.and_comm, Nat.and_one_is_mod]
  omega

/-- An alert leaves the causes that stand. -/
theorem fld_alert_of {d : Device} {k n : Nat} (hn : n < 32) (h : fld (getR d (porterPage + 0x108)) k k = 1) :
    fld (getR (alert d n) (porterPage + 0x108)) k k = 1 := by
  have hlt : getR d (porterPage + 0x108) ||| 2 ^ n < 2 ^ 32 := Nat.or_lt_two_pow (getR_lt _ _) (Nat.pow_lt_pow_right (by decide) hn)
  rw [alert, getR_setR, Nat.mod_eq_of_lt hlt, fld_bit_iff, Nat.testBit_or, (fld_bit_iff _ _).mp h, Bool.true_or]

/-- What the check of a limit leaves alone: memory, cores, samples, the sensors past WARN and the alerts that stand. -/
structure Checked (d e : Device) : Prop where
  stack : e.stack = d.stack
  cores : e.cores = d.cores
  samples : e.porter.samples = d.porter.samples
  overWarn : e.porter.overWarn = d.porter.overWarn
  alerts : ∀ k, fld (getR d (porterPage + 0x108)) k k = 1 → fld (getR e (porterPage + 0x108)) k k = 1

theorem Checked.refl (d : Device) : Checked d d := ⟨rfl, rfl, rfl, rfl, fun _ h => h⟩
theorem Checked.trans {d e f : Device} (h : Checked d e) (h' : Checked e f) : Checked d f :=
  ⟨h'.stack.trans h.stack, h'.cores.trans h.cores, h'.samples.trans h.samples, h'.overWarn.trans h.overWarn, fun k hk => h'.alerts k (h.alerts k hk)⟩

theorem checked_alert (d : Device) {n : Nat} (hn : n < 32) : Checked d (alert d n) := ⟨rfl, rfl, rfl, rfl, fun _ h => fld_alert_of hn h⟩

theorem checked_pushEv (d : Device) (e : Ev) : Checked d (pushEv d e) := by
  have hp := eq_of_erased bare Device.porter (fun _ => rfl) (bare_pushEv d e)
  refine ⟨eq_of_erased bare Device.stack (fun _ => rfl) (bare_pushEv d e), eq_of_erased bare Device.cores (fun _ => rfl) (bare_pushEv d e),
    congrArg Porter.samples hp, congrArg Porter.overWarn hp, fun k h => ?_⟩
  rwa [getR_pushEv_ne _ _ (by decide)]

theorem checked_log (d : Device) (ty sv : Nat) (p : List Byte) : Checked d (log d ty sv p) := by
  have hp := porter_log d ty sv p
  refine ⟨eq_of_erased bare Device.stack (fun _ => rfl) (bare_log d ty sv p), eq_of_erased bare Device.cores (fun _ => rfl) (bare_log d ty sv p),
    congrArg Porter.samples hp, congrArg Porter.overWarn hp, fun k h => ?_⟩
  rwa [getR_log_ne _ _ _ _ (by decide) (by decide)]

theorem checked_dvfsReq (d : Device) {h : Nat} (who v : Nat) (hh : h < 18) (hw : who < 4) : Checked d (dvfsReq d h who v) := by
  obtain ⟨h1, h2, h3, h4⟩ := dvfsReq_keeps d h who v
  refine ⟨h1, h2, congrArg Porter.samples h3, congrArg Porter.overWarn h3, fun k hk => ?_⟩
  have hne : porterPage + 0x108 ≠ dvfsWin h + 4 * who := by
    simp only [porterPage, dvfsWin, pwrPage]
    omega
  rwa [h4 _ hne]

theorem checked_dvfsReqs (l : List Nat) (hl : ∀ h ∈ l, h < 18) (d : Device) (v : Nat) : Checked d (l.foldl (fun d h => dvfsReq d h 3 v) d) := by
  induction l generalizing d with
  | nil => exact .refl d
  | cons h l ih =>
    simp only [List.forall_mem_cons] at hl
    exact (checked_dvfsReq d 3 v hl.1 (by decide)).trans (ih hl.2 _)

theorem activeHalls_lt (d : Device) : ∀ h ∈ activeHalls d, h < 18 := fun _ hh => List.mem_range.mp (List.mem_of_mem_filter hh)

theorem checked_tripCheck (d : Device) (i v : Nat) (x : SensorDesc) : Checked d (tripCheck d i v x) := by
  have hporter : ∀ (e : Device) (r : List Nat), Checked e { e with porter := { e.porter with rails := r } } := fun _ _ => ⟨rfl, rfl, rfl, rfl, fun _ h => h⟩
  have hover : ∀ r : List Nat, Checked d { d with porter := { d.porter with overTrip := r } } := fun _ => ⟨rfl, rfl, rfl, rfl, fun _ h => h⟩
  unfold tripCheck
  dsimp only
  split
  · split
    · exact hover _
    · exact .refl d
  · split
    · split
      · exact ((((hover _).trans (checked_pushEv _ _)).trans (checked_alert _ (by decide))).trans (hporter _ _)).trans
          (checked_dvfsReqs _ (activeHalls_lt _) _ _)
      · exact ((hover _).trans (checked_pushEv _ _)).trans (checked_alert _ (by decide))
    · exact .refl d

/-- The WARN check leaves memory, cores and samples; past the limit the sensor is named and the alert is set. -/
theorem warnCheck_keeps (d : Device) (i v : Nat) (x : SensorDesc) : let e := warnCheck d i v x
    e.stack = d.stack ∧ e.cores = d.cores ∧ e.porter.samples = d.porter.samples
    ∧ (pastLimit x x.warn v = true → i ∉ d.porter.overWarn → i ∈ e.porter.overWarn ∧ fld (getR e (porterPage + 0x108)) 0 0 = 1) := by
  dsimp only
  unfold warnCheck
  by_cases hin : d.porter.overWarn.contains i = true
  · rw [if_pos hin]
    split
    · exact ⟨rfl, rfl, rfl, fun _ hn => absurd (by simpa using hin) hn⟩
    · exact ⟨rfl, rfl, rfl, fun _ hn => absurd (by simpa using hin) hn⟩
  · rw [if_neg hin]
    by_cases hpast : pastLimit x x.warn v = true
    · rw [if_pos hpast]
      dsimp only
      have hc : ∀ (e : Device) (p : List Byte) (ev : Ev), Checked e (pushEv (log e 3 1 p) ev) := fun e p ev =>
        (checked_log e 3 1 p).trans (checked_pushEv _ ev)
      obtain ⟨c1, c2, c3, c4, -⟩ := (hc { d with porter := { d.porter with overWarn := nins d.porter.overWarn i } }
        (toLE 2 i ++ toLE 2 v ++ toLE 2 x.warn.toNat) { type := 0x100, detail := toLE 2 i ++ toLE 2 v }).trans (checked_alert _ (n := 0) (by decide))
      exact ⟨c1, c2, c3, fun _ _ => ⟨by rw [c4]; exact mem_nins.mpr (Or.inl rfl), fld_alert _ (by decide)⟩⟩
    · rw [if_neg hpast]
      exact ⟨rfl, rfl, rfl, fun h => absurd h hpast⟩

/-- A sample is kept with its tick, and checked. -/
theorem sensorSample_keeps (d : Device) (i v : Nat) : let e := sensorSample d i v
    e.stack = d.stack ∧ e.cores = d.cores ∧ tget (0, 0) e.porter.samples i = (v, porterTicks d)
    ∧ ∀ x, sensorDesc i = some x → pastLimit x x.warn v = true → i ∉ d.porter.overWarn →
      i ∈ e.porter.overWarn ∧ fld (getR e (porterPage + 0x108)) 0 0 = 1 := by
  dsimp only
  unfold sensorSample limitCheck
  cases hx : sensorDesc i with
  | none => exact ⟨rfl, rfl, tget_tset_self _ _ _ _, nofun⟩
  | some x =>
    dsimp only
    obtain ⟨w1, w2, w3, w4⟩ := warnCheck_keeps { d with porter := { d.porter with samples := tset d.porter.samples i (v, porterTicks d) } } i v x
    have ht := checked_tripCheck (warnCheck { d with porter := { d.porter with samples := tset d.porter.samples i (v, porterTicks d) } } i v x) i v x
    have hsample : tget (0, 0) (tripCheck (warnCheck { d with porter := { d.porter with samples := tset d.porter.samples i (v, porterTicks d) } } i v x)
        i v x).porter.samples i = (v, porterTicks d) := by rw [ht.samples, w3, tget_tset_self]
    by_cases hpast : pastLimit x x.warn v = true
    · rw [if_pos hpast]
      refine ⟨ht.stack.trans w1, ht.cores.trans w2, hsample, ?_⟩
      rintro y hy - hn
      obtain ⟨a1, a2⟩ := w4 hpast hn
      exact ⟨by rw [ht.overWarn]; exact a1, ht.alerts 0 a2⟩
    · rw [if_neg hpast]
      refine ⟨ht.stack.trans w1, ht.cores.trans w2, hsample, fun y hy hp => ?_⟩
      obtain rfl : x = y := Option.some.inj hy
      exact absurd hp hpast

/-! ### The alarm -/

/-- A wake leaves input power. -/
theorem wake_vin (d : Device) (c : Nat) : (wake d c).boot.vin = d.boot.vin := by
  have hexit : ∀ b : Boot, (startExit b).vin = b.vin := by
    intro b
    unfold startExit
    dsimp only
    split
    · rfl
    · split <;> rfl
  unfold wake
  dsimp only
  split
  · rfl
  · split
    · split <;> rfl
    · split
      · exact hexit _
      · rfl

theorem rtcAlarm_not {d : Device} (h : d.porter.alarm = 0 ∨ d.boot.vin = false ∨ get64 d (porterPage + 0x118) < d.porter.alarm) : rtcAlarm d = d := by
  unfold rtcAlarm
  dsimp only
  rw [if_pos]
  simpa [or_assoc] using h

/-- An alarm that the RTC has reached is cleared, raises its alert and drives ALERT_N. -/
theorem rtcAlarm_rings {d : Device} (h0 : d.porter.alarm ≠ 0) (hv : d.boot.vin = true) (ha : d.porter.alarm ≤ get64 d (porterPage + 0x118)) :
    let e := rtcAlarm d
    e.porter.alarm = 0 ∧ fld (getR e (porterPage + 0x108)) 3 3 = 1 ∧ alertLow e = true ∧ e.stack = d.stack ∧ e.cores = d.cores := by
  have hring : rtcAlarm d = wake (alert { d with porter := { d.porter with alarm := 0 } } 3) 5 := by
    unfold rtcAlarm
    dsimp only
    rw [if_neg (by simpa [h0, hv] using ha)]
  have hboot := wake_boot (alert { d with porter := { d.porter with alarm := 0 } } 3) 5
  have hvin : (wake (alert { d with porter := { d.porter with alarm := 0 } } 3) 5).boot.vin = true := (wake_vin _ _).trans hv
  have hbit : fld (getR (wake (alert { d with porter := { d.porter with alarm := 0 } } 3) 5) (porterPage + 0x108)) 3 3 = 1 := by
    rw [hboot]
    exact fld_alert _ (by decide)
  dsimp only
  rw [hring]
  refine ⟨by rw [hboot]; rfl, hbit, ?_, by rw [hboot]; rfl, by rw [hboot]; rfl⟩
  unfold alertLow
  dsimp only
  rw [hvin, bit_eq_fld, hbit]
  simp

/-- Settles O52: PACE_JOB by its registers, a sample by `sensorSample_keeps`, the log and the alarm by their equations. -/
theorem sensorsLogAndAlarm : Obligations.SensorsLogAndAlarm := by
  have hconv : ∀ (i : Nat) (v : BitVec 16) (s : State), i < 256 → exec (.sensorConversion i v) s = .next { s with dev := sensorConversion i v s.dev } :=
    fun i v s hi => run_wf (c := .sensorConversion i v) _ _ (by simpa [Instr.wf] using hi)
  refine ⟨⟨fun h v s hh => ?_, fun i v s hi hr => ⟨_, hconv i v s hi, ?_⟩⟩, fun i v s hi hno => ?_, fun s => ?_⟩
  · obtain ⟨h1, h2, h3⟩ := getR_paceJobWrite h v s.dev
    exact ⟨_, run_wf (c := .paceJobWrite h v) (paceJobWrite h v) s (by simp [Instr.wf, hh]), h1, h2, h3, jobs_paceJobWrite h v s.dev⟩
  · unfold sensorConversion
    cases hx : sensorDesc i with
    | none => exact ⟨rfl, rfl, fun _ => rfl, nofun⟩
    | some x =>
      dsimp only
      by_cases hk : x.locKind = 1 ∨ 5 ≤ x.locKind
      · rw [if_pos (by simpa [hr] using hk)]
        refine ⟨rfl, rfl, nofun, fun y hy h1 h5 => ?_⟩
        obtain rfl : x = y := Option.some.inj hy
        omega
      · rw [if_neg (by simpa [hr] using hk)]
        obtain ⟨k1, k2, k3, k4⟩ := sensorSample_keeps s.dev i v.toNat
        exact ⟨k1, k2, nofun, fun y hy _ _ => ⟨k3, k4 y (hx.trans hy)⟩⟩
  · rw [hconv i v s hi, sensorConversion]
    rcases hno with hr | ⟨x, hx, hk⟩
    · split
      · rfl
      · rw [if_pos (by simp [hr])]
    · rw [hx]
      dsimp only
      rw [if_pos (by simpa using Or.inl hk)]
  · have hlog : exec .logFlush s = .next { s with dev := logFlush s.dev } := run_wf (c := .logFlush) logFlush s rfl
    have hrtc : exec .rtcAlarm s = .next { s with dev := rtcAlarm s.dev } := run_wf (c := .rtcAlarm) rtcAlarm s rfl
    intro d
    refine ⟨fun hr => ?_, fun h => ?_, fun hr hl => ?_, fun hr hl => ⟨_, hlog, ?_⟩, fun h0 hv ha => ⟨_, hrtc, rtcAlarm_rings h0 hv ha⟩, fun h => ?_⟩
    · rw [hlog, logFlush, if_neg (by rw [show s.dev.boot.porterReady = false from hr]; decide)]
    · rw [hrtc, rtcAlarm_not (h.imp_right Or.inl)]
    · rw [hlog, logFlush, if_pos hr, flushLog]
      dsimp only
      rw [if_pos hl]
    · have hfl : logFlush s.dev = { bump s.dev (porterPage + 0x124) 1024 with logRing := (s.dev.logRing ++ s.dev.logFront).drop 1024, logFront := [] } := by
        rw [logFlush, if_pos hr, flushLog]
        dsimp only
        rw [if_neg (Nat.not_le.mpr hl)]
      show (logFlush s.dev).logFront = [] ∧ (logFlush s.dev).logRing = _ ∧ getR (logFlush s.dev) _ = _
      rw [hfl]
      exact ⟨rfl, rfl, getR_bump _ _ _⟩
    · rw [hrtc, rtcAlarm_not (Or.inr (Or.inr h))]

end Sys2Proof.Machine
end

section
/-!
Input power and the pins (R491, R538, R607 to R615, R624): O53. The Porter's boot, its recovery and its watchdog (R518, R525, R526, R532): O54.
-/
namespace Sys2Proof.Machine

/-! ### Input power -/

theorem closeSession_boot (d : Device) : (closeSession d).boot = d.boot ∧ (closeSession d).logRing = d.logRing := by
  unfold closeSession
  split <;> exact ⟨rfl, rfl⟩

/-- What the loss of input power leaves (R614). -/
theorem powerOff_keeps (d : Device) : (powerOff d).boot.vin = false ∧ (powerOff d).boot.protOpen = d.boot.protOpen ∧ (powerOff d).regs = []
    ∧ (powerOff d).stack = {} ∧ (powerOff d).porter.svn = d.porter.svn ∧ (powerOff d).logRing = d.logRing ∧ (powerOff d).porter.session = none :=
  ⟨rfl, rfl, rfl, rfl, rfl, rfl, rfl⟩

theorem powerApply_off {cool : BitVec 2} {slot : BitVec 6} {d : Device} (hv : d.boot.vin = false) (hp : d.boot.protOpen = false) :
    let e := powerApply cool slot d
    e.boot.vin = true ∧ e.boot.cool = cool.toNat ∧ e.boot.slot = slot.toNat ∧ e.boot.pwrEn = d.boot.pwrEn ∧ e.porter.slots = d.porter.slots
    ∧ e.porter.svn = d.porter.svn ∧ e.logRing = d.logRing ∧ e.stack = {} ∧ e.cores = [] ∧ e.regs = [] := by
  dsimp only
  unfold powerApply
  rw [if_neg (by simp [hv, hp])]
  dsimp only
  split
  · exact ⟨rfl, rfl, rfl, rfl, rfl, rfl, rfl, rfl, rfl, rfl⟩
  · exact ⟨rfl, rfl, rfl, rfl, rfl, rfl, rfl, rfl, rfl, rfl⟩

theorem pwrEnFall_rails {d : Device} (he : d.boot.pwrEn = true) (hv : d.boot.vin = true) (ht : d.boot.tripped = false) (hpm : d.boot.pm ≠ 4)
    (hr : d.boot.vrPgood = true ∨ d.boot.pm = 3 ∨ d.boot.exit ≠ 0) : let e := pwrEnFall d
    e.boot.pwrEn = false ∧ e.boot.vrPgood = false ∧ e.boot.vin = true ∧ e.cores = [] ∧ e.boot.porterReady = d.boot.porterReady := by
  dsimp only
  unfold pwrEnFall
  rw [if_neg (by simp [he])]
  dsimp only
  rw [if_neg (by simp [hv, ht]), if_neg (by simpa using hpm), if_pos (by simpa [or_assoc] using hr)]
  exact ⟨rfl, rfl, hv, rfl, rfl⟩

/-- The RTC outlives the loss of the rails and of the Porter island (R615, R624). -/
theorem getR_porterOff (d : Device) {o : Nat} (h : o = porterPage + 0x118 ∨ o = porterPage + 0x11C) : getR (porterOff d) o = getR d o := by
  have hne : o ≠ porterPage + 0x108 := by rcases h with rfl | rfl <;> decide
  have hclose : (closeSession d).regs = d.regs := by unfold closeSession; split <;> rfl
  have hkeep : ∀ t : Tab Reg, (t.filter (fun e => e.1 == porterPage + 0x118 || e.1 == porterPage + 0x11C || e.1 == porterPage + 0x120)).find? (fun e => e.1 == o)
      = t.find? (fun e => e.1 == o) := fun t => by
    rw [List.find?_filter]
    congr 1
    funext e
    by_cases he : e.1 = o
    · rcases h with rfl | rfl <;> simp [he]
    · simp [he]
  have hregs : (porterOff d).regs.find? (fun e => e.1 == o) = (closeSession d).regs.find? (fun e => e.1 == o) := by
    unfold porterOff
    dsimp only
    rw [List.find?_append, hkeep]
    split <;> simp [Ne.symm hne]
  simp only [getR, hregs, hclose]

/-- The RTC is kept over a reset of the module. -/
theorem rtc_moduleReset (d : Device) (c : Nat) {o : Nat} (h : o = porterPage + 0x118 ∨ o = porterPage + 0x11C) : getR (moduleReset d c) o = getR d o := by
  have hpage : o / 0x1000 = 0xD00 := by rcases h with rfl | rfl <;> decide
  have hfilter : (moduleReset d c).regs.find? (fun e => e.1 == o) = (porterOff (railsOff (flushLog d))).regs.find? (fun e => e.1 == o) := by
    show ((porterOff (railsOff (flushLog d))).regs.filter _).find? _ = _
    rw [List.find?_filter]
    congr 1
    funext e
    by_cases he : e.1 = o
    · simp [he, hpage]
    · simp [he]
  calc getR (moduleReset d c) o = getR (porterOff (railsOff (flushLog d))) o := by simp only [getR, hfilter]
    _ = getR (railsOff (flushLog d)) o := getR_porterOff _ h
    _ = getR (flushLog d) o := getR_railsOff _ hpage
    _ = getR d o := getR_flushLog_ne _ (by rcases h with rfl | rfl <;> decide)

/-- What a module reset keeps and clears, no session being open. -/
theorem moduleReset_keeps {d : Device} (c : Nat) (hv : d.boot.vin = true) (hs : d.porter.session = none) : let e := moduleReset d c
    e.boot.tripped = false ∧ e.boot.porterReady = false ∧ e.boot.vrPgood = false ∧ e.boot.vin = true
    ∧ e.boot.entry = true ∧ e.cores = [] ∧ e.jobs = [] ∧ e.stack = {} ∧ e.porter.svn = d.porter.svn
    ∧ e.porter.slots = d.porter.slots ∧ get64 e (porterPage + 0x118) = get64 d (porterPage + 0x118) := by
  have hp := porter_flushLog d
  have hb : (flushLog d).boot = d.boot := eq_of_erased bare Device.boot (fun _ => rfl) (bare_flushLog d)
  have hclose : closeSession (railsOff (flushLog d)) = railsOff (flushLog d) :=
    closeSession_none (show (flushLog d).porter.session = none by rw [hp, hs])
  have hoff : ∀ e : Device, closeSession e = e → (porterOff e).boot.vin = e.boot.vin ∧ (porterOff e).boot.vrPgood = e.boot.vrPgood
      ∧ (porterOff e).cores = e.cores ∧ (porterOff e).jobs = e.jobs ∧ (porterOff e).stack = e.stack ∧ (porterOff e).porter.svn = e.porter.svn
      ∧ (porterOff e).porter.slots = e.porter.slots := fun e he => by
    unfold porterOff
    rw [he]
    exact ⟨rfl, rfl, rfl, rfl, rfl, rfl, rfl⟩
  obtain ⟨o1, o2, o3, o4, o5, o6, o7⟩ := hoff _ hclose
  refine ⟨rfl, rfl, o2, o1.trans ?_, rfl, o3, o4, o5, o6.trans ?_, o7.trans ?_, ?_⟩
  · show (flushLog d).boot.vin = true
    rw [hb, hv]
  · show (flushLog d).porter.svn = _
    rw [hp]
  · show (flushLog d).porter.slots = _
    rw [hp]
  · simp only [get64]
    rw [rtc_moduleReset _ _ (Or.inl rfl), rtc_moduleReset _ _ (Or.inr rfl)]

section
variable (s : State)

theorem exec_powerApply (cool : BitVec 2) (slot : BitVec 6) : exec (.powerApply cool slot) s = .next { s with dev := powerApply cool slot s.dev } :=
  run_wf (c := .powerApply cool slot) (powerApply cool slot) s rfl
theorem exec_powerLoss : exec .powerLoss s = .next { s with dev := powerLoss s.dev } := run_wf (c := .powerLoss) powerLoss s rfl
theorem exec_overvoltage : exec .overvoltageShutdown s = .next { s with dev := overvoltageShutdown s.dev } :=
  run_wf (c := .overvoltageShutdown) overvoltageShutdown s rfl
theorem exec_protectionOpen : exec .inputProtectionOpen s = .next { s with dev := inputProtectionOpen s.dev } :=
  run_wf (c := .inputProtectionOpen) inputProtectionOpen s rfl
theorem exec_pwrEnFall : exec .pwrEnFall s = .next { s with dev := pwrEnFall s.dev } := run_wf (c := .pwrEnFall) pwrEnFall s rfl
theorem exec_modResetN : exec .modResetN s = .next { s with dev := modResetN s.dev } := run_wf (c := .modResetN) modResetN s rfl

end

/-- Settles O53: each pin and each loss of power by what it keeps. -/
theorem powerAndPins : Obligations.PowerAndPins := by
  refine ⟨fun s => ?_, fun s => ?_⟩
  · intro d b
    obtain ⟨cb, cl⟩ := closeSession_boot s.dev
    obtain ⟨-, csvn⟩ := porter_closeSession s.dev
    obtain ⟨p1, p2, p3, p4, p5, p6, p7⟩ := powerOff_keeps (closeSession s.dev)
    refine ⟨fun cool slot hv hp => ⟨_, exec_powerApply s cool slot, powerApply_off hv hp⟩, fun cool slot h => ?_, fun hv => ⟨?_, ?_, ?_⟩,
      ⟨_, exec_powerLoss s, p1, rfl, p5.trans csvn, p6.trans cl, p3, p4, p7⟩, fun hv => ⟨_, exec_overvoltage s, ?_⟩,
      fun hv => ⟨_, exec_protectionOpen s, ?_⟩, run_wf (c := .pwrEnRise) pwrEnRise s rfl,
      fun he hv ht hpm hr => ⟨_, exec_pwrEnFall s, pwrEnFall_rails he hv ht hpm hr⟩, fun he hv ht hpm => ?_, fun he => ?_, fun he h => ?_, fun hv => ?_,
      run_wf (c := .wakeN) wakeN s rfl⟩
    · rw [exec_powerApply, powerApply, if_pos (by simpa using h)]
    · rw [exec_overvoltage, overvoltageShutdown, if_neg (by simp [show s.dev.boot.vin = false from hv])]
    · rw [exec_protectionOpen, inputProtectionOpen, if_pos (by simp [show s.dev.boot.vin = false from hv])]
    · rw [exec_modResetN, modResetN, if_neg (by simp [show s.dev.boot.vin = false from hv])]
    · show (overvoltageShutdown s.dev).boot.vin = false ∧ (overvoltageShutdown s.dev).boot.protOpen = _ ∧ (overvoltageShutdown s.dev).regs = []
      rw [overvoltageShutdown, if_pos hv, p2, cb]
      exact ⟨p1, rfl, p3⟩
    · show (inputProtectionOpen s.dev).boot.vin = false ∧ (inputProtectionOpen s.dev).boot.protOpen = true ∧ (inputProtectionOpen s.dev).regs = []
      rw [inputProtectionOpen, if_neg (by simp [show s.dev.boot.vin = true from hv])]
      exact ⟨p1, rfl, p3⟩
    · rw [exec_pwrEnFall, pwrEnFall, if_neg (by simp [show s.dev.boot.pwrEn = true from he])]
      dsimp only
      rw [if_neg (by simp [show s.dev.boot.vin = true from hv, show s.dev.boot.tripped = false from ht]), if_pos (by simpa using hpm)]
    · rw [exec_pwrEnFall, pwrEnFall, if_pos (by simp [show s.dev.boot.pwrEn = false from he])]
    · rw [exec_pwrEnFall, pwrEnFall, if_neg (by simp [show s.dev.boot.pwrEn = true from he])]
      dsimp only
      by_cases hoff : (!s.dev.boot.vin || s.dev.boot.tripped) = true
      · rw [if_pos hoff]
      · have hlast : s.dev.boot.pm ≠ 4 ∧ s.dev.boot.vrPgood = false ∧ s.dev.boot.pm ≠ 3 ∧ s.dev.boot.exit = 0 := by
          rcases h with h | h | h
          · exact absurd (by simp [show s.dev.boot.tripped = true from h]) hoff
          · exact absurd (by simp [show s.dev.boot.vin = false from h]) hoff
          · exact h
        obtain ⟨h4, hg, h3, hx⟩ := hlast
        rw [if_neg hoff, if_neg (by simpa using h4), if_neg (by simp [hg, h3, hx])]
    · rw [exec_modResetN, modResetN, if_pos hv]
  · intro d hv hs
    refine ⟨_, exec_modResetN s, ?_⟩
    have hreset : modResetN s.dev = moduleReset s.dev 1 := by rw [modResetN, if_pos hv]
    have hkeep := moduleReset_keeps 1 hv hs
    rw [← hreset] at hkeep
    exact hkeep

/-! ### The Porter's boot -/

/-- What recovery mode holds (R526). -/
theorem recover_keeps (d : Device) (fuse : Bool) : (recover d fuse).boot.recovery = true ∧ (recover d fuse).boot.porterReady = false
    ∧ (recover d fuse).boot.fuseErr = fuse ∧ (recover d fuse).porter = d.porter := by
  unfold recover
  dsimp only
  have hb : ∀ e : Device, (bootRecord e 6 1 2).boot = e.boot ∧ (bootRecord e 6 1 2).porter = e.porter := fun e =>
    ⟨eq_of_erased bare Device.boot (fun _ => rfl) (bare_log _ _ _ _), porter_log _ _ _ _⟩
  obtain ⟨h1, h2⟩ := hb (alert { d with boot := { d.boot with porterReady := false, recovery := true, fuseErr := fuse } } 5)
  rw [h1, h2]
  exact ⟨rfl, rfl, rfl, rfl⟩

/-- The slot of a kind that is not in TRIAL: the active one when its image is accepted, none when neither is. -/
theorem selectSlot_active {d : Device} {kind : Nat} (ht : inTrial d kind = false) (h : imageOk d kind (activeSlot d kind) = true) :
    selectSlot d kind = (some (activeSlot d kind), false, d) := by
  unfold selectSlot
  rw [if_neg (by simp [ht]), if_pos h]

theorem slotByte_of_slots {d e : Device} (h : e.porter.slots = d.porter.slots) (kind slot o : Nat) : slotByte e kind slot o = slotByte d kind slot o := by
  simp only [slotByte, h]

/-- An image is accepted by what its slot and the fuses hold. -/
theorem imageOk_of_slots {d e : Device} (h : e.porter.slots = d.porter.slots) (hs : e.porter.svn = d.porter.svn) (kind slot : Nat) :
    imageOk e kind slot = imageOk d kind slot := by
  have hbyte : slotByte e kind slot = slotByte d kind slot := funext fun o => slotByte_of_slots h kind slot o
  have hbytes : slotBytes e kind slot = slotBytes d kind slot := by
    funext off n
    simp only [slotBytes, hbyte]
  have hfuse : fusedSvn e kind = fusedSvn d kind := by simp only [fusedSvn, hs]
  unfold imageOk headOk imageBody bodyLen imageSvn
  rw [hbytes, hbyte, hfuse]

theorem porter_rejectImage (d : Device) (kind slot : Nat) :
    (rejectImage d kind slot).porter = { d.porter with sigFails := min (d.porter.sigFails + 1) 0xFFFFFFFF } := porter_fwState _ _ _ _ _

theorem rejectImage_keeps (d : Device) (kind slot : Nat) : (rejectImage d kind slot).porter.mRom = d.porter.mRom
    ∧ (rejectImage d kind slot).porter.slots = d.porter.slots ∧ (rejectImage d kind slot).porter.svn = d.porter.svn := by
  rw [porter_rejectImage]
  exact ⟨rfl, rfl, rfl⟩

theorem selectSlot_none {d : Device} {kind : Nat} (ht : inTrial d kind = false) (h : imageOk d kind (activeSlot d kind) = false)
    (h' : imageOk d kind (1 - activeSlot d kind) = false) :
    selectSlot d kind = (none, false, rejectImage (rejectImage d kind (activeSlot d kind)) kind (1 - activeSlot d kind)) := by
  obtain ⟨-, hslots, hsvn⟩ := rejectImage_keeps d kind (activeSlot d kind)
  have hother : imageOk (rejectImage d kind (activeSlot d kind)) kind (1 - activeSlot d kind) = false := by
    rw [imageOk_of_slots hslots hsvn, h']
  unfold selectSlot
  rw [if_neg (by simp [ht]), if_neg (by simp [h])]
  dsimp only
  rw [if_neg (by simp [hother])]

/-- A part of the Porter that TRIAL is none of. -/
theorem porter_confirm {β : Type} (F : Porter → β) (hF : ∀ x l, F { x with trial := l } = F x) (d : Device) (kind : Nat) :
    F (confirm d kind).porter = F d.porter := by
  unfold confirm
  split
  · rw [porter_fwState]; exact hF _ _
  · rfl

theorem boot_confirm (d : Device) (kind : Nat) : (confirm d kind).boot = d.boot := by
  unfold confirm
  split
  · exact (eq_of_erased bare Device.boot (fun _ => rfl) (bare_fwState _ _ _ _ _)).trans rfl
  · rfl

/-- Wrong straps are reported at the first boot after power (R498). -/
def strapsReport (d : Device) : Device :=
  if d.boot.entry && d.boot.cause == 0 && d.boot.cool == 3 then
    let v := toLE 1 d.boot.cool ++ toLE 1 d.boot.slot
    alert (pushEv (log d 12 1 v) { type := 0x104, detail := v }) 8
  else d

/-- The BOOT record of an entry, whose maps are the seed's (R634). -/
def entryReport (d : Device) : Device :=
  if d.boot.entry then
    let d := bootRecord d d.boot.cause 0 0
    { d with boot := { d.boot with entry := false, cause := 0 }, plan := { d.plan with maps := d.porter.seed } }
  else d

/-- A restart is reported (R547). -/
def restartReport (d : Device) : Device :=
  if d.boot.restart == 0 then d
  else
    let d := pushEv d { type := 0x105, detail := toLE 1 (d.boot.restart - 1) }
    { d with boot := { d.boot with restart := 0 } }

theorem porterUp_eq (d : Device) : porterUp d = restartReport (entryReport (strapsReport (confirm { d with boot := { d.boot with porterReady := true } } 1))) := rfl

/-- The flags of a Porter that runs and the Porter itself are the same. -/
structure SamePorter (d e : Device) : Prop where
  ready : e.boot.porterReady = d.boot.porterReady
  recovery : e.boot.recovery = d.boot.recovery
  porter : e.porter = d.porter

theorem SamePorter.trans {d e f : Device} (h : SamePorter d e) (h' : SamePorter e f) : SamePorter d f :=
  ⟨h'.ready.trans h.ready, h'.recovery.trans h.recovery, h'.porter.trans h.porter⟩

theorem SamePorter.of_bare {d e : Device} (h : bare e = bare d) : SamePorter d e :=
  ⟨eq_of_erased bare (fun d => d.boot.porterReady) (fun _ => rfl) h, eq_of_erased bare (fun d => d.boot.recovery) (fun _ => rfl) h,
    eq_of_erased bare Device.porter (fun _ => rfl) h⟩

theorem samePorter_strapsReport (d : Device) : SamePorter d (strapsReport d) := by
  unfold strapsReport
  dsimp only
  split
  · exact .of_bare (by rw [alert, bare_setR, bare_pushEv, bare_log])
  · exact .of_bare rfl

theorem samePorter_entryReport (d : Device) : SamePorter d (entryReport d) := by
  unfold entryReport
  dsimp only
  split
  · exact (SamePorter.of_bare (bare_log d _ _ _)).trans ⟨rfl, rfl, rfl⟩
  · exact .of_bare rfl

theorem samePorter_restartReport (d : Device) : SamePorter d (restartReport d) := by
  unfold restartReport
  dsimp only
  split
  · exact .of_bare rfl
  · exact (SamePorter.of_bare (bare_pushEv d _)).trans ⟨rfl, rfl, rfl⟩

/-- A Porter that is ready runs, and what it runs is what it has measured. -/
theorem porterUp_keeps (d : Device) : (porterUp d).boot.porterReady = true ∧ (porterUp d).boot.recovery = d.boot.recovery
    ∧ ∀ {β : Type} (F : Porter → β), (∀ x l, F { x with trial := l } = F x) → F (porterUp d).porter = F d.porter := by
  obtain ⟨h1, h2, h3⟩ := ((samePorter_strapsReport (confirm { d with boot := { d.boot with porterReady := true } } 1)).trans
    (samePorter_entryReport _)).trans (samePorter_restartReport _)
  have hb := boot_confirm { d with boot := { d.boot with porterReady := true } } 1
  rw [porterUp_eq, h1, h2, h3, hb]
  exact ⟨rfl, rfl, fun F hF => porter_confirm F hF _ _⟩

/-- The Porter with its ROM measured, as the boot chain begins. -/
def romMeasured (d : Device) : Device := { d with porter := { d.porter with mRom := Config.romHash } }

section
variable {d : Device}

theorem porterBoot_up (h : porterDown d = false) (ok : Bool) : porterBoot ok d = d := by
  rw [porterBoot, if_pos (by simp [h])]

theorem porterBoot_fuses (h : porterDown d = true) : porterBoot false d = recover (romMeasured d) true := by
  rw [porterBoot, if_neg (by simp [h])]
  rfl

theorem porterBoot_none (h : porterDown d = true) (hs : (selectSlot (romMeasured d) 1).1 = none) :
    porterBoot true d = recover (selectSlot (romMeasured d) 1).2.2 false := by
  rw [porterBoot, if_neg (by simp [h])]
  show (match selectSlot (romMeasured d) 1 with
    | (none, _, d) => recover d false
    | (some s, _, d) => porterUp (runImage d 1 s)) = _
  generalize selectSlot (romMeasured d) 1 = r at hs
  obtain ⟨_, b, e⟩ := r
  cases hs
  rfl

theorem porterBoot_some (h : porterDown d = true) {k : Nat} (hs : (selectSlot (romMeasured d) 1).1 = some k) :
    porterBoot true d = porterUp (runImage (selectSlot (romMeasured d) 1).2.2 1 k) := by
  rw [porterBoot, if_neg (by simp [h])]
  show (match selectSlot (romMeasured d) 1 with
    | (none, _, d) => recover d false
    | (some s, _, d) => porterUp (runImage d 1 s)) = _
  generalize selectSlot (romMeasured d) 1 = r at hs
  obtain ⟨_, b, e⟩ := r
  cases hs
  rfl

theorem watchdog_none (hr : d.boot.porterReady = false) (h : porterDown d = true) (hs : (selectSlot d 1).1 = none) :
    watchdogRestart d = recover (selectSlot d 1).2.2 false := by
  rw [watchdogRestart, if_neg (by simp [hr]), if_neg (by simp [h])]
  generalize selectSlot d 1 = r at hs
  obtain ⟨_, b, e⟩ := r
  cases hs
  rfl

theorem watchdog_some (hr : d.boot.porterReady = false) (h : porterDown d = true) {k : Nat} (hs : (selectSlot d 1).1 = some k) :
    watchdogRestart d = porterRestart (selectSlot d 1).2.2 1 := by
  rw [watchdogRestart, if_neg (by simp [hr]), if_neg (by simp [h])]
  generalize selectSlot d 1 = r at hs
  obtain ⟨_, b, e⟩ := r
  cases hs
  rfl

/-- A boot with good fuses of a slot that is not in TRIAL. -/
theorem porterBoot_settled (h : porterDown d = true) (ht : inTrial d 1 = false) : let e := porterBoot true d
    e.porter.mRom = Config.romHash
    ∧ (imageOk d 1 (activeSlot d 1) = true → e.boot.porterReady = true ∧ e.boot.recovery = false
      ∧ tget 9 e.porter.runSlot 1 = activeSlot d 1 ∧ e.porter.mPorter = Config.sha384 (imageBody d 1 (activeSlot d 1)))
    ∧ (imageOk d 1 (activeSlot d 1) = false → imageOk d 1 (1 - activeSlot d 1) = false → e.boot.recovery = true ∧ e.boot.porterReady = false) := by
  have hrec : d.boot.recovery = false := by
    simp only [porterDown, Bool.and_eq_true, Bool.not_eq_true'] at h
    exact h.1.2
  have hok : ∀ k, imageOk (romMeasured d) 1 k = imageOk d 1 k := imageOk_of_slots rfl rfl 1
  dsimp only
  by_cases ha : imageOk d 1 (activeSlot d 1) = true
  · have hsel := selectSlot_active (d := romMeasured d) (kind := 1) ht ((hok _).trans ha)
    have hboot : porterBoot true d = porterUp (runImage (romMeasured d) 1 (activeSlot d 1)) := by
      rw [porterBoot_some h (by rw [hsel]), hsel]
      rfl
    obtain ⟨u1, u2, u3⟩ := porterUp_keeps (runImage (romMeasured d) 1 (activeSlot d 1))
    rw [hboot]
    refine ⟨u3 Porter.mRom fun _ _ => rfl, fun _ => ⟨u1, u2.trans hrec, ?_, u3 Porter.mPorter fun _ _ => rfl⟩, fun hn => absurd ha (by simp [hn])⟩
    rw [u3 Porter.runSlot fun _ _ => rfl]
    exact tget_tset_self _ _ _ _
  · have ha' := Bool.eq_false_iff.mpr ha
    by_cases hother : imageOk d 1 (1 - activeSlot d 1) = true
    · refine ⟨?_, fun h1 => absurd h1 ha, fun _ h2 => absurd hother (by simp [h2])⟩
      obtain ⟨hrom, hslots, hsvn⟩ := rejectImage_keeps (romMeasured d) 1 (activeSlot d 1)
      have hsel : selectSlot (romMeasured d) 1
          = (some (1 - activeSlot d 1), false, setActive (rejectImage (romMeasured d) 1 (activeSlot d 1)) 1 (1 - activeSlot d 1)) := by
        have h2 : imageOk (rejectImage (romMeasured d) 1 (activeSlot d 1)) 1 (1 - activeSlot d 1) = true := by
          rw [imageOk_of_slots (d := d) hslots hsvn, hother]
        have h1 : imageOk (romMeasured d) 1 (activeSlot (romMeasured d) 1) = false := (hok _).trans ha'
        have ht' : inTrial (romMeasured d) 1 = false := ht
        unfold selectSlot
        rw [if_neg (by simp [ht']), if_neg (by simp [h1])]
        exact if_pos h2
      rw [porterBoot_some h (by rw [hsel]), hsel]
      refine ((porterUp_keeps _).2.2 Porter.mRom fun _ _ => rfl).trans ?_
      show (rejectImage (romMeasured d) 1 (activeSlot d 1)).porter.mRom = _
      exact hrom
    · have hother' := Bool.eq_false_iff.mpr hother
      have hsel := selectSlot_none (d := romMeasured d) (kind := 1) ht ((hok _).trans ha') ((hok _).trans hother')
      rw [porterBoot_none h (by rw [hsel]), hsel]
      dsimp only
      obtain ⟨r1, r2, -, r4⟩ := recover_keeps (rejectImage (rejectImage (romMeasured d) 1 (activeSlot (romMeasured d) 1)) 1 (1 - activeSlot (romMeasured d) 1)) false
      rw [r1, r2, r4]
      refine ⟨?_, fun h1 => absurd h1 ha, fun _ _ => ⟨rfl, rfl⟩⟩
      rw [ (rejectImage_keeps _ _ _).1, (rejectImage_keeps _ _ _).1]
      rfl

/-- A Porter that runs is restarted by its watchdog. -/
theorem watchdog_running (h : d.boot.porterReady = true) : let e := watchdogRestart d
    e.boot.porterReady = false ∧ e.boot.restart = 2 ∧ e.logFront = [] ∧ e.transients = [] ∧ e.stack = d.stack ∧ e.cores = d.cores := by
  have hfront : (flushLog d).logFront = [] := by
    unfold flushLog
    dsimp only
    split <;> rfl
  dsimp only
  rw [watchdogRestart, if_pos h]
  have hstack : (flushLog d).stack = d.stack := eq_of_erased bare Device.stack (fun _ => rfl) (bare_flushLog d)
  have hcores : (flushLog d).cores = d.cores := eq_of_erased bare Device.cores (fun _ => rfl) (bare_flushLog d)
  exact ⟨rfl, rfl, hfront, rfl, hstack, hcores⟩

end

/-- Settles O54: the boot by the slot that is selected, recovery and the watchdog by their equations. -/
theorem porterBoots : Obligations.PorterBoots := by
  intro s d
  have hboot : ∀ ok, exec (.porterBoot ok) s = .next { s with dev := porterBoot ok s.dev } := fun ok => run_wf (c := .porterBoot ok) (porterBoot ok) s rfl
  have hdog : exec .watchdogRestart s = .next { s with dev := watchdogRestart s.dev } := run_wf (c := .watchdogRestart) watchdogRestart s rfl
  have htime : exec .porterReadyTimeout s = .next { s with dev := porterReadyTimeout s.dev } := run_wf (c := .porterReadyTimeout) porterReadyTimeout s rfl
  refine ⟨fun h ht => ⟨_, hboot true, porterBoot_settled h ht⟩, fun h => ⟨fun hs => ?_, fun k hs => ?_⟩, fun hr h => ⟨fun hs => ?_, fun k hs => ?_⟩,
    fun h => ⟨fun ok => ?_, ?_, fun hr => ?_⟩, fun h => ⟨_, hboot false, ?_⟩, fun h => ?_, fun h => ⟨_, hdog, watchdog_running h⟩⟩
  · rw [hboot, porterBoot_none h hs]; rfl
  · rw [hboot, porterBoot_some h hs]; rfl
  · rw [hdog, watchdog_none hr h hs]
  · rw [hdog, watchdog_some hr h hs]
  · rw [hboot, porterBoot_up h]
  · rw [htime, porterReadyTimeout, if_neg (by rw [h]; decide)]
  · rw [hdog, watchdogRestart, if_neg (by rw [hr]; decide), if_pos (by rw [h]; rfl)]
  · obtain ⟨r1, r2, r3, -⟩ := recover_keeps (romMeasured s.dev) true
    show (porterBoot false s.dev).boot.recovery = true ∧ (porterBoot false s.dev).boot.fuseErr = true ∧ (porterBoot false s.dev).boot.porterReady = false
    rw [porterBoot_fuses h]
    exact ⟨r1, r3, r2⟩
  · rw [htime, porterReadyTimeout, if_pos h]

end Sys2Proof.Machine
end

section
/-!
Failures of bring-up (R629, R633): O56.
-/
namespace Sys2Proof.Machine

/-! ### Failures -/

theorem boot_bootRecord (d : Device) (c st f : Nat) : (bootRecord d c st f).boot = d.boot := eq_of_erased bare Device.boot (fun _ => rfl) (bare_log _ _ _ _)

theorem porter_bootRecord (d : Device) (c st f : Nat) : (bootRecord d c st f).porter = d.porter := porter_log _ _ _ _

/-- A module held off has no rails and shows BOOT_FAIL (R633). -/
theorem holdOff_keeps (d : Device) (n : Nat) : (holdOff d n).boot.heldOff = true ∧ (holdOff d n).boot.vrPgood = false
    ∧ fld (getR (holdOff d n) (porterPage + 0x108)) 5 5 = 1 := by
  unfold holdOff
  dsimp only
  exact ⟨rfl, rfl, fld_alert _ (by decide)⟩

/-- The stages run again from B3 without rails, cores and memory. -/
theorem rerun_keeps (d : Device) (n : Nat) : (rerun d n).boot.vrPgood = false ∧ (rerun d n).boot.seqReady = false ∧ (rerun d n).boot.heldOff = d.boot.heldOff
    ∧ (rerun d n).cores = [] ∧ (rerun d n).stack = {} ∧ (rerun d n).porter.act = d.porter.act ∧ (rerun d n).porter.trial = d.porter.trial := by
  have hb := boot_bootRecord d 6 (lastStage d) n
  have hp := porter_bootRecord d 6 (lastStage d) n
  refine ⟨rfl, rfl, ?_, rfl, rfl, ?_, ?_⟩
  · show (bootRecord d 6 (lastStage d) n).boot.heldOff = _
    rw [hb]
  · show (bootRecord d 6 (lastStage d) n).porter.act = _
    rw [hp]
  · show (bootRecord d 6 (lastStage d) n).porter.trial = _
    rw [hp]

theorem stagesRun_heldOff {d : Device} (h : stagesRun d = true) : d.boot.heldOff = false := by
  simp only [stagesRun, Bool.and_eq_true, Bool.not_eq_true'] at h
  obtain ⟨⟨⟨⟨-, hheld⟩, -⟩, -⟩, -⟩ := h
  exact hheld

theorem stageFails_first {d : Device} (n : Nat) (hr : d.boot.retried = false) (hh : d.boot.heldOff = false) : let e := stageFails d n
    e.boot.retried = true ∧ e.boot.vrPgood = false ∧ e.boot.heldOff = false ∧ e.cores = [] ∧ e.stack = {} := by
  obtain ⟨r1, -, r3, r4, r5, -, -⟩ := rerun_keeps d n
  dsimp only
  rw [stageFails, if_neg (by simp [hr])]
  exact ⟨rfl, r1, r3.trans hh, r4, r5⟩

theorem stageFails_second {d : Device} (n : Nat) (hr : d.boot.retried = true) : stageFails d n = holdOff d n := by
  rw [stageFails, if_pos hr]

/-- The stage that is in progress and may fail. -/
def stageDue (d : Device) : Nat :=
  if d.boot.vrPgood = false then 3 else if d.boot.oscReady = false then 4 else if d.boot.memReady = true ∧ d.boot.logicReady = false then 7 else 0

theorem stageFailure_eq (n : Nat) (d : Device) : stageFailure n d = if stagesRun d = false ∨ n ≠ stageDue d then d else stageFails d n := by
  have hdue : (if !d.boot.vrPgood then 3 else if !d.boot.oscReady then 4 else if d.boot.memReady && !d.boot.logicReady then 7 else 0) = stageDue d := by
    simp only [stageDue, Bool.not_eq_true', Bool.and_eq_true]
  unfold stageFailure
  dsimp only
  rw [hdue]
  simp only [Bool.or_eq_true, Bool.not_eq_true', bne_iff_ne]

/-- A rollback makes the other slot ACTIVE and ends TRIAL (R532). -/
theorem rollback_keeps (d : Device) (kind : Nat) : (rollback d kind).porter.act = tset d.porter.act kind (1 - activeSlot d kind)
    ∧ (rollback d kind).porter.trial = ndel d.porter.trial kind ∧ (rollback d kind).boot = d.boot := by
  have hp := porter_fwState (setActive { d with porter := { d.porter with trial := ndel d.porter.trial kind } } kind (1 - activeSlot d kind)) kind
    (activeSlot d kind) 5 0
  have hb := eq_of_erased bare Device.boot (fun _ => rfl)
    (bare_fwState (setActive { d with porter := { d.porter with trial := ndel d.porter.trial kind } } kind (1 - activeSlot d kind)) kind
      (activeSlot d kind) 5 0)
  exact ⟨congrArg Porter.act hp, congrArg Porter.trial hp, hb⟩

theorem contains_ndel (l : List Nat) (k : Nat) : (ndel l k).contains k = false := by simp [ndel]

/-- A sequencer slot in TRIAL that does not run rolls back, and the stages run again. -/
theorem seqTimeout_trial {d : Device} (h : stagesRun d = true) (hs : d.boot.seqReady = true) (hr : d.boot.running = false) (ht : inTrial d 2 = true) :
    let e := seqRunningTimeout d
    activeSlot e 2 = 1 - activeSlot d 2 ∧ inTrial e 2 = false ∧ e.boot.vrPgood = false ∧ e.boot.seqRetried = true ∧ e.boot.heldOff = false := by
  have hslot := activeSlot_lt d 2
  obtain ⟨a1, a2, a3⟩ := rollback_keeps d 2
  obtain ⟨r1, -, r3, -, -, r6, r7⟩ := rerun_keeps (rollback d 2) 10
  have hrun : seqRunningTimeout d = { rerun (rollback d 2) 10 with boot := { (rerun (rollback d 2) 10).boot with seqRetried := true } } := by
    rw [seqRunningTimeout, if_neg (by simp [h, hs, hr]), if_pos ht]
  dsimp only
  rw [hrun]
  refine ⟨?_, ?_, r1, rfl, r3.trans (by rw [a3, stagesRun_heldOff h])⟩
  · show tget 0 (rerun (rollback d 2) 10).porter.act 2 % 2 = _
    rw [r6, a1, tget_tset_self, Nat.mod_eq_of_lt (by omega)]
  · show (rerun (rollback d 2) 10).porter.trial.contains 2 = false
    rw [r7, a2, contains_ndel]

theorem seqTimeout_not {d : Device} (h : stagesRun d = false ∨ d.boot.seqReady = false ∨ d.boot.running = true) : seqRunningTimeout d = d := by
  rw [seqRunningTimeout, if_pos (by simpa [or_assoc] using h)]

theorem seqTimeout_held {d : Device} (h : stagesRun d = true) (hs : d.boot.seqReady = true) (hr : d.boot.running = false) (ht : inTrial d 2 = false) :
    seqRunningTimeout d = holdOff (rejectImage d 2 (activeSlot d 2)) 10 := by
  rw [seqRunningTimeout, if_neg (by simp [h, hs, hr]), if_neg (by simp [ht])]

/-- Settles O56: the stage that is due fails once or holds the module off, and a sequencer's slot rolls back. -/
theorem bringUpFailures : Obligations.BringUpFailures := by
  intro k s d b at_
  have hfail : 3 ≤ k → k ≤ 7 → exec (.stageFailure k) s = .next { s with dev := stageFailure k s.dev } := fun h3 h7 =>
    run_wf (c := .stageFailure k) _ _ (by simp [Instr.wf, h3, h7])
  have hseq : exec .seqRunningTimeout s = .next { s with dev := seqRunningTimeout s.dev } := run_wf (c := .seqRunningTimeout) seqRunningTimeout s rfl
  refine ⟨fun h3 h7 h => ?_, fun h => ?_, fun hrun => ⟨fun hk h7 => ?_, fun hs hr ht => ⟨_, hseq, seqTimeout_trial hrun hs hr ht⟩, fun hs hr ht => ?_⟩⟩
  · rw [hfail h3 h7, stageFailure_eq, if_pos (show stagesRun s.dev = false ∨ k ≠ stageDue s.dev from h)]
  · rw [hseq, seqTimeout_not h]
  · have hdue : k = stageDue s.dev := by
      unfold stageDue
      by_cases hv : s.dev.boot.vrPgood = false
      · rw [if_pos hv]; rwa [if_pos hv] at hk
      · rw [if_neg hv] at hk ⊢
        by_cases ho : s.dev.boot.oscReady = false
        · rw [if_pos ho]; rwa [if_pos ho] at hk
        · rw [if_neg ho] at hk ⊢
          rw [if_pos (h7 hk), hk]
    have hbounds : 3 ≤ k ∧ k ≤ 7 := by
      rw [hk]
      split_ifs <;> decide
    have hnot : ¬(stagesRun s.dev = false ∨ k ≠ stageDue s.dev) := by
      rw [not_or, not_not]
      exact ⟨by rw [hrun]; decide, hdue⟩
    have hstage : exec (.stageFailure k) s = .next { s with dev := stageFails s.dev k } := by
      rw [hfail hbounds.1 hbounds.2, stageFailure_eq, if_neg hnot]
    refine ⟨fun hr => ⟨_, hstage, stageFails_first k hr (stagesRun_heldOff hrun)⟩, fun hr => ⟨_, hstage, ?_⟩⟩
    show (stageFails s.dev k).boot.heldOff = true ∧ (stageFails s.dev k).boot.vrPgood = false ∧ fld (getR (stageFails s.dev k) _) 5 5 = 1
    rw [stageFails_second k hr]
    exact holdOff_keeps _ _
  · refine ⟨_, hseq, ?_⟩
    obtain ⟨h1, h2, -⟩ := holdOff_keeps (rejectImage s.dev 2 (activeSlot s.dev 2)) 10
    show (seqRunningTimeout s.dev).boot.heldOff = true ∧ (seqRunningTimeout s.dev).boot.vrPgood = false
    rw [seqTimeout_held hrun hs hr ht]
    exact ⟨h1, h2⟩

end Sys2Proof.Machine
end

section
/-!
Changes of the Floor Plan (R28, R39 to R41, R570): O58. What the commands of a change keep of the plan and of the Porter serves bring-up too.
-/
namespace Sys2Proof.Machine

/-! ### The plan and the Porter -/

/-- The published plan, a note of further changes left out, and the Porter. -/
def published (d : Device) : Plan × Porter := ({ d.plan with dirty := false }, d.porter)

theorem published_of_bare {d e : Device} (h : bare e = bare d) : published e = published d := eq_of_erased bare published (fun _ => rfl) h

theorem published_of_wired {d e : Device} (h : wired e = wired d) : published e = published d := of_wired published (fun _ => rfl) h

theorem published_of_quiet {d e : Device} (h : Quiet d e) : published e = published d := eq_of_erased still published (fun _ => rfl) h.still_eq

theorem published_foldl {α : Type} {f : Device → α → Device} (hf : ∀ d x, published (f d x) = published d) (l : List α) (d : Device) :
    published (l.foldl f d) = published d := by
  induction l generalizing d with
  | nil => rfl
  | cons x t ih => rw [List.foldl_cons, ih, hf]

theorem published_fenceEffect (d : Device) (f : Fence) : published (fenceEffect d f) = published d := by
  unfold fenceEffect
  split
  · exact published_of_quiet (quiet_clearCore _ _)
  · exact (published_foldl (fun d u => published_of_quiet (quiet_clearCore d u)) _ _)
  · rfl
  · exact published_foldl (fun d l => published_of_wired (wired_leaveIdle _ _ _ _ _)) _ _
  · exact published_of_wired (wired_leaveIdle _ _ _ _ _)
  · rfl

theorem published_fenceReport (d : Device) (f : Fence) : published (fenceReport d f) = published d := by
  unfold fenceReport
  dsimp only
  exact published_of_bare (by rw [alert, bare_setR, bare_pushEv, bare_log])

theorem published_snapWords (d : Device) (j : Nat) : published (snapWords d j) = published d := by
  unfold snapWords
  dsimp only
  exact published_foldl (fun d h => published_of_quiet (quiet_flushStore d h)) _ _

theorem published_restoreWords (d : Device) (j : Nat) : published (restoreWords d j) = published d := by
  refine published_foldl (fun d e => ?_) _ _
  split
  · rfl
  · exact published_of_quiet (((quiet_flushStore _ _).trans (quiet_setSig _ _ _)).trans (quiet_seqSet _ _ _ _))

theorem published_copyParts (d : Device) (a b : Nat) : published (copyParts d a b) = published d := by
  refine published_foldl (fun d j => ?_) _ _
  split <;> rfl

theorem published_arrSteerWrite (d : Device) (u : Nat) (v : Reg) : published (arrSteerWrite u v d) = published d := rfl

/-- Links that may train do so on a return; the plan stays. -/
theorem published_trainIf (d : Device) (p l : Nat) : published (if linkOn d p l && !linkFenced d p l then trainLink d p l else d) = published d := by
  split
  · exact published_of_wired (wired_trainLink _ _ _ _)
  · rfl

/-! ### A change -/

/-- The links of a unit that returns train again. -/
def returnLinks (d : Device) (r : UnitRef) : Device :=
  if r.kind == 5 then (if linkOn d r.a r.b && !linkFenced d r.a r.b then trainLink d r.a r.b else d)
  else if r.kind == 4 then (linksOf r.a).foldl (fun d l => if linkOn d r.a l && !linkFenced d r.a l then trainLink d r.a l else d) d
  else d

theorem published_returnLinks (d : Device) (r : UnitRef) : published (returnLinks d r) = published d := by
  unfold returnLinks
  split
  · exact published_trainIf _ _ _
  · split
    · exact published_foldl (fun d l => published_trainIf d _ _) _ _
    · rfl

/-- The fences of a change act on their units, the words of boundary jobs are set again, and units that return train. -/
def carryOut (m old : Maps) (fs : List Fence) (js : List Nat) (back : List UnitRef) (d : Device) : Device :=
  let d := js.foldl restoreWords (fs.foldl fenceEffect d)
  let d := (fs.filter (fun f => f.unit.kind == 0)).foldl (fun d f =>
    arrSteerWrite (f.unit.a * 48 + f.unit.b) (BitVec.ofNat 32 (steerOf m (f.unit.a * 48 + f.unit.b))) d) d
  back.foldl (fun d r => returnLinks (log d 6 0 (match old.fences.find? (fun f => f.unit == r) with
    | some f => fenceBytes f
    | none => [])) r) d

/-- The new table is written, and the change is reported. -/
def announce (gen : Nat) (fs : List Fence) (d : Device) : Device :=
  standbyTests (fs.foldl fenceReport (pushEv (writeBody { d with plan := { d.plan with dirty := false } }) { type := 0x40, detail := toLE 4 gen }))

theorem published_carryOut (m old : Maps) (fs : List Fence) (js : List Nat) (back : List UnitRef) (d : Device) :
    published (carryOut m old fs js back d) = published d := by
  unfold carryOut
  dsimp only
  rw [published_foldl, published_foldl, published_foldl published_restoreWords, published_foldl published_fenceEffect]
  · exact fun d f => published_arrSteerWrite _ _ _
  · exact fun d r => (published_returnLinks _ _).trans (published_of_bare (bare_log _ _ _ _))

/-- A report of a change leaves the plan and the Porter. -/
theorem announce_keeps (gen : Nat) (fs : List Fence) (d : Device) : (announce gen fs d).porter = d.porter
    ∧ (announce gen fs d).plan.gen = d.plan.gen ∧ (announce gen fs d).plan.changes = d.plan.changes ∧ (announce gen fs d).plan.built = d.plan.built
    ∧ (announce gen fs d).plan.dirty = false := by
  have hplan : ∀ e : Device, ∀ x, (standbyTests (fs.foldl fenceReport (pushEv e x))).plan = e.plan
      ∧ (standbyTests (fs.foldl fenceReport (pushEv e x))).porter = e.porter := fun e x => by
    have hb : bare (standbyTests (fs.foldl fenceReport (pushEv e x))) = bare e := by
      have htests : ∀ f : Device, bare (standbyTests f) = bare f := fun f => bare_foldl (fun d r => by split <;> rfl) _ _
      rw [htests, bare_foldl, bare_pushEv]
      intro d f
      rw [fenceReport, alert, bare_setR, bare_pushEv, bare_log]
    exact ⟨eq_of_erased bare Device.plan (fun _ => rfl) hb, eq_of_erased bare Device.porter (fun _ => rfl) hb⟩
  obtain ⟨h1, h2⟩ := hplan (writeBody { d with plan := { d.plan with dirty := false } }) { type := 0x40, detail := toLE 4 gen }
  unfold announce
  rw [h1, h2]
  exact ⟨rfl, rfl, rfl, rfl, rfl⟩

/-- The generation of the next change (R39). -/
def nextGen (d : Device) : Nat := max d.plan.gen d.porter.genRec + 1

/-- The maps of the next change. -/
def nextMaps (d : Device) : Maps :=
  d.plan.pendR.foldl releaseOne (remap d.plan.maps ((d.plan.pendF.filter (fun f => !fenceWaits d f)).map (fun f => { f with gen := nextGen d })))

/-- The fences that the next change carries. -/
def nextFences (d : Device) : List Fence :=
  (nextMaps d).fences.drop ((nextMaps d).fences.length - ((nextMaps d).fences.filter (fun f => f.gen == nextGen d)).length)

/-- The words of boundary jobs are kept and the partitions follow their halls, before the table changes. -/
def changePrepared (d : Device) : Device :=
  (movedHalls d.plan.maps (nextMaps d)).foldl (fun d e => copyParts d e.1 e.2) ((boundaryJobs d (nextFences d)).foldl snapWords d)

/-- The module with the next table in its plan and in the Porter's seed. -/
def changeTable (d : Device) : Device :=
  let e := changePrepared d
  { e with plan := { e.plan with maps := nextMaps d, pendF := d.plan.pendF.filter (fenceWaits d), pendR := [], dirty := false, gen := nextGen d
                                 changes := e.plan.changes + 1, sbOk := [] }
           porter := { e.porter with seed := nextMaps d, genRec := nextGen d } }

theorem changePlan_eq (d : Device) : changePlan d = announce (nextGen d) (nextFences d)
    (carryOut (nextMaps d) d.plan.maps (nextFences d) (boundaryJobs d (nextFences d)) d.plan.pendR (changeTable d)) := rfl

theorem published_changePrepared (d : Device) : published (changePrepared d) = published d := by
  unfold changePrepared
  rw [published_foldl (f := fun d (e : Nat × Nat) => copyParts d e.1 e.2), published_foldl published_snapWords]
  exact fun d e => published_copyParts d e.1 e.2

/-- What a published change leaves in the plan and the Porter. -/
theorem changePlan_published (d : Device) : let e := changePlan d
    e.plan.gen = nextGen d ∧ e.porter.genRec = nextGen d ∧ e.plan.changes = d.plan.changes + 1 ∧ e.plan.built = d.plan.built ∧ e.plan.dirty = false := by
  have hchanges : (changePrepared d).plan.changes = d.plan.changes := congrArg (fun p => p.1.changes) (published_changePrepared d)
  have hbuilt : (changePrepared d).plan.built = d.plan.built := congrArg (fun p => p.1.built) (published_changePrepared d)
  have hcarry := published_carryOut (nextMaps d) d.plan.maps (nextFences d) (boundaryJobs d (nextFences d)) d.plan.pendR (changeTable d)
  obtain ⟨a1, a2, a3, a4, a5⟩ := announce_keeps (nextGen d) (nextFences d)
    (carryOut (nextMaps d) d.plan.maps (nextFences d) (boundaryJobs d (nextFences d)) d.plan.pendR (changeTable d))
  dsimp only
  rw [changePlan_eq]
  exact ⟨a2.trans (congrArg (fun p => p.1.gen) hcarry), (congrArg Porter.genRec a1).trans (congrArg (fun p => p.2.genRec) hcarry),
    (a3.trans (congrArg (fun p => p.1.changes) hcarry)).trans (congrArg (· + 1) hchanges), (a4.trans (congrArg (fun p => p.1.built) hcarry)).trans hbuilt, a5⟩

section
variable {d : Device}

theorem floorPlanChange_not (h : d.plan.built = false ∨ (d.plan.pendF.filter (fun f => !fenceWaits d f) = [] ∧ d.plan.pendR = [] ∧ d.plan.dirty = false)) :
    floorPlanChange d = d := by
  unfold floorPlanChange
  dsimp only
  rw [if_pos]
  rcases h with h | ⟨h1, h2, h3⟩
  · simp [h]
  · rw [h1, h2, h3]
    simp

theorem floorPlanChange_waits (hs : (standbysUsed d.plan.maps (d.plan.pendF.filter (fun f => !fenceWaits d f))).all d.plan.sbOk.contains = false) :
    floorPlanChange d = d := by
  unfold floorPlanChange
  dsimp only
  rw [hs]
  split
  · rfl
  · rfl

theorem floorPlanChange_carries (hb : d.plan.built = true)
    (hn : d.plan.pendF.filter (fun f => !fenceWaits d f) ≠ [] ∨ d.plan.pendR ≠ [] ∨ d.plan.dirty = true)
    (hs : (standbysUsed d.plan.maps (d.plan.pendF.filter (fun f => !fenceWaits d f))).all d.plan.sbOk.contains = true) :
    floorPlanChange d = changePlan d := by
  unfold floorPlanChange
  dsimp only
  rw [if_neg, if_neg (by rw [hs]; decide)]
  rw [hb]
  rcases hn with h | h | h
  · simp only [Bool.or_eq_true, Bool.and_eq_true, List.isEmpty_iff]
    rintro (h' | ⟨⟨h', -⟩, -⟩)
    · exact absurd h' (by decide)
    · exact h h'
  · simp [h]
  · simp [h]

end

/-- Settles O58: a change is `announce` after `carryOut`, which keep the plan but for its note of further changes. -/
theorem floorPlanChanges : Obligations.FloorPlanChanges := by
  intro s d now
  have hexec : exec .floorPlanChange s = .next { s with dev := floorPlanChange s.dev } := run_wf (c := .floorPlanChange) floorPlanChange s rfl
  refine ⟨fun hb hn hs => ?_, fun _ hs => ?_, fun hb => ?_, fun h1 h2 h3 => ?_⟩
  · obtain ⟨c1, c2, c3, c4, c5⟩ := changePlan_published s.dev
    have hrun : floorPlanChange s.dev = changePlan s.dev := floorPlanChange_carries hb hn hs
    have hbuilt : (changePlan s.dev).plan.built = true := c4.trans hb
    rw [hexec, hrun]
    generalize changePlan s.dev = e at c1 c2 c3 hbuilt c5
    exact ⟨_, rfl, c1, c2, c3, hbuilt, c5⟩
  · rw [hexec, floorPlanChange_waits hs]
  · rw [hexec, floorPlanChange_not (Or.inl hb)]
  · rw [hexec, floorPlanChange_not (Or.inr ⟨h1, h2, h3⟩)]

end Sys2Proof.Machine
end

section
/-!
The stages of bring-up in their order (R622, R625 to R632): O55.
-/
namespace Sys2Proof.Machine

/-! ### Stages that are not due -/

section
variable {d : Device}

theorem mainRails_not (h : stagesRun d = false ∨ d.boot.vrPgood = true) : mainRails d = d := by
  rw [mainRails, if_neg (by simpa using fun h1 => h.resolve_left (by simp [h1]))]

theorem oscStart_not (h : stagesRun d = false ∨ d.boot.vrPgood = false ∨ d.boot.oscReady = true) : oscStart d = d := by
  rw [oscStart, if_neg]
  rcases h with h | h | h <;> simp [h]

theorem stackTrain_not {k : Nat} {ok : Bool} (h : stagesRun d = false ∨ d.boot.oscReady = false ∨ d.boot.memReady = true ∨ trained d k = true ∨ stackOut d k = true) :
    stackTrain k ok d = d := by
  rw [stackTrain, if_pos (by simpa [or_assoc] using h)]

theorem seqImageLoad_not (h : stagesRun d = false ∨ d.boot.oscReady = false ∨ d.boot.seqReady = true) : seqImageLoad d = d := by
  rw [seqImageLoad, if_pos (by simpa [or_assoc] using h)]

theorem logicRelease_not (h : stagesRun d = false ∨ d.boot.memReady = false ∨ d.boot.logicReady = true) : logicRelease d = d := by
  rw [logicRelease, if_pos (by simpa [or_assoc] using h)]

theorem powerOnSelfTest_not {fs : List UnitRef} {f : Bool} (h : stagesRun d = false ∨ d.boot.logicReady = false ∨ d.boot.tested = true) :
    powerOnSelfTest fs f d = d := by
  rw [powerOnSelfTest, if_pos (by simpa [or_assoc] using h)]

theorem floorPlanBuild_not (h : stagesRun d = false ∨ d.boot.tested = false ∨ d.plan.built = true) : floorPlanBuild d = d := by
  rw [floorPlanBuild, if_pos (by simpa [or_assoc] using h)]

theorem seqInit_not (h : stagesRun d = false ∨ d.plan.built = false ∨ d.boot.seqReady = false ∨ d.boot.running = true) : seqInit d = d := by
  rw [seqInit, if_pos (by simpa [or_assoc] using h)]

theorem commandsAccepted_not (h : stagesRun d = false ∨ d.boot.running = false) : commandsAccepted d = d := by
  rw [commandsAccepted, if_pos (by simpa using h)]

/-! ### B4 and B5 -/

theorem clocksLock_keeps (d : Device) : (clocksLock d).boot.oscReady = true ∧ (clocksLock d).stack = d.stack := by
  have hall : ∀ (l : List Nat) (f : Device → Nat → Device), (∀ e h, (f e h).boot = e.boot ∧ (f e h).stack = e.stack) → ∀ e : Device,
      (l.foldl f e).boot = e.boot ∧ (l.foldl f e).stack = e.stack := by
    intro l f hf
    induction l with
    | nil => exact fun _ => ⟨rfl, rfl⟩
    | cons h l ih => exact fun e => ⟨(ih _).1.trans (hf e h).1, (ih _).2.trans (hf e h).2⟩
  obtain ⟨h1, h2⟩ := hall (List.range 18) (fun e h =>
    let t := (dvfsCands e h).foldl (fun m e => min m e.2) (maxArith e)
    let x := dvfs e h
    dvfsSettle (setDvfs e h { x with cur := t, target := t, volt := max (minV h t) x.ovr, phase := 0 }) h)
    (fun e h => by
      dsimp only
      obtain ⟨x, n, hs⟩ := dvfsSettle_wired (setDvfs e h { dvfs e h with
        cur := (dvfsCands e h).foldl (fun m e => min m e.2) (maxArith e), target := (dvfsCands e h).foldl (fun m e => min m e.2) (maxArith e)
        volt := max (minV h ((dvfsCands e h).foldl (fun m e => min m e.2) (maxArith e))) (dvfs e h).ovr, phase := 0 }) h
      rw [hs]
      exact ⟨rfl, rfl⟩)
    { d with boot := { d.boot with oscReady := true } }
  exact ⟨congrArg Boot.oscReady h1, h2⟩

/-- Fences of bring-up only join those that the build carries. -/
theorem bootFence_eq (d : Device) (r : UnitRef) : ∃ l, bootFence d r = { d with plan := { d.plan with pendF := l } } := by
  unfold bootFence
  split
  · exact ⟨d.plan.pendF, rfl⟩
  · exact ⟨_, rfl⟩

theorem bootFences_eq (l : List UnitRef) (d : Device) : ∃ p, l.foldl bootFence d = { d with plan := { d.plan with pendF := p } } := by
  induction l generalizing d with
  | nil => exact ⟨d.plan.pendF, rfl⟩
  | cons r l ih =>
    obtain ⟨p, hp⟩ := bootFence_eq d r
    obtain ⟨q, hq⟩ := ih (bootFence d r)
    exact ⟨q, by rw [List.foldl_cons, hq, hp]⟩

/-- While a stack has not been given up, the stacks are ready when every one is trained or out. -/
theorem stacksReady_some {k : Nat} (hk : k < 16) (ho : stackOut d k = false) : stacksReady d =
    if (List.range 16).all (fun s => trained d s || stackOut d s) then { d with boot := { d.boot with memReady := true } } else d := by
  have hno : ¬((List.range 16).all (stackOut d) = true) := fun h => by
    have := List.all_eq_true.mp h k (List.mem_range.mpr hk)
    rw [ho] at this
    exact Bool.false_ne_true this
  rw [stacksReady, if_neg hno]

theorem scPage_ne {i k : Nat} (h : i ≠ k) : scPage i + 0x100 ≠ scPage k + 0x100 := by
  simp only [scPage]
  omega

theorem bit_or_one (v : Nat) : bit (v ||| 1) 0 = true := by
  simp [bit, Nat.or_mod_two_eq_one]

/-- The bit of a stack that has trained is the one that changes. -/
theorem trained_set (d : Device) (i k : Nat) :
    trained (setR d (scPage k + 0x100) (getR d (scPage k + 0x100) ||| 1)) i = (i == k || trained d i) := by
  have hlt : getR d (scPage k + 0x100) ||| 1 < 2 ^ 32 := Nat.or_lt_two_pow (getR_lt _ _) (by decide)
  unfold trained
  by_cases h : i = k
  · subst h
    rw [getR_setR, Nat.mod_eq_of_lt hlt, bit_or_one]
    simp
  · rw [getR_setR_ne _ _ _ _ (scPage_ne h)]
    simp [h]

/-- A stack is out by the tries of this bring-up and by its fence record. -/
theorem stackOut_of {e : Device} {i : Nat} (ht : tget 0 e.boot.tries i = tget 0 d.boot.tries i) (hm : e.plan.maps = d.plan.maps) :
    stackOut e i = stackOut d i := by
  simp only [stackOut, ht, hm]

theorem stackOut_false {k : Nat} (h : stackOut d k = false) : tget 0 d.boot.tries k < 3 ∧ retested d.plan.maps (unitStack k) = true := by
  simp only [stackOut, Bool.or_eq_false_iff, decide_eq_false_iff_not, not_le, Bool.not_eq_false'] at h
  exact h

section
variable {k : Nat} (hrun : stagesRun d = true) (hk : k < 16) (ho : d.boot.oscReady = true) (hm : d.boot.memReady = false) (ht : trained d k = false)
  (hout : stackOut d k = false)
include hrun ho hm ht hout

/-- An attempt of a stack that is due. -/
theorem stackTrain_due (ok : Bool) : stackTrain k ok d =
    if ok then
      stacksReady (if d.plan.maps.outStacks.contains k then
          { setR d (scPage k + 0x100) (getR d (scPage k + 0x100) ||| 1) with plan := { d.plan with pendR := d.plan.pendR ++ [unitStack k] } }
        else setR d (scPage k + 0x100) (getR d (scPage k + 0x100) ||| 1))
    else
      let n := tget 0 d.boot.tries k + 1
      let d := { d with boot := { d.boot with tries := tset d.boot.tries k n } }
      stacksReady (if n == 3 then bootFence d (unitStack k) else d) := by
  rw [stackTrain, if_neg (by simp [hrun, ho, hm, ht, hout])]
  rfl

include hk

theorem stackTrain_passes : let e := stackTrain k true d
    trained e k = true ∧ e.stack = d.stack ∧ e.boot.memReady = (List.range 16).all (fun i => i == k || trained d i || stackOut d i) := by
  have hstep : ∀ e : Device, e.regs = (setR d (scPage k + 0x100) (getR d (scPage k + 0x100) ||| 1)).regs → e.stack = d.stack → e.boot = d.boot →
      e.plan.maps = d.plan.maps → trained (stacksReady e) k = true ∧ (stacksReady e).stack = d.stack
        ∧ (stacksReady e).boot.memReady = (List.range 16).all (fun i => i == k || trained d i || stackOut d i) := by
    intro e hregs hstack hboot hmaps
    have htr : ∀ i, trained e i = (i == k || trained d i) := fun i => by
      rw [← trained_set d i k]
      unfold trained
      rw [getR_of_regs hregs]
    have hso : ∀ i, stackOut e i = stackOut d i := fun i => stackOut_of (by rw [hboot]) hmaps
    have hall : (List.range 16).all (fun s => trained e s || stackOut e s) = (List.range 16).all (fun i => i == k || trained d i || stackOut d i) := by
      congr 1
      funext i
      rw [htr, hso]
    rw [stacksReady_some hk ((hso k).trans hout), hall]
    by_cases h : (List.range 16).all (fun i => i == k || trained d i || stackOut d i) = true
    · rw [if_pos h]
      exact ⟨by show trained e k = true; rw [htr]; simp, hstack, h.symm⟩
    · rw [if_neg h]
      exact ⟨by rw [htr]; simp, hstack, by rw [hboot, hm, Bool.eq_false_iff.mpr h]⟩
  dsimp only
  rw [stackTrain_due hrun ho hm ht hout, if_pos rfl]
  split
  · exact hstep _ rfl rfl rfl rfl
  · exact hstep _ rfl rfl rfl rfl

/-- A first or second failure is counted, and fences nothing. -/
theorem stackTrain_retries (h2 : tget 0 d.boot.tries k < 2) : let e := stackTrain k false d
    tget 0 e.boot.tries k = tget 0 d.boot.tries k + 1 ∧ e.plan.pendF = d.plan.pendF := by
  obtain ⟨-, hret⟩ := stackOut_false hout
  have hso : stackOut { d with boot := { d.boot with tries := tset d.boot.tries k (tget 0 d.boot.tries k + 1) } } k = false := by
    simp only [stackOut, tget_tset_self, hret, Bool.not_true, Bool.or_false, decide_eq_false_iff_not]
    omega
  dsimp only
  rw [stackTrain_due hrun ho hm ht hout, if_neg Bool.false_ne_true]
  dsimp only
  rw [if_neg (by simp only [beq_iff_eq]; omega), stacksReady_some hk hso]
  split
  · exact ⟨tget_tset_self _ _ _ _, rfl⟩
  · exact ⟨tget_tset_self _ _ _ _, rfl⟩

omit hk in
/-- The third failure gives the stack up. -/
theorem stackTrain_fails (h2 : tget 0 d.boot.tries k = 2) : let e := stackTrain k false d
    e.boot.heldOff = false → tget 0 e.boot.tries k = 3 ∧ stackOut e k = true := by
  obtain ⟨p, hp⟩ := bootFence_eq { d with boot := { d.boot with tries := tset d.boot.tries k 3 } } (unitStack k)
  dsimp only
  rw [stackTrain_due hrun ho hm ht hout, if_neg Bool.false_ne_true, h2]
  dsimp only
  rw [if_pos (by decide), hp]
  intro hheld
  have hgiven : ∀ e : Device, e.boot.tries = tset d.boot.tries k 3 → tget 0 e.boot.tries k = 3 ∧ stackOut e k = true := fun e he => by
    simp only [stackOut, he, tget_tset_self]
    exact ⟨trivial, rfl⟩
  unfold stacksReady at hheld ⊢
  split
  · next hall =>
    rw [if_pos hall] at hheld
    exact absurd hheld (by simp [(holdOff_keeps _ _).1])
  · split
    · exact hgiven _ rfl
    · exact hgiven _ rfl

end

/-! ### B6 to B8 -/

section
variable (hrun : stagesRun d = true) (ho : d.boot.oscReady = true) (hs : d.boot.seqReady = false)
include hrun ho hs

theorem seqImageLoad_none (h : (selectSlot d 2).1 = none) : seqImageLoad d = holdOff (selectSlot d 2).2.2 6 := by
  rw [seqImageLoad, if_neg (by simp [hrun, ho, hs])]
  generalize selectSlot d 2 = r at h
  obtain ⟨_, b, e⟩ := r
  cases h
  rfl

/-- A slot that passes runs, unless a rollback runs the stages once more. -/
theorem seqImageLoad_some {k : Nat} (h : (selectSlot d 2).1 = some k) : seqImageLoad d =
    if (selectSlot d 2).2.1 = true ∧ (selectSlot d 2).2.2.boot.seqRetried = false then
      { rerun (selectSlot d 2).2.2 6 with boot := { (rerun (selectSlot d 2).2.2 6).boot with seqRetried := true } }
    else { runImage (selectSlot d 2).2.2 2 k with boot := { (runImage (selectSlot d 2).2.2 2 k).boot with seqReady := true } } := by
  rw [seqImageLoad, if_neg (by simp [hrun, ho, hs])]
  generalize selectSlot d 2 = r at h
  obtain ⟨_, b, e⟩ := r
  cases h
  simp only [Bool.and_eq_true, Bool.not_eq_true']

theorem seqImageLoad_rolled {k : Nat} (h : (selectSlot d 2).1 = some k) (hr : (selectSlot d 2).2.1 = true)
    (hq : (selectSlot d 2).2.2.boot.seqRetried = false) : let e := seqImageLoad d
    e.boot.seqRetried = true ∧ e.boot.vrPgood = false ∧ e.boot.seqReady = false := by
  dsimp only
  rw [seqImageLoad_some hrun ho hs h, if_pos ⟨hr, hq⟩]
  exact ⟨rfl, rfl, rfl⟩

theorem seqImageLoad_runs {k : Nat} (h : (selectSlot d 2).1 = some k) (hr : (selectSlot d 2).2.1 = false ∨ (selectSlot d 2).2.2.boot.seqRetried = true) :
    seqImageLoad d = { runImage (selectSlot d 2).2.2 2 k with boot := { (runImage (selectSlot d 2).2.2 2 k).boot with seqReady := true } } := by
  rw [seqImageLoad_some hrun ho hs h, if_neg]
  rintro ⟨h1, h2⟩
  rcases hr with h | h
  · simp [h1] at h
  · simp [h2] at h

/-- The image load of a slot that is not in TRIAL. -/
theorem seqImageLoad_settled (ht : inTrial d 2 = false) : let e := seqImageLoad d
    (imageOk d 2 (activeSlot d 2) = true → e.boot.seqReady = true ∧ tget 9 e.porter.runSlot 2 = activeSlot d 2
      ∧ e.porter.mSeq = Config.sha384 (imageBody d 2 (activeSlot d 2)) ∧ e.stack = d.stack)
    ∧ (imageOk d 2 (activeSlot d 2) = false → imageOk d 2 (1 - activeSlot d 2) = false → e.boot.heldOff = true ∧ e.boot.vrPgood = false) := by
  refine ⟨fun hok => ?_, fun h1 h2 => ?_⟩
  · have hsel := selectSlot_active ht hok
    rw [seqImageLoad_runs hrun ho hs (by rw [hsel]) (Or.inl (by rw [hsel])), hsel]
    exact ⟨rfl, tget_tset_self _ _ _ _, rfl, rfl⟩
  · have hsel := selectSlot_none ht h1 h2
    obtain ⟨k1, k2, -⟩ := holdOff_keeps (selectSlot d 2).2.2 6
    rw [seqImageLoad_none hrun ho hs (by rw [hsel])]
    exact ⟨k1, k2⟩

end

/-- B8 fences the units that fail, and names those that return. -/
theorem powerOnSelfTest_runs (hrun : stagesRun d = true) (hl : d.boot.logicReady = true) (ht : d.boot.tested = false) (fs : List UnitRef) (f : Bool) :
    let e := powerOnSelfTest fs f d
    e.boot.tested = true ∧ e.boot.moduleFault = (d.boot.moduleFault || f)
    ∧ e.plan.pendF = ((fs.filter (bootTested d.plan.maps)).foldl bootFence d).plan.pendF ∧ e.plan.pendR = d.plan.pendR ++ bootReturns d.plan.maps fs
    ∧ e.stack = d.stack := by
  obtain ⟨p, hp⟩ := bootFences_eq (fs.filter (bootTested d.plan.maps)) d
  dsimp only
  rw [powerOnSelfTest, if_neg (by simp [hrun, hl, ht])]
  dsimp only
  rw [hp]
  exact ⟨rfl, rfl, rfl, rfl, rfl⟩

/-! ### B9 and B10 -/

theorem published_loadSteer (d : Device) : published (loadSteer d) = published d := by
  unfold loadSteer
  rw [published_foldl]
  exact fun _ _ => rfl

/-- The fences of bring-up as the build takes them. -/
def buildMaps (d : Device) : Maps :=
  remap (d.plan.pendR.foldl returnOne d.plan.maps) (d.plan.pendF.map (fun f => { f with gen := d.porter.genRec + 1 }))

/-- The module with the first table in its plan and in the Porter's seed. -/
def buildTable (d : Device) : Device :=
  { d with plan := { d.plan with maps := buildMaps d, pendF := [], pendR := [], dirty := false, gen := d.porter.genRec + 1, changes := 0, sbOk := []
                                 built := true }
           porter := { d.porter with seed := buildMaps d, genRec := d.porter.genRec + 1 } }

/-- The fences of bring-up act, and the returns and fences are reported. -/
def buildCarried (fs back : List Fence) (d : Device) : Device :=
  fs.foldl fenceReport (loadSteer (back.foldl (fun d f => log d 6 0 (fenceBytes f)) (fs.foldl fenceEffect d)))

theorem published_buildCarried (fs back : List Fence) (d : Device) : published (buildCarried fs back d) = published d := by
  unfold buildCarried
  rw [published_foldl published_fenceReport, published_loadSteer, published_foldl fun d f => published_of_bare (bare_log d 6 0 (fenceBytes f)),
    published_foldl published_fenceEffect]

theorem floorPlanBuild_eq (hrun : stagesRun d = true) (ht : d.boot.tested = true) (hb : d.plan.built = false) : ∃ fs back,
    floorPlanBuild d = writeBody { buildCarried fs back (buildTable d) with plan := { (buildCarried fs back (buildTable d)).plan with dirty := false } } := by
  refine ⟨(buildMaps d).fences.drop (d.plan.pendR.foldl returnOne d.plan.maps).fences.length, d.plan.pendR.filterMap (recordOf d.plan.maps), ?_⟩
  rw [floorPlanBuild, if_neg (by simp [hrun, ht, hb])]
  rfl

theorem writeBody_body (d : Device) : (writeBody d).plan.body = (fpEntries (writeBody d) (writeBody d).plan.maps).flatten := by
  have hentries : ∀ b n h, fpEntries { d with plan := { d.plan with body := b, entries := n, hash := h } } d.plan.maps = fpEntries d d.plan.maps := by
    intro b n h
    have hdevice : fpDevice { d with plan := { d.plan with body := b, entries := n, hash := h } } d.plan.maps = fpDevice d d.plan.maps := rfl
    have hport : fpPort { d with plan := { d.plan with body := b, entries := n, hash := h } } d.plan.maps = fpPort d d.plan.maps := rfl
    have hlink : fpLink { d with plan := { d.plan with body := b, entries := n, hash := h } } = fpLink d := rfl
    have hisland : fpIsland { d with plan := { d.plan with body := b, entries := n, hash := h } } = fpIsland d := rfl
    unfold fpEntries
    rw [hdevice, hport, hlink, hisland]
  exact congrArg List.flatten (hentries _ _ _).symm

theorem floorPlanBuild_publishes (hrun : stagesRun d = true) (ht : d.boot.tested = true) (hb : d.plan.built = false) : let e := floorPlanBuild d
    e.plan.built = true ∧ e.plan.gen = d.porter.genRec + 1 ∧ e.porter.genRec = d.porter.genRec + 1 ∧ e.plan.body = (fpEntries e e.plan.maps).flatten := by
  obtain ⟨fs, back, he⟩ := floorPlanBuild_eq hrun ht hb
  have hpub := published_buildCarried fs back (buildTable d)
  have hbuilt : (buildCarried fs back (buildTable d)).plan.built = true := congrArg (fun p => p.1.built) hpub
  have hgen : (buildCarried fs back (buildTable d)).plan.gen = d.porter.genRec + 1 := congrArg (fun p => p.1.gen) hpub
  have hrec : (buildCarried fs back (buildTable d)).porter.genRec = d.porter.genRec + 1 := congrArg (fun p => p.2.genRec) hpub
  dsimp only
  rw [he]
  generalize buildCarried fs back (buildTable d) = c at hbuilt hgen hrec
  exact ⟨hbuilt, hgen, hrec, writeBody_body _⟩

/-- A sequencer that runs confirms its slot (R530). -/
theorem seqInit_runs (hrun : stagesRun d = true) (hb : d.plan.built = true) (hs : d.boot.seqReady = true) (hr : d.boot.running = false) :
    let e := seqInit d
    e.boot.running = true ∧ inTrial e 2 = false ∧ e.stack = d.stack ∧ e.cores = d.cores := by
  have hconf : ∀ e : Device, inTrial (confirm e 2) 2 = false ∧ (confirm e 2).stack = e.stack ∧ (confirm e 2).cores = e.cores := fun e => by
    unfold confirm
    by_cases ht : inTrial e 2 = true
    · rw [if_pos ht]
      have hbare := bare_fwState { e with porter := { e.porter with trial := ndel e.porter.trial 2 } } 2 (activeSlot e 2) 4 0
      refine ⟨?_, (eq_of_erased bare Device.stack (fun _ => rfl) hbare).trans rfl, (eq_of_erased bare Device.cores (fun _ => rfl) hbare).trans rfl⟩
      rw [inTrial, porter_fwState]
      exact contains_ndel _ _
    · rw [if_neg ht]
      exact ⟨Bool.eq_false_iff.mpr ht, rfl, rfl⟩
  have hboot := boot_confirm { d with boot := { d.boot with running := true } } 2
  obtain ⟨c1, c2, c3⟩ := hconf { d with boot := { d.boot with running := true } }
  dsimp only
  rw [seqInit, if_neg (by simp [hrun, hb, hs, hr])]
  exact ⟨congrArg Boot.running hboot, c1, c2, c3⟩

end

section
variable (s : State)

theorem exec_mainRails : exec .mainRails s = .next { s with dev := mainRails s.dev } := run_wf (c := .mainRails) mainRails s rfl
theorem exec_oscStart : exec .oscStart s = .next { s with dev := oscStart s.dev } := run_wf (c := .oscStart) oscStart s rfl
theorem exec_seqImageLoad : exec .seqImageLoad s = .next { s with dev := seqImageLoad s.dev } := run_wf (c := .seqImageLoad) seqImageLoad s rfl
theorem exec_logicRelease : exec .logicRelease s = .next { s with dev := logicRelease s.dev } := run_wf (c := .logicRelease) logicRelease s rfl
theorem exec_floorPlanBuild : exec .floorPlanBuild s = .next { s with dev := floorPlanBuild s.dev } := run_wf (c := .floorPlanBuild) floorPlanBuild s rfl
theorem exec_seqInit : exec .seqInit s = .next { s with dev := seqInit s.dev } := run_wf (c := .seqInit) seqInit s rfl
theorem exec_commandsAccepted : exec .commandsAccepted s = .next { s with dev := commandsAccepted s.dev } :=
  run_wf (c := .commandsAccepted) commandsAccepted s rfl
theorem exec_stackTrain {k : Nat} (ok : Bool) (hk : k < 16) : exec (.stackTrain k ok) s = .next { s with dev := stackTrain k ok s.dev } :=
  run_wf (c := .stackTrain k ok) _ _ (by simp [Instr.wf, hk])
theorem exec_powerOnSelfTest {fs : List UnitRef} (f : Bool) (h : fs.all UnitRef.wf = true) :
    exec (.powerOnSelfTest fs f) s = .next { s with dev := powerOnSelfTest fs f s.dev } := run_wf (c := .powerOnSelfTest fs f) _ _ h

end

/-- A module whose stages do not run is left as it is by every one of them. -/
theorem stages_stopped (s : State) (c : Instr) (h : stagesRun s.dev = false)
    (hc : c ∈ [Instr.mainRails, .oscStart, .seqImageLoad, .logicRelease, .floorPlanBuild, .seqInit, .commandsAccepted]
      ∨ (∃ k ok, k < 16 ∧ c = .stackTrain k ok) ∨ (∃ fs f, fs.all UnitRef.wf = true ∧ c = .powerOnSelfTest fs f)) : exec c s = .next s := by
  rcases hc with hc | ⟨k, ok, hk, rfl⟩ | ⟨fs, f, hfs, rfl⟩
  · simp only [List.mem_cons, List.not_mem_nil, or_false] at hc
    rcases hc with rfl | rfl | rfl | rfl | rfl | rfl | rfl
    · rw [exec_mainRails, mainRails_not (Or.inl h)]
    · rw [exec_oscStart, oscStart_not (Or.inl h)]
    · rw [exec_seqImageLoad, seqImageLoad_not (Or.inl h)]
    · rw [exec_logicRelease, logicRelease_not (Or.inl h)]
    · rw [exec_floorPlanBuild, floorPlanBuild_not (Or.inl h)]
    · rw [exec_seqInit, seqInit_not (Or.inl h)]
    · rw [exec_commandsAccepted, commandsAccepted_not (Or.inl h)]
  · rw [exec_stackTrain s ok hk, stackTrain_not (Or.inl h)]
  · rw [exec_powerOnSelfTest s f hfs, powerOnSelfTest_not (Or.inl h)]

/-- Settles O55: each stage by its equation where it is due, and by its guard where it is not. -/
theorem bringUpStages : Obligations.BringUpStages := by
  refine ⟨fun s c h hc => stages_stopped s c h hc, fun s => ?_, fun s => ?_⟩
  · intro d b hrun
    refine ⟨fun h => ?_, fun h => ?_, fun k ok hk h => ?_, fun h => ?_, fun h => ?_, fun fs f hfs h => ?_, fun h => ?_, fun h => ?_, fun h => ?_,
      fun ho hs => ⟨fun hn => ?_, fun k hk hr hq => ⟨_, exec_seqImageLoad s, seqImageLoad_rolled hrun ho hs hk hr hq⟩, fun k hk hr => ?_⟩,
      fun hl ht fs f hfs => ⟨_, exec_powerOnSelfTest s f hfs, ?_⟩⟩
    · rw [exec_mainRails, mainRails_not (Or.inr h)]
    · rw [exec_oscStart, oscStart_not (Or.inr h)]
    · rw [exec_stackTrain s ok hk, stackTrain_not (Or.inr h)]
    · rw [exec_seqImageLoad, seqImageLoad_not (Or.inr h)]
    · rw [exec_logicRelease, logicRelease_not (Or.inr h)]
    · rw [exec_powerOnSelfTest s f hfs, powerOnSelfTest_not (Or.inr h)]
    · rw [exec_floorPlanBuild, floorPlanBuild_not (Or.inr h)]
    · rw [exec_seqInit, seqInit_not (Or.inr h)]
    · rw [exec_commandsAccepted, commandsAccepted_not (Or.inr h)]
    · rw [exec_seqImageLoad, seqImageLoad_none hrun ho hs hn]
    · rw [exec_seqImageLoad, seqImageLoad_runs hrun ho hs hk hr]
      exact ⟨_, rfl, rfl, tget_tset_self _ _ _ _⟩
    · obtain ⟨t1, t2, t3, t4, -⟩ := powerOnSelfTest_runs hrun hl ht fs f
      exact ⟨t1, t2, t3, t4⟩
  · intro d b hrun
    refine ⟨fun hv => ?_, fun hv ho => ?_, fun k hk ho hm ht hout => ⟨_, exec_stackTrain s true hk, stackTrain_passes hrun hk ho hm ht hout⟩,
      fun k hk ho hm ht h2 hout => ⟨_, exec_stackTrain s false hk, stackTrain_retries hrun hk ho hm ht hout h2⟩,
      fun k hk ho hm ht h2 hout => ⟨_, exec_stackTrain s false hk, stackTrain_fails hrun ho hm ht hout h2⟩,
      fun ho hs ht => ⟨_, exec_seqImageLoad s, seqImageLoad_settled hrun ho hs ht⟩, fun hm hl => ?_, fun hl ht => ?_, fun hl ht fs hfs => ?_,
      fun ht hb => ⟨_, exec_floorPlanBuild s, floorPlanBuild_publishes hrun ht hb⟩,
      fun hb hs hr => ⟨_, exec_seqInit s, seqInit_runs hrun hb hs hr⟩, fun hr => ?_⟩
    · rw [exec_mainRails, mainRails, if_pos (by simp [show stagesRun s.dev = true from hrun, show s.dev.boot.vrPgood = false from hv])]
    · have hosc : oscStart s.dev = clocksLock s.dev := by
        rw [oscStart, if_pos]
        simp [show stagesRun s.dev = true from hrun, show s.dev.boot.vrPgood = true from hv, show s.dev.boot.oscReady = false from ho]
      rw [exec_oscStart, hosc]
      exact ⟨_, rfl, clocksLock_keeps _⟩
    · rw [exec_logicRelease, logicRelease, if_neg]
      simp [show stagesRun s.dev = true from hrun, show s.dev.boot.memReady = true from hm, show s.dev.boot.logicReady = false from hl]
    · obtain ⟨t1, t2, t3, -, t5⟩ := powerOnSelfTest_runs hrun hl ht [] false
      exact ⟨_, exec_powerOnSelfTest s false rfl, t1, t2.trans (Bool.or_false _), t3, t5⟩
    · obtain ⟨t1, t2, -, -, -⟩ := powerOnSelfTest_runs hrun hl ht fs true
      exact ⟨_, exec_powerOnSelfTest s true hfs, t2.trans (Bool.or_true _), t1⟩
    · rw [exec_commandsAccepted, commandsAccepted, if_neg]
      simp [show stagesRun s.dev = true from hrun, show s.dev.boot.running = true from hr]

end Sys2Proof.Machine
end

section
/-!
Self-tests from start to end, and the count of transients (R563 to R567): O57.
-/
namespace Sys2Proof.Machine

section
variable {d : Device} {r : UnitRef}

theorem selfTestStart_none (h : lfind (testCan d) d.tests = none) : selfTestStart r d = d := by
  rw [selfTestStart, h]

theorem selfTestStart_some {i : Nat} {x : Test} (h : lfind (testCan d) d.tests = some i) (hx : d.tests[i]? = some x) : selfTestStart r d =
    if x.unit ≠ r ∨ d.boot.porterReady = false ∨ d.boot.logicReady = false then d
    else testHold { d with tests := lset d.tests i { x with running := true } } r := by
  rw [selfTestStart, h]
  dsimp only
  rw [hx]
  simp only [Bool.or_eq_true, bne_iff_ne, Bool.not_eq_true', or_assoc]

theorem selfTestEnd_none {res : TestResult} (h : lfind (fun t => t.unit == r && t.running) d.tests = none) : selfTestEnd r res d = d := by
  rw [selfTestEnd, h]

theorem selfTestEnd_some {res : TestResult} {i : Nat} {x : Test} (h : lfind (fun t => t.unit == r && t.running) d.tests = some i)
    (hx : d.tests[i]? = some x) : selfTestEnd r res d =
    let pass := !(testFails d r res).1 && !(testFails d r res).2
    let v := freeVal { d with tests := ldel d.tests i }
    let a := log (bump v.2 (devPage 2 + 0x10C) 1) 9 (if pass then 0 else 2) (toLE 1 r.kind ++ toLE 4 (unitNum r) ++ [Config.resultByte pass] ++ toLE 4 v.1.toNat)
    standbyTests (answerTests (testLeave (testVerdict a x res) r (pass && x.why != 1)) r pass) := by
  rw [selfTestEnd, h]
  dsimp only
  rw [hx]

/-- The steps of a unit's transients that still count (R567). -/
def recent (d : Device) (r : UnitRef) : List Nat :=
  ((d.transients.find? (fun t => t.unit == r)).elim [] Transient.steps).filter (fun n => moduleSteps d - n ≤ 10000)

/-- A transient by the number of earlier ones that count: the third is a lasting fault. -/
theorem transient_eq (d : Device) (r : UnitRef) (code : Nat) : transient d r code =
    if 2 ≤ (recent d r).length then
      lasting { bump d (devPage 2 + 0x104) 1 with transients := d.transients.filter (fun t => t.unit != r) } r 2 code
    else { bump d (devPage 2 + 0x104) 1 with
      transients := d.transients.filter (fun t => t.unit != r) ++ [{ unit := r, steps := recent d r ++ [moduleSteps d] }] } := by
  have htr : (bump d (devPage 2 + 0x104) 1).transients = d.transients := eq_of_erased bare Device.transients (fun _ => rfl) (bare_bump _ _ _)
  have hnow : moduleSteps (bump d (devPage 2 + 0x104) 1) = moduleSteps d := by
    simp only [moduleSteps, get64]
    rw [getR_bump_ne _ _ (by decide), getR_bump_ne _ _ (by decide)]
  unfold transient
  dsimp only
  rw [htr, hnow]
  change (if 3 ≤ (recent d r ++ [moduleSteps d]).length then _ else _) = _
  simp only [List.length_append, List.length_singleton, Nat.reduceLeDiff]
  rfl

end

/-- Settles O57: start and end by their equations, the third transient by `transient_eq`. -/
theorem selfTests : Obligations.SelfTests := by
  have hstart : ∀ (r : UnitRef) (s : State), r.wf = true → exec (.selfTestStart r) s = .next { s with dev := selfTestStart r s.dev } := fun r s h =>
    run_wf (c := .selfTestStart r) _ _ h
  have hend : ∀ (r : UnitRef) (res : TestResult) (s : State), r.wf = true → exec (.selfTestEnd r res) s = .next { s with dev := selfTestEnd r res s.dev } :=
    fun r res s h => run_wf (c := .selfTestEnd r res) _ _ h
  refine ⟨fun i x s => ?_, fun r res s => ?_, fun i x r res s => ?_, fun d r code => ?_⟩
  · intro d h hx hwf hp hl
    have hnot : ¬(x.unit ≠ x.unit ∨ s.dev.boot.porterReady = false ∨ s.dev.boot.logicReady = false) := by
      simp [show s.dev.boot.porterReady = true from hp, show s.dev.boot.logicReady = true from hl]
    rw [hstart _ _ hwf, selfTestStart_some h hx, if_neg hnot]
  · intro d hwf
    refine ⟨fun h => ?_, fun i x h hx hno => ?_, fun h => ?_⟩
    · rw [hstart _ _ hwf, selfTestStart_none h]
    · rw [hstart _ _ hwf, selfTestStart_some h hx, if_pos hno]
    · rw [hend _ _ _ hwf, selfTestEnd_none h]
  · intro d hwf h hx
    rw [hend _ _ _ hwf, selfTestEnd_some h hx]
  · intro now old
    have hplan : (bump d (devPage 2 + 0x104) 1).plan = d.plan := eq_of_erased bare Device.plan (fun _ => rfl) (bare_bump _ _ _)
    refine ⟨fun h => ?_, fun h => ?_⟩
    · have hlt : ¬2 ≤ (recent d r).length := Nat.not_le.mpr h
      rw [transient_eq, if_neg hlt]
      exact ⟨getR_bump _ _ _, rfl, hplan⟩
    · have hle : 2 ≤ (recent d r).length := h
      have hbare := fun e : Device => bare_bump e (devPage 2 + 0x108) 1
      rw [transient_eq, if_pos hle]
      refine ⟨_, rfl, ?_, ?_, ?_, ?_⟩
      · exact (eq_of_erased bare Device.plan (fun _ => rfl) (hbare _)).trans hplan
      · exact (eq_of_erased bare Device.transients (fun _ => rfl) (hbare _)).trans rfl
      · exact (getR_bump_ne _ _ (by decide)).trans (getR_bump _ _ _)
      · exact (getR_bump _ _ _).trans (congrArg (fun n => min (n + 1) 0xFFFFFFFF) (getR_bump_ne _ _ (by decide)))

end Sys2Proof.Machine
end

section
/-!
The event ring and the end of a checkpoint (R465, R481, R485): O41.
-/
namespace Sys2Proof.Machine

/-! ### Packets of the control node -/

/-- The address of a control node's packet (R461). -/
theorem fAddr_mkFoyer {type vc job len space tag addr : Nat} (h : type + vc * 2 ^ 4 + job * 2 ^ 6 + len * 2 ^ 10 + space * 2 ^ 20 + tag * 2 ^ 22 < 2 ^ 64)
    (ha : addr < 2 ^ 64) : fAddr (mkFoyer type vc job len space tag addr) = addr := by
  have hdiv : mkFoyer type vc job len space tag addr / 2 ^ 64 = addr := by
    rw [mkFoyer, Nat.add_mul_div_right _ _ (by decide), Nat.div_eq_of_lt h, Nat.zero_add]
  rw [fAddr, fld, Nat.shiftRight_eq_div_pow, hdiv]
  exact Nat.mod_eq_of_lt ha

theorem port_queuePkt (d : Device) (p : Nat) (k : Pkt) : (port (queuePkt d p k) p).q = (port d p).q ++ [k] := by
  simp only [queuePkt, port, setPort, tget_tset_self]

/-! ### The ring -/

/-- A restart empties the ring and leaves every register but its two ends. -/
theorem ringRestart_keeps (d : Device) : evtTail (ringRestart d) = 0 ∧ evtHead (ringRestart d) = 0 ∧ (ringRestart d).evQ = d.evQ
    ∧ (ringRestart d).evSeq = d.evSeq ∧ ∀ o, o ≠ foyPage + 0x11C → o ≠ foyPage + 0x120 → getR (ringRestart d) o = getR d o := by
  refine ⟨?_, ?_, rfl, rfl, fun o h1 h2 => ?_⟩
  · rw [evtTail, ringRestart, getR_setR_ne _ _ _ _ (by decide), getR_setR, Nat.zero_mod]
  · rw [evtHead, ringRestart, getR_setR, Nat.zero_mod]
  · rw [ringRestart, getR_setR_ne _ _ _ _ h2, getR_setR_ne _ _ _ _ h1]

/-- A record stands at the tail with the next SEQ (R485). -/
theorem writeEvent_keeps (d : Device) (e : Ev) : ∃ k, (port (writeEvent d e) 6).q = (port d 6).q ++ [k]
    ∧ k.payload = eventBytes (d.evSeq % (2 ^ 32 - 1) + 1) e
    ∧ fAddr k.hdr = (get64 d (foyPage + 0x110) + 64 * (evtTail d % evtSize d)) % 2 ^ 64
    ∧ evtTail (writeEvent d e) = (evtTail d + 1) % 2 ^ 32 := by
  refine ⟨_, port_queuePkt d 6 _, rfl, fAddr_mkFoyer (by decide) (Nat.mod_lt _ (by decide)), ?_⟩
  rw [evtTail, writeEvent, getR_setR, Nat.mod_mod]
  rfl

/-- The ring takes a record: the link is up, base and size are set, and it has space. -/
def ringOpen (d : Device) : Prop :=
  portUp d 6 = true ∧ d.evBaseSet = true ∧ d.evSizeSet = true ∧ (evtTail d + 2 ^ 32 - evtHead d) % 2 ^ 32 < evtSize d

section
variable {d : Device}

theorem eventRecordWrite_open (h : ringOpen d) : eventRecordWrite d =
    if 0 < d.evLost then writeEvent { d with evLost := 0 } { type := 0xF0, detail := toLE 4 d.evLost }
    else match d.evQ with
      | [] => d
      | e :: t => writeEvent { d with evQ := t } e := by
  obtain ⟨h1, h2, h3, h4⟩ := h
  have hc : ¬((!portUp d 6 || !d.evBaseSet || !d.evSizeSet || decide (evtSize d ≤ (evtTail d + 2 ^ 32 - evtHead d) % 2 ^ 32)) = true) := by
    rw [h1, h2, h3, decide_eq_false (Nat.not_le.mpr h4)]
    decide
  unfold eventRecordWrite
  exact if_neg hc

theorem eventRecordWrite_not (h : portUp d 6 = false ∨ d.evBaseSet = false ∨ d.evSizeSet = false
    ∨ evtSize d ≤ (evtTail d + 2 ^ 32 - evtHead d) % 2 ^ 32 ∨ (d.evLost = 0 ∧ d.evQ = [])) : eventRecordWrite d = d := by
  unfold eventRecordWrite
  by_cases hc : (!portUp d 6 || !d.evBaseSet || !d.evSizeSet || decide (evtSize d ≤ (evtTail d + 2 ^ 32 - evtHead d) % 2 ^ 32)) = true
  · rw [if_pos hc]
  · have hclosed : ¬(portUp d 6 = false ∨ d.evBaseSet = false ∨ d.evSizeSet = false ∨ evtSize d ≤ (evtTail d + 2 ^ 32 - evtHead d) % 2 ^ 32) := by
      simpa [or_assoc] using hc
    have hnone : d.evLost = 0 ∧ d.evQ = [] := by
      rcases h with h | h | h | h | h
      · exact absurd (Or.inl h) hclosed
      · exact absurd (Or.inr (Or.inl h)) hclosed
      · exact absurd (Or.inr (Or.inr (Or.inl h))) hclosed
      · exact absurd (Or.inr (Or.inr (Or.inr h))) hclosed
      · exact h
    rw [if_neg hc, if_neg (by omega), hnone.2]

/-! ### The end of a checkpoint -/

theorem ckptDone_idle {j : Nat} (h : (job d j).ckpts = []) : ckptDone j d = d := by
  rw [ckptDone, h]

/-- A checkpoint whose regions have been read ends once all its writes have been sent. -/
theorem ckptDone_first {j : Nat} {k : Ckpt} {r : List Ckpt} (h : (job d j).ckpts = k :: r) : ckptDone j d =
    if k.phase = 3 ∧ (port d 6).q.all (fun p => !(p.job == j && hType p.hdr == 1 && fVc p.hdr == 1)) = true then
      ckptDrop (cmdDone (pushEv d { type := 0xA2, job := j, attempt := (job d j).attempt, step := (job d j).step, tag := k.tag }) j k.tag k.notify) j
    else d := by
  have hany : (port d 6).q.any (fun p => p.job == j && hType p.hdr == 1 && fVc p.hdr == 1)
      = !(port d 6).q.all (fun p => !(p.job == j && hType p.hdr == 1 && fVc p.hdr == 1)) := by
    rw [List.not_all_eq_any_not]
    simp only [Bool.not_not]
  rw [ckptDone, h]
  dsimp only
  rw [hany]
  by_cases hk : k.phase = 3
  · cases ha : (port d 6).q.all (fun p => !(p.job == j && hType p.hdr == 1 && fVc p.hdr == 1)) with
    | true => rw [if_neg (by simp [hk]), if_pos ⟨hk, rfl⟩]
    | false => rw [if_pos (by simp), if_neg (fun h => Bool.false_ne_true h.2)]
  · rw [if_pos (by simp [hk]), if_neg (fun h => hk h.1)]

end

/-- The last checkpoint of a job leaves none behind. -/
theorem ckptDrop_last {d : Device} {j : Nat} {k : Ckpt} (h : (job d j).ckpts = [k]) :
    (job (ckptDrop d j) j).ckpts = [] ∧ (ckptDrop d j).stack = d.stack ∧ (ckptDrop d j).cores = d.cores := by
  have hkick : ∀ e : Device, (job e j).ckpts = [] → ckptKick e j = e := fun e he => by
    unfold ckptKick
    dsimp only
    rw [he]
  have hnone : (job (setJob d j { job d j with ckpts := (job d j).ckpts.drop 1 }) j).ckpts = [] := by
    rw [job_setJob, h]
    rfl
  unfold ckptDrop
  dsimp only
  rw [hkick _ hnone]
  exact ⟨hnone, rfl, rfl⟩

section
variable (s : State)

theorem exec_evtBaseWrite (v : Word) : exec (.evtBaseWrite v) s = .next { s with dev := evtBaseWrite v s.dev } :=
  run_wf (c := .evtBaseWrite v) (evtBaseWrite v) s rfl
theorem exec_evtSizeWrite (v : Reg) : exec (.evtSizeWrite v) s = .next { s with dev := evtSizeWrite v s.dev } :=
  run_wf (c := .evtSizeWrite v) (evtSizeWrite v) s rfl
theorem exec_evtHeadWrite (v : Reg) : exec (.evtHeadWrite v) s = .next { s with dev := evtHeadWrite v s.dev } :=
  run_wf (c := .evtHeadWrite v) (evtHeadWrite v) s rfl
theorem exec_eventRecordWrite : exec .eventRecordWrite s = .next { s with dev := eventRecordWrite s.dev } :=
  run_wf (c := .eventRecordWrite) eventRecordWrite s rfl
theorem exec_ckptDone {j : Nat} (hj : j < 16) : exec (.ckptDone j) s = .next { s with dev := ckptDone j s.dev } :=
  run_wf (c := .ckptDone j) _ _ (by simp [Instr.wf, hj])

end

section
variable {d : Device}

theorem evtBaseWrite_keeps (v : Word) (d : Device) : let e := evtBaseWrite v d
    get64 e (foyPage + 0x110) = v.toNat / 64 * 64 ∧ evtTail e = 0 ∧ evtHead e = 0 ∧ e.evBaseSet = true ∧ e.evQ = d.evQ ∧ e.evSeq = d.evSeq := by
  obtain ⟨h1, h2, h3, h4, h5⟩ := ringRestart_keeps { set64 d (foyPage + 0x110) (v.toNat / 64 * 64) with evBaseSet := true }
  have hv := v.isLt
  have hset : get64 { set64 d (foyPage + 0x110) (v.toNat / 64 * 64) with evBaseSet := true } (foyPage + 0x110) = v.toNat / 64 * 64 :=
    (get64_set64 d _ _).trans (Nat.mod_eq_of_lt (by omega))
  refine ⟨?_, h1, h2, rfl, h3, h4⟩
  rw [← hset, get64, evtBaseWrite, h5 _ (by decide) (by decide), h5 _ (by decide) (by decide)]
  rfl

theorem evtSizeWrite_accepted {v : Reg} (h : ringSizeOk 64 (v.toNat % 2 ^ 17) = true) : let e := evtSizeWrite v d
    evtSize e = v.toNat % 2 ^ 17 ∧ evtTail e = 0 ∧ evtHead e = 0 ∧ e.evSizeSet = true ∧ e.evQ = d.evQ ∧ e.evSeq = d.evSeq := by
  obtain ⟨h1, h2, h3, h4, h5⟩ := ringRestart_keeps { setR d (foyPage + 0x118) (v.toNat % 2 ^ 17) with evSizeSet := true }
  have hrun : evtSizeWrite v d = ringRestart { setR d (foyPage + 0x118) (v.toNat % 2 ^ 17) with evSizeSet := true } := by
    rw [evtSizeWrite]
    exact if_pos h
  dsimp only
  rw [hrun]
  refine ⟨?_, h1, h2, rfl, h3, h4⟩
  rw [evtSize, h5 _ (by decide) (by decide)]
  have hset : getR { setR d (foyPage + 0x118) (v.toNat % 2 ^ 17) with evSizeSet := true } (foyPage + 0x118) = v.toNat % 2 ^ 17 % 2 ^ 32 := getR_setR _ _ _
  rw [hset]
  omega

theorem evtSizeWrite_refused {v : Reg} (h : ringSizeOk 64 (v.toNat % 2 ^ 17) = false) : let e := evtSizeWrite v d
    evtSize e = evtSize d ∧ evtTail e = evtTail d ∧ evtHead e = evtHead d := by
  have hrun : evtSizeWrite v d = causeEv d 0xFF 0x90 0 (cfgAddr (foyPage + 0x118)) := by
    rw [evtSizeWrite]
    exact if_neg (by rw [h]; decide)
  dsimp only
  rw [hrun, evtSize, evtTail, evtHead, getR_causeEv_ne _ _ _ _ _ (by decide), getR_causeEv_ne _ _ _ _ _ (by decide),
    getR_causeEv_ne _ _ _ _ _ (by decide)]
  exact ⟨rfl, rfl, rfl⟩

end

/-- Settles O41: the registers of the ring by `ringRestart_keeps`, a record by `writeEvent_keeps`, a checkpoint by `ckptDone_first`. -/
theorem eventRing : Obligations.EventRing := by
  refine ⟨fun v s => ⟨_, exec_evtBaseWrite s v, evtBaseWrite_keeps v s.dev⟩, fun v s h => ⟨_, exec_evtSizeWrite s v, evtSizeWrite_accepted h⟩,
    fun v s h => ⟨_, exec_evtSizeWrite s v, evtSizeWrite_refused h⟩, fun v s => ⟨_, exec_evtHeadWrite s v, ?_, ?_, rfl⟩, fun s e q hu hb hz hsp hl hq => ?_,
    fun s h => ?_, fun s hu hb hz hsp hl => ?_, fun j s hj => ?_, fun j k s hj hk hph hsent => ?_⟩
  · exact (getR_setR _ _ _).trans (Nat.mod_eq_of_lt v.isLt)
  · exact getR_setR_ne _ _ _ _ (by decide)
  · have hrun : eventRecordWrite s.dev = writeEvent { s.dev with evQ := q } e := by
      rw [eventRecordWrite_open ⟨hu, hb, hz, hsp⟩, if_neg (by omega), hq]
    obtain ⟨k, k1, k2, k3, k4⟩ := writeEvent_keeps { s.dev with evQ := q } e
    rw [exec_eventRecordWrite, hrun]
    exact ⟨_, k, rfl, rfl, rfl, k4, k1, k2, k3, rfl⟩
  · rw [exec_eventRecordWrite, eventRecordWrite_not h]
  · have hrun : eventRecordWrite s.dev = writeEvent { s.dev with evLost := 0 } { type := 0xF0, detail := toLE 4 s.dev.evLost } := by
      rw [eventRecordWrite_open ⟨hu, hb, hz, hsp⟩, if_pos hl]
    obtain ⟨k, k1, k2, -, k4⟩ := writeEvent_keeps { s.dev with evLost := 0 } { type := 0xF0, detail := toLE 4 s.dev.evLost }
    rw [exec_eventRecordWrite, hrun]
    exact ⟨_, k, rfl, rfl, rfl, k4, k1, k2⟩
  · intro x sent
    refine ⟨fun h => ?_, fun k r h hno => ?_, fun k r h hph hsent => ?_⟩
    · rw [exec_ckptDone s hj, ckptDone_idle h]
    · rw [exec_ckptDone s hj, ckptDone_first h, if_neg]
      rintro ⟨h1, h2⟩
      rcases hno with hno | hno
      · exact hno h1
      · exact Bool.false_ne_true (hno.symm.trans h2)
    · rw [exec_ckptDone s hj, ckptDone_first h, if_pos ⟨hph, hsent⟩]
  · have hck : (job (cmdDone (pushEv s.dev { type := 0xA2, job := j, attempt := (job s.dev j).attempt, step := (job s.dev j).step, tag := k.tag })
        j k.tag k.notify) j).ckpts = [k] := by
      rw [job_cmdDone, job_of_jobs (jobs_pushEv _ _), hk]
    obtain ⟨c1, c2, c3⟩ := ckptDrop_last hck
    rw [exec_ckptDone s hj, ckptDone_first hk, if_pos ⟨hph, hsent⟩]
    refine ⟨_, rfl, c1, c2.trans ?_, c3.trans ?_⟩
    · rw [stack_cmdDone]
      exact eq_of_erased bare Device.stack (fun _ => rfl) (bare_pushEv _ _)
    · rw [cores_cmdDone]
      exact eq_of_erased bare Device.cores (fun _ => rfl) (bare_pushEv _ _)

end Sys2Proof.Machine
end

section
/-!
The header's controls (R583 to R589): O44.
-/
namespace Sys2Proof.Machine

section
variable {d : Device} {page : Nat}

/-- Headers and stack memory are as they were. -/
structure KeepsHeaders (d e : Device) : Prop where
  hdrs_eq : e.hdrs = d.hdrs
  stack_eq : e.stack = d.stack

theorem KeepsHeaders.trans {d e f : Device} (h : KeepsHeaders d e) (h' : KeepsHeaders e f) : KeepsHeaders d f :=
  ⟨h'.hdrs_eq.trans h.hdrs_eq, h'.stack_eq.trans h.stack_eq⟩

theorem KeepsHeaders.foldl {α : Type} {g : Device → α → Device} (hg : ∀ d x, KeepsHeaders d (g d x)) (l : List α) (d : Device) :
    KeepsHeaders d (l.foldl g d) := by
  induction l generalizing d with
  | nil => exact ⟨rfl, rfl⟩
  | cons x xs ih => exact (hg d x).trans (ih _)

theorem keepsHeaders_bump (d : Device) (o n : Nat) : KeepsHeaders d (bump d o n) := by
  unfold bump
  split <;> exact ⟨rfl, rfl⟩

theorem keepsHeaders_dropCopies (d : Device) (h blk : Nat) : KeepsHeaders d (dropCopies d h blk) := by
  unfold dropCopies
  refine .foldl (fun d e => ?_) _ _
  split
  · exact ⟨rfl, rfl⟩
  · dsimp only
    split
    · exact ⟨rfl, rfl⟩
    · refine KeepsHeaders.trans (e := setCore d e.1 _) ?_ (keepsHeaders_bump _ _ _)
      exact ⟨rfl, rfl⟩

/-- A block that is neither a port nor a link loses its own state only. -/
theorem keepsHeaders_resetBlock (h8 : pageType page ≠ 8) (h9 : pageType page ≠ 9) : KeepsHeaders d (resetBlock d page) := by
  have hty : ∀ x, pageInfo page = some x → x.1 ≠ 8 ∧ x.1 ≠ 9 := fun x hx => by
    simpa [pageType, hx] using And.intro h8 h9
  unfold resetBlock
  split
  next => exact ⟨rfl, rfl⟩
  next => exact ⟨rfl, rfl⟩
  next => exact ⟨rfl, rfl⟩
  next =>
    refine (KeepsHeaders.foldl (fun d e => ?_) _ d).trans (⟨rfl, rfl⟩)
    exact .foldl (fun d b => keepsHeaders_dropCopies d _ b) _ _
  next h => exact absurd rfl (hty _ h).1
  next h => exact absurd rfl (hty _ h).2
  next => exact ⟨rfl, rfl⟩

/-- A page with its registers gone and the header that a soft reset leaves (R587). -/
def pageReset (d : Device) (page : Nat) : Device :=
  setHdr { d with regs := tdrop (fun o => o / 0x1000 == page) d.regs } page
    { lock := (hdr d page).lock, resetting := true, errCount := (hdr d page).errCount, scratch := (hdr d page).scratch, genAck := d.plan.changes }

theorem softReset_run {src : Nat} (hc : resetCap (pageType page) = true) (hu : pageInUse d page = false) : softReset src page d =
    let keep := if pageType page == 7 then getR d (page * 0x1000 + 0x100) else 0
    resetBlock (if keep % 2 == 1 then setR (pageReset d page) (page * 0x1000 + 0x100) (keep &&& 9) else pageReset d page) page := by
  rw [softReset, hc, hu]
  rfl

theorem keepsHeaders_softReset {src : Nat} (hc : resetCap (pageType page) = true) (hu : pageInUse d page = false) (h8 : pageType page ≠ 8)
    (h9 : pageType page ≠ 9) : KeepsHeaders (pageReset d page) (softReset src page d) := by
  rw [softReset_run hc hu]
  dsimp only
  generalize (if pageType page == 7 then getR d (page * 0x1000 + 0x100) else 0) = keep
  refine .trans ?_ (keepsHeaders_resetBlock h8 h9)
  split
  · exact ⟨rfl, rfl⟩
  · exact ⟨rfl, rfl⟩

/-- A port's or a link's page keeps no register of its own. -/
theorem softReset_port {src : Nat} (ht : pageType page = 8 ∨ pageType page = 9) (hu : pageInUse d page = false) :
    softReset src page d = resetBlock (pageReset d page) page := by
  have hc : resetCap (pageType page) = true := by rcases ht with h | h <;> rw [h] <;> rfl
  have h7 : (pageType page == 7) = false := by rcases ht with h | h <;> rw [h] <;> rfl
  rw [softReset_run hc hu, h7]
  rfl

theorem softReset_cap {src : Nat} (hc : resetCap (pageType page) = false) : softReset src page d = d := by
  rw [softReset, hc]; rfl

theorem softReset_inUse {src : Nat} (hc : resetCap (pageType page) = true) (hu : pageInUse d page = true) :
    softReset src page d = configErr d page := by
  rw [softReset, hc, hu]; rfl

theorem softResetDone_eq : softResetDone page d =
    if (hdr d page).resetting = false ∨ (pageType page = 9 ∧ ∃ e ∈ pageLinks page, (link d e.1 e.2).st = 5) then d
    else setHdr d page { hdr d page with resetting := false } := by
  unfold softResetDone
  simp only [Bool.or_eq_true, Bool.not_eq_true', Bool.and_eq_true, beq_iff_eq, List.any_eq_true]

theorem blkEnable_none {src : Nat} {on : Bool} (h : enableCap (pageType page) = false ∨ bound d src page = true ∨ (hdr d page).enable = on) :
    blkEnable src page on d = d :=
  if_pos (by simpa [or_assoc] using h)

theorem blkEnable_act {src : Nat} {on : Bool} (hc : enableCap (pageType page) = true) (hb : bound d src page = false) (hne : (hdr d page).enable ≠ on) :
    blkEnable src page on d = if on = false ∧ pageInUse d page = true then configErr d page
    else (pageLinks page).foldl (fun d e =>
      if linkFenced d e.1 e.2 = true ∨ d.boot.logicReady = false then d
      else if on then (if linkOn d e.1 e.2 then trainLink d e.1 e.2 else d)
      else leaveIdle d e.1 e.2 false ((pageLinks page).length != 1)) (setHdr d page { hdr d page with enable := on }) := by
  unfold blkEnable
  dsimp only
  rw [if_neg (by simp [hc, hb, hne])]
  simp only [Bool.or_eq_true, Bool.and_eq_true, Bool.not_eq_true']

theorem blkFence_none {src : Nat} {on : Bool} (h : fenceCap (pageType page) = false ∨ bound d src page = true ∨ pageUnit page = none) :
    blkFence src page on d = d := by
  unfold blkFence
  split
  · rfl
  next hc =>
    have hu : pageUnit page = none := by simp_all
    rw [hu]

theorem blkFence_off {src : Nat} : blkFence src page false d = d := rfl

theorem blkFence_unit {src : Nat} {r : UnitRef} (hc : fenceCap (pageType page) = true) (hb : bound d src page = false) (hu : pageUnit page = some r) :
    blkFence src page true d = requestFence d r 4 0 := by
  rw [blkFence, hc, hb, hu]; rfl

theorem lockPage_page {src : Nat} (h : (pageInfo page).isSome = true) : lockPage src page d = setHdr d page { hdr d page with lock := true } :=
  if_neg (by simpa [Option.isSome_iff_ne_none] using h)

theorem lockPage_none {src : Nat} (h : (pageInfo page).isSome = false) : lockPage src page d = d := if_pos (by simpa using h)

theorem errorClear_page {src : Nat} (h : (pageInfo page).isSome = true) : errorClear src page d =
    setHdr d page { hdr d page with evt := (hdr d page).evt &&& 0xFFFFFFFE, errCode := 0, errAddr := 0 } :=
  if_neg (by simpa [Option.isSome_iff_ne_none] using h)

theorem errorClear_none {src : Nat} (h : (pageInfo page).isSome = false) : errorClear src page d = d := if_pos (by simpa using h)
end

section
variable {src page : Nat} (hs : src < 3) (hp : page < 4096) (s : State)
include hs hp

theorem exec_blkEnable (on : Bool) : exec (.blkEnable src page on) s = .next { s with dev := blkEnable src page on s.dev } :=
  run_wf (c := .blkEnable src page on) _ s (by simp [Instr.wf, hs, hp])

theorem exec_softReset : exec (.softReset src page) s = .next { s with dev := softReset src page s.dev } :=
  run_wf (c := .softReset src page) _ s (by simp [Instr.wf, hs, hp])

theorem exec_blkFence (on : Bool) : exec (.blkFence src page on) s = .next { s with dev := blkFence src page on s.dev } :=
  run_wf (c := .blkFence src page on) _ s (by simp [Instr.wf, hs, hp])

theorem exec_lockPage : exec (.lockPage src page) s = .next { s with dev := lockPage src page s.dev } :=
  run_wf (c := .lockPage src page) _ s (by simp [Instr.wf, hs, hp])

theorem exec_errorClear : exec (.errorClear src page) s = .next { s with dev := errorClear src page s.dev } :=
  run_wf (c := .errorClear src page) _ s (by simp [Instr.wf, hs, hp])

omit hs in
theorem exec_softResetDone : exec (.softResetDone page) s = .next { s with dev := softResetDone page s.dev } :=
  run_wf (c := .softResetDone page) _ s (by simp [Instr.wf, hp])
end

/-- Settles O44: each control by its conditions; a soft reset keeps what `pageReset` leaves of the header (`keepsHeaders_softReset`). -/
theorem headerControls : Obligations.HeaderControls := by
  unfold Obligations.HeaderControls
  intro src page s d h hs hp
  rw [exec_softReset hs hp, exec_softResetDone hp, exec_lockPage hs hp, exec_errorClear hs hp]
  refine ⟨fun on hc hb hu hne => ?_, fun on hn => ?_, fun hc hb he hu => ?_, fun hc hu h8 h9 => ⟨_, rfl, ?_⟩, fun ht hu => ?_, fun hc => ?_,
    fun hc hu => ?_, ⟨fun hr ht => ?_, fun hr => ?_⟩, fun r hc hb hu => ?_, fun hn on => ?_, fun hn => ?_, fun hi => ?_, fun hi => ⟨_, rfl, ?_⟩⟩
  · rw [exec_blkEnable hs hp, blkEnable_act hc hb hne, if_neg (by rintro ⟨h1, h2⟩; simp_all [d])]
  · rw [exec_blkEnable hs hp, blkEnable_none hn]
  · rw [exec_blkEnable hs hp, blkEnable_act hc hb (by rw [show (hdr s.dev page).enable = true from he]; simp), if_pos ⟨rfl, hu⟩]
  · obtain ⟨hh, hst⟩ := keepsHeaders_softReset (src := src) hc hu h8 h9
    have hk : hdr (softReset src page s.dev) page = _ := (congrArg (fun t => tget ({} : Hdr) t page) hh).trans (hdr_setHdr _ _ _)
    dsimp only
    rw [hk]
    exact ⟨rfl, rfl, rfl, rfl, rfl, hst⟩
  · rw [softReset_port ht hu]; rfl
  · rw [softReset_cap hc]
  · rw [softReset_inUse hc hu]
  · rw [softResetDone_eq, if_neg (by rintro (h1 | h1); exacts [absurd (hr.symm.trans h1) (by simp), ht h1])]
  · rw [softResetDone_eq, if_pos hr]
  · rw [exec_blkFence hs hp, exec_blkFence hs hp, blkFence_unit hc hb hu, blkFence_off]
    exact ⟨rfl, rfl⟩
  · rw [exec_blkFence hs hp, blkFence_none hn]
  · rw [lockPage_none hn, errorClear_none hn]
    exact ⟨rfl, rfl⟩
  · rw [lockPage_page hi]
  · rw [errorClear_page hi]
    dsimp only
    rw [hdr_setHdr]
    exact ⟨rfl, rfl, rfl, rfl, rfl, fun q hq => hdr_setHdr_ne _ _ hq⟩

end Sys2Proof.Machine
end

section
/-!
Packets of the control node (R461, R462, R574): O34.
-/
namespace Sys2Proof.Machine

/-- The TAG and the STATUS of a completion. -/
theorem completion_fields {vc tag st : Nat} (hv : vc < 4) (ht : tag < 2 ^ 12) (hs : st < 4) :
    fTag (mkFoyer 3 vc 0 0 3 tag st) = tag ∧ fld (mkFoyer 3 vc 0 0 3 tag st) 71 64 = st := by
  simp only [fTag, fld, mkFoyer, Nat.shiftRight_eq_div_pow]
  omega

section
variable {d : Device} {type n : Nat} {hd : BitVec 128} {f : Device → Device}

/-- The link is not active, or the packet is a NULL unit or of another type. -/
theorem foyerReceive_skipped (h : (link d 6 0).st ≠ 0 ∨ hd.toNat = 0 ∨ (hType hd.toNat ≠ type ∧ hType hd.toNat ∈ [1, 2, 3, 5])) :
    foyerReceive type hd n f d = d := by
  unfold foyerReceive
  exact if_pos (by simpa [or_assoc] using h)

theorem foyerReceive_taken (h : (link d 6 0).st = 0 ∧ hd.toNat ≠ 0 ∧ (hType hd.toNat = type ∨ hType hd.toNat ∉ [1, 2, 3, 5])) :
    foyerReceive type hd n f d = if foyerBad hd.toNat = true ∨ (type ≠ 2 ∧ n ≠ hLen hd.toNat)
      then malformed (wake (takeBlock d 6 0 (((link d 6 0).rxSeq + 1) % 4096)) 1) 6 else f (foyerArrived d hd n) := by
  obtain ⟨h1, h2, h3⟩ := h
  unfold foyerReceive
  dsimp only
  rw [if_neg (by simp_all [or_iff_not_imp_left]), foyerArrived]
  simp only [Bool.or_eq_true, Bool.and_eq_true, bne_iff_ne]

theorem foyerReceive_malformed (h : (link d 6 0).st = 0 ∧ hd.toNat ≠ 0 ∧ (hType hd.toNat = type ∨ hType hd.toNat ∉ [1, 2, 3, 5])
      ∧ (foyerBad hd.toNat = true ∨ (type ≠ 2 ∧ n ≠ hLen hd.toNat))) :
    foyerReceive type hd n f d = malformed (wake (takeBlock d 6 0 (((link d 6 0).rxSeq + 1) % 4096)) 1) 6 := by
  obtain ⟨h1, h2, h3, hb⟩ := h
  rw [foyerReceive_taken ⟨h1, h2, h3⟩, if_pos hb]

theorem foyerReceive_accepted (h : foyerAccepts d type hd n = true) : foyerReceive type hd n f d = f (foyerArrived d hd n) := by
  simp only [foyerAccepts, Bool.and_eq_true, Bool.or_eq_true, beq_iff_eq, bne_iff_ne, Bool.not_eq_true'] at h
  obtain ⟨⟨⟨⟨h1, h2⟩, h3⟩, hb⟩, hl⟩ := h
  rw [foyerReceive_taken ⟨h1, h2, .inl h3⟩, if_neg]
  rintro (h | ⟨ht, hn⟩)
  · rw [hb] at h; exact absurd h (by decide)
  · exact hl.elim ht hn
end

section
variable (hd : BitVec 128) (b : List Byte) (s : State)

theorem exec_foyerWrRx : exec (.foyerWrRx hd b) s = .next { s with dev := foyerWrRx hd b s.dev } := run_wf (c := .foyerWrRx hd b) _ s rfl
theorem exec_foyerRdRx : exec (.foyerRdRx hd) s = .next { s with dev := foyerRdRx hd s.dev } := run_wf (c := .foyerRdRx hd) _ s rfl
theorem exec_foyerCplRx : exec (.foyerCplRx hd b) s = .next { s with dev := foyerCplRx hd b s.dev } := run_wf (c := .foyerCplRx hd b) _ s rfl
end

/-- A refusal reaches no memory, job or port. -/
theorem foyerRefuse_keeps (d : Device) (wr : Bool) (j c a : Nat) : (foyerRefuse d wr j c a).stack = d.stack
    ∧ (foyerRefuse d wr j c a).ports = d.ports ∧ (foyerRefuse d wr j c a).jobs = d.jobs := by
  have hb : bare (foyerRefuse d wr j c a) = bare d := by
    rw [foyerRefuse, bare_causeEv]
    split
    · exact bare_bump _ _ _
    · rfl
  have hs := congrArg Device.stack hb
  have hp := congrArg Device.ports hb
  refine ⟨hs, hp, ?_⟩
  rw [foyerRefuse, jobs_causeEv]
  split
  · exact jobs_bump _ _ _
  · rfl

theorem getR_foyerRefuse (d : Device) (j c a : Nat) : getR (foyerRefuse d true j c a) (foyPage + 0x10C) = min (getR d (foyPage + 0x10C) + 1) 0xFFFFFFFF := by
  rw [foyerRefuse, getR_causeEv_ne _ _ _ _ _ (by decide), if_pos rfl]
  exact getR_bump _ _ _

section
variable {d : Device} {hd : BitVec 128} {b : List Byte}

/-! ### Writes -/

section
variable {e : Device} (hacc : foyerAccepts d 1 hd b.length = true) (he : foyerArrived d hd b.length = e)
include hacc he

theorem foyerWrRx_config (hs : fSpace hd.toNat = 0) : foyerWrRx hd b d =
    if space0Ok e true (fVc hd.toNat) (fAddr hd.toNat) b.length = true then
      (List.range (b.length / 4)).foldl (fun d i => writeBy 0 (fAddr hd.toNat - cfgBase + 4 * i) (leAt b (4 * i) 4) d) e
    else foyerRefuse e true 0xFF 0 (fAddr hd.toNat) := by
  rw [foyerWrRx, foyerReceive_accepted hacc, he]
  dsimp only
  rw [if_pos (by simp [hs])]
  by_cases h : space0Ok e true (fVc hd.toNat) (fAddr hd.toNat) b.length = true
  · rw [if_pos h, if_neg (by simp [h])]
  · rw [if_neg h, if_pos (by simpa using h)]

theorem foyerWrRx_refused (hs : fSpace hd.toNat ≠ 0) (ho : spaceOk e (fSpace hd.toNat) (fAddr hd.toNat) b.length = false) :
    foyerWrRx hd b d = foyerRefuse e true (reqJob hd.toNat) 0 (fAddr hd.toNat) := by
  rw [foyerWrRx, foyerReceive_accepted hacc, he]
  dsimp only
  rw [if_neg (by simp [hs]), if_pos (by simp [ho])]

theorem foyerWrRx_stack (hs : fSpace hd.toNat = 2) (ho : spaceOk e 2 (fAddr hd.toNat) b.length = true) :
    foyerWrRx hd b d = stackWrite e (fAddr hd.toNat) (clean b) := by
  rw [foyerWrRx, foyerReceive_accepted hacc, he]
  dsimp only
  rw [hs, ho]
  rfl

theorem foyerWrRx_job (hs : fSpace hd.toNat = 1) (ho : spaceOk e 1 (fAddr hd.toNat) b.length = true) : foyerWrRx hd b d =
    match unitWrite e (hJob hd.toNat) (fAddr hd.toNat) (clean b) 0xFFFF with
    | .error (code, d) => foyerRefuse d true (hJob hd.toNat) code (fAddr hd.toNat)
    | .ok d => d := by
  rw [foyerWrRx, foyerReceive_accepted hacc, he]
  dsimp only
  rw [hs, ho] <;> rfl
end

/-! ### Reads -/

section
variable {e : Device} (hacc : foyerAccepts d 2 hd 0 = true) (he : foyerArrived d hd 0 = e)
include hacc he

theorem foyerRdRx_config (hs : fSpace hd.toNat = 0) : foyerRdRx hd d =
    if space0Ok e false (fVc hd.toNat) (fAddr hd.toNat) (hLen hd.toNat) = true then
      complete (readRange (fAddr hd.toNat - cfgBase) (hLen hd.toNat / 4) e).2 hd.toNat 0 (readRange (fAddr hd.toNat - cfgBase) (hLen hd.toNat / 4) e).1
    else complete (foyerRefuse e false 0xFF 0 (fAddr hd.toNat)) hd.toNat 1 [] := by
  rw [foyerRdRx, foyerReceive_accepted hacc, he]
  dsimp only
  rw [if_pos (by simp [hs])]
  by_cases h : space0Ok e false (fVc hd.toNat) (fAddr hd.toNat) (hLen hd.toNat) = true
  · rw [if_pos h, if_neg (by simp [h])]
  · rw [if_neg h, if_pos (by simpa using h)]

theorem foyerRdRx_refused (hs : fSpace hd.toNat ≠ 0) (ho : spaceOk e (fSpace hd.toNat) (fAddr hd.toNat) (hLen hd.toNat) = false) :
    foyerRdRx hd d = complete (foyerRefuse e false (reqJob hd.toNat) 0 (fAddr hd.toNat)) hd.toNat 1 [] := by
  rw [foyerRdRx, foyerReceive_accepted hacc, he]
  dsimp only
  rw [if_neg (by simp [hs]), if_pos (by simp [ho])]

theorem foyerRdRx_stack (hs : fSpace hd.toNat = 2) (ho : spaceOk e 2 (fAddr hd.toNat) (hLen hd.toNat) = true) :
    foyerRdRx hd d = completeRead hd.toNat (stackRead e (fAddr hd.toNat) (hLen hd.toNat)) := by
  rw [foyerRdRx, foyerReceive_accepted hacc, he]
  dsimp only
  rw [hs, ho]
  rfl

theorem foyerRdRx_job (hs : fSpace hd.toNat = 1) (ho : spaceOk e 1 (fAddr hd.toNat) (hLen hd.toNat) = true) : foyerRdRx hd d =
    match unitRead e (hJob hd.toNat) (fAddr hd.toNat) (hLen hd.toNat) 0xFFFF with
    | .error (code, d) => complete (foyerRefuse d false (hJob hd.toNat) code (fAddr hd.toNat)) hd.toNat 2 []
    | .ok x => completeRead hd.toNat x := by
  rw [foyerRdRx, foyerReceive_accepted hacc, he]
  dsimp only
  rw [hs, ho] <;> rfl
end

/-! ### Completions -/

/-- What a completion of an outstanding request does once the request is ended. -/
def ended (d : Device) (r : FoyRd) (st : Nat) (b : List Byte) : Device :=
  if 16 ≤ r.job then d
  else if r.kind == 2 then cplCkpt d r st b
  else match stepOf d r.job r.n with
    | none => d
    | some q =>
      if r.kind == 1 then (if q.batch == 2 then cplBatch d r q st b else d)
      else if q.batch == 1 then cplList d r q st b else d

theorem foyerCplRx_none {e : Device} (hacc : foyerAccepts d 3 hd b.length = true) (he : foyerArrived d hd b.length = e)
    (hr : e.rdOut.find? (fun e => e.1 == fTag hd.toNat) = none) : foyerCplRx hd b d = e := by
  rw [foyerCplRx, foyerReceive_accepted hacc, he]
  dsimp only
  rw [hr]

theorem foyerCplRx_some {e : Device} {k : Nat} {r : FoyRd} (hacc : foyerAccepts d 3 hd b.length = true) (he : foyerArrived d hd b.length = e)
    (hr : e.rdOut.find? (fun e => e.1 == fTag hd.toNat) = some (k, r)) : foyerCplRx hd b d =
    if fld hd.toNat 71 64 == 0 && b.length != r.len then malformed e 6
    else ended { e with rdOut := tdrop (· == fTag hd.toNat) e.rdOut } r (fld hd.toNat 71 64) b := by
  rw [foyerCplRx, foyerReceive_accepted hacc, he]
  dsimp only
  rw [hr] <;> rfl

section
variable {r : FoyRd} {st : Nat} {q : StepReq}

theorem ended_other (h : 16 ≤ r.job) : ended d r st b = d := if_pos h
theorem ended_ckpt (h : r.job < 16) (hk : r.kind = 2) : ended d r st b = cplCkpt d r st b := by
  rw [ended, if_neg (by omega), if_pos (by simp [hk])]
theorem ended_gone (h : r.job < 16) (hk : r.kind ≠ 2) (hq : stepOf d r.job r.n = none) : ended d r st b = d := by
  rw [ended, if_neg (by omega), if_neg (by simp [hk]), hq]
theorem ended_batch (h : r.job < 16) (hk : r.kind = 1) (hq : stepOf d r.job r.n = some q) :
    ended d r st b = if q.batch = 2 then cplBatch d r q st b else d := by
  rw [ended, if_neg (by omega), if_neg (by simp [hk]), hq]
  dsimp only
  rw [if_pos (by simp [hk])]
  simp only [beq_iff_eq]
theorem ended_list (h : r.job < 16) (h1 : r.kind ≠ 1) (h2 : r.kind ≠ 2) (hq : stepOf d r.job r.n = some q) :
    ended d r st b = if q.batch = 1 then cplList d r q st b else d := by
  rw [ended, if_neg (by omega), if_neg (by simp [h2]), hq]
  dsimp only
  rw [if_neg (by simp [h1])]
  simp only [beq_iff_eq]
end
end

/-- Settles O34: the packets by type, by the space that they name, and by what the request they end was for. -/
theorem foyerPackets : Obligations.FoyerPackets := by
  unfold Obligations.FoyerPackets
  intro hd b s h a n skipped broken bad
  have h12 : fSpace h = 1 ∨ fSpace h = 2 → fSpace h ≠ 0 := by omega
  rw [exec_foyerWrRx, exec_foyerRdRx, exec_foyerCplRx]
  refine ⟨fun hs => ?_, fun hs => ?_, fun hs => ?_, fun hb => ?_, fun hb => ?_, fun hb => ?_, fun hacc => ?_, fun hacc => ?_, fun hacc => ?_⟩
  · rw [foyerWrRx, foyerReceive_skipped hs]
  · rw [foyerRdRx, foyerReceive_skipped hs]
  · rw [foyerCplRx, foyerReceive_skipped hs]
  · rw [foyerWrRx, foyerReceive_malformed hb]
  · rw [foyerRdRx, foyerReceive_malformed hb]
  · rw [foyerCplRx, foyerReceive_malformed hb]
  · generalize he : foyerArrived s.dev hd b.length = e
    dsimp only
    refine ⟨fun hs ho => ?_, fun hs ho => ?_, fun hs ho => ?_, fun d1 hs ho hu => ?_, fun f d1 hs ho hu => ?_, fun hs ho => ?_⟩
    · rw [foyerWrRx_config hacc he hs, if_pos ho]
    · rw [foyerWrRx_config hacc he hs, if_neg (by rw [show space0Ok e true _ _ _ = false from ho]; decide)]
    · rw [foyerWrRx_stack hacc he hs ho]
    · rw [foyerWrRx_job hacc he hs ho, hu]
    · rw [foyerWrRx_job hacc he hs ho, hu]
    · refine ⟨_, rfl, ?_⟩
      rw [foyerWrRx_refused hacc he (h12 hs) ho]
      obtain ⟨hk, -, hj⟩ := foyerRefuse_keeps e true (reqJob h) 0 a
      exact ⟨getR_foyerRefuse _ _ _ _, hk, hj⟩
  · generalize he : foyerArrived s.dev hd 0 = e
    dsimp only
    refine ⟨fun hs ho => ?_, fun hs ho => ?_, fun hs ho => ?_, fun x hs ho hu => ?_, fun f d1 hs ho hu => ?_, fun hs ho => ?_⟩
    · rw [foyerRdRx_config hacc he hs, if_pos ho]
    · rw [foyerRdRx_config hacc he hs, if_neg (by rw [show space0Ok e false _ _ _ = false from ho]; decide)]
    · rw [foyerRdRx_stack hacc he hs ho]
    · rw [foyerRdRx_job hacc he hs ho, hu]
    · rw [foyerRdRx_job hacc he hs ho, hu]
    · rw [foyerRdRx_refused hacc he (h12 hs) ho]
      obtain ⟨hk, hp, -⟩ := foyerRefuse_keeps e false (reqJob h) 0 a
      obtain ⟨ht, hst⟩ := completion_fields (st := 1) (fld_lt h 5 4) (fld_lt h 33 22) (by decide)
      refine ⟨_, { hdr := mkFoyer 3 (fVc h) 0 0 3 (fTag h) 1, payload := [] }, rfl, ?_, ht, hst, rfl, hk⟩
      rw [port, port, ← hp]
      exact port_queuePkt (foyerRefuse e false (reqJob h) 0 a) 6 _
  · generalize he : foyerArrived s.dev hd b.length = e
    dsimp only
    refine ⟨fun hr => ?_, fun k r hr hst hlen => ?_, fun k r hr hok => ⟨fun hj => ?_, fun hj hk => ?_, fun hj hk hq => ?_, fun q hj hq =>
      ⟨fun hk hb => ?_, fun hk hb => ?_, fun h1 h2 hb => ?_, fun h1 h2 hb => ?_⟩⟩⟩
    · rw [foyerCplRx_none hacc he hr]
    · rw [foyerCplRx_some hacc he hr, if_pos (by simpa [hst] using ⟨hst, hlen⟩)]
    all_goals rw [foyerCplRx_some hacc he hr, if_neg (by simpa using hok)]
    · rw [ended_other hj]
    · rw [ended_ckpt hj hk]
    · rw [ended_gone hj hk hq]
    · rw [ended_batch hj hk hq, if_pos hb]
    · rw [ended_batch hj hk hq, if_neg hb]
    · rw [ended_list hj h1 h2 hq, if_pos hb]
    · rw [ended_list hj h1 h2 hq, if_neg hb]

end Sys2Proof.Machine
end

section
/-!
The link layer: acknowledgements, bad blocks, the choice of the next packet, silence and lost lock (R350, R356 to R365): O28.
-/
namespace Sys2Proof.Machine

theorem linkWf_of {p l : Nat} (h : (p < 6 ∧ l < 4) ∨ (p = 6 ∧ l = 0)) : linkWf p l = true := by simpa [linkWf] using h

theorem getR_linkCtr {d : Device} {p l off n : Nat} (hp : p < 6) : getR (linkCtr d p l off n) (linkPage p l + off) = min (getR d (linkPage p l + off) + n) 0xFFFFFFFF := by
  rw [linkCtr, if_pos hp, getR_bump]

theorem getR_linkCtr_ne {d : Device} {p l off off' n : Nat} (hp : p < 6) (h : off' ≠ off) :
    getR (linkCtr d p l off n) (linkPage p l + off') = getR d (linkPage p l + off') := by
  rw [linkCtr, if_pos hp, getR_bump_ne _ _ (by omega)]

/-- A link's counter is reported, and reaches nothing but registers. -/
theorem bare_linkCtr (d : Device) (p l off n : Nat) : bare (linkCtr d p l off n) = bare d := by
  unfold linkCtr
  split
  · exact bare_bump _ _ _
  · split
    · exact bare_bump _ _ _
    · rfl

theorem link_of_bare {d e : Device} (h : bare e = bare d) (p l : Nat) : link e p l = link d p l :=
  eq_of_erased bare (fun d => link d p l) (fun _ => rfl) h

theorem link_linkCtr (d : Device) (p l off n q m : Nat) : link (linkCtr d p l off n) q m = link d q m := link_of_bare (bare_linkCtr _ _ _ _ _) q m

/-! ### Acknowledgements (R356, R358, R362) -/

/-- A link with the credits that a LINK packet returns (R358). -/
def creditedLink (x : Link) (h : Nat) : Link :=
  let cls := fld h 79 78
  let dc := (fld h 93 80 + 16384 - tget 0 x.peerFreed cls) % 16384
  if dc < 8192 then { x with credit := tset x.credit cls (creditOf x cls + dc), peerFreed := tset x.peerFreed cls (fld h 93 80) } else x

/-- The module with the link's and the port's credits. -/
def credited (d : Device) (p l h : Nat) : Device :=
  let cls := fld h 79 78
  let e := setLink d p l (creditedLink (link d p l) h)
  let q := port e p
  let ds := (fld h 101 94 + 256 - tget 0 q.peerSig cls) % 256
  if p < 6 && ds < 128 then
    setPort e p { q with sigCredit := tset q.sigCredit cls (tget 64 q.sigCredit cls + ds), peerSig := tset q.peerSig cls (fld h 101 94) }
  else e

/-- The blocks that still wait once a block is acknowledged. -/
def ackRest (x : Link) (ack : Nat) : List Sent := (x.unacked.dropWhile (fun b => b.block.seq != ack)).drop 1

/-- Credits change only the credits of a link. -/
theorem creditedLink_keeps (x : Link) (h : Nat) : (creditedLink x h).st = x.st ∧ (creditedLink x h).unacked = x.unacked ∧ (creditedLink x h).draining = x.draining
    ∧ (creditedLink x h).nakRun = x.nakRun ∧ (creditedLink x h).nakSeq = x.nakSeq ∧ (creditedLink x h).rxSeq = x.rxSeq := by
  unfold creditedLink
  dsimp only
  split <;> exact ⟨rfl, rfl, rfl, rfl, rfl, rfl⟩

theorem credited_keeps (d : Device) (p l h : Nat) :
    (credited d p l h).stack = d.stack ∧ (credited d p l h).cores = d.cores ∧ (credited d p l h).regs = d.regs := by
  unfold credited
  dsimp only
  split <;> exact ⟨rfl, rfl, rfl⟩

section
variable {d : Device} {p l : Nat} {hd : BitVec 128}

/-- A LINK packet that acknowledges comes for an active link. -/
structure Acks (d : Device) (p l : Nat) (hd : BitVec 128) : Prop where
  active : (link d p l).st = 0
  type : hType hd.toNat = 5
  good : badHeader hd.toNat = false
  foyer : p = 6 → fld hd.toNat 39 34 = 0
  ack : bit hd.toNat 77 = true
  running : (link d p l).draining = false
  known : (link d p l).unacked.any (fun b => b.block.seq == fld hd.toNat 75 64) = true

/-- What an acknowledgement does to a link `x` whose credits are taken. -/
def acknowledge (d : Device) (p l : Nat) (x : Link) (h : Nat) : Device :=
  let ack := fld h 75 64
  let acked := x.unacked.any (fun b => b.block.seq == ack)
  let rest := if acked then ackRest x ack else x.unacked
  let x := { x with unacked := rest }
  if bit h 76 then
    let nx := (ack + 1) % 4096
    let nakN : Nat := if x.nakRun != 0 && x.nakSeq == nx then x.nakRun + 1 else 1
    let d := linkCtr (setLink d p l { x with nakSeq := nx, nakRun := nakN, tx := rest.map Sent.block }) p l 0x120 1
    if 8 ≤ nakN then leaveFailed d p l else if x.draining && rest.isEmpty then enterTest d p l else d
  else
    let d := setLink d p l { x with nakRun := if acked then 0 else x.nakRun }
    if x.draining && rest.isEmpty then enterTest d p l else d

theorem linkPacketRx_acks (h : Acks d p l hd) :
    linkPacketRx p l hd d = acknowledge (credited d p l hd.toNat) p l (creditedLink (link d p l) hd.toNat) hd.toNat := by
  obtain ⟨hs, ht, hb, hf, ha, -, -⟩ := h
  have h0 : hd.toNat ≠ 0 := by
    intro h0
    rw [h0] at ht
    exact absurd ht (by decide)
  rw [linkPacketRx]
  dsimp only
  rw [if_neg (by simp [hs, h0]), if_neg (by simp [ht, hb]; exact fun h6 => hf h6), if_neg (by simp [ha])]
  rfl

section
variable {x : Link} {h : Nat} (hr : x.draining = false) (hk : x.unacked.any (fun b => b.block.seq == fld h 75 64) = true)
include hr hk

theorem acknowledge_ack (hn : bit h 76 = false) :
    acknowledge d p l x h = setLink d p l { x with unacked := ackRest x (fld h 75 64), nakRun := 0 } := by
  unfold acknowledge
  dsimp only
  rw [hn, hk, hr]
  rfl

theorem acknowledge_nak (hn : bit h 76 = true) (h7 : x.nakRun < 7) : acknowledge d p l x h =
    let nx := (fld h 75 64 + 1) % 4096
    linkCtr (setLink d p l { x with unacked := ackRest x (fld h 75 64), nakSeq := nx, tx := (ackRest x (fld h 75 64)).map Sent.block
                                    nakRun := if x.nakRun ≠ 0 ∧ x.nakSeq = nx then x.nakRun + 1 else 1 }) p l 0x120 1 := by
  unfold acknowledge
  dsimp only
  rw [hn, hk, hr]
  simp only [if_true, Bool.and_eq_true, bne_iff_ne, beq_iff_eq, Bool.false_and, Bool.false_eq_true, if_false]
  exact if_neg (by split <;> omega)
end

/-- What an acknowledged block leaves of its link. -/
theorem linkPacketRx_ack (h : Acks d p l hd) (hn : bit hd.toNat 76 = false) :
    (link (linkPacketRx p l hd d) p l).unacked = ackRest (link d p l) (fld hd.toNat 75 64)
    ∧ (link (linkPacketRx p l hd d) p l).st = 0 ∧ (link (linkPacketRx p l hd d) p l).nakRun = 0
    ∧ (link (linkPacketRx p l hd d) p l).rxSeq = (link d p l).rxSeq
    ∧ (linkPacketRx p l hd d).stack = d.stack ∧ (linkPacketRx p l hd d).cores = d.cores := by
  obtain ⟨hst, hu, hdr, -, -, hrx⟩ := creditedLink_keeps (link d p l) hd.toNat
  obtain ⟨hs, hc, -⟩ := credited_keeps d p l hd.toNat
  rw [linkPacketRx_acks h, acknowledge_ack (hdr.trans h.running) (by rw [hu]; exact h.known) hn, link_setLink]
  refine ⟨?_, hst.trans h.active, rfl, hrx, hs, hc⟩
  rw [ackRest, hu, ackRest]

/-- A NAK: the rest is sent again, and the run of NAKs for one block is counted. -/
theorem linkPacketRx_nak (h : Acks d p l hd) (hn : bit hd.toNat 76 = true) (h7 : (link d p l).nakRun < 7) :
    (link (linkPacketRx p l hd d) p l).unacked = ackRest (link d p l) (fld hd.toNat 75 64)
    ∧ (link (linkPacketRx p l hd d) p l).tx = (ackRest (link d p l) (fld hd.toNat 75 64)).map Sent.block
    ∧ (link (linkPacketRx p l hd d) p l).st = 0
    ∧ (link (linkPacketRx p l hd d) p l).nakRun = (if (link d p l).nakRun ≠ 0 ∧ (link d p l).nakSeq = (fld hd.toNat 75 64 + 1) % 4096
        then (link d p l).nakRun + 1 else 1)
    ∧ (p < 6 → getR (linkPacketRx p l hd d) (linkPage p l + 0x120) = min (getR d (linkPage p l + 0x120) + 1) 0xFFFFFFFF)
    ∧ (linkPacketRx p l hd d).stack = d.stack ∧ (linkPacketRx p l hd d).cores = d.cores := by
  obtain ⟨hst, hu, hdr, hnr, hns, -⟩ := creditedLink_keeps (link d p l) hd.toNat
  obtain ⟨hs, hc, hg⟩ := credited_keeps d p l hd.toNat
  rw [linkPacketRx_acks h, acknowledge_nak (hdr.trans h.running) (by rw [hu]; exact h.known) hn (by rw [hnr]; exact h7)]
  dsimp only
  have hrest : ackRest (creditedLink (link d p l) hd.toNat) (fld hd.toNat 75 64) = ackRest (link d p l) (fld hd.toNat 75 64) := by rw [ackRest, hu, ackRest]
  rw [link_linkCtr, link_setLink, hrest, hnr, hns]
  refine ⟨rfl, rfl, hst.trans h.active, rfl, fun hp => ?_, ?_, ?_⟩
  · rw [getR_linkCtr hp, getR_of_regs (d := d) (e := setLink _ _ _ _) hg]
  · exact (eq_of_erased bare Device.stack (fun _ => rfl) (bare_linkCtr _ _ _ _ _)).trans hs
  · exact (eq_of_erased bare Device.cores (fun _ => rfl) (bare_linkCtr _ _ _ _ _)).trans hc
end

/-! ### Bad blocks (R350, R361, R362) -/

section
variable {d : Device} {p l : Nat} {unc : Bool}

/-- The classes of which a CTRL block speaks. -/
def ctrlClasses (d : Device) (p l : Nat) : List Nat :=
  match creditsDue d p l with
  | [] => [0]
  | cs => cs

/-- A link that has sent a CTRL block. -/
def ctrlLink (d : Device) (p l : Nat) (nak : Bool) : Link :=
  { link d p l with told := (link d p l).freed, rxCount := 0
                    tx := [mkBlock 1 0 0 ((ctrlClasses d p l).flatMap (fun c => packetBytes (linkHdr d p l nak c) []))] }

theorem link_sendCtrl {nak : Bool} (h : (link d p l).st = 0) : link (sendCtrl d p l nak) p l = ctrlLink d p l nak := by
  rw [sendCtrl]
  dsimp only
  rw [if_neg (by simp [h])]
  exact link_setLink _ _ _ _

/-- A link's header and the credits due speak of what it has received and freed. -/
theorem linkHdr_ignoring (d : Device) (p l c : Nat) (nak : Bool) :
    linkHdr (setLink d p l { link d p l with ignoring := true }) p l nak c = linkHdr d p l nak c := by
  unfold linkHdr
  rw [link_setLink]
  rfl

theorem ctrlClasses_ignoring (d : Device) (p l : Nat) : ctrlClasses (setLink d p l { link d p l with ignoring := true }) p l = ctrlClasses d p l := by
  have h : creditsDue (setLink d p l { link d p l with ignoring := true }) p l = creditsDue d p l := by
    unfold creditsDue
    rw [link_setLink]
    rfl
  rw [ctrlClasses, h, ctrlClasses]

theorem badBlock_idle (h : (link d p l).st ≠ 0) : badBlock p l unc d = d := if_pos (by simpa using h)

theorem badBlock_active (h : (link d p l).st = 0) : badBlock p l unc d =
    linkCtr (linkCtr (sendCtrl (setLink d p l { link d p l with ignoring := true }) p l true) p l (if unc then 0x118 else 0x11C) 1) p l 0x124 1 :=
  if_neg (by simp [h])

theorem badBlock_link (h : (link d p l).st = 0) : link (badBlock p l unc d) p l = { ctrlLink d p l true with ignoring := true } := by
  rw [badBlock_active h, link_linkCtr, link_linkCtr, link_sendCtrl (by rw [link_setLink]; exact h)]
  simp only [ctrlLink, linkHdr_ignoring, ctrlClasses_ignoring, link_setLink]

theorem badBlock_counts (hp : p < 6) (h : (link d p l).st = 0) :
    getR (badBlock p l unc d) (linkPage p l + 0x124) = min (getR d (linkPage p l + 0x124) + 1) 0xFFFFFFFF
    ∧ getR (badBlock p l unc d) (linkPage p l + (if unc then 0x118 else 0x11C))
      = min (getR d (linkPage p l + (if unc then 0x118 else 0x11C)) + 1) 0xFFFFFFFF := by
  have hk (o : Nat) : getR (sendCtrl (setLink d p l { link d p l with ignoring := true }) p l true) o = getR d o := getR_of_regs (regs_sendCtrl _ _ _ _) o
  have hne : (0x124 : Nat) ≠ (if unc then 0x118 else 0x11C) := by cases unc <;> decide
  rw [badBlock_active h]
  constructor
  · rw [getR_linkCtr hp, getR_linkCtr_ne hp hne, hk]
  · rw [getR_linkCtr_ne hp hne.symm, getR_linkCtr hp, hk]

/-- The Foyer link keeps no count of bad blocks (R487). -/
theorem badBlock_foyer (h : (link d 6 0).st = 0) : badBlock 6 0 unc d = sendCtrl (setLink d 6 0 { link d 6 0 with ignoring := true }) 6 0 true := by
  rw [badBlock_active h]
  cases unc <;> rfl
end

/-! ### Sending (R356, R364, R365) -/

section
variable {d : Device} {p : Nat}

theorem packetSend_again {k : Pkt} {l : Nat} (h : againReady d p = some (k, l)) : packetSend p d = sendAgain d p k l := by
  unfold packetSend
  split
  next h6 =>
    obtain rfl : p = 6 := by simpa using h6
    rw [foyerSend, h]
  next => rw [harlonSend, h]

/-- The class that a Harlon port serves next, in turn. -/
def nextClass (d : Device) (p : Nat) : Option (Nat × Pkt × Nat) :=
  ([1, 2, 3, 4].map (fun i => ((port d p).rr + i) % 4)).findSome? (fun c => (classReady d p c).map (fun r => (c, r)))

theorem packetSend_new {c l : Nat} {k : Pkt} (hp : p < 6) (h : againReady d p = none) (hu : unackedCount d p < 32768) (hc : nextClass d p = some (c, k, l)) :
    packetSend p d = sendNew d p c k l := by
  rw [packetSend, if_neg (by simp; omega), harlonSend, h]
  dsimp only
  rw [if_neg (by omega), ← nextClass, hc]

theorem packetSend_rest (hp : p < 6) (h : againReady d p = none) (hn : 32768 ≤ unackedCount d p ∨ nextClass d p = none) :
    packetSend p d = sendRest d p := by
  rw [packetSend, if_neg (by simp; omega), harlonSend, h]
  dsimp only
  split
  · rfl
  next hu => rw [← nextClass, hn.resolve_left hu]
end

/-! ### Silence and lost lock (R363) -/

section
variable {d : Device} {p l : Nat}

theorem linkSilenceTimeout_eq : linkSilenceTimeout p l d = if (link d p l).st = 0 ∧ (link d p l).unacked ≠ [] then leaveFailed d p l else d := by
  unfold linkSilenceTimeout
  simp only [Bool.and_eq_true, beq_iff_eq, Bool.not_eq_true', List.isEmpty_eq_false_iff]

theorem laneLockLoss_eq (lane : Nat) : laneLockLoss p l lane d =
    let x := link d p l
    let a := setLink d p l { x with laneLock := if bit x.laneLock lane then x.laneLock - 2 ^ lane else x.laneLock, fecLock := false }
    if x.st = 0 then leaveFailed a p l else a := by
  unfold laneLockLoss
  simp only [beq_iff_eq]
end

/-- Settles O28: what a LINK packet, a bad block, a turn to send, silence and a lost lock do to a link. -/
theorem linkLayer : Obligations.LinkLayer := by
  unfold Obligations.LinkLayer
  refine ⟨fun p l hd s => ?_, fun p l unc s => ?_, fun p l k s hp h => ?_, fun p l c k s => ?_, fun p l s => ?_, fun p l lane s => ?_⟩
  · intro h x ack rest hw hst ht hb hf ha hr hk
    have hacks : Acks s.dev p l hd := ⟨hst, ht, hb, hf, ha, hr, hk⟩
    have hrun : exec (.linkPacketRx p l hd) s = .next { s with dev := linkPacketRx p l hd s.dev } := run_wf (c := .linkPacketRx p l hd) _ s (linkWf_of hw)
    exact ⟨fun hn => ⟨_, hrun, linkPacketRx_ack hacks hn⟩, fun hn h7 => ⟨_, hrun, linkPacketRx_nak hacks hn h7⟩⟩
  · intro x cs
    have hrun (hw : (p < 6 ∧ l < 4) ∨ (p = 6 ∧ l = 0)) : exec (.badBlock p l unc) s = .next { s with dev := badBlock p l unc s.dev } :=
      run_wf (c := .badBlock p l unc) _ s (linkWf_of hw)
    refine ⟨fun hp hl hst => ⟨_, hrun (.inl ⟨hp, hl⟩), badBlock_link hst, badBlock_counts hp hst⟩, fun hp hl hst => ?_, fun hw hst => ?_⟩
    · subst hp hl
      rw [hrun (.inr ⟨rfl, rfl⟩), badBlock_foyer hst]
    · rw [hrun hw, badBlock_idle hst]
  · rw [show exec (.packetSend p) s = .next { s with dev := packetSend p s.dev } from run_wf (c := .packetSend p) _ s (by simpa [Instr.wf] using hp),
      packetSend_again h]
  · intro x pick hp h
    rw [show exec (.packetSend p) s = .next { s with dev := packetSend p s.dev } from
      run_wf (c := .packetSend p) _ s (by simp [Instr.wf]; omega)]
    exact ⟨fun hu hc => by rw [packetSend_new hp h hu hc], fun hn => by rw [packetSend_rest hp h hn]⟩
  · intro x hw
    rw [show exec (.linkSilenceTimeout p l) s = .next { s with dev := linkSilenceTimeout p l s.dev } from
      run_wf (c := .linkSilenceTimeout p l) _ s (linkWf_of hw), linkSilenceTimeout_eq]
    refine ⟨fun hst hu => by rw [if_pos ⟨hst, hu⟩], fun hn => ?_⟩
    rw [if_neg (by rintro ⟨hst, hu⟩; exact hn.elim (· hst) hu)]
  · intro x a hw hl
    rw [show exec (.laneLockLoss p l lane) s = .next { s with dev := laneLockLoss p l lane s.dev } from
      run_wf (c := .laneLockLoss p l lane) _ s (by simp [Instr.wf, linkWf_of hw, hl]), laneLockLoss_eq]

end Sys2Proof.Machine
end

section
/-!
Link training and the link tests (R363, R367, R369, R372 to R374, R636): O29.
-/
namespace Sys2Proof.Machine

/-! ### A link's move -/

theorem links_of_bare {d e : Device} (h : bare e = bare d) : e.links = d.links := eq_of_erased bare Device.links (fun _ => rfl) h

theorem links_foldl {α : Type} {f : Device → α → Device} (hf : ∀ d x, (f d x).links = d.links) (l : List α) (d : Device) :
    (l.foldl f d).links = d.links := by
  induction l generalizing d with
  | nil => rfl
  | cons x t ih => rw [List.foldl_cons, ih, hf]

theorem links_taintEv (d : Device) (j ty a n c : Nat) (l : List Byte) : (taint (jobEv d j ty c a l) j n c).links = d.links :=
  links_of_bare ((bare_taint _ _ _ _).trans (bare_jobEv _ _ _ _ _ _))

theorem links_breakRing (d : Device) (r : Nat) : (breakRing d r).links = d.links := by
  unfold breakRing
  split
  · rfl
  · split
    · rfl
    · exact links_taintEv _ _ _ _ _ _ _

theorem links_degradeRings (d : Device) (p : Nat) : (degradeRings d p).links = d.links := by
  unfold degradeRings
  dsimp only
  rw [links_foldl, links_foldl]
  · exact fun _ _ => rfl
  · intro d j
    split
    · exact links_of_bare (bare_jobEv _ _ _ _ _ _)
    · rfl

theorem links_portDown (d : Device) (p : Nat) : (portDown d p).links = d.links := by
  unfold portDown
  dsimp only
  split
  · rfl
  · rw [links_foldl, links_foldl, links_foldl, links_of_bare (bare_bump _ _ _)]
    · rfl
    · exact fun d j => links_taintEv _ _ _ _ _ _ _
    · intro d k
      split
      · exact links_taintEv _ _ _ _ _ _ _
      · rfl
    · exact fun d e => links_breakRing _ _

theorem links_linkReport (d : Device) (p l old was : Nat) : (linkReport d p l old was).links = d.links := by
  have hev : ∀ e : Device, (if p < 6 && portState e p != was then setEvt e (portPage p) 16 else e).links = e.links := fun e => by
    split <;> rfl
  unfold linkReport
  dsimp only
  refine (hev _).trans ?_
  split
  · exact links_of_bare (bare_pushEv _ _)
  · rfl

/-- What the loss or the return of a link brings moves no other link. -/
theorem links_afterLink (d : Device) (p l old was : Nat) (whole : Bool) : (afterLink d p l old was whole).links = d.links := by
  rw [afterLink_eq, ← links_linkReport d p l old was]
  dsimp only
  split
  · split
    · split
      · rfl
      · exact links_degradeRings _ _
    · split
      · exact links_portDown _ _
      · exact links_portDown _ _
  · split <;> rfl

section
variable {d : Device} {p l : Nat}

/-- A link that has left its state, before it takes the next one. -/
def cleared (x : Link) : Link :=
  { x with unacked := [], part := [], partFirst := 63, partPk := [], draining := false, ignoring := false, fecLock := false
           peerSeen := false, testRun := false, loop := false, prbsLock := 0 }

theorem link_moveLink (f : Link → Link) (whole : Bool) : link (moveLink d p l f whole) p l = f (cleared (link d p l)) := by
  rw [link, show (moveLink d p l f whole).links = (setLink d p l (f (cleared (link d p l)))).links from links_afterLink _ _ _ _ _ _]
  exact link_setLink _ _ _ _

/-! ### Training -/

section
variable {pol : BitVec 4} {map : BitVec 8}

theorem trainStepDone_first (h : (link d p l).st = 5) (h1 : (link d p l).step = 1) :
    trainStepDone p l pol map d = setLink d p l { link d p l with step := 2, laneLock := if p = 6 then 3 else 15 } := by
  rw [trainStepDone]
  dsimp only
  rw [if_neg (by simp [h]), h1]
  simp only [beq_iff_eq]

theorem trainStepDone_second (h : (link d p l).st = 5) (h2 : (link d p l).step = 2) :
    trainStepDone p l pol map d = setLink d p l { link d p l with step := 3 } := by
  rw [trainStepDone]
  dsimp only
  rw [if_neg (by simp [h]), h2]
  rfl

theorem trainStepDone_third (h : (link d p l).st = 5) (h3 : (link d p l).step = 3) : trainStepDone p l pol map d =
    sendTrain (setLink d p l { link d p l with step := 4, fecLock := true, polarity := pol.toNat, laneMap := map.toNat }) p l 0 := by
  rw [trainStepDone]
  dsimp only
  rw [if_neg (by simp [h]), h3]
  rfl
end

theorem trainFail_eq : trainFail d p l =
    let n := min 3 ((link d p l).fails + 1)
    let a := setLink d p l { link d p l with fails := n }
    let b := moveLink a p l (fun x => { x with st := 6, step := 0 })
    if n < 3 ∨ (p = 6 ∧ autoRetrain d 6 = true) then trainLink a p l else if p = 6 then b else needTest b (unitLink p l) 0 0 := by
  have hr : autoRetrain (setLink d p l { link d p l with fails := min 3 ((link d p l).fails + 1) }) 6 = autoRetrain d 6 := rfl
  unfold trainFail
  dsimp only
  rw [hr]
  simp only [Bool.or_eq_true, decide_eq_true_eq, Bool.and_eq_true, beq_iff_eq]

theorem trainStepTimeout_training (h : (link d p l).st = 5) : trainStepTimeout p l d = trainFail d p l := if_pos (by simp [h])
theorem trainStepTimeout_other (h : (link d p l).st ≠ 5) : trainStepTimeout p l d = d := if_neg (by simp [h])

theorem trainBlockRx_invalid {b : List Byte} (h : trainValid p b = false) : trainBlockRx p l b d = d := if_pos (by simp [h])

section
variable {b : List Byte} (hv : trainValid p b = true)
include hv

theorem trainBlockRx_training (h : (link d p l).st = 5) (h4 : (link d p l).step = 4) : trainBlockRx p l b d =
    let a := sendTrain (setLink d p l { link d p l with peerSeen := true }) p l 2
    if bit (leAt b 0x11 1) 1 = true then linkActive a p l b else a := by
  rw [trainBlockRx]
  dsimp only
  rw [if_neg (by simp [hv]), if_pos (by simp [h, h4])]

theorem trainBlockRx_answered (hp : p < 6) (h : (link d p l).st = 4) (h3 : bit (leAt b 0x11 1) 3 = true) (hr : (link d p l).testRun = false) :
    trainBlockRx p l b d = runTest d p l false := by
  rw [trainBlockRx]
  dsimp only
  rw [if_neg (by simp [hv]), if_neg (by simp [h]), if_pos (by simp [hp, h, h3, hr])]

theorem trainBlockRx_asked (hp : p < 6) (h : (link d p l).st = 0) (h2 : bit (leAt b 0x11 1) 2 = true) : trainBlockRx p l b d =
    if bit (getR d (portPage p + 0x104)) 1 = true then
      beginTest (setLink d p l { link d p l with pattern := fld (leAt b 0x11 1) 5 4 }) p l true
    else d := by
  rw [trainBlockRx]
  dsimp only
  rw [if_neg (by simp [hv]), if_neg (by simp [h]), if_neg (by simp [h])]
  simp only [hp, h, h2, decide_true, beq_self_eq_true, Bool.true_and]
end

theorem laneLockRegained_eq : laneLockRegained p l d =
    if (link d p l).st = 6 ∧ linkFenced d p l = false ∧ linkOn d p l = true then trainLink d p l else d := by
  unfold laneLockRegained
  simp only [Bool.and_eq_true, beq_iff_eq, Bool.not_eq_true', and_assoc]

theorem retrain_eq : retrain p l d = if linkFenced d p l = true ∨ linkOn d p l = false then d else trainLink d p l := by
  unfold retrain
  simp only [Bool.or_eq_true, Bool.not_eq_true']

/-- A link that trains is at step 1, with no lane locked and nothing sent (R367). -/
theorem link_trainLink (d : Device) (p l : Nat) : (link (trainLink d p l) p l).st = 5 ∧ (link (trainLink d p l) p l).step = 1
    ∧ (link (trainLink d p l) p l).laneLock = 0 ∧ (link (trainLink d p l) p l).unacked = [] ∧ (link (trainLink d p l) p l).part = [] := by
  rw [trainLink, link_moveLink]
  exact ⟨rfl, rfl, rfl, rfl, rfl⟩

/-! ### Tests -/

section
variable {v : Reg} {force : Bool}

theorem startTest_none (h : linkFenced d p l = true ∨ linkOn d p l = false ∨ (link d p l).st = 4 ∨ (link d p l).draining = true) :
    startTest p l v force d = d := if_pos (by simpa [or_assoc] using h)

theorem startTest_some (h1 : linkFenced d p l = false) (h2 : linkOn d p l = true) (h3 : (link d p l).st ≠ 4) (h4 : (link d p l).draining = false) :
    startTest p l v force d = if force = false ∧ activeLinks d p = [l] then setLink d p l { link d p l with testRefused := true }
      else beginTest (storeLinkCtrl d p l (v.toNat ||| 2)) p l false := by
  rw [startTest]
  dsimp only
  rw [if_neg (by simp [h1, h2, h3, h4])]
  simp only [Bool.and_eq_true, Bool.not_eq_true', beq_iff_eq]
end

/-- A link in test: nothing waits on it. -/
def inTest (x : Link) : Prop := x.st = 4 ∧ x.unacked = [] ∧ x.draining = false

theorem inTest_runTest {loop : Bool} (h : inTest (link d p l)) : inTest (link (runTest d p l loop) p l) := by
  rw [runTest, link_setLink]
  exact h

theorem inTest_sendTrain {f : Nat} (h : inTest (link d p l)) : inTest (link (sendTrain d p l f) p l) := by
  rw [sendTrain, link_setLink]
  exact h

theorem inTest_enterTest (d : Device) (p l : Nat) : inTest (link (enterTest d p l) p l) := by
  unfold enterTest
  dsimp only
  have hm (n : Nat) : inTest (link (moveLink d p l (fun x => { x with st := 4, step := 0, pattern := n })) p l) := by
    rw [link_moveLink]
    exact ⟨rfl, rfl, rfl⟩
  split
  · exact inTest_runTest (inTest_sendTrain (hm _))
  · split
    · exact inTest_runTest (hm _)
    · exact inTest_sendTrain (hm _)

theorem testEntryAckTimeout_draining (h : (link d p l).draining = true) : testEntryAckTimeout p l d = enterTest d p l := if_pos h
theorem testEntryAckTimeout_other (h : (link d p l).draining = false) : testEntryAckTimeout p l d = d := if_neg (by simp [h])

/-- The checkers' counts reach no header. -/
theorem keepsHeaders_countPrbs (d : Device) (p l : Nat) : KeepsHeaders d (countPrbs d p l) := by
  have h64 (e : Device) (o n : Nat) : KeepsHeaders e (bump64 e o n) := by
    unfold bump64
    split <;> exact ⟨rfl, rfl⟩
  unfold countPrbs runTest
  dsimp only
  refine .trans (.trans (e := bump64 (freeVal d).2 (linkPage p l + 0x138) (freeVal d).1.toNat) (.trans (e := (freeVal d).2) ⟨rfl, rfl⟩ (h64 _ _ _))
    (.foldl (fun e k => ?_) _ _)) ⟨rfl, rfl⟩
  exact .trans (e := (freeVal e).2) ⟨rfl, rfl⟩ (keepsHeaders_bump _ _ _)

theorem linkOn_of_hdrs {e : Device} (h : e.hdrs = d.hdrs) : linkOn e p l = linkOn d p l := by rw [linkOn, linkOn, hdr, hdr, hdr, hdr, h]

/-- An event leaves a page's ENABLE as it is. -/
theorem linkOn_setEvt (o n : Nat) : linkOn (setEvt d o n) p l = linkOn d p l := by
  have h (q : Nat) : (hdr (setEvt d o n) q).enable = (hdr d q).enable := by
    by_cases hq : q = o / 0x1000
    · subst hq
      rw [setEvt, hdr_setHdr]
    · rw [setEvt, hdr_setHdr_ne _ _ hq]
  rw [linkOn, linkOn, h, h]

theorem testEnd_porter (h : porterTest d p l = true) : testEnd p l d = d := if_pos h

theorem testEnd_none (h : porterTest d p l = false) (hst : (link d p l).st ≠ 4) : testEnd p l d =
    setR d (linkPage p l + 0x104) (getR d (linkPage p l + 0x104) - b2n (bit (getR d (linkPage p l + 0x104)) 1) * 2) := by
  rw [testEnd]
  dsimp only
  rw [if_neg (by simp [h]), if_pos (by simpa using hst)]

theorem testEnd_test (h : porterTest d p l = false) (hst : (link d p l).st = 4) (hon : linkOn d p l = true) : testEnd p l d =
    let a := setEvt (if (link d p l).testRun = true then countPrbs d p l else d) (linkPage p l) 17
    trainLink (setR a (linkPage p l + 0x104) (getR a (linkPage p l + 0x104) - b2n (bit (getR a (linkPage p l + 0x104)) 1) * 2)) p l := by
  have hc : linkOn (if (link d p l).testRun = true then countPrbs d p l else d) p l = true := by
    split
    · rw [linkOn_of_hdrs (keepsHeaders_countPrbs d p l).hdrs_eq, hon]
    · exact hon
  rw [testEnd]
  dsimp only
  rw [if_neg (by simp [h]), if_neg (by simp [hst])]
  exact if_pos ((linkOn_setEvt _ _).trans hc)

theorem testAnswerTimeout_none (h : (link d p l).st ≠ 4 ∨ (link d p l).testRun = true) : testAnswerTimeout p l d = d := if_pos (by simpa using h)

theorem testAnswerTimeout_test (hst : (link d p l).st = 4) (hr : (link d p l).testRun = false) : testAnswerTimeout p l d =
    if porterTest d p l = true then runTest d p l true
    else trainFail (setLink (setR d (linkPage p l + 0x104) (getR d (linkPage p l + 0x104) - b2n (bit (getR d (linkPage p l + 0x104)) 1) * 2)) p l
      { link d p l with testRefused := true }) p l := if_neg (by simp [hst, hr])
end

section
variable {p l : Nat} (s : State)

section
variable (hw : (p < 6 ∧ l < 4) ∨ (p = 6 ∧ l = 0))
include hw

theorem exec_trainStepDone (pol : BitVec 4) (map : BitVec 8) : exec (.trainStepDone p l pol map) s = .next { s with dev := trainStepDone p l pol map s.dev } :=
  run_wf (c := .trainStepDone p l pol map) _ s (linkWf_of hw)
theorem exec_trainStepTimeout : exec (.trainStepTimeout p l) s = .next { s with dev := trainStepTimeout p l s.dev } :=
  run_wf (c := .trainStepTimeout p l) _ s (linkWf_of hw)
theorem exec_trainBlockRx {b : List Byte} (hb : b.length = 640) : exec (.trainBlockRx p l b) s = .next { s with dev := trainBlockRx p l b s.dev } :=
  run_wf (c := .trainBlockRx p l b) _ s (by simp [Instr.wf, linkWf_of hw, hb])
theorem exec_laneLockRegained : exec (.laneLockRegained p l) s = .next { s with dev := laneLockRegained p l s.dev } :=
  run_wf (c := .laneLockRegained p l) _ s (linkWf_of hw)
end

section
variable (hp : p < 6) (hl : l < 4)
include hp hl

theorem exec_retrain : exec (.retrain p l) s = .next { s with dev := retrain p l s.dev } := run_wf (c := .retrain p l) _ s (by simp [Instr.wf, hp, hl])
theorem exec_testEntryAckTimeout : exec (.testEntryAckTimeout p l) s = .next { s with dev := testEntryAckTimeout p l s.dev } :=
  run_wf (c := .testEntryAckTimeout p l) _ s (by simp [Instr.wf, hp, hl])
theorem exec_testReq (v : Reg) : exec (.testReq p l v) s = .next { s with dev := startTest p l v false s.dev } :=
  run_wf (c := .testReq p l v) _ s (by simp [Instr.wf, hp, hl])
theorem exec_testForce (v : Reg) : exec (.testForce p l v) s = .next { s with dev := startTest p l v true s.dev } :=
  run_wf (c := .testForce p l v) _ s (by simp [Instr.wf, hp, hl])
theorem exec_testEnd : exec (.testEnd p l) s = .next { s with dev := testEnd p l s.dev } := run_wf (c := .testEnd p l) _ s (by simp [Instr.wf, hp, hl])
theorem exec_testAnswerTimeout : exec (.testAnswerTimeout p l) s = .next { s with dev := testAnswerTimeout p l s.dev } :=
  run_wf (c := .testAnswerTimeout p l) _ s (by simp [Instr.wf, hp, hl])
end
end

/-- Settles O29: training step by step, and the link tests by their conditions. -/
theorem linkTrainingAndTests : Obligations.LinkTrainingAndTests := by
  unfold Obligations.LinkTrainingAndTests
  refine ⟨fun p l s => ?_, fun p l v s => ?_⟩
  · intro x hw
    rw [exec_trainStepTimeout s hw, exec_laneLockRegained s hw, laneLockRegained_eq]
    refine ⟨fun pol map hst => ⟨fun h1 => ?_, fun h2 => ?_, fun h3 => ?_⟩, fun hst => ⟨fun hn => ?_, fun hn => ?_⟩, fun hst => ?_, link_trainLink _ _ _,
      fun b hb hv => ⟨fun hst h4 => ⟨fun hf => ?_, fun hf => ?_⟩, fun hp hst h3 hr => ?_, fun hp hst h2 hr => ?_, fun hp hst h2 hr => ?_⟩,
      fun b hb hv => ?_, fun hst hf hon => ?_, fun hn => ?_, fun hp hf hon => ?_, fun hp hn => ?_⟩
    · rw [exec_trainStepDone s hw, trainStepDone_first hst h1]
    · rw [exec_trainStepDone s hw, trainStepDone_second hst h2]
    · rw [exec_trainStepDone s hw, trainStepDone_third hst h3]
    · rw [trainStepTimeout_training hst, trainFail_eq]
      dsimp only
      rw [if_pos hn]
    · rw [trainStepTimeout_training hst, trainFail_eq]
      dsimp only
      rw [if_neg hn]
    · rw [trainStepTimeout_other hst]
    · rw [exec_trainBlockRx s hw hb, trainBlockRx_training hv hst h4]
      dsimp only
      rw [if_pos hf]
    · rw [exec_trainBlockRx s hw hb, trainBlockRx_training hv hst h4]
      dsimp only
      rw [if_neg (by simpa using hf)]
    · rw [exec_trainBlockRx s hw hb, trainBlockRx_answered hv hp hst h3 hr]
    · rw [exec_trainBlockRx s hw hb, trainBlockRx_asked hv hp hst h2, if_pos hr]
    · rw [exec_trainBlockRx s hw hb, trainBlockRx_asked hv hp hst h2, if_neg (by simp [hr])]
    · rw [exec_trainBlockRx s hw hb, trainBlockRx_invalid hv]
    · rw [if_pos ⟨hst, hf, hon⟩]
    · rw [if_neg (by rintro ⟨h1, h2, h3⟩; rcases hn with h | h | h; exacts [h h1, by simp [h] at h2, by simp [h] at h3])]
    · rw [exec_retrain s hp (by omega), retrain_eq, if_neg (by simp [hf, hon])]
    · rw [exec_retrain s hp (by omega), retrain_eq, if_pos hn]
  · intro x c hp hl
    rw [exec_testReq s hp hl, exec_testForce s hp hl, exec_testEntryAckTimeout s hp hl, exec_testEnd s hp hl, exec_testAnswerTimeout s hp hl]
    refine ⟨fun h1 h2 h3 h4 => ?_, fun hn => ?_, fun hdr => ⟨_, rfl, ?_⟩, fun hdr => ?_, fun hpt hst hon => ?_, fun hpt hst => ?_, fun hpt => ?_,
      fun hst hr => ?_, fun hn => ?_⟩
    · rw [startTest_some h1 h2 h3 h4, startTest_some h1 h2 h3 h4]
      refine ⟨fun ha => ?_, fun ha => ?_, ?_⟩
      · rw [if_neg (by simp [ha])]
      · rw [if_pos ⟨rfl, ha⟩]
      · rw [if_neg (by simp)]
    · rw [startTest_none hn, startTest_none hn]
      exact ⟨rfl, rfl⟩
    · rw [testEntryAckTimeout_draining hdr]
      exact inTest_enterTest _ _ _
    · rw [testEntryAckTimeout_other hdr]
    · rw [testEnd_test hpt hst hon]
    · rw [testEnd_none hpt hst]
    · rw [testEnd_porter hpt]
    · rw [testAnswerTimeout_test hst hr]
      exact ⟨fun hpt => by rw [if_neg (by simp [hpt])], fun hpt => by rw [if_pos hpt]⟩
    · rw [testAnswerTimeout_none hn]

end Sys2Proof.Machine
end

section
/-!
Loading and unloading of Arcade contexts (R382, R383): O30.
-/
namespace Sys2Proof.Machine

theorem ctxOf_setCtx (d : Device) (r : Nat) (c : Ctx) : ctxOf (setCtx d r c) r = some c := by
  rw [ctxOf, setCtx, find?_tset_self]
  rfl

/-- A context that has left is not found. -/
theorem ctxOf_dropCtx (d : Device) (r : Nat) : ctxOf (dropCtx d r) r = none := by
  have h (l : Tab Ctx) : (l.filter (fun e => e.1 != r)).find? (fun e => e.1 == r) = none := by
    rw [List.find?_eq_none]
    intro e he
    have hne := (List.mem_filter.mp he).2
    simpa using hne
  rw [ctxOf, dropCtx]
  exact congrArg (Option.map Prod.snd) (h _)

section
variable {d : Device} {p r j : Nat}

theorem ctxResult_none (d : Device) (p : Nat) : getR (ctxResult d p none) (arcPage p + 0x110) = 0 ∧ ∀ r, ctxOf (ctxResult d p none) r = ctxOf d r :=
  ⟨getR_setR _ _ _, fun _ => rfl⟩

/-! ### CTX_LOAD -/

/-- A descriptor that reads clean is checked, then its table. -/
def loadChecked (d : Device) (p r j : Nat) (b : List Byte) : Device :=
  match ctxLoadCheck d p r j b with
  | some f => ctxResult d p (some f)
  | none =>
    match readTable d j (leAt b 0x20 8) (leAt b 0x18 2) with
    | .error (f, d) => ctxResult (if f == 10 then poisonSeen d (arcPage p) none else d) p (some f)
    | .ok (es, d) =>
      let d := dropMonitors (dropHeld d r) (864 + r)
      ctxResult (setCtx d r { desc := b, table := es, job := j, inPort := p, outPort := fld (leAt b 8 1) 6 4 }) p none

theorem ctxLoad_fault {f : Nat} {e : Device} (h : unitRead d j (get64 d (arcPage p + 0x104)) 64 0xFFFF = .error (f, e)) :
    ctxLoad p r j d = ctxResult e p (some f) := by
  rw [ctxLoad, h]

theorem ctxLoad_read {x : List (Byte × Bool)} {e : Device} (h : unitRead d j (get64 d (arcPage p + 0x104)) 64 0xFFFF = .ok (x, e)) :
    ctxLoad p r j d = if x.any Prod.snd = true then ctxResult (poisonSeen e (arcPage p) none) p (some 10) else loadChecked e p r j (x.map Prod.fst) := by
  rw [ctxLoad, h] <;> rfl

theorem loadChecked_refused {b : List Byte} {f : Nat} (h : ctxLoadCheck d p r j b = some f) : loadChecked d p r j b = ctxResult d p (some f) := by
  unfold loadChecked
  rw [h]

theorem loadChecked_fault {b : List Byte} {f : Nat} {e : Device} (h : ctxLoadCheck d p r j b = none)
    (ht : readTable d j (leAt b 0x20 8) (leAt b 0x18 2) = .error (f, e)) :
    loadChecked d p r j b = ctxResult (if f = 10 then poisonSeen e (arcPage p) none else e) p (some f) := by
  unfold loadChecked
  rw [h]
  dsimp only
  rw [ht]
  simp only [beq_iff_eq]

theorem loadChecked_held {b : List Byte} {es : List (List Byte)} {e : Device} (h : ctxLoadCheck d p r j b = none)
    (ht : readTable d j (leAt b 0x20 8) (leAt b 0x18 2) = .ok (es, e)) : loadChecked d p r j b =
      ctxResult (setCtx (dropMonitors (dropHeld e r) (864 + r)) r
        { desc := b, table := es, job := j, inPort := p, outPort := fld (leAt b 8 1) 6 4 }) p none := by
  unfold loadChecked
  rw [h]
  dsimp only
  rw [ht]

/-! ### CTX_UNLOAD -/

theorem ctxUnload_idle {c : Ctx} (h : ctxOf d r = some c) (hp : c.inPort = p) (ha : c.active = false) :
    ctxUnload p r d = ctxResult (dropCtx d r) p none := by
  rw [ctxUnload, h]
  exact if_neg (by simp [hp, ha])

theorem ctxUnload_refused (h : ∀ c, ctxOf d r = some c → c.inPort ≠ p ∨ c.active = true) : ctxUnload p r d = ctxResult d p (some 14) := by
  unfold ctxUnload
  split
  next c hc => exact if_pos (by simpa using h c hc)
  next => rfl
end

/-- Settles O30: a load by what its descriptor and its table read, an unload by the context that it names. -/
theorem arcadeContexts : Obligations.ArcadeContexts := by
  unfold Obligations.ArcadeContexts
  intro p r j s d hp hr hj
  rw [show exec (.ctxLoad p r j) s = .next { s with dev := ctxLoad p r j s.dev } from run_wf (c := .ctxLoad p r j) _ s (by simp [Instr.wf, hp, hr, hj]),
    show exec (.ctxUnload p r) s = .next { s with dev := ctxUnload p r s.dev } from run_wf (c := .ctxUnload p r) _ s (by simp [Instr.wf, hp, hr]),
    show exec (.ctxCmdReserved p) s = .next { s with dev := ctxCmdReserved p s.dev } from run_wf (c := .ctxCmdReserved p) _ s (by simp [Instr.wf, hp])]
  refine ⟨fun f d1 h => ?_, fun d1 bs h hbad => ?_, fun d1 bs h hbad => ⟨fun f hc => ?_, fun f d2 hc ht => ?_, fun d2 es hc ht => ⟨_, rfl, ?_⟩⟩,
    fun c hc hin ha => ⟨_, rfl, ?_⟩, fun hn => ?_, rfl⟩
  · rw [ctxLoad_fault h]
  · rw [ctxLoad_read h, if_pos hbad]
  · rw [ctxLoad_read h, if_neg (by simp [hbad]), loadChecked_refused hc]
  · rw [ctxLoad_read h, if_neg (by simp [hbad]), loadChecked_fault hc ht]
  · rw [ctxLoad_read h, if_neg (by simp [hbad]), loadChecked_held hc ht]
    obtain ⟨h0, hk⟩ := ctxResult_none (setCtx (dropMonitors (dropHeld d2 r) (864 + r)) r
      { desc := bs.map Prod.fst, table := es, job := j, inPort := p, outPort := fld (leAt (bs.map Prod.fst) 8 1) 6 4 }) p
    exact ⟨h0, (hk r).trans (ctxOf_setCtx _ _ _)⟩
  · rw [ctxUnload_idle hc hin ha]
    obtain ⟨h0, hk⟩ := ctxResult_none (dropCtx d r) p
    exact ⟨h0, (hk r).trans (ctxOf_dropCtx _ _)⟩
  · rw [ctxUnload_refused hn]
    rfl

end Sys2Proof.Machine
end

section
/-!
REDUCE packets at their contexts (R391, R392, R397 to R404, R417 to R422, R637): O31.
-/
namespace Sys2Proof.Machine

section
variable {d : Device} {x : Rx}

/-- A REDUCE packet that is well formed, new and of this kind is routed (R391). -/
theorem reduceRx_accepted {kind : Nat} (ha : accepts d x 3 = true) (hl : lenOk x = true) (hb : reduceBad d x.port x.hdr.toNat x.payload = false)
    (hk : rKind x.hdr.toNat = kind) : reduceRx kind x d = arcRoute x (arrived d x) := by
  simp only [accepts, Bool.and_eq_true, bne_iff_ne, beq_iff_eq, Bool.not_eq_true'] at ha
  obtain ⟨⟨⟨⟨⟨-, h0⟩, ht⟩, hn⟩, hh⟩, hdup⟩ := ha
  simp only [tookBlock] at hdup
  unfold reduceRx
  dsimp only
  rw [if_neg (by simp [ht, hk, hl])]
  simp [receive, h0, ht, blockOk, hn, hh, hb, hdup, arrived, tookBlock]

/-- A packet of the context's step and attempt. -/
def ofStep (c : Ctx) (x : Rx) : Bool := rStep x.hdr.toNat == c.step % 4096 && rAttempt x.hdr.toNat == c.attempt % 16

theorem ofStep_iff {c : Ctx} : ofStep c x = true ↔ rStep x.hdr.toNat = c.step % 4096 ∧ rAttempt x.hdr.toNat = c.attempt % 16 := by
  simp [ofStep]

theorem arcRoute_none (h : ctxFor d x.port x.hdr.toNat = none) : arcRoute x d =
    pushEv (bump (freeRx d x) (arcPage x.port + 0x120) 1) { type := 0x60, job := hJob x.hdr.toNat, detail := [BitVec.ofNat 8 (rRjid x.hdr.toNat), 0] } := by
  unfold arcRoute
  dsimp only
  rw [h]

section
variable {c : Ctx} (h : ctxFor d x.port x.hdr.toNat = some c)
include h

theorem arcRoute_some : arcRoute x d =
    if c.active then (if ofStep c x then arcTake d x c else bump (freeRx d x) (arcPage x.port + 0x124) 1)
    else if c.was && ofStep c x then bump (freeRx d x) (arcPage x.port + 0x124) 1
    else { d with reduceHeld := d.reduceHeld ++ [x] } := by
  unfold arcRoute
  dsimp only
  rw [h] <;> rfl

theorem arcRoute_take (ha : c.active = true) (hs : ofStep c x = true) : arcRoute x d = arcTake d x c := by
  rw [arcRoute_some h, if_pos ha, if_pos hs]

theorem arcRoute_stale (hn : c.active = true ∧ ¬ofStep c x = true ∨ c.active = false ∧ c.was = true ∧ ofStep c x = true) :
    arcRoute x d = bump (freeRx d x) (arcPage x.port + 0x124) 1 := by
  rw [arcRoute_some h]
  rcases hn with ⟨ha, hs⟩ | ⟨ha, hw, hs⟩
  · rw [if_pos ha, if_neg hs]
  · rw [if_neg (by simp [ha]), if_pos (by simp [hw, hs])]

theorem arcRoute_held (ha : c.active = false) (hn : ¬(c.was = true ∧ ofStep c x = true)) :
    arcRoute x d = { d with reduceHeld := d.reduceHeld ++ [x] } := by
  rw [arcRoute_some h, if_neg (by simp [ha]), if_neg (by simpa using hn)]
end

/-- READY lets the packets held for it go (R404). -/
theorem readyArrive_ready {c : Ctx} (hn : rBucket x.hdr.toNat < c.nb) : ∃ k, ctxOf (readyArrive d x c) (rRjid x.hdr.toNat) = some k
    ∧ (bkt k (rBucket x.hdr.toNat)).readyRx = true ∧ (bkt k (rBucket x.hdr.toNat)).outq = [] := by
  have hq (l : List Pkt) (e : Device) : (l.foldl (fun d k => queuePkt d c.outPort k) e).ctxs = e.ctxs := by
    induction l generalizing e with
    | nil => rfl
    | cons k t ih => rw [List.foldl_cons, ih]; rfl
  unfold readyArrive
  dsimp only
  rw [if_neg (by omega), ctxOf, hq]
  refine ⟨_, ctxOf_setCtx _ _ _, ?_⟩
  rw [bkt, tget_tset_self]
  exact ⟨rfl, rfl⟩
end

/-- Settles O31: a packet that is accepted, by its context. -/
theorem reduceReception : Obligations.ReduceReception := by
  unfold Obligations.ReduceReception
  intro x s h a b ha hl hb
  have hrun {kind : Nat} (hk : rKind h = kind) : reduceRx kind x s.dev = arcRoute x a := reduceRx_accepted ha hl hb hk
  have hw := accepts_wf ha
  have hp : exec (.partialRx x) s = .next { s with dev := reduceRx 0 x s.dev } := run_wf (c := .partialRx x) _ s hw
  have hg : exec (.gatherRx x) s = .next { s with dev := reduceRx 1 x s.dev } := run_wf (c := .gatherRx x) _ s hw
  have hn : exec (.normRx x) s = .next { s with dev := reduceRx 2 x s.dev } := run_wf (c := .normRx x) _ s hw
  have hr : exec (.readyRx x) s = .next { s with dev := reduceRx 3 x s.dev } := run_wf (c := .readyRx x) _ s hw
  constructor
  · intro c hc hact hst hatt
    have htake : arcRoute x a = arcTake a x c := arcRoute_take hc hact (ofStep_iff.mpr ⟨hst, hatt⟩)
    refine ⟨fun hk => ?_, fun hk => ?_, fun hk => ?_, fun hk hnb => ?_⟩
    · rw [hp, hrun hk, htake, arcTake, hk]
      rfl
    · rw [hg, hrun hk, htake, arcTake, hk]
      rfl
    · rw [hn, hrun hk, htake, arcTake, hk]
      rfl
    · have hdo : reduceRx 3 x s.dev = readyArrive b x c := by
        rw [hrun hk, htake, arcTake, hk]
        rfl
      obtain ⟨k, hk⟩ := readyArrive_ready (d := b) hnb
      rw [← hdo] at hk
      exact ⟨_, k, hr, hk⟩
  · intro cmd hcmd hkind
    have hexec : exec cmd.2 s = .next { s with dev := arcRoute x a } := by
      simp only [List.mem_cons, List.not_mem_nil, or_false] at hcmd
      rw [← hrun hkind]
      rcases hcmd with rfl | rfl | rfl | rfl <;> assumption
    rw [hexec]
    refine ⟨fun hc => ?_, fun c hc => ⟨fun hst => ?_, fun hact hst => ?_⟩⟩
    · rw [arcRoute_none hc]
    · rw [arcRoute_stale hc (by rw [ofStep_iff]; exact hst)]
    · rw [arcRoute_held hc hact (by rw [ofStep_iff]; exact hst)]

end Sys2Proof.Machine
end

section
/-!
A context's own work in a step (R386, R394, R403 to R411, R416 to R422): O32.
-/
namespace Sys2Proof.Machine

section
variable {d : Device} {r n : Nat} {c : Ctx} (h : ctxOf d r = some c)
include h

/-! ### Readiness and chains -/

theorem bucketReady_reads (hn : n < c.nb) (ha : c.active = true) (hr : (bkt c n).ready = false)
    (ht : reached d (eReadySig (c.entry n)) (eTarget (c.entry n)) = true) : bucketReady r n d =
      match readTable d c.job (c.tableAt + 64 * n) 1 with
      | .error (f, d) => ctxTaint (if f == 10 then poisonSeen d (arcPage c.inPort) (some c.job) else d) r f
      | .ok (es, d) =>
        let e := es.headD (c.entry n)
        let b := bkt c n
        let c := { c with table := lset c.table n e }
        let up := c.ring != 1 && !b.closed
        let d := setBkt d r c n { b with ready := true, readyTx := up, held := [] }
        let d := mapClear d c.job e
        let d := if up then queuePkt d c.inPort (reducePkt c r 3 n 0 0 0 0 []) else d
        doneCheck (b.held.foldl (heldTake r) d) r n := by
  unfold bucketReady
  rw [h]
  dsimp only
  exact if_neg (by simp [ha, hr, ht, hn])

theorem chainStart_none {b : Nat} (hn : (chainTodo c n).head? ≠ some b ∨ inTurn d r c = false) : chainStart r n b d = d := by
  unfold chainStart
  rw [h]
  exact if_pos (by simpa using hn)

theorem chainStart_turn {b : Nat} {l : List Nat} (hc : chainTodo c n = b :: l) (ht : inTurn d r c = true) : chainStart r n b d =
    let s := startBlocks (takeTurn d r c) r n ((b :: l).take 15)
    match packBlks c.s16 16 s.2 with
    | [] => doneCheck s.1 r n
    | gs => doneCheck (sendPartials s.1 r n (gs.map (partialPkt c r n (c.entry n)))) r n := by
  unfold chainStart
  rw [h]
  dsimp only
  rw [hc]
  exact if_neg (by simp [ht])

/-! ### What waits end by (R406 to R411) -/

/-- The wait of a context that a deadline names. -/
def waitsFor (d : Device) (r : Nat) (c : Ctx) (n w : Nat) : Bool :=
  match w with
  | 0 => n < c.nb && waitsReady c n
  | 1 => n < c.nb && waitsPartial c n
  | 2 => waitsCredit d r c (fun h => if n < c.nb then rKind h != 2 && rBucket h == n else rKind h == 2)
  | 3 => n < c.nb && waitsGather c n
  | _ => waitsNorm c

theorem deadlineTaint_eq (w : Nat) : deadlineTaint r w n d =
    if c.deadlineMode || c.deadline == 0 || !waitsFor d r c n w then d else ctxTaint d r 13 := by
  unfold deadlineTaint
  rw [h] <;> rfl

theorem deadlineTaint_waits {w : Nat} (hm : c.deadlineMode = false) (hd : c.deadline ≠ 0) (hw : waitsFor d r c n w = true) :
    deadlineTaint r w n d = ctxTaint d r 13 := by
  rw [deadlineTaint_eq h, if_neg (by simp [hm, hd, hw])]

theorem deadlineTaint_none {w : Nat} (hn : c.deadlineMode = true ∨ c.deadline = 0) : deadlineTaint r w n d = d := by
  rw [deadlineTaint_eq h, if_pos (by rcases hn with hn | hn <;> simp [hn])]

theorem pushedSend_eq (hn : n < c.nb) : pushedSend r n d = if c.deadlineMode = false ∨ waitsReady c n = false then d
    else (bkt c n).outq.foldl (fun d k => queuePkt d c.outPort (pushMark k)) (setBkt d r c n { bkt c n with pushed := true, outq := [] }) := by
  unfold pushedSend
  rw [h]
  dsimp only
  simp only [Bool.or_eq_true, Bool.not_eq_true', decide_eq_true_eq, Nat.not_le.mpr hn, or_false]

theorem upstreamRestart_none (hn : c.deadlineMode = false ∨ waitsPartial c n = false) : upstreamRestart r n d = d := by
  unfold upstreamRestart
  rw [h]
  exact if_pos (by rcases hn with hn | hn <;> simp [hn])

theorem upstreamRestart_waits (hn : n < c.nb) (hm : c.deadlineMode = true) (hw : waitsPartial c n = true) : upstreamRestart r n d =
    let e := c.entry n
    let todo := awaited c n
    let own := todo.filter (ownBlocks c e).contains
    let rest := todo.filter (fun i => !(ownBlocks c e).contains i)
    let a := ctxBump (setBkt d r { c with late := true } n { bkt c n with upClosed := true }) r 0x1A4 todo.length
    let s := startBlocks (own.foldl (ownRestart r n e) a) r n rest
    let byShard := (List.range c.ring).flatMap (fun k => packBlks c.s16 1048576 (s.2.filter (fun b => b.i / shardSize c e == k)))
    doneCheck (sendPartials s.1 r n (byShard.map (partialPkt c r n e))) r n := by
  unfold upstreamRestart
  rw [h]
  exact if_neg (by simp [hm, hw, hn])

theorem emptyBlockWrite_closed (hn : n < c.nb) (ha : c.active = true) (hm : c.deadlineMode = true) (hk : (bkt c n).closed = true)
    (ht : (ownBlocks c (c.entry n)).filter (fun i => !(bkt c n).marked.contains i) ≠ []) : emptyBlockWrite r n d =
    let todo := (ownBlocks c (c.entry n)).filter (fun i => !(bkt c n).marked.contains i)
    let a := ctxBump (setCtx d r { c with late := true }) r 0x1AC todo.length
    doneCheck (todo.foldl (fun d i => ownWrite d r n i ⟨List.replicate 32 Num.zero, false, false, false, 0⟩) a) r n := by
  unfold emptyBlockWrite
  rw [h]
  dsimp only
  generalize (ownBlocks c (c.entry n)).filter (fun i => !(bkt c n).marked.contains i) = todo at *
  exact if_neg (by simp [ha, hm, hk, hn, ht])

/-! ### The norm trailer and the gather (R416 to R422) -/

theorem normSend_none (hn : normTodo c = false ∨ inTurn d r c = false) : normSend r d = d := by
  unfold normSend
  rw [h]
  exact if_pos (by rcases hn with hn | hn <;> simp [hn])

theorem normSend_turn (ht : normTodo c = true) (hi : inTurn d r c = true) : normSend r d =
    let vals := (List.range c.nb).flatMap (fun n => (ownBlocks c (c.entry n)).flatMap (fun i => tget [] (bkt c n).own i))
    let s := vals.foldl (fun a w => fAdd a (fMul (ofF32 w) (ofF32 w))) Num.zero
    let pay := toLE 4 (toF32 s) ++ toLE 2 c.pos ++ toLE 1 (b2n c.nf + b2n c.late * 2) ++ toLE 1 0 ++ toLE 4 c.wide ++ toLE 4 0
    let a := setCtx (takeTurn d r c) r { c with normSent := true, norm := tset c.norm c.pos pay }
    restCheck (normRecord (if c.ring = 1 then a else queuePkt a c.outPort (reducePkt c r 2 0 0 0 0 0 pay)) r) r := by
  unfold normSend
  rw [h]
  dsimp only
  rw [if_neg (by simp [ht, hi])]
  simp only [beq_iff_eq]

theorem gatherSend_none (hn : gatherTodo d c n = false) : gatherSend r n d = d := by
  unfold gatherSend
  rw [h]
  exact if_pos (by simp [hn])

/-- The blocks of the own shard that the next GATHER carries. -/
def nextGather (c : Ctx) (n : Nat) : List Nat := ((ownBlocks c (c.entry n)).drop (bkt c n).gTx).take (if c.wBytes = 4 then 3 else 7)

omit h in
theorem nextGather_eq (c : Ctx) (n : Nat) :
    ((ownBlocks c (c.entry n)).drop (bkt c n).gTx).take (if c.wBytes == 4 then 3 else 7) = nextGather c n := by
  simp only [nextGather, beq_iff_eq]

/-- A GATHER with both of its reads carried out. -/
def gatherOut (d : Device) (r n : Nat) (c : Ctx) (i : Nat) (is : List Nat) (w q : List (Byte × Bool)) : Device :=
  let g := gatherBytes c.wfmt (is.length * 32) w
  let d := bump d (devPage 2 + 0x110) g.2
  let d := if g.2 = 0 then d else setJob d c.job { job d c.job with repair := true }
  let d := arcPoison d c ((w ++ q).any Prod.snd)
  queuePkt d c.outPort (reducePkt c r 1 n i is.length 0 0 (g.1 ++ q.map Prod.fst))

section
variable (ht : gatherTodo d c n = true)
include ht

theorem gatherSend_alone (hr : c.ring = 1) :
    gatherSend r n d = gatherCheck (setBkt d r c n { bkt c n with gTx := (ownBlocks c (c.entry n)).length }) r n := by
  unfold gatherSend
  rw [h]
  dsimp only
  rw [if_neg (by simp [ht]), if_pos (by simp [hr])]

theorem gatherSend_empty (hr : c.ring ≠ 1) (hi : nextGather c n = []) : gatherSend r n d = gatherCheck d r n := by
  unfold gatherSend
  rw [h]
  dsimp only
  rw [if_neg (by simp [ht]), if_neg (by simp [hr]), nextGather_eq, hi]

theorem gatherSend_next (hr : c.ring ≠ 1) (hi : nextGather c n ≠ []) : gatherSend r n d =
    let is := nextGather c n
    if inTurn d r c = false then d
    else match unitRead (takeTurn d r c) c.job (eW (c.entry n) + is.headD 0 * 32 * c.wBytes) (is.length * 32 * c.wBytes) 0xFFFF with
      | .error (f, d) => ctxTaint d r f
      | .ok (w, d) =>
        match unitRead d c.job (eH (c.entry n) + is.headD 0) is.length 0xFFFF with
        | .error (f, d) => ctxTaint d r f
        | .ok (q, d) =>
          match ctxOf (gatherOut d r n c (is.headD 0) is w q) r with
          | none => gatherOut d r n c (is.headD 0) is w q
          | some k => gatherCheck (setBkt (gatherOut d r n c (is.headD 0) is w q) r k n { bkt k n with gTx := (bkt c n).gTx + is.length }) r n := by
  obtain ⟨i, l, hl⟩ := List.exists_cons_of_ne_nil hi
  unfold gatherSend
  rw [h]
  dsimp only
  rw [if_neg (by simp [ht]), if_neg (by simp [hr]), nextGather_eq, hl]
  dsimp only
  simp only [Bool.not_eq_true', beq_iff_eq]
  rfl

theorem gatherSend_wait (hr : c.ring ≠ 1) (hi : nextGather c n ≠ []) (hin : inTurn d r c = false) : gatherSend r n d = d := by
  rw [gatherSend_next h ht hr hi]
  exact if_pos hin

section
variable (hr : c.ring ≠ 1) (hi : nextGather c n ≠ []) (hin : inTurn d r c = true)
include hr hi hin

theorem gatherSend_fault {f : Nat} {d1 : Device} (hw : unitRead (takeTurn d r c) c.job (eW (c.entry n) + (nextGather c n).headD 0 * 32 * c.wBytes)
    ((nextGather c n).length * 32 * c.wBytes) 0xFFFF = .error (f, d1)) : gatherSend r n d = ctxTaint d1 r f := by
  rw [gatherSend_next h ht hr hi]
  dsimp only
  rw [if_neg (by simp [hin]), hw]

variable {w : List (Byte × Bool)} {d1 : Device} (hw : unitRead (takeTurn d r c) c.job (eW (c.entry n) + (nextGather c n).headD 0 * 32 * c.wBytes)
    ((nextGather c n).length * 32 * c.wBytes) 0xFFFF = .ok (w, d1))
include hw

theorem gatherSend_fault_history {f : Nat} {d2 : Device} (hq : unitRead d1 c.job (eH (c.entry n) + (nextGather c n).headD 0) (nextGather c n).length 0xFFFF
    = .error (f, d2)) : gatherSend r n d = ctxTaint d2 r f := by
  rw [gatherSend_next h ht hr hi]
  dsimp only
  rw [if_neg (by simp [hin]), hw]
  dsimp only
  rw [hq]

theorem gatherSend_sent {q : List (Byte × Bool)} {d2 : Device} {k : Ctx} (hq : unitRead d1 c.job (eH (c.entry n) + (nextGather c n).headD 0)
    (nextGather c n).length 0xFFFF = .ok (q, d2)) (hk : ctxOf (gatherOut d2 r n c ((nextGather c n).headD 0) (nextGather c n) w q) r = some k) :
    gatherSend r n d = gatherCheck (setBkt (gatherOut d2 r n c ((nextGather c n).headD 0) (nextGather c n) w q) r k n
      { bkt k n with gTx := (bkt c n).gTx + (nextGather c n).length }) r n := by
  rw [gatherSend_next h ht hr hi]
  dsimp only
  rw [if_neg (by simp [hin]), hw]
  dsimp only
  rw [hq]
  dsimp only
  rw [hk]
end
end
end

section
variable {r n : Nat} (hr : r < 64) (s : State)
include hr

theorem exec_normSend : exec (.normSend r) s = .next { s with dev := normSend r s.dev } := run_wf (c := .normSend r) _ s (by simp [Instr.wf, hr])

variable (hn : n < 256)
include hn

theorem exec_bucketReady : exec (.bucketReady r n) s = .next { s with dev := bucketReady r n s.dev } :=
  run_wf (c := .bucketReady r n) _ s (by simp [Instr.wf, hr, hn])
theorem exec_chainStart (b : Nat) : exec (.chainStart r n b) s = .next { s with dev := chainStart r n b s.dev } :=
  run_wf (c := .chainStart r n b) _ s (by simp [Instr.wf, hr, hn])
theorem exec_deadlineTaint {w : Nat} (hw : w < 5) : exec (.deadlineTaint r w n) s = .next { s with dev := deadlineTaint r w n s.dev } :=
  run_wf (c := .deadlineTaint r w n) _ s (by simp [Instr.wf, hr, hn, hw])
theorem exec_pushedSend : exec (.pushedSend r n) s = .next { s with dev := pushedSend r n s.dev } :=
  run_wf (c := .pushedSend r n) _ s (by simp [Instr.wf, hr, hn])
theorem exec_upstreamRestart : exec (.upstreamRestart r n) s = .next { s with dev := upstreamRestart r n s.dev } :=
  run_wf (c := .upstreamRestart r n) _ s (by simp [Instr.wf, hr, hn])
theorem exec_emptyBlockWrite : exec (.emptyBlockWrite r n) s = .next { s with dev := emptyBlockWrite r n s.dev } :=
  run_wf (c := .emptyBlockWrite r n) _ s (by simp [Instr.wf, hr, hn])
theorem exec_gatherSend : exec (.gatherSend r n) s = .next { s with dev := gatherSend r n s.dev } :=
  run_wf (c := .gatherSend r n) _ s (by simp [Instr.wf, hr, hn])
end

/-- Settles O32: each of a context's own commands under its condition. -/
theorem arcadeSteps : Obligations.ArcadeSteps := by
  unfold Obligations.ArcadeSteps
  intro r n c s d k e hr hn hc hnb
  rw [exec_bucketReady hr s hn, exec_pushedSend hr s hn, exec_upstreamRestart hr s hn, exec_emptyBlockWrite hr s hn, exec_normSend hr s,
    exec_gatherSend hr s hn]
  refine ⟨fun ha hk ht => ⟨fun d1 es hread => ?_, fun f d1 hread => ?_⟩, fun b l hl hi => ⟨fun hp => ?_, fun hp => ?_⟩, fun b hb => ?_,
    fun hm hd => ⟨fun w hw hwait => ?_, fun m hm' hnm hwait => ?_⟩, fun w hw hno => ?_, fun hm hw => ?_, fun hno => ?_, fun hm hw => ?_, fun hno => ?_,
    fun ha hm hk ht => ?_, fun ht hi => ?_, fun hno => ?_, fun hno => ?_, fun ht => ⟨fun h1 => ?_, fun h1 hi => ?_, fun h1 hi hin => ?_,
      fun h1 hi hin => ⟨fun f d1 hw => ?_, fun w d1 f d2 hw hq => ?_, fun w d1 q d2 hw hq => ?_⟩⟩⟩
  · intro e1 c1 up d2 d3
    rw [bucketReady_reads hc hnb ha hk ht, hread]
    rfl
  · rw [bucketReady_reads hc hnb ha hk ht, hread]
    simp only [beq_iff_eq]
  · rw [exec_chainStart hr s hn, chainStart_turn hc hl hi]
    dsimp only
    rw [hp]
  · rw [exec_chainStart hr s hn, chainStart_turn hc hl hi]
    dsimp only
    split
    next h0 => exact absurd h0 hp
    next => rfl
  · rw [exec_chainStart hr s hn, chainStart_none hc hb]
  · rw [exec_deadlineTaint hr s hn hw, deadlineTaint_waits hc hm hd]
    rcases hwait with ⟨rfl, h⟩ | ⟨rfl, h⟩ | ⟨rfl, h⟩ | ⟨rfl, h⟩ | ⟨rfl, h⟩
    all_goals simpa [waitsFor, hnb] using h
  · rw [exec_deadlineTaint hr s hm' (by decide), deadlineTaint_waits hc hm hd]
    simpa [waitsFor, Nat.not_lt.mpr hnm] using hwait
  · rw [exec_deadlineTaint hr s hn hw, deadlineTaint_none hc hno]
  · rw [pushedSend_eq hc hnb, if_neg (by simp [hm, hw])]
  · rw [pushedSend_eq hc hnb, if_pos hno]
  · rw [upstreamRestart_waits hc hnb hm hw]
  · rw [upstreamRestart_none hc hno]
  · rw [emptyBlockWrite_closed hc hnb ha hm hk ht]
  · rw [normSend_turn hc ht hi]
  · rw [normSend_none hc hno]
  · rw [gatherSend_none hc hno]
  · rw [gatherSend_alone hc ht h1]
  · rw [gatherSend_empty hc ht h1 hi]
  · rw [gatherSend_wait hc ht h1 hi hin]
  · rw [gatherSend_fault hc ht h1 hi hin hw]
  · rw [gatherSend_fault_history hc ht h1 hi hin hw hq]
  · intro g d3 d4 d5 c2 hc2
    rw [gatherSend_sent hc ht h1 hi hin hw hq hc2]
    rfl

end Sys2Proof.Machine
end

section
/-!
The update engines: contexts, statistics, grant, step sizes and the application of a bucket (R440 to R450): O33.
-/
namespace Sys2Proof.Machine

theorem mem_tkeys_tset {α : Type} {t : Tab α} {k x : Nat} {v : α} : x ∈ tkeys (tset t k v) ↔ x = k ∨ x ∈ tkeys t := by
  induction t with
  | nil => simp [tset, tkeys]
  | cons e t ih =>
    obtain ⟨i, w⟩ := e
    simp only [tkeys, tset] at ih ⊢
    split
    · simp
    · split
      next h => subst h; simp
      next => simp [ih, or_left_comm]

section
variable {d : Device} {j n : Nat}

theorem uctxOf_setUctx (d : Device) (j : Nat) (u : UCtx) : uctxOf (setUctx d j u) j = some u := by
  rw [uctxOf, setUctx, find?_tset_self]
  rfl

theorem uctxOf_dropUctx (d : Device) (j : Nat) : uctxOf (dropUctx d j) j = none := by
  have h : (tdrop (· == j) d.uctx).find? (fun e => e.1 == j) = none := by
    rw [List.find?_eq_none]
    intro e he
    have hne := (List.mem_filter.mp he).2
    simpa using hne
  exact congrArg (Option.map Prod.snd) h

/-! ### Loading and unloading (R440) -/

/-- The context of its job that a descriptor names. -/
def ownCtx (d : Device) (j : Nat) (b : List Byte) : Option Ctx := (ctxOf d ({ desc := b } : UCtx).rjid).filter (fun c => c.job == j)

theorem uctxLoad_fault {f : UFail} {e : Device} (h : uread d j (get64 d (updWin j)) 64 = .error (f, e)) : uctxLoad j d = uctxResult e j (some f.code) := by
  unfold uctxLoad
  rw [h]

section
variable {b : List Byte} {e : Device} (h : uread d j (get64 d (updWin j)) 64 = .ok (b, e))
include h

theorem uctxLoad_bad (hb : uctxBad b = true) : uctxLoad j d = uctxResult e j (some 4) := by
  unfold uctxLoad
  rw [h]
  exact if_pos hb

theorem uctxLoad_config (hb : uctxBad b = false) (hn : ownCtx e j b = none ∨ leAt b 6 1 ≠ j ∨ (job e j).phase ≠ 0) :
    uctxLoad j d = uctxResult e j (some 14) := by
  unfold uctxLoad
  rw [h]
  dsimp only
  rw [if_neg (by simp [hb])]
  split
  next => rfl
  next c hc => exact if_pos (by simpa using hn.resolve_left (by rw [ownCtx, hc]; exact Option.some_ne_none c))

section
variable {c : Ctx} (hb : uctxBad b = false) (hj : leAt b 6 1 = j) (hc : ownCtx e j b = some c) (hp : (job e j).phase = 0)
include hb hj hc hp

theorem uctxLoad_latch : uctxLoad j d = match ulatch e j c { desc := b } with
    | .error (f, d) => uctxResult d j (some f.code)
    | .ok (u, d) => if statsShort d j c u then uctxResult d j (some 14) else uctxResult (setUctx d j u) j none := by
  unfold uctxLoad
  rw [h]
  dsimp only
  rw [if_neg (by simp [hb]), show Option.filter _ _ = _ from hc]
  exact if_neg (by simp [hj, hp])

theorem uctxLoad_latch_fault {f : UFail} {d2 : Device} (hl : ulatch e j c { desc := b } = .error (f, d2)) :
    uctxLoad j d = uctxResult d2 j (some f.code) := by
  rw [uctxLoad_latch h hb hj hc hp, hl]

theorem uctxLoad_short {u : UCtx} {d2 : Device} (hl : ulatch e j c { desc := b } = .ok (u, d2)) (hs : statsShort d2 j c u = true) :
    uctxLoad j d = uctxResult d2 j (some 14) := by
  rw [uctxLoad_latch h hb hj hc hp, hl]
  exact if_pos hs

theorem uctxLoad_held {u : UCtx} {d2 : Device} (hl : ulatch e j c { desc := b } = .ok (u, d2)) (hs : statsShort d2 j c u = false) :
    uctxLoad j d = uctxResult (setUctx d2 j u) j none := by
  rw [uctxLoad_latch h hb hj hc hp, hl]
  exact if_neg (by simp [hs])
end
end

/-- A command of the update window that ends well leaves 0 in UCTX_RESULT. -/
theorem getR_uctxResult_none (d : Device) (j : Nat) : getR (uctxResult d j none) (updWin j + 0x0C) = 0 := getR_setR _ _ _

theorem uctxUnload_idle (h : (job d j).phase = 0) : uctxUnload j d = uctxResult (dropUctx d j) j none := if_neg (by simp [h])
theorem uctxUnload_busy (h : (job d j).phase ≠ 0) : uctxUnload j d = uctxResult d j (some 14) := if_pos (by simpa using h)

/-! ### Statistics (R442) -/

theorem statsPass_none (h : bucketDone d j n = none) : statsPass j n d = d := by
  unfold statsPass
  rw [h]

theorem statsPass_past {u : UCtx} {c : Ctx} (h : bucketDone d j n = some (u, c)) (hs : n ∈ u.stats) : statsPass j n d = d := by
  unfold statsPass
  rw [h]
  exact if_pos (by simpa using hs)

theorem statsPass_done {u v : UCtx} {c : Ctx} (h : bucketDone d j n = some (u, c)) (hs : n ∉ u.stats)
    (hv : uctxOf ((slabs d c u n).foldl (slabStats j n c) d) j = some v) :
    statsPass j n d = setUctx ((slabs d c u n).foldl (slabStats j n c) d) j { v with stats := nins v.stats n } := by
  unfold statsPass
  rw [h]
  dsimp only
  rw [if_neg (by simpa using hs), hv]

/-! ### The grant (R445, R481) -/

/-- The job's norms agree and nothing holds the grant back. -/
structure GrantDue (d : Device) (j : Nat) (e : Device) : Prop where
  phase : (job d j).phase = 4
  kept : (job d j).kept = true
  taint : (job d j).taint = 0
  ckpt : ckptHolds (job d j) = false
  runs : (job d j).st = 2 ∨ (job d j).st = 4
  norms : normsAgree d (job d j) (ctxsOf d j) = some e

/-- A job whose updates are granted. -/
def inApply (d : Device) (j : Nat) : Device := setJob d j { job d j with phase := 5 }

theorem applyGrant_none (h : (job d j).phase ≠ 4 ∨ (job d j).kept = false ∨ (job d j).taint ≠ 0 ∨ ckptHolds (job d j) = true
    ∨ ¬((job d j).st = 2 ∨ (job d j).st = 4) ∨ normsAgree d (job d j) (ctxsOf d j) = none) : applyGrant j d = d := by
  unfold applyGrant
  dsimp only
  split
  · rfl
  next hc =>
    simp only [Bool.or_eq_true, Bool.and_eq_true, bne_iff_ne, Bool.not_eq_true', not_or, not_and_or, not_not] at hc
    obtain ⟨⟨⟨⟨h1, h2⟩, h3⟩, h4⟩, h5⟩ := hc
    have hn : normsAgree d (job d j) (ctxsOf d j) = none := by
      rcases h with h | h | h | h | h | h
      exacts [absurd h1 h, absurd h h2, absurd h3 h, absurd h h4, absurd h5 h, h]
    rw [hn]

section
variable {e : Device} (h : GrantDue d j e)
include h

theorem applyGrant_due : applyGrant j d = match uctxOf (inApply e j) j with
    | none => inApply e j
    | some u => match (ctxOf (inApply e j) u.rjid).bind (fun c => normAgrees (inApply e j) c (job d j)) with
      | none => inApply e j
      | some (v, _) => setUctx (inApply e j) j { u with norm := v } := by
  obtain ⟨h1, h2, h3, h4, h5, h6⟩ := h
  unfold applyGrant
  dsimp only
  rw [if_neg (by simp [h1, h2, h3, h4]; omega), h6] <;> rfl

theorem applyGrant_plain (hu : uctxOf (inApply e j) j = none) : applyGrant j d = inApply e j := by
  rw [applyGrant_due h, hu]

theorem applyGrant_unnormed {u : UCtx} (hu : uctxOf (inApply e j) j = some u)
    (hn : (ctxOf (inApply e j) u.rjid).bind (fun c => normAgrees (inApply e j) c (job d j)) = none) : applyGrant j d = inApply e j := by
  rw [applyGrant_due h, hu]
  dsimp only
  rw [hn]

theorem applyGrant_normed {u : UCtx} {v : Nat} {b : Device} (hu : uctxOf (inApply e j) j = some u)
    (hn : (ctxOf (inApply e j) u.rjid).bind (fun c => normAgrees (inApply e j) c (job d j)) = some (v, b)) :
    applyGrant j d = setUctx (inApply e j) j { u with norm := v } := by
  rw [applyGrant_due h, hu]
  dsimp only
  rw [hn]
end

theorem job_inApply (d : Device) (j : Nat) : (job (inApply d j) j).phase = 5 := by
  rw [inApply, job_setJob]

/-! ### Step sizes (R448 to R450) -/

/-- Where the word of the step's parity stands. -/
def etaWord (d : Device) (j : Nat) : Nat := updWin j + 0x10 + 8 * ((job d j).step % 2)

/-- The engine of a hall takes the step size now. -/
def EtaDue (d : Device) (j h : Nat) (u : UCtx) : Prop :=
  (job d j).phase ≠ 0 ∧ (job d j).st ≠ 5 ∧ h ∈ engines d ∧ h ∉ tkeys u.etas ∧ (2 * j + (job d j).step % 2) ∉ d.etaBad
    ∧ getR d (etaWord d j + 4) = (job d j).step

/-- A step size that is not finite: the word waits for its next write, and the attempt for another verdict. -/
def etaRefused (d : Device) (j h waited : Nat) : Device :=
  let d1 := bump d (updPage h + 0x114) waited
  let d2 := taint (causeEv { d1 with etaBad := nins d1.etaBad (2 * j + (job d j).step % 2) } j 0x80 13 0) j 7 13
  if (job d2 j).phase = 5 then setJob d2 j { job d2 j with phase := 3, kept := false } else d2

/-- The engine of a hall holds the step size; the last one shows the step. -/
def etaTaken (d : Device) (j h waited : Nat) (u : UCtx) : Device :=
  let u := { u with etas := tset u.etas h (BitVec.ofNat 32 (getR d (etaWord d j))) }
  let e := setUctx (bump d (updPage h + 0x114) waited) j u
  if (engines e).all (tkeys u.etas).contains then setR e (updWin j + 0x20) (job d j).step else e

section
variable {h waited : Nat}

theorem etaLatch_none (hu : uctxOf d j = none) : etaLatch j h waited d = d := by
  unfold etaLatch
  dsimp only
  rw [hu]

variable {u : UCtx} (hu : uctxOf d j = some u)
include hu

theorem etaLatch_wait (hn : ¬EtaDue d j h u) : etaLatch j h waited d = d := by
  unfold etaLatch
  dsimp only
  rw [hu]
  refine if_pos ?_
  by_contra hc
  simp only [Bool.or_eq_true, beq_iff_eq, Bool.not_eq_true', bne_iff_ne, List.contains_iff_mem, not_or, not_not] at hc
  obtain ⟨⟨⟨⟨⟨h1, h2⟩, h3⟩, h4⟩, h5⟩, h6⟩ := hc
  exact hn ⟨h1, h2, by simpa using h3, h4, h5, h6⟩

theorem etaLatch_due (hd : EtaDue d j h u) : etaLatch j h waited d =
    if (ofF32 (getR d (etaWord d j))).isFinite then etaTaken d j h waited u else etaRefused d j h waited := by
  obtain ⟨h1, h2, h3, h4, h5, h6⟩ := hd
  unfold etaLatch
  dsimp only
  rw [hu]
  dsimp only
  rw [etaWord] at h6
  rw [if_neg (by simp [h1, h2, h3, h4, h5, h6])]
  simp only [beq_iff_eq]
  rfl

theorem etaLatch_finite (hd : EtaDue d j h u) (hf : (ofF32 (getR d (etaWord d j))).isFinite = true) :
    etaLatch j h waited d = etaTaken d j h waited u := by
  rw [etaLatch_due hu hd, if_pos hf]

theorem etaLatch_refused (hd : EtaDue d j h u) (hf : (ofF32 (getR d (etaWord d j))).isFinite = false) :
    etaLatch j h waited d = etaRefused d j h waited := by
  rw [etaLatch_due hu hd, if_neg (by simp [hf])]
end

theorem engines_of_plan {e : Device} (h : e.plan = d.plan) : engines e = engines d := by rw [engines, engines, h]

/-- The engine holds the word, and UPD_STEP shows the step once every engine does. -/
theorem etaTaken_holds {h waited : Nat} {u : UCtx} (hs : (job d j).step < 2 ^ 32) :
    (uctxOf (etaTaken d j h waited u) j).map (fun w => tget 0 w.etas h) = some (BitVec.ofNat 32 (getR d (etaWord d j)))
    ∧ ((engines d).all (fun k => (tkeys u.etas).contains k || k == h) = true → getR (etaTaken d j h waited u) (updWin j + 0x20) = (job d j).step) := by
  unfold etaTaken
  dsimp only
  generalize BitVec.ofNat 32 (getR d (etaWord d j)) = v
  have hp : (bump d (updPage h + 0x114) waited).plan = d.plan := eq_of_erased bare Device.plan (fun _ => rfl) (bare_bump _ _ _)
  have he : engines (setUctx (bump d (updPage h + 0x114) waited) j { u with etas := tset u.etas h v }) = engines d := engines_of_plan hp
  have hu : (uctxOf (setUctx (bump d (updPage h + 0x114) waited) j { u with etas := tset u.etas h v }) j).map (fun w => tget 0 w.etas h) = some v := by
    rw [uctxOf_setUctx, Option.map_some, tget_tset_self]
  rw [he]
  constructor
  · split <;> exact hu
  · intro hall
    rw [if_pos, getR_setR, Nat.mod_eq_of_lt hs]
    simp only [List.all_eq_true, Bool.or_eq_true, List.contains_iff_mem, beq_iff_eq, mem_tkeys_tset] at hall ⊢
    exact fun k hk => (hall k hk).symm

/-- The HI half of a pair is committed in its place. -/
theorem getR_commitPair (d : Device) (src off mlo hi : Nat) : getR (commitPair d src off mlo 0xFFFFFFFF hi) (off + 4) = hi % 2 ^ 32 := by
  unfold commitPair
  dsimp only
  split <;> rw [getR_setR, show 0xFFFFFFFF = 2 ^ 32 - 1 from rfl, Nat.and_two_pow_sub_one_eq_mod, Nat.mod_mod]

/-! ### The apply pass (R447) -/

/-- A bucket's parameters can be applied now. -/
def ApplyDue (d : Device) (j n : Nat) (u : UCtx) (c : Ctx) : Prop :=
  (job d j).phase = 5 ∧ u.next = n ∧ (n ∈ u.stats ∨ ∀ q ∈ slabs d c u n, cSecond q.c ≠ 1) ∧ ∀ q ∈ slabs d c u n, q.hall ∈ tkeys u.etas

theorem applyBucket_none (h : bucketDone d j n = none) : applyBucket j n d = d := by
  unfold applyBucket
  rw [h]

section
variable {u : UCtx} {c : Ctx} (h : bucketDone d j n = some (u, c))
include h

theorem applyBucket_wait (hn : ¬ApplyDue d j n u c) : applyBucket j n d = d := by
  unfold applyBucket
  rw [h]
  refine if_pos ?_
  by_contra hc
  simp only [Bool.or_eq_true, bne_iff_ne, Bool.not_eq_true', List.contains_iff_mem, not_or, not_not, Bool.not_eq_false, List.all_eq_true] at hc
  obtain ⟨⟨⟨h1, h2⟩, h3⟩, h4⟩ := hc
  exact hn ⟨h1, h2, h3, h4⟩

theorem applyBucket_due {v : UCtx} (hd : ApplyDue d j n u c) (hv : uctxOf ((slabs d c u n).foldl (applySlab j c u (c.entry n)) d) j = some v) :
    applyBucket j n d = arriveUnit (setUctx ((slabs d c u n).foldl (applySlab j c u (c.entry n)) d) j { v with next := n + 1 }) j
      (eApplySig (c.entry n)) 1 none := by
  obtain ⟨h1, h2, h3, h4⟩ := hd
  have hs : (u.stats.contains n || (slabs d c u n).all (fun s => cSecond s.c != 1)) = true := by simpa using h3
  have he : (slabs d c u n).all (fun s => (tkeys u.etas).contains s.hall) = true := by simpa using h4
  unfold applyBucket
  rw [h]
  dsimp only
  rw [if_neg (by rw [hs, he]; simp [h1, h2]), hv]
end
end

section
variable {j : Nat} (hj : j < 16) (s : State)
include hj

theorem exec_uctxLoad : exec (.uctxLoad j) s = .next { s with dev := uctxLoad j s.dev } := run_wf (c := .uctxLoad j) _ s (by simp [Instr.wf, hj])
theorem exec_uctxUnload : exec (.uctxUnload j) s = .next { s with dev := uctxUnload j s.dev } := run_wf (c := .uctxUnload j) _ s (by simp [Instr.wf, hj])
theorem exec_uctxCmdReserved : exec (.uctxCmdReserved j) s = .next { s with dev := uctxCmdReserved j s.dev } :=
  run_wf (c := .uctxCmdReserved j) _ s (by simp [Instr.wf, hj])
theorem exec_applyGrant : exec (.applyGrant j) s = .next { s with dev := applyGrant j s.dev } := run_wf (c := .applyGrant j) _ s (by simp [Instr.wf, hj])
theorem exec_etaLatch {h : Nat} (hh : h < 18) (waited : Nat) : exec (.etaLatch j h waited) s = .next { s with dev := etaLatch j h waited s.dev } :=
  run_wf (c := .etaLatch j h waited) _ s (by simp [Instr.wf, hj, hh])
theorem exec_etaWordWrite {src : Nat} (hs : src < 3) (odd : Bool) (hi : Reg) :
    exec (.etaWordWrite src j odd hi) s = .next { s with dev := etaWordWrite src j odd hi s.dev } :=
  run_wf (c := .etaWordWrite src j odd hi) _ s (by simp [Instr.wf, hj, hs])

variable {n : Nat} (hn : n < 256)
include hn

theorem exec_statsPass : exec (.statsPass j n) s = .next { s with dev := statsPass j n s.dev } :=
  run_wf (c := .statsPass j n) _ s (by simp [Instr.wf, hj, hn])
theorem exec_applyBucket : exec (.applyBucket j n) s = .next { s with dev := applyBucket j n s.dev } :=
  run_wf (c := .applyBucket j n) _ s (by simp [Instr.wf, hj, hn])
end

/-- Settles O33: each of the engines' commands under its condition. -/
theorem updateEngine : Obligations.UpdateEngine := by
  unfold Obligations.UpdateEngine
  intro j n s d x hj hn
  rw [exec_uctxLoad hj, exec_uctxUnload hj, exec_uctxCmdReserved hj, exec_applyGrant hj, exec_statsPass hj s hn, exec_applyBucket hj s hn]
  refine ⟨fun f d1 hr => ?_, fun b d1 hr => ⟨fun hb => ?_, fun hb hno => ?_, fun c hb hb6 hc hp => ⟨fun f d2 hl => ?_, fun u d2 hl =>
      ⟨fun hs => ?_, fun hs => ⟨_, rfl, ?_⟩⟩⟩⟩, fun hp => ⟨_, rfl, ?_⟩, fun hp => ?_, rfl, fun hb => ?_, fun u c hb hs => ?_,
    fun u c v hb hs hv => ⟨_, rfl, { v with stats := nins v.stats n }, ?_⟩, fun hno => ?_,
    fun d1 h1 h2 h3 h4 h5 h6 => ⟨fun hu => ?_, fun u hu hno => ?_, fun u v b hu hv => ⟨_, rfl, ?_⟩⟩, fun h waited hh hu => ?_,
    fun h waited u hh hu => ⟨fun hno => ?_, fun hdue hfin => ⟨_, exec_etaLatch hj s hh waited, ?_⟩, fun hdue hfin => ?_⟩,
    fun src odd hi hs => ⟨_, exec_etaWordWrite hj s hs odd hi, ?_⟩, fun u c hb => ⟨fun hno => ?_, fun v hdue hv => ?_⟩⟩
  · rw [uctxLoad_fault hr]
  · rw [uctxLoad_bad hr hb]
  · rw [uctxLoad_config hr hb hno]
  · rw [uctxLoad_latch_fault hr hb hb6 hc hp hl]
  · rw [uctxLoad_short hr hb hb6 hc hp hl hs]
  · rw [uctxLoad_held hr hb hb6 hc hp hl hs]
    exact ⟨uctxOf_setUctx _ _ _, getR_uctxResult_none _ _, rfl, rfl⟩
  · rw [uctxUnload_idle hp]
    exact ⟨uctxOf_dropUctx _ _, getR_uctxResult_none _ _, rfl⟩
  · rw [uctxUnload_busy hp]
  · rw [statsPass_none hb, applyBucket_none hb]
    exact ⟨rfl, rfl⟩
  · rw [statsPass_past hb hs]
  · rw [statsPass_done hb hs hv]
    exact ⟨uctxOf_setUctx _ _ _, mem_nins.mpr (.inl rfl), rfl, rfl⟩
  · rw [applyGrant_none hno]
  · rw [applyGrant_plain ⟨h1, h2, h3, h4, h5, h6⟩ hu]
    rfl
  · rw [applyGrant_unnormed ⟨h1, h2, h3, h4, h5, h6⟩ hu hno]
    rfl
  · rw [applyGrant_normed ⟨h1, h2, h3, h4, h5, h6⟩ hu hv]
    exact ⟨job_inApply _ _, by rw [uctxOf_setUctx]; rfl⟩
  · rw [exec_etaLatch hj s hh, etaLatch_none hu]
  · rw [exec_etaLatch hj s hh, etaLatch_wait hu hno]
  · obtain ⟨-, -, -, -, -, hword⟩ := id hdue
    rw [etaLatch_finite hu hdue hfin]
    exact etaTaken_holds (hword ▸ getR_lt _ _)
  · rw [exec_etaLatch hj s hh, etaLatch_refused hu hdue hfin]
    rfl
  · refine ⟨?_, fun hm => (mem_ndel.mp hm).2 rfl⟩
    rw [etaWordWrite]
    dsimp only
    exact (getR_commitPair _ _ _ _ _).trans (Nat.mod_eq_of_lt hi.isLt)
  · rw [applyBucket_wait hb hno]
  · rw [applyBucket_due hb hdue hv]

end Sys2Proof.Machine
end
